-- ==== Sys2Proof/Word.lean ====
section
/-! DEFINITION. The word types of the CH-7256 (R10, R11), register fields and register-table rows as data,
and the canonical association lists that hold sparse state. -/
namespace Sys2Proof

/-- A register: 32 bits, little-endian (R11). -/
abbrev Word := BitVec 32
/-- The smallest addressable unit of memory. -/
abbrev Byte := BitVec 8

/-- Sparse state: keys strictly rising, no entry equal to what an unlisted key reads as. -/
abbrev AMap (α : Type) := List (Nat × α)

/-- The access codes of Table 0-5 (R13). -/
inductive Acc where
  | rw | ro | w1c | wo | rc | rwl
  deriving DecidableEq, Repr

/-- One field of a register table: lowest bit, width, access code, reset value. -/
structure FldSpec where
  lsb : Nat
  wid : Nat
  acc : Acc
  rst : Nat
  deriving DecidableEq, Repr

/-- One register of a register table: offset, two repetitions (count and stride) and its fields.
Bits that no field names are `rsv` (R15). -/
structure Row where
  off  : Nat
  n1   : Nat
  s1   : Nat
  n2   : Nat
  s2   : Nat
  flds : List FldSpec
  deriving DecidableEq, Repr

/-- A register field by place: BAR0 offset of its register, lowest bit, width. -/
structure Fld where
  off : Nat
  lsb : Nat
  wid : Nat
  deriving DecidableEq, Repr

end Sys2Proof
end

