-- ==== Sys2Proof/Syntax.lean ====
section
/-! DEFINITION. The commands of the CH-7256: one constructor per row of spec/opcode_table.json. Every command carries
`dt`, the time in units of 100 ps that passes before it takes place, and the operands that say which unit it concerns
and what the world outside the module supplies (what is written, what arrives, what is measured). -/
namespace Sys2Proof

/-- A command. -/
inductive Instr where
  /-- R13. A write to a register that has no row of its own sets its RW, W1C or RWL fields as Table 0-5 defines.
      Operands: m is the writing master, a the BAR0 byte offset, size the bytes, v the value. -/
  | registerWrite (dt : Nat) (m : Nat) (a : Nat) (size : Nat) (v : Nat)
  /-- R542. A read of an RC field returns its value, then restarts a watermark from the present quantity or a count or
      duration from 0. Operands: m is the reading master, a the BAR0 byte offset, size the bytes. -/
  | rcRead (dt : Nat) (m : Nat) (a : Nat) (size : Nat)
  /-- R39. An access to an unassigned offset, or to a block whose domain is off or fallow, completes without error; a
      read returns 0, a write is discarded, and the access is counted. Operands: m is the master, a the supervisor
      address, size the bytes, write whether it writes. -/
  | unassignedAccess (dt : Nat) (m : Nat) (a : Nat) (size : Nat) (write : Bool)
  /-- R45. A host access through BAR2 reaches supervisor address BOOT_APT base + offset as master PCIE. Operands: x is
      the BAR2 offset, size the bytes, w the value of a write (none for a read). -/
  | bar2Access (dt : Nat) (x : Nat) (size : Nat) (w : Option Nat)
  /-- R55. At each conversion of its sensors, the summed input headland power of an input port is evaluated against
      its lit threshold. Operands: n is the input; a, b and sum carry nothing, for the module reads its own conversions of
      the two sensors and adds them itself. -/
  | portEvaluation (dt : Nat) (n : Nat) (a b sum : Unit)
  /-- R55. The fourth consecutive evaluation at or above the lit threshold makes an input port LIT. Operands: As of
      PORT_EVALUATION. -/
  | portLit (dt : Nat) (n : Nat) (a b sum : Unit)
  /-- R55. The second consecutive evaluation below the threshold less hysteresis makes an input port DARK. Operands:
      As of PORT_EVALUATION. -/
  | portDark (dt : Nat) (n : Nat) (a b sum : Unit)
  /-- R352. When the solver can take a sheaf, the fair queue serves the unfenced head with the least finish time. -/
  | fairQueueSelect (dt : Nat)
  /-- R87. A scheduled sheaf's instant comes within CMT_LEAD, and the sheaf leaves the list for the solver in tick
      order. -/
  | scheduledRelease (dt : Nat)
  /-- R84. The solve of a sheaf ends, and the sheaf is accepted into the projected map or refused whole. Operands:
      fault is what the checks of the result find: 0 nothing, 1 a permutation mismatch, 2 a parity error. -/
  | solveComplete (dt : Nat) (fault : Nat)
  /-- R100. The 12 us watchdog on one sheaf expires before the hardware solver finishes. -/
  | solveWatchdog (dt : Nat)
  /-- R101. The firmware solver finishes a sheaf, and its result passes or fails the verifier check. Operands:
      mismatch says that the verifier check of the result fails. -/
  | fwSolveComplete (dt : Nat) (mismatch : Bool)
  /-- R102. Writing 1 to hw_en makes the hardware solver take the next sheaf that reaches the solver. Operands: m is
      the writing master, v the value written to CMT_SOLVE_CTRL. -/
  | hwEnWrite (dt : Nat) (m : Nat) (v : Nat)
  /-- R107. A map command with op 1 starts a capture of the present map into map n. Operands: m is the writing master,
      n the map. -/
  | mapCapture (dt : Nat) (m : Nat) (n : Nat)
  /-- R108. Once any commit in progress completes, the present map is written to both copies of both tiles and
      validated. -/
  | mapCaptureCopy (dt : Nat)
  /-- R106. A map command with op 2 validates a stored compiled map and reports the first failing check. Operands: m
      is the writing master, n the map. -/
  | mapValidate (dt : Nat) (m : Nat) (n : Nat)
  /-- R123. 200 ns before the planned tick, the membership of the next commit closes from the head of the accepted
      list. -/
  | membershipClose (dt : Nat)
  /-- R111. At the first tick at or after T at which the shaper level is at least zero, the commit fires, is charged
      and starts dark waveforms on affected open outputs. -/
  | commitTick (dt : Nat)
  /-- R245. At t0+80 ns, routing waveforms start on both segments of every changing RT element, flushing their queues. -/
  | routingWaveformStart (dt : Nat)
  /-- R129. At t0+280 ns, the verify comparators are latched and urgent conversions are requested, and quick mode
      begins. Operands: latched and urgent are what the output headland sensors of planes A and B show for each
      changed circuit in list order: the power at the comparators at the strobe, in Q1.15 of +13 dBm, and the raw
      codes, high-gain and low-gain, of the urgent conversions. -/
  | verifyStrobe (dt : Nat) (latched : List (Nat × Nat)) (urgent : List ((Nat × Nat) × (Nat × Nat)))
  /-- R129. At t0+340 ns, each changed circuit receives PASS, UNSEEN or FAIL. -/
  | verifyDecision (dt : Nat)
  /-- R111. At t0+360 ns, open waveforms start on the gates of every passing changed circuit. -/
  | gateOpen (dt : Nat)
  /-- R111. At t0+500 ns, the present map holds the outcome, outputs take their states, and responses are released. -/
  | commitComplete (dt : Nat)
  /-- R131. A plane of an UNSEEN circuit first qualifies, and the circuit is windowed within 50 us and darkened and
      removed when it fails. Operands: out is the output; outA and outB carry nothing, for the module reads its own
      conversions of the output's two sensors. -/
  | unseenLateVerify (dt : Nat) (out : Nat) (outA outB : Unit)
  /-- R141. A write to CMT_EBKT_BURST changes the burst and lowers the level to it without forgiving debt. Operands: m
      is the writing master, v the value written to CMT_EBKT_BURST. -/
  | burstWrite (dt : Nat) (m : Nat) (v : Nat)
  /-- R150. A write to TIME_TB_CTRL enables or configures a base, unless R151 or R160 discards it. Operands: m is the
      writing master (0 SUP, 6 PCIE), b the base, v the value written. -/
  | tbCtrlWrite (dt : Nat) (m : Nat) (b : Nat) (v : Nat)
  /-- R152. Writing snap copies all four bases at one CK_TB edge into their snapshot registers. Operands: m is the
      writing master. -/
  | tbSnap (dt : Nat) (m : Nat)
  /-- R148. A write to TIME_TB_FREQ sets the frequency word of a base, and is discarded in HOLDOVER. Operands: m is
      the writing master, b the base, v the word written. -/
  | tbFreqWrite (dt : Nat) (m : Nat) (b : Nat) (v : Nat)
  /-- R153. go with mode 1 and allow_step 1 makes the base jump by the offset at the next CK_TB edge. Operands: m is
      the writing master, b the base, frac the offset fraction written with go. -/
  | tbAdjStep (dt : Nat) (m : Nat) (b : Nat) (frac : Nat)
  /-- R153. go in slew mode runs the base at F plus or minus slew_ppm until the offset is absorbed. Operands: m is the
      writing master, b the base, frac the offset fraction written with go. -/
  | tbAdjSlew (dt : Nat) (m : Nat) (b : Nat) (frac : Nat)
  /-- R153. A slew has absorbed its offset, and the base returns to F with slewing clear. Operands: b is the base. -/
  | slewEnd (dt : Nat) (b : Nat)
  /-- R154. Firmware command ACQUIRE moves a base with a source from FREE or HOLDOVER to ACQUIRE. Operands: m is the
      writing master, b the base. -/
  | tbCmdAcquire (dt : Nat) (m : Nat) (b : Nat)
  /-- R154. Firmware command LOCKED moves a base from ACQUIRE or HOLDOVER to LOCKED. Operands: m is the writing
      master, b the base. -/
  | tbCmdLocked (dt : Nat) (m : Nat) (b : Nat)
  /-- R154. Firmware command HOLDOVER freezes F, raising FS_PTP_LOSS when the base was LOCKED. Operands: m is the
      writing master, b the base. -/
  | tbCmdHoldover (dt : Nat) (m : Nat) (b : Nat)
  /-- R154. Writing free sets a base to FREE from any state. Operands: m is the writing master, b the base. -/
  | tbCmdFree (dt : Nat) (m : Nat) (b : Nat)
  /-- R155. No servo write for wdog_ms puts a PTP base in HOLDOVER with cause watchdog. Operands: b is the base. -/
  | tbServoWatchdog (dt : Nat) (b : Nat)
  /-- R156. A 1PPS_IN edge is stamped and accepted or rejected by the window. -/
  | ppsInEdge (dt : Nat)
  /-- R156. 1.5 s without an accepted 1PPS edge puts a LOCKED 1PPS base in HOLDOVER. Operands: b is the base. -/
  | ppsMissing (dt : Nat) (b : Nat)
  /-- R158. A base reaches limit_s in HOLDOVER and raises FS_HOLDOVER_LONG once. Operands: b is the base. -/
  | holdoverLimit (dt : Nat) (b : Nat)
  /-- R166. A supervisor read of TIME_TSQ_HEAD pops the oldest timestamp entry and latches its time. Operands: m is
      the reading master, n the port. -/
  | tsqPop (dt : Nat) (m : Nat) (n : Nat)
  /-- R168. At each whole second of out_tb less the advance, 1PPS_OUT rises for out_width_us. -/
  | ppsOutPulse (dt : Nat)
  /-- R171. ROT_CMD arm checks a pending bank, and copies it or leaves it armed for a swap. Operands: m is the writing
      master, t the table. -/
  | rotArm (dt : Nat) (m : Nat) (t : Nat)
  /-- R175. ROT_CMD start admits a rotation and computes its start instant. Operands: m is the writing master, t the
      table. -/
  | rotStart (dt : Nat) (m : Nat) (t : Nat)
  /-- R186. ROT_CMD stop with hold is accepted for the next admissible slot-0 boundary, or at once when suspended.
      Operands: m is the writing master, t the table. -/
  | rotStopHold (dt : Nat) (m : Nat) (t : Nat)
  /-- R186. ROT_CMD stop dark is accepted, and at effect releases every circuit without verification. Operands: m is
      the writing master, t the table. -/
  | rotStopDark (dt : Nat) (m : Nat) (t : Nat)
  /-- R182. ROT_CMD discard unarms a pending bank or clears a mark, or is refused after the swap window. Operands: m
      is the writing master, t the table. -/
  | rotDiscard (dt : Nat) (m : Nat) (t : Nat)
  /-- R178. At the start instant, the rotation commits slot 0 and releases the present circuits that slot 0 does not
      hold. -/
  | rotFirstCommit (dt : Nat)
  /-- R179. A slot boundary arrives, and the slot's map is committed unless it is unchanged or invalid. -/
  | rotSlotBoundary (dt : Nat)
  /-- R340. A ROT_LOAD with op 1 arms the tenant's own pending bank. Operands: The engine takes the oldest ROT_LOAD of
      op 1. -/
  | rotLoadArm (dt : Nat)
  /-- R340. A ROT_LOAD with op 2 starts the tenant's operating bank. Operands: The engine takes the oldest ROT_LOAD of
      op 2. -/
  | rotLoadStart (dt : Nat)
  /-- R340. A ROT_LOAD with op 3 stops the tenant's rotation with hold. Operands: The engine takes the oldest ROT_LOAD
      of op 3. -/
  | rotLoadStopHold (dt : Nat)
  /-- R340. A ROT_LOAD with op 4 stops the tenant's rotation dark. Operands: The engine takes the oldest ROT_LOAD of
      op 4. -/
  | rotLoadStopDark (dt : Nat)
  /-- R340. A ROT_LOAD with op 5 discards the tenant's pending bank. Operands: The engine takes the oldest ROT_LOAD of
      op 5. -/
  | rotLoadDiscard (dt : Nat)
  /-- R340. A ROT_LOAD with op 6 writes the pending bank and arms it. Operands: The engine takes the oldest ROT_LOAD
      of op 6. -/
  | rotLoadWriteArm (dt : Nat)
  /-- R192. A 50 us frame boundary, or a 1 ms boundary in PARK, pushes quarter-0 codes and renews the lease. Operands:
      samples holds, for the sensing channels that see light, the key 4096*window+channel and the raw codes of ranges
      G1 and G0. -/
  | frameBoundary (dt : Nat) (samples : List (Nat × (Nat × Nat)))
  /-- R223. lease_left reaches 0, and a STANDBY engine takes the lease. Operands: w is the window. -/
  | leaseExpire (dt : Nat) (w : Nat)
  /-- R216. At each normal quarter boundary, the staged dither codes of updated loops are pushed. Operands: q is the
      quarter that begins; samples holds, for the sensing channels that see light, the key 4096*window+channel and the
      raw codes of ranges G1 and G0; refs holds, by 32*window+slice, the zero and three-quarter reference readings
      made after sample 2. -/
  | quarterBoundary (dt : Nat) (q : Nat) (samples : List (Nat × (Nat × Nat))) (refs : List (Nat × (Nat × Nat)))
  /-- R193. A slot window opens, and the loop computes its template law and stages its codes. Operands: w is the
      window, sl the slot; cmp says how the engines compare (0 agree, 1 the retry agrees, 2 it disagrees again); r0,
      r1 which engine's residue check fails. -/
  | loopUpdate (dt : Nat) (w : Nat) (sl : Nat) (cmp : Nat) (r0 : Bool) (r1 : Bool)
  /-- R195. An update has not staged its codes by its deadline; it is discarded, LATE sets and FS_DEADLINE may be
      raised. Operands: w is the window, sl the slot. -/
  | loopDeadlineMiss (dt : Nat) (w : Nat) (sl : Nat)
  /-- R208. A quick quarter begins on the quick grid, and the dither codes are pushed. Operands: t0 is the commit tick
      of the grid, k the quick quarter that begins (8 ends the last); samples holds, for the sensing channels that see
      light, the key 4096*window+channel and the raw codes of ranges G1 and G0. -/
  | quickQuarter (dt : Nat) (t0 : Nat) (k : Nat) (samples : List (Nat × (Nat × Nat)))
  /-- R208. At t0+10.28, 15.28 or 20.28 us, a quick update runs from the quick samples. Operands: n is the quick
      update; the others are those of LOOP_UPDATE. -/
  | quickUpdate (dt : Nat) (w : Nat) (sl : Nat) (n : Nat) (cmp : Nat) (r0 : Bool) (r1 : Bool)
  /-- R224. Writing repair0 or repair1 resets a diverged engine. Operands: m is the writing master, w the window, k
      the engine. -/
  | engineRepair (dt : Nat) (m : Nat) (w : Nat) (k : Nat)
  /-- R226. A resynchronising engine finishes its copy, and its compare returns it to STANDBY or OFF. Operands: w is
      the window, k the engine, agree says that the full compare agrees. -/
  | engineResyncDone (dt : Nat) (w : Nat) (k : Nat) (agree : Bool)
  /-- R211. Writing 1 to run starts a pair from the held codes, or is refused with no_temp. Operands: m is the writing
      master, w the window. -/
  | pairRun (dt : Nat) (m : Nat) (w : Nat)
  /-- R227. Writing 0 to run stops the pair's updates, and the channels hold their codes. Operands: m is the writing
      master, w the window. -/
  | pairStop (dt : Nat) (m : Nat) (w : Nat)
  /-- R229. Writing arm arms a one-shot trace and clears stopped. Operands: m is the writing master, w the window. -/
  | traceArm (dt : Nat) (m : Nat) (w : Nat)
  /-- R229. Writing force triggers the trace at once. Operands: m is the writing master, w the window. -/
  | traceForce (dt : Nat) (m : Nat) (w : Nat)
  /-- R229. A selected trigger source triggers the trace, or is lost with FS_TRACE_OVF while stopped. Operands: w is
      the window. -/
  | traceTrigger (dt : Nat) (w : Nat)
  /-- R229. A one-shot trace has written post entries after its trigger and stops. Operands: w is the window. -/
  | tracePostDone (dt : Nat) (w : Nat)
  /-- R239. At a channel's code tick, the head of its queue is popped, or a waveform point or slew step is taken.
      Operands: w is the window, ch the drive channel. -/
  | codeTick (dt : Nat) (w : Nat) (ch : Nat)
  /-- R250. A hold ends at a settle report or after 400 ns, setting dg_timeout in the latter case. Operands: w is the
      window, ch the drive channel, settled says that the settle detector reports. -/
  | deglitchRelease (dt : Nat) (w : Nat) (ch : Nat) (settled : Bool)
  /-- R255. Every period code ticks, the running code moves toward the target by step. Operands: w is the window, ch
      the drive channel. -/
  | slewLimiterStep (dt : Nat) (w : Nat) (ch : Nat)
  /-- R242. A write to PLOT_DRL_CODE pushes a code when permitted, or is counted as refused. Operands: m is the
      writing master, w the window, ch the drive channel, v the value written to PLOT_DRL_CODE. -/
  | swCodePush (dt : Nat) (m : Nat) (w : Nat) (ch : Nat) (v : Nat)
  /-- R252. A write that changes range of a gate Pockels channel makes the change pending. Operands: m is the writing
      master, w the window, ch the drive channel, v the value written to PLOT_DRL_CFG. -/
  | rangeWrite (dt : Nat) (m : Nat) (w : Nat) (ch : Nat) (v : Nat)
  /-- R252. At the first free code tick, the pending range is applied with rescaling and a deglitch hold. Operands: w
      is the window, ch the drive channel. -/
  | rangeApply (dt : Nat) (w : Nat) (ch : Nat)
  /-- R260. Software writes seg of an RT segment-0 channel to choose shared or solo operation. Operands: m is the
      writing master, w the window, ch the drive channel, v the value written to PLOT_DRL_CFG. -/
  | segWrite (dt : Nat) (m : Nat) (w : Nat) (ch : Nat) (v : Nat)
  /-- R259. Four departing ticks fail a segment, and the survivor takes the whole element code with FS_ELEM_SEG.
      Operands: w is the window, ch the channel of the failing segment. -/
  | segmentTakeover (dt : Nat) (w : Nat) (ch : Nat)
  /-- R261. The monitor fails a gate Pockels channel, setting mon_fail and raising FS_ELEM_SEG. Operands: w is the
      window, ch the failing channel. -/
  | gateMonitorFail (dt : Nat) (w : Nat) (ch : Nat)
  /-- R262. 1,000 on-states below the open threshold set htr_open and raise FS_HEATER_OPEN. Operands: w is the window,
      ch the heater channel. -/
  | heaterOpen (dt : Nat) (w : Nat) (ch : Nat)
  /-- R262. A heater current above the short threshold forces the switch open and sets htr_short. Operands: w is the
      window, ch the heater channel. -/
  | heaterShort (dt : Nat) (w : Nat) (ch : Nat)
  /-- R262. Clearing htr_short lets a shorted heater switch close again. Operands: m is the writing master, w the
      window, ch the heater channel. -/
  | htrShortClear (dt : Nat) (m : Nat) (w : Nat) (ch : Nat)
  /-- R248. PLOT_DRL_PLAY plays a waveform on one Pockels channel, or is refused. Operands: m is the writing master, w
      the window, ch the channel, wave the waveform, len the points played (0 for 64). -/
  | testPlay (dt : Nat) (m : Nat) (w : Nat) (ch : Nat) (wave : Nat) (len : Nat)
  /-- R264. PLOT_DRL_SEED go pushes every channel's seed code, or is refused. Operands: m is the writing master, w the
      window, settle the interval written with go, in us. -/
  | seedGo (dt : Nat) (m : Nat) (w : Nat) (settle : Nat)
  /-- R264. settle_us after the last seed code is taken, seeded is set. Operands: w is the window. -/
  | seedSettled (dt : Nat) (w : Nat)
  /-- R277. A hold cell falls due unconverted, and the preceding sample replaces it. Operands: w is the window, i the
      sensing channel. -/
  | sampleMissed (dt : Nat) (w : Nat) (i : Nat)
  /-- R282. A channel's power stays outside its band for persist, setting win_out and raising its window interrupt.
      Operands: w is the window, i the sensing channel, stay the power it has stayed at, in 0.01 dBm in-waveguide, and
      for how long, in 100 ps. -/
  | windowLeave (dt : Nat) (w : Nat) (i : Nat) (stay : Int × Nat)
  /-- R286. A slice fails by two failing reference checks or a trim at its limit, and the spare takes its channels.
      Operands: w is the window, k the slice, trim says that a trim stands at the end of its range. -/
  | sliceFail (dt : Nat) (w : Nat) (k : Nat) (trim : Bool)
  /-- R287. At a bg_period_ms boundary, the next slice hands its channels to the spare for calibration. Operands: w is
      the window. -/
  | bgCalTurn (dt : Nat) (w : Nat)
  /-- R287. A calibrated slice takes its channels back at the next frame boundary. Operands: w is the window, trims
      the offset and gain trims found, refs the last readings of the low and the high reference, raw. -/
  | bgCalDone (dt : Nat) (w : Nat) (trims refs : Nat × Nat)
  /-- R291. Four failing resets fail a main electrode, and the channel moves to its reserve with FS_SENSOR. Operands:
      w is the window, i the channel, bias and cells what its last integrator resets measured, the last first: the bias
      currents in per cent of their calibrated value, and the raw codes left in the hold cells. -/
  | electrodeFail (dt : Nat) (w : Nat) (i : Nat) (bias cells : List Nat)
  /-- R292. A reserve electrode in use fails, and the channel reads 0 with FS_SENSOR. Operands: w is the window, e the
      channel with bias and cells as of ELECTRODE_FAIL. -/
  | reserveElectrodeFail (dt : Nat) (w : Nat) (e : Nat × List Nat × List Nat)
  /-- R292. Software writes reserve to move a channel between its electrodes at the next window. Operands: m is the
      writing master, w the window, i the channel, b the value written to reserve. -/
  | reserveSelect (dt : Nat) (m : Nat) (w : Nat) (i : Nat) (b : Bool)
  /-- R317. CAL_CMD verify starts checking every tile of the inactive bank. Operands: m is the writing master. -/
  | calVerify (dt : Nat) (m : Nat)
  /-- R317. The verify ends at the first failure or passes, setting inactive_verified. Operands: The verify in
      progress ends. -/
  | calVerifyDone (dt : Nat)
  /-- R318. CAL_CMD activate makes the verified bank active at one CK_AON edge. Operands: m is the writing master. -/
  | calActivate (dt : Nat) (m : Nat)
  /-- R317. CAL_CMD op 3 clears inactive_verified. Operands: m is the writing master. -/
  | calInvalidate (dt : Nat) (m : Nat)
  /-- R307. A pair finishes loading its working set without a code step, and CAL_WIN_GEN reads the new generation.
      Operands: w is the window. -/
  | workingSetLoad (dt : Nat) (w : Nat)
  /-- R306. After interpolating electrode values for a new sns_site sample, the pair changes sensor halves at a window
      boundary. Operands: w is the window. -/
  | sensorHalfSwap (dt : Nat) (w : Nat)
  /-- R310. CAL_ELEM_CMD op 1 marks an element as under calibration, or refuses the mark. Operands: m is the writing
      master, w the window, sl the slot, force the force bit. -/
  | calMark (dt : Nat) (m : Nat) (w : Nat) (sl : Nat) (force : Bool)
  /-- R312. CAL_ELEM_CMD op 2 ends a mark, restarts the loop and advances the counts. Operands: m is the writing
      master, w the window, sl the slot. -/
  | calEnd (dt : Nat) (m : Nat) (w : Nat) (sl : Nat)
  /-- R312. CAL_ELEM_CMD op 3 abandons a mark and counts it. Operands: m is the writing master, w the window, sl the
      slot. -/
  | calAbandon (dt : Nat) (m : Nat) (w : Nat) (sl : Nat)
  /-- R314. A mark stands for stale_limit_ms and raises FS_CAL_STALE_LONG once. Operands: w is the window, sl the
      marked slot. -/
  | calStaleLimit (dt : Nat) (w : Nat) (sl : Nat)
  /-- R324. 1 ms of block lock without interruption brings a port's link up. Operands: p is the port. -/
  | linkUp (dt : Nat) (p : Nat)
  /-- R324. A link goes down; link_lost sets, the link fault is raised and pending transmit frames are discarded.
      Operands: p is the port, ber whether the bit error rate is high. -/
  | linkDown (dt : Nat) (p : Nat) (ber : Bool)
  /-- R325. A received frame is classified and dropped, passed to REQ or written to the firmware ring. Operands: p is
      the port, l the frame's bytes without preamble and FCS, fcsOk whether it arrived whole with a good FCS. -/
  | frameReceive (dt : Nat) (p : Nat) (l : List Nat) (fcsOk : Bool)
  /-- R329. The port sends the next ring or REQ frame in alternation and completes its descriptor. Operands: p is the
      port. -/
  | frameTransmit (dt : Nat) (p : Nat)
  /-- R347. An authenticated SHEAF_REQ passes admission, metering and queueing, or is refused. Operands: The engine
      takes the oldest SHEAF_REQ. -/
  | sheafReq (dt : Nat)
  /-- R338. A QUERY is answered with a QUERY_RSP of state taken between two commits. Operands: The engine takes the
      oldest QUERY. -/
  | query (dt : Nat)
  /-- R341. A tenant's HEARTBEAT is answered at once with the module's HEARTBEAT. Operands: The engine takes the
      oldest HEARTBEAT. -/
  | heartbeat (dt : Nat)
  /-- R341. Every hb_period_ms, a HEARTBEAT is sent to every tenant with a report address. Operands: hb_period_ms
      elapses. -/
  | heartbeatPeriodic (dt : Nat)
  /-- R339. A TELEM is sent when 64 records wait or telem_hold has passed since the oldest. Operands: t is the tenant. -/
  | telemSend (dt : Nat) (t : Nat)
  /-- R343. REQ_KEY_CMD op 1 loads a tenant key slot and clears the key data. Operands: m is the writing master, t the
      tenant, slot the key slot. -/
  | keyLoad (dt : Nat) (m : Nat) (t : Nat) (slot : Nat)
  /-- R343. REQ_KEY_CMD op 2 erases a tenant key slot. Operands: m is the writing master, t the tenant, slot the key
      slot. -/
  | keyErase (dt : Nat) (m : Nat) (t : Nat) (slot : Nat)
  /-- R345. Writing REQ_INSTANCE empties every replay window. Operands: m is the writing master, v the value. -/
  | instanceWrite (dt : Nat) (m : Nat) (v : Nat)
  /-- R350. Writing weight 0 disables a tenant and refuses its queued sheaves with QUEUE_FULL. Operands: m is the
      writing master, t the tenant. -/
  | tenantWeightZero (dt : Nat) (m : Nat) (t : Nat)
  /-- R353. Every 100 us of TB0, every queue is sampled into its ring and histogram. Operands: The sampling instant. -/
  | queueSample (dt : Nat)
  /-- R353. Writing hist_clr clears every histogram bin. Operands: m is the writing master. -/
  | histClear (dt : Nat) (m : Nat)
  /-- R358. A write to GOV_DEMAND adds the named sites to the pending set. Operands: m is the writing master, hi
      chooses GOV_DEMAND_HI, v the value. -/
  | tempDemandWrite (dt : Nat) (m : Nat) (hi : Bool) (v : Nat)
  /-- R358. Every timer interval, the GOV_TMR_SITES are demanded. Operands: The demand timer expires. -/
  | demandTimer (dt : Nat)
  /-- R360. A site conversion completes; the sample is stamped, rates and levels are computed and the next pending
      site begins. Operands: t is the sample in 1/256 °C. -/
  | tempConversionDone (dt : Nat) (t : Int)
  /-- R365. After hold_ms with every release level below it, the governed step falls by one. Operands: hold_ms has
      run. -/
  | stepFall (dt : Nat)
  /-- R370. Every 100 us, P_total is compared with the limit to withdraw or readmit a work class. Operands: The
      governor's evaluation. -/
  | heaterBudgetEval (dt : Nat)
  /-- R364. A write to floor raises the step at once or returns it to the governed step. Operands: m is the writing
      master, n the floor. -/
  | floorWrite (dt : Nat) (m : Nat) (n : Nat)
  /-- R366. A step-table write is applied, or discarded with tbl_err when it breaks monotonicity. Operands: m is the
      writing master, n the step, isRate chooses GOV_STEP_RATE(n) over GOV_STEP_HTR(n), v the value. -/
  | stepTableWrite (dt : Nat) (m : Nat) (n : Nat) (isRate : Bool) (v : Nat)
  /-- R380. A domain completes its wake, clearing memories and releasing reset and isolation. Operands: d is the
      domain. -/
  | domainWake (dt : Nat) (d : Nat)
  /-- R381. A domain isolates and switches off within 10 us. Operands: d is the domain, n the bursts of its master
      outstanding, k the transactions outstanding to it. -/
  | domainSleep (dt : Nat) (d : Nat) (n : Nat) (k : Nat)
  /-- R382. No power-good within twice the wake time, or its loss, raises FS_PD_FAIL and isolates the domain.
      Operands: d is the domain, n the bursts of its master outstanding, k the transactions outstanding to it. -/
  | domainFail (dt : Nat) (d : Nat) (n : Nat) (k : Nat)
  /-- R382. Writing 1 to a GOV_DOM_FAIL bit retries the domain's wake. Operands: m is the writing master, d the
      domain. -/
  | domainRetry (dt : Nat) (m : Nat) (d : Nat)
  /-- R383. A write to GOV_DOM_FALLOW makes a permitted domain fallow or releases it. Operands: m is the writing
      master, v the value. -/
  | fallowWrite (dt : Nat) (m : Nat) (v : Nat)
  /-- R384. A RUN request returns the module to RUN from PARK, PARK_PEND or STANDBY. Operands: m is the writing
      master. -/
  | devReqRun (dt : Nat) (m : Nat)
  /-- R384. A PARK request moves RUN to PARK_PEND, or is refused. Operands: m is the writing master. -/
  | devReqPark (dt : Nat) (m : Nat)
  /-- R384. A STANDBY request moves PARK or a safe RUN to STANDBY_PEND, or is refused. Operands: m is the writing
      master. -/
  | devReqStandby (dt : Nat) (m : Nat)
  /-- R385. Once every list is empty, PARK is entered, the rotation suspends and PD21 and PD28 sleep. Operands: The
      lists are empty. -/
  | parkEnter (dt : Nat)
  /-- R384. park_wait_ms elapses in PARK_PEND, and the module returns to RUN with park_timeout. Operands: park_wait_ms
      elapses. -/
  | parkWaitTimeout (dt : Nat)
  /-- R387. With gates dark and domains asleep, the state reads STANDBY. Operands: The last domain is asleep. -/
  | standbyEnter (dt : Nat)
  /-- R388. The WAKING sequence completes, SUP-A starts at the boot ROM and the state reads RUN. Operands: The last
      domain is awake. -/
  | wakeComplete (dt : Nat)
  /-- R389. VAON falls below power-good, and the module enters OFF. Operands: VAON falls below power-good. -/
  | vaonLoss (dt : Nat)
  /-- R399. An URGENT timer expires unacknowledged; the source is escalated and the safe state entered. Operands: n is
      the source. -/
  | escalationExpiry (dt : Nat) (n : Nat)
  /-- R399. Writing 1 to a pending bit clears it and stops its escalation timer. Operands: m is the writing master, n
      the source. -/
  | faultAck (dt : Nat) (m : Nat) (n : Nat)
  /-- R400. Writing 1 to an escalated bit clears it and its pending bit. Operands: m is the writing master, n the
      source. -/
  | escalatedClear (dt : Nat) (m : Nat) (n : Nat)
  /-- R402. Writing enter puts the module in the safe state. Operands: m is the writing master. -/
  | safeEnterCmd (dt : Nat) (m : Nat)
  /-- R405. Writing release leaves the safe state when permitted, or sets release_refused. Operands: m is the writing
      master. -/
  | safeRelease (dt : Nat) (m : Nat)
  /-- R401. Writing 1 to lock freezes the source configuration and dark until reset. Operands: m is the writing
      master. -/
  | fltLock (dt : Nat) (m : Nat)
  /-- R406. A collector register fails parity or its duplicate, entering the safe state and raising FS_COLL_SELF.
      Operands: p0 and p1 say whether each copy of dark passes parity, v0 and v1 what it reads. -/
  | collectorSelfFault (dt : Nat) (p0 : Bool) (v0 : Bool) (p1 : Bool) (v1 : Bool)
  /-- R407. Every 50 us while serving, ALIVE changes level. Operands: ALIVE's next edge. -/
  | aliveToggle (dt : Nat)
  /-- R407. The firmware sets serve, starting ALIVE and moving the boot state to READY. Operands: m is the writing
      master. -/
  | serveSet (dt : Nat) (m : Nat)
  /-- R396. A VHTR feed or VPK stays outside its range for 10 us, raising its supply fault. Operands: n is the source:
      35 VHTR_A, 36 VHTR_B, 37 VPK. -/
  | supplyOutOfRange (dt : Nat) (n : Nat)
  /-- R526. 50 ms after PD_EN rises, the supply checks are armed. Operands: 50 ms after PD_EN rises. -/
  | supplyCheckArm (dt : Nat)
  /-- R409. The supervisor compare finds a divergence, a core goes DIVERGED and FS_SUP_DIVERGE is raised. Operands:
      disagree says that the copies differ, f0 and f1 that SUP-A's and SUP-B's checks failed. -/
  | supDiverge (dt : Nat) (disagree : Bool) (f0 : Bool) (f1 : Bool)
  /-- R410. Every 25 us, the hardware renews the supervisor lease of a healthy holder. Operands: The next renewal. -/
  | supLeaseRenew (dt : Nat)
  /-- R410. The supervisor lease expires 100 us after renewal, and a STANDBY core takes it. Operands: The lease's
      expiry. -/
  | supLeaseExpire (dt : Nat)
  /-- R411. A diverged core is reset by auto_repair, repair_a or repair_b, and resynchronisation starts. Operands: m
      is the writing master, a and b the repair bits. -/
  | supCoreRepair (dt : Nat) (m : Nat) (a : Bool) (b : Bool)
  /-- R411. The final compare returns the repaired core as STANDBY or OFF. Operands: k is the core, agree the final
      compare. -/
  | supResyncDone (dt : Nat) (k : Nat) (agree : Bool)
  /-- R426. A PCIE read of BUS_HOST_FENCE is held until earlier posted writes are performed. Operands: The host reads
      BUS_HOST_FENCE. -/
  | hostFence (dt : Nat)
  /-- R426. The held fence read completes and returns the fence count. Operands: Every earlier host write has
      completed. -/
  | hostFenceComplete (dt : Nat)
  /-- R425. A SUP FENCE or DMA fence flag issues a barrier transaction. Operands: m is the master. -/
  | barrier (dt : Nat) (m : Nat)
  /-- R425. Every earlier transaction of the master is performed, and the barrier completes. Operands: m is the
      master. -/
  | barrierComplete (dt : Nat) (m : Nat)
  /-- R427. A write to BUS_REMAP is accepted in START, or discarded. Operands: m is the writing master, v the value. -/
  | remapWrite (dt : Nat) (m : Nat) (v : Nat)
  /-- R427. After outstanding SUP and PCIE transactions complete, the new remap takes effect. Operands: The matrix is
      empty. -/
  | remapApply (dt : Nat)
  /-- R436. A write to BUS_MODE requests a new matrix mode. Operands: m is the writing master, v the value. -/
  | busModeWrite (dt : Nat) (m : Nat) (v : Nat)
  /-- R436. After outstanding scratchpad transactions complete, the new mode takes effect. Operands: The matrix is
      empty. -/
  | busModeApply (dt : Nat)
  /-- R430. A scratchpad access is granted a bank port and performed. Operands: m is the master, a the scratchpad
      address, size the bytes, w the value of a write (none for a read), waits the arbitration rounds lost, same
      whether it met another access to the same bank, par bit i whether parity fails in the i-th word touched. -/
  | scratchpadAccess (dt : Nat) (m : Nat) (a : Nat) (size : Nat) (w : Option Nat) (waits : Nat) (same : Bool) (par : Nat)
  /-- R435. An atomic add or swap is performed at the bank, or completes with ERR in NORMAL. Operands: m is the
      master, a the scratchpad address, op the operation, size the bytes, v its operand. -/
  | atomicOp (dt : Nat) (m : Nat) (a : Nat) (op : Nat) (size : Nat) (v : Nat)
  /-- R432. Each 1 ms, conflicts reaching conf_rate raise FS_SPM_CONFLICT_RATE. Operands: The millisecond ends. -/
  | conflictRateWindow (dt : Nat)
  /-- R437. Every gap_us, harrow borrows the next region and saves it. Operands: A pass may begin. -/
  | harrowPass (dt : Nat)
  /-- R438. The march and restore complete, and the region is released. Operands: fails are the failing bank and
      column pairs of the pass, in order. -/
  | harrowPassDone (dt : Nat) (fails : List (Nat × Nat))
  /-- R440. BUS_REPAIR_CMD blows one repair column entry in TEST mode. Operands: m is the writing master, b the bank,
      e the entry, c the column. -/
  | repairFuseBlow (dt : Nat) (m : Nat) (b : Nat) (e : Nat) (c : Nat)
  /-- R441. A plain DRAM read or write is performed on the addressed die. Operands: m is the master, a the supervisor
      address, size the bytes, w the value of a write (none for a read). -/
  | dramAccess (dt : Nat) (m : Nat) (a : Nat) (size : Nat) (w : Option Nat)
  /-- R444. Both copies of a tile are fetched and one tile or none is returned. Operands: m is the reader, a the
      address of copy 0 of the tile. -/
  | checkedRead (dt : Nat) (m : Nat) (a : Nat)
  /-- R447. Every chk_ms, each die's training row is read and checked. Operands: bad0 and bad1 say whether the
      training row of each die fails. -/
  | dieCheck (dt : Nat) (bad0 : Bool) (bad1 : Bool)
  /-- R451. A read of BPM_ALLOC, or a hardware request, allocates a buffer or fails with EMPTY or SIZE. Operands: m is
      the requesting master, sub its sub-ID (window), size the bytes of a hardware request. -/
  | bpmAlloc (dt : Nat) (m : Nat) (sub : Nat) (size : Nat)
  /-- R453. A write to BPM_FREE frees a buffer after the checks of Table 13-8. Operands: m is the writing master, sub
      its window, h the handle written. -/
  | bpmFree (dt : Nat) (m : Nat) (sub : Nat) (h : Nat)
  /-- R453. A write to BPM_GIVE passes a buffer to another requester after the checks. Operands: m is the writing
      master, sub its window, h the handle written. -/
  | bpmGive (dt : Nat) (m : Nat) (sub : Nat) (h : Nat)
  /-- R450. A pool cache below 16 handles refills from the die rings, or spills 16 when full. Operands: p is the pool
      code. -/
  | bpmCacheRefill (dt : Nat) (p : Nat)
  /-- R454. After a PD25 wake, the pools are initialised and ready reads 1. -/
  | bpmReady (dt : Nat)
  /-- R483. A write to BOOT_DOM_RST resets a permitted domain's registers and masters. Operands: m is the writing
      master, d the domain, n the bursts of its master outstanding. -/
  | domainReset (dt : Nat) (m : Nat) (d : Nat) (n : Nat)
  /-- R477. Fuses are sensed and corrected, and the boot state moves to ROM. Operands: fixed is how many sensed words
      had one bit in error, bad the words with two (0 to 3 owner slots, 4 SEAL, 5 variant, 6 unit, 7 IDCODE, 16 to 143
      epoch words, 256 + 4 bank + entry repair entries). -/
  | fuseSense (dt : Nat) (fixed : Nat) (bad : List Nat)
  /-- R459. The ROM-state domains are awake, and the boot state moves to LOAD. Operands: The domains of R459 are
      awake. -/
  | romReady (dt : Nat)
  /-- R470. BOOT_CMD op 1 starts verification of the firmware container. Operands: m is the writing master. -/
  | fwVerify (dt : Nat) (m : Nat)
  /-- R465. The firmware checks end; a refusal returns to LOAD, a pass starts the firmware. Operands: The verify ends. -/
  | fwVerifyDone (dt : Nat)
  /-- R474. BOOT_CMD op 2 starts checking and applying the field plan. Operands: m is the writing master. -/
  | planApply (dt : Nat) (m : Nat)
  /-- R474. The plan is applied section by section, or refused, and the state reads APPLY. Operands: The application
      ends. -/
  | planApplyDone (dt : Nat)
  /-- R475. BOOT_CMD op 3 re-applies TENANTS and REQCFG. Operands: m is the writing master, mask the sections (bit 0
      TENANTS, bit 1 REQCFG). -/
  | planReapply (dt : Nat) (m : Nat) (mask : Nat)
  /-- R469. SEC_FUSE_CMD op 1 programs an owner slot hash. Operands: m is the writing master, sl the owner slot. -/
  | fuseProgramSlot (dt : Nat) (m : Nat) (sl : Nat)
  /-- R469. SEC_FUSE_CMD op 2 revokes an owner slot unless it is the last usable one. Operands: m is the writing
      master, sl the owner slot. -/
  | fuseRevokeSlot (dt : Nat) (m : Nat) (sl : Nat)
  /-- R482. SEC_FUSE_CMD op 3 blows the SEAL, effective from the next POR. Operands: m is the writing master. -/
  | fuseBlowSeal (dt : Nat) (m : Nat)
  /-- R480. SEC_ATT_CMD go starts an attestation, opening an epoch when needed, or is refused. Operands: m is the
      writing master. -/
  | attest (dt : Nat) (m : Nat)
  /-- R480. The signed report is written at SEC_ATT_ADDR. Operands: The signature is complete. -/
  | attestDone (dt : Nat)
  /-- R482. A vendor debug or scan access after sealing is refused and raises FS_DEBUG_ATTEMPT. Operands: A vendor
      debug instruction or a scan access at the IEEE 1149.1 port. -/
  | debugAttempt (dt : Nat)
  /-- R527. Loss of VAON, PG_IN, VDD or VDDA asserts POR and drops every switched domain without dark drive. Operands:
      PG_IN, VDD or VDDA leaves power-good. -/
  | porAssert (dt : Nat)
  /-- R527. The last POR condition clears, and the AON reset release is timed 2 ms later. Operands: Every POR
      condition has cleared. -/
  | porEnd (dt : Nat)
  /-- R525. 2 ms after POR ends, the AON reset is released and the boot state enters FUSE. Operands: bm is BOOT_MODE
      at the pins. -/
  | aonResetRelease (dt : Nat) (bm : Nat)
  /-- R483. RST_N low or BOOT_RST.warm resets every domain and restarts from ROM. Operands: pin says RST_N asks, else
      master m writes BOOT_RST; bm is BOOT_MODE at the pins, ab the bursts of its master and the transactions to it
      outstanding, by domain. -/
  | warmReset (dt : Nat) (pin : Bool) (m : Nat) (bm : Nat) (ab : List (Nat × Nat × Nat))
  /-- R485. The hold timer expires with windows unreclaimed, driving gates dark and raising FS_HOLD_EXPIRE. Operands:
      The hold timer expires. -/
  | holdExpire (dt : Nat)
  /-- R486. PERST_N resets PD24 alone and drains the PCIE and DMA masters. Operands: PERST_N falls; n is the bursts of
      PCIE outstanding, k those of DMA. -/
  | perst (dt : Nat) (n : Nat) (k : Nat)
  /-- R490. A PCIe function level reset acts on PD24 as PERST_N does, keeping the link. Operands: n is the bursts of
      PCIE outstanding, k those of DMA. -/
  | functionLevelReset (dt : Nat) (n : Nat) (k : Nat)
  /-- R487. A PCIE write of sup_reset restarts both cores at BOOT_ENTRY in RECOVER. Operands: m is the writing master. -/
  | supReset (dt : Nat) (m : Nat)
  /-- R489. SMBus command 0x01 returns the identity block. Operands: SMBus command 0x01. -/
  | smbReadId (dt : Nat)
  /-- R489. SMBus command 0x02 returns the status word. Operands: SMBus command 0x02. -/
  | smbReadStatus (dt : Nat)
  /-- R489. SMBus command 0x03 demands every temperature site. Operands: SMBus command 0x03. -/
  | smbTempDemand (dt : Nat)
  /-- R489. SMBus command 0x10 + i returns one site's temperature. Operands: SMBus command 0x10 + i: i is the site. -/
  | smbReadSite (dt : Nat) (i : Nat)
  /-- R489. The module answers the alert response address with 0x52. Operands: The controller reads the alert response
      address. -/
  | smbAlertResponse (dt : Nat)
  /-- R492. A channel takes the next posted descriptor and copies, fills or reads checked, or halts. Operands: c is
      the channel. -/
  | dmaDescriptor (dt : Nat) (c : Nat)
  /-- R492. Writing resume restarts a halted channel at the next descriptor. Operands: m is the writing master, c the
      channel. -/
  | dmaResume (dt : Nat) (m : Nat) (c : Nat)
  /-- R492. Writing reset drains a channel and zeros its head and tail. Operands: m is the writing master, c the
      channel, n its bursts outstanding. -/
  | dmaChannelReset (dt : Nat) (m : Nat) (c : Nat) (n : Nat)
  /-- R500. Writing arm allocates an X buffer and starts a capture, or is refused. Operands: m is the writing master,
      n the capture channel. -/
  | glnArm (dt : Nat) (m : Nat) (n : Nat)
  /-- R509. Writing stop returns a channel to IDLE and frees any buffer it still owns. Operands: m is the writing
      master, n the capture channel. -/
  | glnStop (dt : Nat) (m : Nat) (n : Nat)
  /-- R504. Writing force triggers the channel at once. Operands: m is the writing master, n the capture channel. -/
  | glnForce (dt : Nat) (m : Nat) (n : Nat)
  /-- R501. 200 ns after an accepted arm, the channel begins writing samples. Operands: n is the capture channel. -/
  | glnMuxSettled (dt : Nat) (n : Nat)
  /-- R501. pre samples have been written, and the channel moves to ARMED. Operands: n is the capture channel. -/
  | glnPreFilled (dt : Nat) (n : Nat)
  /-- R505. A selected trigger is accepted; sample 0 and the trigger time are fixed. Operands: n is the capture
      channel, rising the direction of an edge at TRIG_IN. -/
  | glnTrigger (dt : Nat) (n : Nat) (rising : Bool)
  /-- R502. post samples are written, the buffer is given to give_to and queued, and the channel re-arms or idles.
      Operands: n is the capture channel, anchor the raw codes of the urgent conversion, high-gain and
      low-gain, samples the codes of samples
      -pre_valid to post-1 (bit 12 set while the source was off or replaced; none where the sample was lost). -/
  | glnRecordComplete (dt : Nat) (n : Nat) (anchor : Nat × Nat) (samples : List (Option Nat))
  /-- R511. A read of GLN_CH_DONE pops the oldest record handle. Operands: m is the reading master, n the capture
      channel. -/
  | glnDonePop (dt : Nat) (m : Nat) (n : Nat)
  /-- R512. A full sample queue loses a sample, sets gap and raises FS_GLN_OVF. Operands: n is the capture channel. -/
  | glnSampleLost (dt : Nat) (n : Nat)
  /-- R116. Once every microsecond, the always-on TDC measures the phase of CK_TICK against each enabled time base and
      updates CMT_TICK_PHASE. Operands: The sequencer measures. -/
  | tickPhaseMeasurement (dt : Nat)
  /-- R396. A VHTR feed or VPK returns inside its range, its active bit clears, and after 1 ms inside the range the
      source may be raised again. Operands: n is the source. -/
  | supplyBackInRange (dt : Nat) (n : Nat)
  /-- R522. VPK falls below its power-good level and every Pockels clamp closes, or rises above it and the clamps are
      released. Operands: below says whether VPK is now below its level. -/
  | vpkBelowPowerGood (dt : Nat) (below : Bool)
  /-- R522. Both VHTR feeds fall below their power-good level and every heater switch opens, or a feed returns above
      it. Operands: n is the feed (0 A, 1 B), below whether it is now below its level. -/
  | vhtrBelowPowerGood (dt : Nat) (n : Nat) (below : Bool)
  /-- R478. A fuse command completes within 2 ms, clearing busy and writing its result in SEC_FUSE_STAT. Operands: got
      is what the fuses read back: the hash of op 1, 1 for a bit that reads blown. -/
  | fuseCommandComplete (dt : Nat) (got : Nat)
  /-- R440. Blowing a repair column entry completes within 2 ms, clearing busy, setting the result and updating
      BUS_REPAIR_PEND. Operands: got is the column the read-back shows, plus 1 (0 unblown). -/
  | repairBlowComplete (dt : Nat) (got : Nat)
  /-- R460. RST_N returns high, BOOT_MODE is sampled and the warm reset is released into ROM. Operands: bm is
      BOOT_MODE at the pins. -/
  | rstNRelease (dt : Nat) (bm : Nat)
  /-- R486. The host deasserts PERST_N, and PD24 leaves reset with its PCIe configuration at defaults. Operands:
      PERST_N rises. -/
  | perstNRelease (dt : Nat)
  /-- R447. A read of a DRAM die does not complete within 2 us, the die fails and goes offline, and FS_DRAM_DIE is
      raised. Operands: m is the reader, d the die that does not answer. -/
  | dramReadTimeout (dt : Nat) (m : Nat) (d : Nat)
  /-- R237. Every 1 us, each pair measures V_HTR for supply compensation and reports its serving and other heater
      power, updating PLOT_DRL_HPWR. Operands: w is the pair's window, mv V_HTR in mV, slots heater channels of
      it and pw the power in uW that each of them draws in its on-state, in the same order. -/
  | heaterPowerReport (dt : Nat) (w : Nat) (mv : Nat) (slots pw : List Nat)
  /-- R482. An IEEE 1149.1 instruction is carried out: BYPASS, IDCODE, SAMPLE/PRELOAD or EXTEST always, and vendor
      debug and scan while dbg_en is 1 and the SEAL is not blown. Operands: k is the instruction: 0 BYPASS, 1 IDCODE,
      2 SAMPLE/PRELOAD, 3 EXTEST, 4 vendor debug, 5 internal scan. -/
  | tapInstruction (dt : Nat) (k : Nat)
  deriving DecidableEq, Repr

end Sys2Proof
end

