-- ==== Sys2Proof/Decode.lean ====
section
/-! DEFINITION. Words to commands. The command table gives no row any bits (every row's "fields" is empty), so no word
spells a command. -/
namespace Sys2Proof

/-- The command that a word of `nbits` bits spells by the table: none. -/
def decodeTableWord (_nbits _w : Nat) : Option Instr := none

end Sys2Proof
end

