-- ==== Sys2Proof/Config.lean ====
section
/-! DEFINITION. Constants of the implementation and the free values: what the spec leaves open.
An opaque constant here has no body; no proof can see its value. -/
namespace Sys2Proof.Config

/-- One period of CK_TICK, in units of 100 ps (Table 1-8: 20 ns). -/
def tickPeriod : Nat := 200
/-- One period of CK_AON (40 ns). -/
def aonPeriod : Nat := 400
/-- One period of CK_BUS (2 ns). -/
def busPeriod : Nat := 20
/-- One period of CK_TB (4 ns). -/
def tbPeriod : Nat := 40
/-- One microsecond in units of 100 ps. -/
def us : Nat := 10000
/-- One millisecond in units of 100 ps. -/
def ms : Nat := 10000000
/-- 2^40: one nanosecond in the units of a time base's accumulator (R148). -/
def nsUnit : Nat := 2 ^ 40
/-- One second in the units of a time base's accumulator. -/
def secUnit : Nat := 1000000000 * 2 ^ 40
/-- The wrap of a time base: 2^48 seconds (R147). -/
def tbWrap : Nat := 2 ^ 48 * (1000000000 * 2 ^ 40)

/-- FREE VALUE (log 6). Placement error of a computed tick time against its base (R116), in 2^-10 ns before it is
bounded to 1 ns, for a base and a tick. -/
opaque placement : Nat → Nat → Int
/-- FREE VALUE (log 7). Where the spec states a quotient but not its rounding: whether a quotient with a remainder is rounded up. -/
opaque roundUp : Nat → Nat → Bool
/-- FREE VALUE (log 8). A value the spec does not state, for the n-th draw. -/
opaque freeValue : Nat → Nat
/-- FREE VALUE (log 12). Where the edges of CK_GLN lie against CK_TICK from PLL lock on, in 2.5 ns (R498). -/
opaque glnPhase : Nat

/-- FREE VALUE (log 77). The sum of the readings of an input's two headland sensors, Q1.15 of +13 dBm in-waveguide, referred to
the fibre (R55), for an input and a sum. -/
opaque fibreRef : Nat → Nat → Nat
/-- FREE VALUE (log 88). A byte of the free-ring regions at an address, as the BPM stores the rings' handles (R442, R450). -/
opaque ringByte : List (Nat × List (Nat × Nat)) → Nat → BitVec 8
/-- FREE VALUE (log 45). The ratio of two readings that are both 0 (R216), by the instant of the update. -/
opaque zeroRatio : Nat → Int
/-- FREE VALUE (log 48). The count a set header (0) or a window header (1) must hold (R298). -/
opaque calHeadCount : Nat → Nat
/-- FREE VALUE (log 51). Words 3 to 14 of the module's public key, derived from its fused seed (chapter 14). -/
opaque pubKeyWord : Nat → Nat
/-- FREE VALUE (log 51). Bytes of an attestation signature, by epoch, leaf and index: the private key is not known. -/
opaque attestByte : Nat → Nat → Nat → Nat

end Sys2Proof.Config
end

