-- ==== Sys2Proof/Machine/Fields.lean ====
section
/-! DEFINITION. The bit fields of every register of the spec's register tables (chapters 03 to 15):
each constant is the field's BAR0 offset, its lowest bit and its width, from the table that describes it. -/
namespace Sys2Proof.Machine

/-- Base of window `w` in BAR0 (Table 1-10): 0 to 15 plots, 16 IHL, 17 OHL. -/
def winBase (w : Nat) : Nat :=
  if w < 16 then 0x1000000 + w * 0x100000 else 0x2000000 + (w - 16) * 0x100000

/-- Drill channels of a window (Tables 1-11, 1-12). -/
def drlBase (w : Nat) : Nat := if w < 16 then 0x20000 else 0x30000
/-- Sensors and slices of a window (Tables 1-11, 1-12). -/
def snsBase (w : Nat) : Nat := if w < 16 then 0x30000 else 0x40000
/-- Trace control of a window (R230). -/
def trcBase (w : Nat) : Nat := if w < 16 then 0x60000 else 0x70000

def CMT_SOLVE_CTRL_hw_en : Fld := ⟨0x60000, 0, 1⟩
def CMT_SOLVE_CTRL_inc_limit : Fld := ⟨0x60000, 4, 4⟩
def CMT_SOLVE_STAT_busy : Fld := ⟨0x60004, 0, 1⟩
def CMT_SOLVE_STAT_sw_active : Fld := ⟨0x60004, 1, 1⟩
def CMT_SOLVE_STAT_hw_fail : Fld := ⟨0x60004, 2, 1⟩
def CMT_SOLVE_STAT_fail_timeout : Fld := ⟨0x60004, 3, 1⟩
def CMT_SOLVE_STAT_fail_mismatch : Fld := ⟨0x60004, 4, 1⟩
def CMT_SOLVE_STAT_fail_parity : Fld := ⟨0x60004, 5, 1⟩
def CMT_SOLVE_STAT_last_reason : Fld := ⟨0x60004, 8, 8⟩
def CMT_LEAD_lead_us : Fld := ⟨0x60008, 0, 10⟩
def CMT_SCHED_STAT_occupancy : Fld := ⟨0x6000c, 0, 11⟩
def CMT_SCHED_STAT_high_water : Fld := ⟨0x6000c, 16, 11⟩
def CMT_CNT_INC_count : Fld := ⟨0x60010, 0, 32⟩
def CMT_CNT_FULL_count : Fld := ⟨0x60014, 0, 32⟩
def CMT_CNT_NEEDS_MOVE_count : Fld := ⟨0x60018, 0, 32⟩
def CMT_CNT_MOVED_count : Fld := ⟨0x6001c, 0, 32⟩
def CMT_SOLVE_TMAX_tmax_ns : Fld := ⟨0x60020, 0, 16⟩
def CMT_MAP_COUNT_present : Fld := ⟨0x60024, 0, 9⟩
def CMT_MAP_COUNT_projected : Fld := ⟨0x60024, 16, 9⟩
def CMT_MAP_CMD_map : Fld := ⟨0x60030, 0, 12⟩
def CMT_MAP_CMD_op : Fld := ⟨0x60030, 12, 4⟩
def CMT_MAP_CMD_start : Fld := ⟨0x60030, 31, 1⟩
def CMT_MAP_STAT_busy : Fld := ⟨0x60034, 0, 1⟩
def CMT_MAP_STAT_result : Fld := ⟨0x60034, 4, 4⟩
def CMT_MAP_STAT_map : Fld := ⟨0x60034, 8, 12⟩
def CMT_MAP_GEN_generation : Fld := ⟨0x60038, 0, 32⟩
def CMT_CIRCUIT_input (m : Nat) : Fld := ⟨0x60400 + 4 * m, 0, 8⟩
def CMT_CIRCUIT_middle (m : Nat) : Fld := ⟨0x60400 + 4 * m, 8, 7⟩
def CMT_CIRCUIT_valid (m : Nat) : Fld := ⟨0x60400 + 4 * m, 15, 1⟩
def CMT_CIRCUIT_tenant (m : Nat) : Fld := ⟨0x60400 + 4 * m, 16, 6⟩
def CMT_CIRCUIT_by_rotation (m : Nat) : Fld := ⟨0x60400 + 4 * m, 22, 1⟩
def CMT_CIRCUIT_out_state (m : Nat) : Fld := ⟨0x60400 + 4 * m, 24, 2⟩
def CMT_CELL_state (w : Nat) : Fld := ⟨0x60800 + 4 * w, 0, 32⟩
def CMT_CTRL_coalesce : Fld := ⟨0x61000, 0, 1⟩
def CMT_CTRL_report_tb : Fld := ⟨0x61000, 1, 2⟩
def CMT_CTRL_thr_refuse : Fld := ⟨0x61000, 4, 3⟩
def CMT_STAT_accepted : Fld := ⟨0x61004, 0, 11⟩
def CMT_STAT_in_commit : Fld := ⟨0x61004, 16, 1⟩
def CMT_STAT_closed : Fld := ⟨0x61004, 17, 1⟩
def CMT_STAT_deferred : Fld := ⟨0x61004, 18, 1⟩
def CMT_STAT_frozen : Fld := ⟨0x61004, 19, 1⟩
def CMT_LAST_T0_F_frac_ns : Fld := ⟨0x61010, 0, 16⟩
def CMT_LAST_T0_NS_ns : Fld := ⟨0x61014, 0, 32⟩
def CMT_LAST_T0_SL_sec_low : Fld := ⟨0x61018, 0, 32⟩
def CMT_LAST_T0_SH_sec_high : Fld := ⟨0x6101c, 0, 16⟩
def CMT_LAST_SEQ_seq : Fld := ⟨0x61020, 0, 32⟩
def CMT_LAST_INFO_members : Fld := ⟨0x61024, 0, 9⟩
def CMT_LAST_INFO_changed : Fld := ⟨0x61024, 16, 9⟩
def CMT_LAST_INFO_vfail : Fld := ⟨0x61024, 31, 1⟩
def CMT_VER_CFG_loss : Fld := ⟨0x61030, 0, 8⟩
def CMT_VER_CFG_below : Fld := ⟨0x61030, 8, 8⟩
def CMT_VER_CFG_above : Fld := ⟨0x61030, 16, 8⟩
def CMT_VER_CFG_plane_min : Fld := ⟨0x61030, 24, 6⟩
def CMT_CNT_COMMITS_count : Fld := ⟨0x61040, 0, 32⟩
def CMT_CNT_ROT_COMMITS_count : Fld := ⟨0x61044, 0, 32⟩
def CMT_CNT_COALESCED_count : Fld := ⟨0x61048, 0, 32⟩
def CMT_CNT_VFAIL_count : Fld := ⟨0x6104c, 0, 32⟩
def CMT_CNT_UNSEEN_count : Fld := ⟨0x61050, 0, 32⟩
def CMT_CNT_PAST_count : Fld := ⟨0x61054, 0, 32⟩
def CMT_CNT_ENERGY_count : Fld := ⟨0x61058, 0, 32⟩
def CMT_CNT_THROTTLED_count : Fld := ⟨0x6105c, 0, 32⟩
def CMT_EBKT_RATE_rate : Fld := ⟨0x61100, 0, 24⟩
def CMT_EBKT_BURST_burst : Fld := ⟨0x61104, 0, 31⟩
def CMT_EBKT_LEVEL_level : Fld := ⟨0x61108, 0, 32⟩
def CMT_EBKT_LAST_cost : Fld := ⟨0x6110c, 0, 32⟩
def CMT_EBKT_DEFMAX_defer_ns : Fld := ⟨0x61110, 0, 32⟩
def CMT_EBKT_LATE_count : Fld := ⟨0x61114, 0, 32⟩
def CMT_TICK_PHASE_phase (b : Nat) : Fld := ⟨0x61200 + 4 * b, 0, 15⟩
def CMT_TICK_PHASE_valid (b : Nat) : Fld := ⟨0x61200 + 4 * b, 16, 1⟩
def CMT_VER_LAST_output (i : Nat) : Fld := ⟨0x61400 + 4 * i, 0, 8⟩
def CMT_VER_LAST_outcome (i : Nat) : Fld := ⟨0x61400 + 4 * i, 8, 2⟩
def CMT_VER_LAST_out_a (i : Nat) : Fld := ⟨0x61400 + 4 * i, 16, 8⟩
def CMT_VER_LAST_out_b (i : Nat) : Fld := ⟨0x61400 + 4 * i, 24, 8⟩
def TIME_CTRL_snap : Fld := ⟨0x40000, 0, 1⟩
def TIME_TB_CTRL_enable (b : Nat) : Fld := ⟨0x40100 + 64 * b, 0, 1⟩
def TIME_TB_CTRL_source (b : Nat) : Fld := ⟨0x40100 + 64 * b, 1, 2⟩
def TIME_TB_CTRL_allow_step (b : Nat) : Fld := ⟨0x40100 + 64 * b, 3, 1⟩
def TIME_TB_CTRL_domain (b : Nat) : Fld := ⟨0x40100 + 64 * b, 4, 8⟩
def TIME_TB_CTRL_sdo_id (b : Nat) : Fld := ⟨0x40100 + 64 * b, 12, 12⟩
def TIME_TB_STAT_state (b : Nat) : Fld := ⟨0x40104 + 64 * b, 0, 2⟩
def TIME_TB_STAT_cause (b : Nat) : Fld := ⟨0x40104 + 64 * b, 2, 2⟩
def TIME_TB_STAT_slewing (b : Nat) : Fld := ⟨0x40104 + 64 * b, 4, 1⟩
def TIME_TB_FREQ_freq (b : Nat) : Fld := ⟨0x40108 + 64 * b, 0, 32⟩
def TIME_TB_ADJ_offset_ns (b : Nat) : Fld := ⟨0x4010c + 64 * b, 0, 32⟩
def TIME_TB_ADJ_CMD_offset_frac (b : Nat) : Fld := ⟨0x40110 + 64 * b, 0, 16⟩
def TIME_TB_ADJ_CMD_mode (b : Nat) : Fld := ⟨0x40110 + 64 * b, 16, 1⟩
def TIME_TB_ADJ_CMD_go (b : Nat) : Fld := ⟨0x40110 + 64 * b, 31, 1⟩
def TIME_TB_SLEW_slew_ppm (b : Nat) : Fld := ⟨0x40114 + 64 * b, 0, 9⟩
def TIME_TB_CMD_request (b : Nat) : Fld := ⟨0x40118 + 64 * b, 0, 2⟩
def TIME_TB_CMD_free (b : Nat) : Fld := ⟨0x40118 + 64 * b, 2, 1⟩
def TIME_TB_WDOG_wdog_ms (b : Nat) : Fld := ⟨0x4011c + 64 * b, 0, 16⟩
def TIME_TB_HOLD_limit_s (b : Nat) : Fld := ⟨0x40120 + 64 * b, 0, 16⟩
def TIME_TB_HOLD_elapsed_s (b : Nat) : Fld := ⟨0x40120 + 64 * b, 16, 16⟩
def TIME_TB_SNAP_F_frac_ns (b : Nat) : Fld := ⟨0x40124 + 64 * b, 0, 16⟩
def TIME_TB_SNAP_NS_ns (b : Nat) : Fld := ⟨0x40128 + 64 * b, 0, 32⟩
def TIME_TB_SNAP_SL_sec_low (b : Nat) : Fld := ⟨0x4012c + 64 * b, 0, 32⟩
def TIME_TB_SNAP_SH_sec_high (b : Nat) : Fld := ⟨0x40130 + 64 * b, 0, 16⟩
def TIME_PPS_CTRL_out_en : Fld := ⟨0x40200, 0, 1⟩
def TIME_PPS_CTRL_out_tb : Fld := ⟨0x40200, 1, 2⟩
def TIME_PPS_CTRL_out_width_us : Fld := ⟨0x40200, 4, 8⟩
def TIME_PPS_CTRL_in_window_us : Fld := ⟨0x40200, 12, 10⟩
def TIME_PPS_IN_DELAY_delay_ps : Fld := ⟨0x40204, 0, 32⟩
def TIME_PPS_OUT_DELAY_advance_ps : Fld := ⟨0x40208, 0, 32⟩
def TIME_PPS_TS_F_frac_ns : Fld := ⟨0x40210, 0, 16⟩
def TIME_PPS_TS_NS_ns : Fld := ⟨0x40214, 0, 32⟩
def TIME_PPS_TS_SL_sec_low : Fld := ⟨0x40218, 0, 32⟩
def TIME_PPS_TS_SH_sec_high : Fld := ⟨0x4021c, 0, 16⟩
def TIME_PPS_CNT_accepted : Fld := ⟨0x40220, 0, 16⟩
def TIME_PPS_CNT_rejected : Fld := ⟨0x40220, 16, 16⟩
def TIME_TSQ_HEAD_id (n : Nat) : Fld := ⟨0x40300 + 32 * n, 0, 16⟩
def TIME_TSQ_HEAD_tb (n : Nat) : Fld := ⟨0x40300 + 32 * n, 16, 2⟩
def TIME_TSQ_HEAD_valid (n : Nat) : Fld := ⟨0x40300 + 32 * n, 31, 1⟩
def TIME_TSQ_F_frac_ns (n : Nat) : Fld := ⟨0x40304 + 32 * n, 0, 16⟩
def TIME_TSQ_NS_ns (n : Nat) : Fld := ⟨0x40308 + 32 * n, 0, 32⟩
def TIME_TSQ_SL_sec_low (n : Nat) : Fld := ⟨0x4030c + 32 * n, 0, 32⟩
def TIME_TSQ_SH_sec_high (n : Nat) : Fld := ⟨0x40310 + 32 * n, 0, 16⟩
def TIME_TSQ_STAT_depth (n : Nat) : Fld := ⟨0x40314 + 32 * n, 0, 7⟩
def TIME_TSQ_STAT_ovf (n : Nat) : Fld := ⟨0x40314 + 32 * n, 16, 16⟩
def TIME_ETH_TXLAT_tx_ps (n : Nat) : Fld := ⟨0x40400 + 16 * n, 0, 32⟩
def TIME_ETH_RXLAT_rx_ps (n : Nat) : Fld := ⟨0x40404 + 16 * n, 0, 32⟩
def ROT_CTRL_admit_us : Fld := ⟨0x70000, 0, 10⟩
def ROT_CMD_table : Fld := ⟨0x70004, 0, 4⟩
def ROT_CMD_op : Fld := ⟨0x70004, 4, 4⟩
def ROT_CMD_go : Fld := ⟨0x70004, 31, 1⟩
def ROT_RESULT_busy : Fld := ⟨0x70008, 0, 1⟩
def ROT_RESULT_code : Fld := ⟨0x70008, 8, 8⟩
def ROT_RESULT_slot : Fld := ⟨0x70008, 16, 6⟩
def ROT_RESULT_map_result : Fld := ⟨0x70008, 24, 4⟩
def ROT_STAT_table : Fld := ⟨0x7000c, 0, 4⟩
def ROT_STAT_state : Fld := ⟨0x7000c, 4, 3⟩
def ROT_STAT_armed : Fld := ⟨0x7000c, 7, 1⟩
def ROT_STAT_slot : Fld := ⟨0x7000c, 8, 6⟩
def ROT_STAT_late_start : Fld := ⟨0x7000c, 16, 1⟩
def ROT_START_F_frac_ns : Fld := ⟨0x70010, 0, 16⟩
def ROT_START_NS_ns : Fld := ⟨0x70014, 0, 32⟩
def ROT_START_SL_sec_low : Fld := ⟨0x70018, 0, 32⟩
def ROT_START_SH_sec_high : Fld := ⟨0x7001c, 0, 16⟩
def ROT_CNT_CYCLES_count : Fld := ⟨0x70020, 0, 32⟩
def ROT_CNT_RESYNC_count : Fld := ⟨0x70024, 0, 32⟩
def ROT_CNT_SUSPEND_count : Fld := ⟨0x70028, 0, 32⟩
def ROT_CNT_SKIP_count : Fld := ⟨0x7002c, 0, 32⟩
def ROT_CYCLE_E_energy : Fld := ⟨0x70030, 0, 32⟩
def ROT_TRANS_EMAX_energy : Fld := ⟨0x70034, 0, 32⟩
def PLOT_LOOP_CFG_template (w s : Nat) : Fld := ⟨winBase w + 0x10000 + 0x0 + 64 * s, 0, 2⟩
def PLOT_LOOP_CFG_enable (w s : Nat) : Fld := ⟨winBase w + 0x10000 + 0x0 + 64 * s, 2, 1⟩
def PLOT_LOOP_CFG_walsh (w s : Nat) : Fld := ⟨winBase w + 0x10000 + 0x0 + 64 * s, 3, 2⟩
def PLOT_LOOP_CFG_minimise (w s : Nat) : Fld := ⟨winBase w + 0x10000 + 0x0 + 64 * s, 5, 1⟩
def PLOT_LOOP_CFG_lit_thr (w s : Nat) : Fld := ⟨winBase w + 0x10000 + 0x0 + 64 * s, 8, 8⟩
def PLOT_LOOP_CFG_lit_hyst (w s : Nat) : Fld := ⟨winBase w + 0x10000 + 0x0 + 64 * s, 16, 4⟩
def PLOT_LOOP_CFG_acq_updates (w s : Nat) : Fld := ⟨winBase w + 0x10000 + 0x0 + 64 * s, 24, 8⟩
def PLOT_LOOP_BIND_input_a (w s : Nat) : Fld := ⟨winBase w + 0x10000 + 0x4 + 64 * s, 0, 12⟩
def PLOT_LOOP_BIND_input_b (w s : Nat) : Fld := ⟨winBase w + 0x10000 + 0x4 + 64 * s, 12, 12⟩
def PLOT_LOOP_BIND_site (w s : Nat) : Fld := ⟨winBase w + 0x10000 + 0x4 + 64 * s, 24, 6⟩
def PLOT_LOOP_STAT_mode (w s : Nat) : Fld := ⟨winBase w + 0x10000 + 0x8 + 64 * s, 0, 2⟩
def PLOT_LOOP_STAT_lit (w s : Nat) : Fld := ⟨winBase w + 0x10000 + 0x8 + 64 * s, 2, 1⟩
def PLOT_LOOP_STAT_stale (w s : Nat) : Fld := ⟨winBase w + 0x10000 + 0x8 + 64 * s, 3, 1⟩
def PLOT_LOOP_STAT_late (w s : Nat) : Fld := ⟨winBase w + 0x10000 + 0x8 + 64 * s, 4, 1⟩
def PLOT_LOOP_STAT_sat_acc (w s : Nat) : Fld := ⟨winBase w + 0x10000 + 0x8 + 64 * s, 5, 1⟩
def PLOT_LOOP_STAT_sat_out (w s : Nat) : Fld := ⟨winBase w + 0x10000 + 0x8 + 64 * s, 6, 1⟩
def PLOT_LOOP_STAT_range (w s : Nat) : Fld := ⟨winBase w + 0x10000 + 0x8 + 64 * s, 7, 1⟩
def PLOT_LOOP_STAT_region (w s : Nat) : Fld := ⟨winBase w + 0x10000 + 0x8 + 64 * s, 8, 6⟩
def PLOT_LOOP_STAT_state (w s : Nat) : Fld := ⟨winBase w + 0x10000 + 0x8 + 64 * s, 14, 1⟩
def PLOT_LOOP_STAT_wave (w s : Nat) : Fld := ⟨winBase w + 0x10000 + 0x8 + 64 * s, 15, 1⟩
def PLOT_LOOP_STAT_acq_left (w s : Nat) : Fld := ⟨winBase w + 0x10000 + 0x8 + 64 * s, 16, 8⟩
def PLOT_LOOP_SET_setpoint (w s : Nat) : Fld := ⟨winBase w + 0x10000 + 0xc + 64 * s, 0, 16⟩
def PLOT_LOOP_LIM_out_min (w s : Nat) : Fld := ⟨winBase w + 0x10000 + 0x10 + 64 * s, 0, 16⟩
def PLOT_LOOP_LIM_out_max (w s : Nat) : Fld := ⟨winBase w + 0x10000 + 0x10 + 64 * s, 16, 16⟩
def PLOT_LOOP_OUT_centre (w s : Nat) : Fld := ⟨winBase w + 0x10000 + 0x14 + 64 * s, 0, 16⟩
def PLOT_LOOP_OUT_code (w s : Nat) : Fld := ⟨winBase w + 0x10000 + 0x14 + 64 * s, 16, 16⟩
def PLOT_LOOP_ERR_error (w s : Nat) : Fld := ⟨winBase w + 0x10000 + 0x18 + 64 * s, 0, 16⟩
def PLOT_LOOP_ERR_mean (w s : Nat) : Fld := ⟨winBase w + 0x10000 + 0x18 + 64 * s, 16, 16⟩
def PLOT_LOOP_INT_L_integ_low (w s : Nat) : Fld := ⟨winBase w + 0x10000 + 0x1c + 64 * s, 0, 32⟩
def PLOT_LOOP_INT_H_integ_high (w s : Nat) : Fld := ⟨winBase w + 0x10000 + 0x20 + 64 * s, 0, 8⟩
def PLOT_LOOP_MODEL_model (w s : Nat) : Fld := ⟨winBase w + 0x10000 + 0x24 + 64 * s, 0, 16⟩
def PLOT_LOOP_MODEL_offset (w s : Nat) : Fld := ⟨winBase w + 0x10000 + 0x24 + 64 * s, 16, 16⟩
def PLOT_LOOP_PWR_pa (w s : Nat) : Fld := ⟨winBase w + 0x10000 + 0x28 + 64 * s, 0, 16⟩
def PLOT_LOOP_PWR_pb (w s : Nat) : Fld := ⟨winBase w + 0x10000 + 0x28 + 64 * s, 16, 16⟩
def PLOT_LOOP_CNT_updates (w s : Nat) : Fld := ⟨winBase w + 0x10000 + 0x2c + 64 * s, 0, 32⟩
def PLOT_LOOP_LIMCNT_at_limit (w s : Nat) : Fld := ⟨winBase w + 0x10000 + 0x30 + 64 * s, 0, 16⟩
def PLOT_LOOP_LIMCNT_lates (w s : Nat) : Fld := ⟨winBase w + 0x10000 + 0x30 + 64 * s, 16, 16⟩
def PLOT_ENG_CTRL_run (w : Nat) : Fld := ⟨winBase w + 0x0, 0, 1⟩
def PLOT_ENG_CTRL_auto_repair (w : Nat) : Fld := ⟨winBase w + 0x0, 1, 1⟩
def PLOT_ENG_CTRL_quick_en (w : Nat) : Fld := ⟨winBase w + 0x0, 2, 1⟩
def PLOT_ENG_CTRL_repair0 (w : Nat) : Fld := ⟨winBase w + 0x0, 8, 1⟩
def PLOT_ENG_CTRL_repair1 (w : Nat) : Fld := ⟨winBase w + 0x0, 9, 1⟩
def PLOT_ENG_STAT_e0_state (w : Nat) : Fld := ⟨winBase w + 0x4, 0, 3⟩
def PLOT_ENG_STAT_e1_state (w : Nat) : Fld := ⟨winBase w + 0x4, 3, 3⟩
def PLOT_ENG_STAT_holder (w : Nat) : Fld := ⟨winBase w + 0x4, 6, 1⟩
def PLOT_ENG_STAT_lease_left (w : Nat) : Fld := ⟨winBase w + 0x4, 7, 2⟩
def PLOT_ENG_STAT_no_holder (w : Nat) : Fld := ⟨winBase w + 0x4, 9, 1⟩
def PLOT_ENG_STAT_no_temp (w : Nat) : Fld := ⟨winBase w + 0x4, 10, 1⟩
def PLOT_ENG_STAT_park (w : Nat) : Fld := ⟨winBase w + 0x4, 11, 1⟩
def PLOT_ENG_FRAME_frames (w : Nat) : Fld := ⟨winBase w + 0x8, 0, 32⟩
def PLOT_ENG_DIV_div0 (w : Nat) : Fld := ⟨winBase w + 0xc, 0, 1⟩
def PLOT_ENG_DIV_div1 (w : Nat) : Fld := ⟨winBase w + 0xc, 1, 1⟩
def PLOT_ENG_DIV_undecided (w : Nat) : Fld := ⟨winBase w + 0xc, 2, 1⟩
def PLOT_ENG_DIV_handover (w : Nat) : Fld := ⟨winBase w + 0xc, 3, 1⟩
def PLOT_ENG_DIV_slot (w : Nat) : Fld := ⟨winBase w + 0xc, 16, 12⟩
def PLOT_ENG_CNT_MIS_count (w : Nat) : Fld := ⟨winBase w + 0x10, 0, 32⟩
def PLOT_ENG_CNT_HAND_count (w : Nat) : Fld := ⟨winBase w + 0x14, 0, 32⟩
def PLOT_ENG_CNT_LATE_count (w : Nat) : Fld := ⟨winBase w + 0x18, 0, 32⟩
def PLOT_BAND_CFG_edge1 (w : Nat) : Fld := ⟨winBase w + 0x20, 0, 8⟩
def PLOT_BAND_CFG_edge2 (w : Nat) : Fld := ⟨winBase w + 0x20, 8, 8⟩
def PLOT_BAND_CFG_edge3 (w : Nat) : Fld := ⟨winBase w + 0x20, 16, 8⟩
def PLOT_TBAND_LO_t1 (w : Nat) : Fld := ⟨winBase w + 0x24, 0, 8⟩
def PLOT_TBAND_LO_t2 (w : Nat) : Fld := ⟨winBase w + 0x24, 8, 8⟩
def PLOT_TBAND_LO_t3 (w : Nat) : Fld := ⟨winBase w + 0x24, 16, 8⟩
def PLOT_TBAND_LO_t4 (w : Nat) : Fld := ⟨winBase w + 0x24, 24, 8⟩
def PLOT_TBAND_HI_t5 (w : Nat) : Fld := ⟨winBase w + 0x28, 0, 8⟩
def PLOT_TBAND_HI_t6 (w : Nat) : Fld := ⟨winBase w + 0x28, 8, 8⟩
def PLOT_TBAND_HI_t7 (w : Nat) : Fld := ⟨winBase w + 0x28, 16, 8⟩
def PLOT_RANGE_CFG_range_updates (w : Nat) : Fld := ⟨winBase w + 0x2c, 0, 16⟩
def PLOT_LATE_MAP_late (w x : Nat) : Fld := ⟨winBase w + 0x100 + 4 * x, 0, 32⟩
def PLOT_MODEL_MAP_model (w x : Nat) : Fld := ⟨winBase w + 0x200 + 4 * x, 0, 32⟩
def PLOT_SAT_MAP_sat (w x : Nat) : Fld := ⟨winBase w + 0x300 + 4 * x, 0, 32⟩
def PLOT_TRC_CTRL_en (w : Nat) : Fld := ⟨winBase w + trcBase w + 0x0, 0, 1⟩
def PLOT_TRC_CTRL_one_shot (w : Nat) : Fld := ⟨winBase w + trcBase w + 0x0, 1, 1⟩
def PLOT_TRC_CTRL_trig (w : Nat) : Fld := ⟨winBase w + trcBase w + 0x0, 2, 3⟩
def PLOT_TRC_CTRL_arm (w : Nat) : Fld := ⟨winBase w + trcBase w + 0x0, 5, 1⟩
def PLOT_TRC_CTRL_force (w : Nat) : Fld := ⟨winBase w + trcBase w + 0x0, 6, 1⟩
def PLOT_TRC_CTRL_decim (w : Nat) : Fld := ⟨winBase w + trcBase w + 0x0, 8, 4⟩
def PLOT_TRC_CTRL_post (w : Nat) : Fld := ⟨winBase w + trcBase w + 0x0, 16, 12⟩
def PLOT_TRC_STAT_wptr (w : Nat) : Fld := ⟨winBase w + trcBase w + 0x4, 0, 12⟩
def PLOT_TRC_STAT_armed (w : Nat) : Fld := ⟨winBase w + trcBase w + 0x4, 12, 1⟩
def PLOT_TRC_STAT_triggered (w : Nat) : Fld := ⟨winBase w + trcBase w + 0x4, 13, 1⟩
def PLOT_TRC_STAT_stopped (w : Nat) : Fld := ⟨winBase w + trcBase w + 0x4, 14, 1⟩
def PLOT_TRC_STAT_ovf (w : Nat) : Fld := ⟨winBase w + trcBase w + 0x4, 15, 1⟩
def PLOT_TRC_STAT_trig_index (w : Nat) : Fld := ⟨winBase w + trcBase w + 0x4, 16, 12⟩
def PLOT_TRC_SEL_slot (w i : Nat) : Fld := ⟨winBase w + trcBase w + 0x10 + 4 * i, 0, 12⟩
def PLOT_TRC_SEL_nodes (w i : Nat) : Fld := ⟨winBase w + trcBase w + 0x10 + 4 * i, 12, 4⟩
def PLOT_DRL_CFG_range (w ch : Nat) : Fld := ⟨winBase w + drlBase w + 0x0 + 16 * ch, 0, 1⟩
def PLOT_DRL_CFG_slew_en (w ch : Nat) : Fld := ⟨winBase w + drlBase w + 0x0 + 16 * ch, 1, 1⟩
def PLOT_DRL_CFG_seg (w ch : Nat) : Fld := ⟨winBase w + drlBase w + 0x0 + 16 * ch, 2, 2⟩
def PLOT_DRL_CFG_vcomp (w ch : Nat) : Fld := ⟨winBase w + drlBase w + 0x0 + 16 * ch, 4, 1⟩
def PLOT_DRL_CFG_mon_en (w ch : Nat) : Fld := ⟨winBase w + drlBase w + 0x0 + 16 * ch, 5, 1⟩
def PLOT_DRL_CFG_otrim (w ch : Nat) : Fld := ⟨winBase w + drlBase w + 0x0 + 16 * ch, 8, 8⟩
def PLOT_DRL_STAT_depth (w ch : Nat) : Fld := ⟨winBase w + drlBase w + 0x4 + 16 * ch, 0, 3⟩
def PLOT_DRL_STAT_wave (w ch : Nat) : Fld := ⟨winBase w + drlBase w + 0x4 + 16 * ch, 3, 1⟩
def PLOT_DRL_STAT_dg_hold (w ch : Nat) : Fld := ⟨winBase w + drlBase w + 0x4 + 16 * ch, 4, 1⟩
def PLOT_DRL_STAT_pend_range (w ch : Nat) : Fld := ⟨winBase w + drlBase w + 0x4 + 16 * ch, 5, 1⟩
def PLOT_DRL_STAT_qovf (w ch : Nat) : Fld := ⟨winBase w + drlBase w + 0x4 + 16 * ch, 6, 1⟩
def PLOT_DRL_STAT_clip (w ch : Nat) : Fld := ⟨winBase w + drlBase w + 0x4 + 16 * ch, 7, 1⟩
def PLOT_DRL_STAT_dg_timeout (w ch : Nat) : Fld := ⟨winBase w + drlBase w + 0x4 + 16 * ch, 8, 1⟩
def PLOT_DRL_STAT_dg_cut (w ch : Nat) : Fld := ⟨winBase w + drlBase w + 0x4 + 16 * ch, 9, 1⟩
def PLOT_DRL_STAT_seg_fail (w ch : Nat) : Fld := ⟨winBase w + drlBase w + 0x4 + 16 * ch, 10, 1⟩
def PLOT_DRL_STAT_seg_which (w ch : Nat) : Fld := ⟨winBase w + drlBase w + 0x4 + 16 * ch, 11, 1⟩
def PLOT_DRL_STAT_mon_fail (w ch : Nat) : Fld := ⟨winBase w + drlBase w + 0x4 + 16 * ch, 12, 1⟩
def PLOT_DRL_STAT_htr_open (w ch : Nat) : Fld := ⟨winBase w + drlBase w + 0x4 + 16 * ch, 13, 1⟩
def PLOT_DRL_STAT_htr_short (w ch : Nat) : Fld := ⟨winBase w + drlBase w + 0x4 + 16 * ch, 14, 1⟩
def PLOT_DRL_STAT_code (w ch : Nat) : Fld := ⟨winBase w + drlBase w + 0x4 + 16 * ch, 16, 16⟩
def PLOT_DRL_SLEW_step (w ch : Nat) : Fld := ⟨winBase w + drlBase w + 0x8 + 16 * ch, 0, 16⟩
def PLOT_DRL_SLEW_period (w ch : Nat) : Fld := ⟨winBase w + drlBase w + 0x8 + 16 * ch, 16, 16⟩
def PLOT_DRL_CODE_code (w ch : Nat) : Fld := ⟨winBase w + drlBase w + 0xc + 16 * ch, 0, 16⟩
def PLOT_DRL_SEED_go (w : Nat) : Fld := ⟨winBase w + drlBase w + 0x8000, 0, 1⟩
def PLOT_DRL_SEED_settle_us (w : Nat) : Fld := ⟨winBase w + drlBase w + 0x8000, 16, 16⟩
def PLOT_DRL_SEED_STAT_busy (w : Nat) : Fld := ⟨winBase w + drlBase w + 0x8004, 0, 1⟩
def PLOT_DRL_SEED_STAT_seeded (w : Nat) : Fld := ⟨winBase w + drlBase w + 0x8004, 1, 1⟩
def PLOT_DRL_SEED_STAT_err_cal (w : Nat) : Fld := ⟨winBase w + drlBase w + 0x8004, 2, 1⟩
def PLOT_DRL_SEED_STAT_err_temp (w : Nat) : Fld := ⟨winBase w + drlBase w + 0x8004, 3, 1⟩
def PLOT_DRL_SEED_STAT_err_order (w : Nat) : Fld := ⟨winBase w + drlBase w + 0x8004, 4, 1⟩
def PLOT_DRL_PLAY_chan (w : Nat) : Fld := ⟨winBase w + drlBase w + 0x8008, 0, 12⟩
def PLOT_DRL_PLAY_wave (w : Nat) : Fld := ⟨winBase w + drlBase w + 0x8008, 12, 8⟩
def PLOT_DRL_PLAY_len (w : Nat) : Fld := ⟨winBase w + drlBase w + 0x8008, 20, 6⟩
def PLOT_DRL_PLAY_go (w : Nat) : Fld := ⟨winBase w + drlBase w + 0x8008, 31, 1⟩
def PLOT_DRL_PLAY_STAT_busy (w : Nat) : Fld := ⟨winBase w + drlBase w + 0x800c, 0, 1⟩
def PLOT_DRL_PLAY_STAT_refused (w : Nat) : Fld := ⟨winBase w + drlBase w + 0x800c, 1, 1⟩
def PLOT_DRL_HPWR_power_mw (w : Nat) : Fld := ⟨winBase w + drlBase w + 0x8010, 0, 20⟩
def PLOT_DRL_VHTR_v_htr_mv (w : Nat) : Fld := ⟨winBase w + drlBase w + 0x8014, 0, 12⟩
def PLOT_DRL_CNT_DG_count (w : Nat) : Fld := ⟨winBase w + drlBase w + 0x8018, 0, 32⟩
def PLOT_DRL_CNT_FLUSH_count (w : Nat) : Fld := ⟨winBase w + drlBase w + 0x801c, 0, 32⟩
def PLOT_DRL_CNT_SWREJ_count (w : Nat) : Fld := ⟨winBase w + drlBase w + 0x8020, 0, 32⟩
def PLOT_DRL_FAULT_chan (w : Nat) : Fld := ⟨winBase w + drlBase w + 0x8024, 0, 12⟩
def PLOT_DRL_FAULT_kind (w : Nat) : Fld := ⟨winBase w + drlBase w + 0x8024, 12, 3⟩
def PLOT_DRL_WSEL_LO_w_t0 (w k : Nat) : Fld := ⟨winBase w + drlBase w + 0x8040 + 8 * k, 0, 8⟩
def PLOT_DRL_WSEL_LO_w_t1 (w k : Nat) : Fld := ⟨winBase w + drlBase w + 0x8040 + 8 * k, 8, 8⟩
def PLOT_DRL_WSEL_LO_w_t2 (w k : Nat) : Fld := ⟨winBase w + drlBase w + 0x8040 + 8 * k, 16, 8⟩
def PLOT_DRL_WSEL_LO_w_t3 (w k : Nat) : Fld := ⟨winBase w + drlBase w + 0x8040 + 8 * k, 24, 8⟩
def PLOT_DRL_WSEL_HI_w_t4 (w k : Nat) : Fld := ⟨winBase w + drlBase w + 0x8044 + 8 * k, 0, 8⟩
def PLOT_DRL_WSEL_HI_w_t5 (w k : Nat) : Fld := ⟨winBase w + drlBase w + 0x8044 + 8 * k, 8, 8⟩
def PLOT_DRL_WSEL_HI_w_t6 (w k : Nat) : Fld := ⟨winBase w + drlBase w + 0x8044 + 8 * k, 16, 8⟩
def PLOT_DRL_WSEL_HI_w_t7 (w k : Nat) : Fld := ⟨winBase w + drlBase w + 0x8044 + 8 * k, 24, 8⟩
def PLOT_DRL_SEG_MAP_solo (w x : Nat) : Fld := ⟨winBase w + drlBase w + 0x8100 + 4 * x, 0, 32⟩
def PLOT_SNS_CFG_win_en (w i : Nat) : Fld := ⟨winBase w + snsBase w + 0x0 + 16 * i, 0, 1⟩
def PLOT_SNS_CFG_rmode (w i : Nat) : Fld := ⟨winBase w + snsBase w + 0x0 + 16 * i, 1, 2⟩
def PLOT_SNS_CFG_reserve (w i : Nat) : Fld := ⟨winBase w + snsBase w + 0x0 + 16 * i, 3, 1⟩
def PLOT_SNS_CFG_fdet_en (w i : Nat) : Fld := ⟨winBase w + snsBase w + 0x0 + 16 * i, 4, 1⟩
def PLOT_SNS_CFG_win_hi (w i : Nat) : Fld := ⟨winBase w + snsBase w + 0x0 + 16 * i, 8, 8⟩
def PLOT_SNS_CFG_win_lo (w i : Nat) : Fld := ⟨winBase w + snsBase w + 0x0 + 16 * i, 16, 8⟩
def PLOT_SNS_VAL_reading (w i : Nat) : Fld := ⟨winBase w + snsBase w + 0x4 + 16 * i, 0, 16⟩
def PLOT_SNS_VAL_raw (w i : Nat) : Fld := ⟨winBase w + snsBase w + 0x4 + 16 * i, 16, 14⟩
def PLOT_SNS_VAL_range (w i : Nat) : Fld := ⟨winBase w + snsBase w + 0x4 + 16 * i, 30, 1⟩
def PLOT_SNS_VAL_over (w i : Nat) : Fld := ⟨winBase w + snsBase w + 0x4 + 16 * i, 31, 1⟩
def PLOT_SNS_STAT_out_now (w i : Nat) : Fld := ⟨winBase w + snsBase w + 0x8 + 16 * i, 0, 1⟩
def PLOT_SNS_STAT_win_out (w i : Nat) : Fld := ⟨winBase w + snsBase w + 0x8 + 16 * i, 1, 1⟩
def PLOT_SNS_STAT_failed (w i : Nat) : Fld := ⟨winBase w + snsBase w + 0x8 + 16 * i, 2, 1⟩
def PLOT_SNS_STAT_on_reserve (w i : Nat) : Fld := ⟨winBase w + snsBase w + 0x8 + 16 * i, 3, 1⟩
def PLOT_SNS_STAT_reserve_failed (w i : Nat) : Fld := ⟨winBase w + snsBase w + 0x8 + 16 * i, 4, 1⟩
def PLOT_SNS_STAT_quick (w i : Nat) : Fld := ⟨winBase w + snsBase w + 0x8 + 16 * i, 5, 1⟩
def PLOT_SNS_STAT_quick_denied (w i : Nat) : Fld := ⟨winBase w + snsBase w + 0x8 + 16 * i, 6, 1⟩
def PLOT_SNS_STAT_missed (w i : Nat) : Fld := ⟨winBase w + snsBase w + 0x8 + 16 * i, 7, 1⟩
def PLOT_SNS_CNT_samples (w i : Nat) : Fld := ⟨winBase w + snsBase w + 0xc + 16 * i, 0, 16⟩
def PLOT_SNS_CNT_misses (w i : Nat) : Fld := ⟨winBase w + snsBase w + 0xc + 16 * i, 16, 16⟩
def PLOT_SLC_TRIM_otrim (w k : Nat) : Fld := ⟨winBase w + snsBase w + 0x8000 + 32 * k, 0, 8⟩
def PLOT_SLC_TRIM_gtrim (w k : Nat) : Fld := ⟨winBase w + snsBase w + 0x8000 + 32 * k, 8, 8⟩
def PLOT_SLC_STAT_role (w k : Nat) : Fld := ⟨winBase w + snsBase w + 0x8004 + 32 * k, 0, 2⟩
def PLOT_SLC_STAT_failed (w k : Nat) : Fld := ⟨winBase w + snsBase w + 0x8004 + 32 * k, 2, 1⟩
def PLOT_SLC_STAT_trim_limit (w k : Nat) : Fld := ⟨winBase w + snsBase w + 0x8004 + 32 * k, 3, 1⟩
def PLOT_SLC_STAT_carries (w k : Nat) : Fld := ⟨winBase w + snsBase w + 0x8004 + 32 * k, 4, 5⟩
def PLOT_SLC_REF_ref_zero (w k : Nat) : Fld := ⟨winBase w + snsBase w + 0x8008 + 32 * k, 0, 14⟩
def PLOT_SLC_REF_ref_high (w k : Nat) : Fld := ⟨winBase w + snsBase w + 0x8008 + 32 * k, 16, 14⟩
def PLOT_SLC_CNT_CONV_count (w k : Nat) : Fld := ⟨winBase w + snsBase w + 0x800c + 32 * k, 0, 32⟩
def PLOT_SLC_CNT_URG_count (w k : Nat) : Fld := ⟨winBase w + snsBase w + 0x8010 + 32 * k, 0, 32⟩
def PLOT_SLC_CNT_MISS_count (w k : Nat) : Fld := ⟨winBase w + snsBase w + 0x8014 + 32 * k, 0, 32⟩
def PLOT_SLC_CNT_REFF_count (w k : Nat) : Fld := ⟨winBase w + snsBase w + 0x8018 + 32 * k, 0, 16⟩
def PLOT_SNS_CTRL_bg_en (w : Nat) : Fld := ⟨winBase w + snsBase w + 0xc000, 0, 1⟩
def PLOT_SNS_CTRL_bg_period_ms (w : Nat) : Fld := ⟨winBase w + snsBase w + 0xc000, 8, 8⟩
def PLOT_SNS_CTRL_persist (w : Nat) : Fld := ⟨winBase w + snsBase w + 0xc000, 16, 8⟩
def PLOT_SNS_STAT_no_spare (w : Nat) : Fld := ⟨winBase w + snsBase w + 0xc004, 0, 1⟩
def PLOT_SNS_STAT_bg_active (w : Nat) : Fld := ⟨winBase w + snsBase w + 0xc004, 1, 1⟩
def PLOT_SNS_STAT_bg_slice (w : Nat) : Fld := ⟨winBase w + snsBase w + 0xc004, 2, 5⟩
def PLOT_SNS_STAT_quick_used (w : Nat) : Fld := ⟨winBase w + snsBase w + 0xc004, 16, 11⟩
def PLOT_SNS_CNT_DENY_count (w : Nat) : Fld := ⟨winBase w + snsBase w + 0xc008, 0, 32⟩
def PLOT_SNS_FAIL_chan (w : Nat) : Fld := ⟨winBase w + snsBase w + 0xc00c, 0, 11⟩
def PLOT_SNS_FAIL_kind (w : Nat) : Fld := ⟨winBase w + snsBase w + 0xc00c, 12, 2⟩
def PLOT_SNS_WIN_MAP_out (w x : Nat) : Fld := ⟨winBase w + snsBase w + 0xc100 + 4 * x, 0, 32⟩
def CAL_CTRL_hold_flip : Fld := ⟨0xc0000, 0, 1⟩
def CAL_CTRL_stale_limit_ms : Fld := ⟨0xc0000, 16, 16⟩
def CAL_STAT_active : Fld := ⟨0xc0004, 0, 1⟩
def CAL_STAT_active_valid : Fld := ⟨0xc0004, 1, 1⟩
def CAL_STAT_inactive_verified : Fld := ⟨0xc0004, 2, 1⟩
def CAL_STAT_busy : Fld := ⟨0xc0004, 3, 1⟩
def CAL_STAT_reload_pend : Fld := ⟨0xc0004, 4, 1⟩
def CAL_STAT_wr_blocked : Fld := ⟨0xc0004, 5, 1⟩
def CAL_ACTIVE_GEN_generation : Fld := ⟨0xc0008, 0, 32⟩
def CAL_INACTIVE_GEN_generation : Fld := ⟨0xc000c, 0, 32⟩
def CAL_CMD_op : Fld := ⟨0xc0010, 0, 4⟩
def CAL_CMD_go : Fld := ⟨0xc0010, 31, 1⟩
def CAL_RESULT_code : Fld := ⟨0xc0014, 0, 4⟩
def CAL_RESULT_tile : Fld := ⟨0xc0014, 8, 12⟩
def CAL_RESULT_copy : Fld := ⟨0xc0014, 20, 1⟩
def CAL_BANK_ADDR_A0_addr : Fld := ⟨0xc0020, 0, 32⟩
def CAL_BANK_ADDR_A1_addr : Fld := ⟨0xc0024, 0, 32⟩
def CAL_BANK_ADDR_B0_addr : Fld := ⟨0xc0028, 0, 32⟩
def CAL_BANK_ADDR_B1_addr : Fld := ⟨0xc002c, 0, 32⟩
def CAL_ELEM_CMD_slot : Fld := ⟨0xc0040, 0, 12⟩
def CAL_ELEM_CMD_window : Fld := ⟨0xc0040, 12, 5⟩
def CAL_ELEM_CMD_op : Fld := ⟨0xc0040, 17, 2⟩
def CAL_ELEM_CMD_force : Fld := ⟨0xc0040, 19, 1⟩
def CAL_ELEM_CMD_go : Fld := ⟨0xc0040, 31, 1⟩
def CAL_ELEM_RESULT_code : Fld := ⟨0xc0044, 0, 4⟩
def CAL_ELEM_RESULT_marks : Fld := ⟨0xc0044, 16, 5⟩
def CAL_CNT_ABANDON_count : Fld := ⟨0xc0048, 0, 32⟩
def CAL_DEV_CNT_count : Fld := ⟨0xc0080, 0, 32⟩
def CAL_DEV_LAST_NS_ns : Fld := ⟨0xc0084, 0, 32⟩
def CAL_DEV_LAST_SL_sec_low : Fld := ⟨0xc0088, 0, 32⟩
def CAL_DEV_LAST_SH_sec_high : Fld := ⟨0xc008c, 0, 16⟩
def CAL_DEV_FLIPS_count : Fld := ⟨0xc0090, 0, 32⟩
def CAL_WIN_CNT_count (w : Nat) : Fld := ⟨0xc0100 + 16 * w, 0, 32⟩
def CAL_WIN_LAST_NS_ns (w : Nat) : Fld := ⟨0xc0104 + 16 * w, 0, 32⟩
def CAL_WIN_LAST_SL_sec_low (w : Nat) : Fld := ⟨0xc0108 + 16 * w, 0, 32⟩
def CAL_WIN_LAST_SH_sec_high (w : Nat) : Fld := ⟨0xc010c + 16 * w, 0, 16⟩
def CAL_WIN_GEN_generation (w : Nat) : Fld := ⟨0xc0300 + 4 * w, 0, 32⟩
def REQ_CTRL_urp_en : Fld := ⟨0x50000, 0, 1⟩
def REQ_CTRL_telem_en : Fld := ⟨0x50000, 1, 1⟩
def REQ_CTRL_telem_tb : Fld := ⟨0x50000, 2, 2⟩
def REQ_CTRL_udp_port : Fld := ⟨0x50000, 16, 16⟩
def REQ_CFG_mtu : Fld := ⟨0x50004, 0, 14⟩
def REQ_CFG_hb_period_ms : Fld := ⟨0x50004, 14, 10⟩
def REQ_CFG_telem_hold : Fld := ⟨0x50004, 24, 8⟩
def REQ_INSTANCE_instance : Fld := ⟨0x50008, 0, 32⟩
def REQ_AUTH_CFG_auth_rate : Fld := ⟨0x5000c, 0, 16⟩
def REQ_INT_STAT_key_done : Fld := ⟨0x50010, 0, 1⟩
def REQ_INT_STAT_auth_burst : Fld := ⟨0x50010, 1, 1⟩
def REQ_INT_STAT_unsent : Fld := ⟨0x50010, 2, 1⟩
def REQ_INT_EN_en : Fld := ⟨0x50014, 0, 3⟩
def REQ_STAT_queued : Fld := ⟨0x50018, 0, 15⟩
def REQ_STAT_safe : Fld := ⟨0x50018, 15, 1⟩
def REQ_STAT_hist_clr : Fld := ⟨0x50018, 16, 1⟩
def REQ_CNT_HDR_count : Fld := ⟨0x50020, 0, 32⟩
def REQ_CNT_TAG_count : Fld := ⟨0x50024, 0, 32⟩
def REQ_CNT_AUTH_count : Fld := ⟨0x50028, 0, 32⟩
def REQ_CNT_MALFORMED_count : Fld := ⟨0x5002c, 0, 32⟩
def REQ_CNT_UNSENT_count : Fld := ⟨0x50030, 0, 32⟩
def REQ_CNT_TELEM_count : Fld := ⟨0x50034, 0, 32⟩
def REQ_SAMPLE_NUM_k : Fld := ⟨0x50040, 0, 32⟩
def REQ_SAMPLE_BASE_NS_ns : Fld := ⟨0x50044, 0, 32⟩
def REQ_SAMPLE_BASE_SL_sec_low : Fld := ⟨0x50048, 0, 32⟩
def REQ_SAMPLE_BASE_SH_sec_high : Fld := ⟨0x5004c, 0, 16⟩
def REQ_KEY_DATA_key (i : Nat) : Fld := ⟨0x50050 + 4 * i, 0, 32⟩
def REQ_KEY_CMD_tenant : Fld := ⟨0x50070, 0, 6⟩
def REQ_KEY_CMD_slot : Fld := ⟨0x50070, 6, 1⟩
def REQ_KEY_CMD_op : Fld := ⟨0x50070, 7, 2⟩
def REQ_KEY_CMD_go : Fld := ⟨0x50070, 31, 1⟩
def REQ_KEY_STAT_loaded (w : Nat) : Fld := ⟨0x50080 + 4 * w, 0, 32⟩
def REQ_T_CFG_weight (t : Nat) : Fld := ⟨0x50400 + 32 * t, 0, 8⟩
def REQ_T_CFG_yield_moves (t : Nat) : Fld := ⟨0x50400 + 32 * t, 8, 1⟩
def REQ_T_CFG_rot_ctl (t : Nat) : Fld := ⟨0x50400 + 32 * t, 9, 1⟩
def REQ_T_CFG_tx_slot (t : Nat) : Fld := ⟨0x50400 + 32 * t, 10, 1⟩
def REQ_T_CFG_rpt_port (t : Nat) : Fld := ⟨0x50400 + 32 * t, 11, 1⟩
def REQ_T_CFG_rpt_v6 (t : Nat) : Fld := ⟨0x50400 + 32 * t, 12, 1⟩
def REQ_T_CFG_rpt_valid (t : Nat) : Fld := ⟨0x50400 + 32 * t, 13, 1⟩
def REQ_T_CFG_q_depth (t : Nat) : Fld := ⟨0x50400 + 32 * t, 16, 9⟩
def REQ_T_MCFG_single_rate (t : Nat) : Fld := ⟨0x50404 + 32 * t, 0, 1⟩
def REQ_T_MCFG_colour_aware (t : Nat) : Fld := ⟨0x50404 + 32 * t, 1, 1⟩
def REQ_T_MCFG_y_thresh (t : Nat) : Fld := ⟨0x50404 + 32 * t, 8, 9⟩
def REQ_T_CIR_cir (t : Nat) : Fld := ⟨0x50408 + 32 * t, 0, 24⟩
def REQ_T_PIR_pir (t : Nat) : Fld := ⟨0x5040c + 32 * t, 0, 24⟩
def REQ_T_BURST_cbs (t : Nat) : Fld := ⟨0x50410 + 32 * t, 0, 16⟩
def REQ_T_BURST_pbs (t : Nat) : Fld := ⟨0x50410 + 32 * t, 16, 16⟩
def REQ_T_STAT_depth (t : Nat) : Fld := ⟨0x50414 + 32 * t, 0, 9⟩
def REQ_T_STAT_fence_wait (t : Nat) : Fld := ⟨0x50414 + 32 * t, 9, 1⟩
def REQ_T_TOKENS_tc (t : Nat) : Fld := ⟨0x50418 + 32 * t, 0, 16⟩
def REQ_T_TOKENS_tp (t : Nat) : Fld := ⟨0x50418 + 32 * t, 16, 16⟩
def REQ_T_CNT_count (t i : Nat) : Fld := ⟨0x50c00 + 32 * t + 4 * i, 0, 32⟩
def REQ_HIST_count (t b : Nat) : Fld := ⟨0x52000 + 64 * t + 4 * b, 0, 32⟩
def REQ_RPT_word (t j : Nat) : Fld := ⟨0x53000 + 32 * t + 4 * j, 0, 32⟩
def REQ_RING_word (t j : Nat) : Fld := ⟨0x58000 + 512 * t + 4 * j, 0, 32⟩
def ETH_CTRL_enable (n : Nat) : Fld := ⟨0xD0000 + 0x8000 * n + 0x0, 0, 1⟩
def ETH_CTRL_fec_en (n : Nat) : Fld := ⟨0xD0000 + 0x8000 * n + 0x0, 1, 1⟩
def ETH_CTRL_vlan_en (n : Nat) : Fld := ⟨0xD0000 + 0x8000 * n + 0x0, 2, 1⟩
def ETH_CTRL_urp_en (n : Nat) : Fld := ⟨0xD0000 + 0x8000 * n + 0x0, 3, 1⟩
def ETH_CTRL_int_en (n : Nat) : Fld := ⟨0xD0000 + 0x8000 * n + 0x0, 4, 3⟩
def ETH_CTRL_vid (n : Nat) : Fld := ⟨0xD0000 + 0x8000 * n + 0x0, 8, 12⟩
def ETH_STAT_link (n : Nat) : Fld := ⟨0xD0000 + 0x8000 * n + 0x4, 0, 1⟩
def ETH_STAT_fec_lock (n : Nat) : Fld := ⟨0xD0000 + 0x8000 * n + 0x4, 1, 1⟩
def ETH_STAT_hi_ber (n : Nat) : Fld := ⟨0xD0000 + 0x8000 * n + 0x4, 2, 1⟩
def ETH_STAT_link_lost (n : Nat) : Fld := ⟨0xD0000 + 0x8000 * n + 0x4, 3, 1⟩
def ETH_STAT_rx_event (n : Nat) : Fld := ⟨0xD0000 + 0x8000 * n + 0x4, 4, 1⟩
def ETH_STAT_tx_event (n : Nat) : Fld := ⟨0xD0000 + 0x8000 * n + 0x4, 5, 1⟩
def ETH_STAT_link_change (n : Nat) : Fld := ⟨0xD0000 + 0x8000 * n + 0x4, 6, 1⟩
def ETH_MAC_LO_mac (n : Nat) : Fld := ⟨0xD0000 + 0x8000 * n + 0x8, 0, 32⟩
def ETH_MAC_HI_mac (n : Nat) : Fld := ⟨0xD0000 + 0x8000 * n + 0xc, 0, 16⟩
def ETH_IPV4_addr (n : Nat) : Fld := ⟨0xD0000 + 0x8000 * n + 0x10, 0, 32⟩
def ETH_IPV6_addr (n i : Nat) : Fld := ⟨0xD0000 + 0x8000 * n + 0x14 + 4 * i, 0, 32⟩
def ETH_TX_CFG_dscp (n : Nat) : Fld := ⟨0xD0000 + 0x8000 * n + 0x24, 0, 6⟩
def ETH_TX_CFG_ttl (n : Nat) : Fld := ⟨0xD0000 + 0x8000 * n + 0x24, 8, 8⟩
def ETH_RXR_BASE_addr (n : Nat) : Fld := ⟨0xD0000 + 0x8000 * n + 0x30, 0, 32⟩
def ETH_RXR_CFG_entries (n : Nat) : Fld := ⟨0xD0000 + 0x8000 * n + 0x34, 0, 11⟩
def ETH_RXR_HEAD_head (n : Nat) : Fld := ⟨0xD0000 + 0x8000 * n + 0x38, 0, 10⟩
def ETH_RXR_TAIL_tail (n : Nat) : Fld := ⟨0xD0000 + 0x8000 * n + 0x3c, 0, 10⟩
def ETH_TXR_BASE_addr (n : Nat) : Fld := ⟨0xD0000 + 0x8000 * n + 0x40, 0, 32⟩
def ETH_TXR_CFG_entries (n : Nat) : Fld := ⟨0xD0000 + 0x8000 * n + 0x44, 0, 11⟩
def ETH_TXR_HEAD_head (n : Nat) : Fld := ⟨0xD0000 + 0x8000 * n + 0x48, 0, 10⟩
def ETH_TXR_TAIL_tail (n : Nat) : Fld := ⟨0xD0000 + 0x8000 * n + 0x4c, 0, 10⟩
def ETH_CNT_RX_FRAMES_count (n : Nat) : Fld := ⟨0xD0000 + 0x8000 * n + 0x100, 0, 32⟩
def ETH_CNT_RX_ERR_count (n : Nat) : Fld := ⟨0xD0000 + 0x8000 * n + 0x104, 0, 32⟩
def ETH_CNT_RX_ADDR_count (n : Nat) : Fld := ⟨0xD0000 + 0x8000 * n + 0x108, 0, 32⟩
def ETH_CNT_RX_PAUSE_count (n : Nat) : Fld := ⟨0xD0000 + 0x8000 * n + 0x10c, 0, 32⟩
def ETH_CNT_RX_IP_count (n : Nat) : Fld := ⟨0xD0000 + 0x8000 * n + 0x110, 0, 32⟩
def ETH_CNT_RX_URP_count (n : Nat) : Fld := ⟨0xD0000 + 0x8000 * n + 0x114, 0, 32⟩
def ETH_CNT_RX_FW_count (n : Nat) : Fld := ⟨0xD0000 + 0x8000 * n + 0x118, 0, 32⟩
def ETH_CNT_RX_RING_count (n : Nat) : Fld := ⟨0xD0000 + 0x8000 * n + 0x11c, 0, 32⟩
def ETH_CNT_RX_DROP_count (n : Nat) : Fld := ⟨0xD0000 + 0x8000 * n + 0x120, 0, 32⟩
def ETH_CNT_TX_FRAMES_count (n : Nat) : Fld := ⟨0xD0000 + 0x8000 * n + 0x124, 0, 32⟩
def ETH_CNT_TX_ERR_count (n : Nat) : Fld := ⟨0xD0000 + 0x8000 * n + 0x128, 0, 32⟩
def GOV_CTRL_timer : Fld := ⟨0x30000, 0, 8⟩
def GOV_CTRL_window : Fld := ⟨0x30000, 8, 5⟩
def GOV_CTRL_min_dt : Fld := ⟨0x30000, 16, 8⟩
def GOV_STEP_step : Fld := ⟨0x30004, 0, 3⟩
def GOV_STEP_governed : Fld := ⟨0x30004, 3, 3⟩
def GOV_STEP_floor : Fld := ⟨0x30004, 6, 3⟩
def GOV_RECOVER_hold_ms : Fld := ⟨0x30008, 0, 16⟩
def GOV_RECOVER_hyst : Fld := ⟨0x30008, 16, 16⟩
def GOV_ECHK_energy : Fld := ⟨0x3000c, 0, 32⟩
def GOV_ECHK_SITES_LO_sites : Fld := ⟨0x30010, 0, 32⟩
def GOV_ECHK_SITES_HI_sites : Fld := ⟨0x30014, 0, 16⟩
def GOV_TMR_SITES_LO_sites : Fld := ⟨0x30018, 0, 32⟩
def GOV_TMR_SITES_HI_sites : Fld := ⟨0x3001c, 0, 16⟩
def GOV_DEMAND_LO_sites : Fld := ⟨0x30020, 0, 32⟩
def GOV_DEMAND_HI_sites : Fld := ⟨0x30024, 0, 16⟩
def GOV_PEND_LO_sites : Fld := ⟨0x30028, 0, 32⟩
def GOV_PEND_HI_sites : Fld := ⟨0x3002c, 0, 16⟩
def GOV_STAT_cal_ok : Fld := ⟨0x30030, 0, 1⟩
def GOV_STAT_harrow_ok : Fld := ⟨0x30030, 1, 1⟩
def GOV_STAT_cold_park : Fld := ⟨0x30030, 2, 1⟩
def GOV_STAT_dither : Fld := ⟨0x30030, 3, 2⟩
def GOV_STAT_withdrawn : Fld := ⟨0x30030, 5, 4⟩
def GOV_STAT_rise : Fld := ⟨0x30030, 9, 1⟩
def GOV_STAT_cal_chg : Fld := ⟨0x30030, 10, 1⟩
def GOV_STAT_htr_budget : Fld := ⟨0x30030, 11, 1⟩
def GOV_STAT_dev_chg : Fld := ⟨0x30030, 12, 1⟩
def GOV_STAT_dom_evt : Fld := ⟨0x30030, 13, 1⟩
def GOV_STAT_tbl_err : Fld := ⟨0x30030, 14, 1⟩
def GOV_STAT_therm : Fld := ⟨0x30030, 15, 1⟩
def GOV_INT_EN_en : Fld := ⟨0x30034, 0, 5⟩
def GOV_HPWR_total_mw : Fld := ⟨0x30038, 0, 20⟩
def GOV_HPWR_SERVE_serve_mw : Fld := ⟨0x3003c, 0, 20⟩
def GOV_LIMIT_limit_mw : Fld := ⟨0x30040, 0, 20⟩
def GOV_THERM_therm_c : Fld := ⟨0x30044, 0, 8⟩
def GOV_CNT_DEM_count (src : Nat) : Fld := ⟨0x30050 + 4 * src, 0, 32⟩
def GOV_CNT_RISE_count : Fld := ⟨0x30060, 0, 32⟩
def GOV_STEP_HTR_limit (s : Nat) : Fld := ⟨0x30100 + 8 * s, 0, 9⟩
def GOV_STEP_HTR_dither (s : Nat) : Fld := ⟨0x30100 + 8 * s, 9, 2⟩
def GOV_STEP_HTR_cold_park (s : Nat) : Fld := ⟨0x30100 + 8 * s, 11, 1⟩
def GOV_STEP_HTR_cal_ok (s : Nat) : Fld := ⟨0x30100 + 8 * s, 12, 1⟩
def GOV_STEP_HTR_harrow_ok (s : Nat) : Fld := ⟨0x30100 + 8 * s, 13, 1⟩
def GOV_STEP_RATE_rate (s : Nat) : Fld := ⟨0x30104 + 8 * s, 0, 24⟩
def GOV_DEV_CMD_req : Fld := ⟨0x30200, 0, 2⟩
def GOV_DEV_CMD_go : Fld := ⟨0x30200, 31, 1⟩
def GOV_DEV_STAT_state : Fld := ⟨0x30204, 0, 3⟩
def GOV_DEV_STAT_refused : Fld := ⟨0x30204, 3, 1⟩
def GOV_DEV_STAT_park_timeout : Fld := ⟨0x30204, 4, 1⟩
def GOV_DEV_CFG_park_wait_ms : Fld := ⟨0x30208, 0, 14⟩
def GOV_DOM_STAT_on : Fld := ⟨0x30210, 0, 30⟩
def GOV_DOM_FALLOW_fallow : Fld := ⟨0x30214, 0, 30⟩
def GOV_DOM_FAIL_fail : Fld := ⟨0x30218, 0, 30⟩
def GOV_DOM_WAKE_woke : Fld := ⟨0x3021c, 0, 30⟩
def GOV_SITE_TEMP_temp (i : Nat) : Fld := ⟨0x30400 + 16 * i, 0, 16⟩
def GOV_SITE_TEMP_valid (i : Nat) : Fld := ⟨0x30400 + 16 * i, 16, 1⟩
def GOV_SITE_TS_NS_ns (i : Nat) : Fld := ⟨0x30404 + 16 * i, 0, 32⟩
def GOV_SITE_TS_SL_sec_low (i : Nat) : Fld := ⟨0x30408 + 16 * i, 0, 32⟩
def GOV_SITE_RATE_r2 (i : Nat) : Fld := ⟨0x3040c + 16 * i, 0, 16⟩
def GOV_SITE_RATE_rw (i : Nat) : Fld := ⟨0x3040c + 16 * i, 16, 16⟩
def GOV_THR_rate (i k : Nat) : Fld := ⟨0x30800 + 16 * i + 4 * k, 0, 16⟩
def GOV_THR_measure (i k : Nat) : Fld := ⟨0x30800 + 16 * i + 4 * k, 16, 1⟩
def GOV_THR_step (i k : Nat) : Fld := ⟨0x30800 + 16 * i + 4 * k, 17, 3⟩
def GOV_THR_en (i k : Nat) : Fld := ⟨0x30800 + 16 * i + 4 * k, 20, 1⟩
def GOV_SITE_LEVEL_demand (i : Nat) : Fld := ⟨0x30c00 + 4 * i, 0, 3⟩
def GOV_SITE_LEVEL_release (i : Nat) : Fld := ⟨0x30c00 + 4 * i, 3, 3⟩
def FLT_CTRL_serve : Fld := ⟨0x20000, 0, 1⟩
def FLT_CTRL_dark : Fld := ⟨0x20000, 1, 1⟩
def FLT_CTRL_intn_en : Fld := ⟨0x20000, 2, 1⟩
def FLT_CTRL_lock : Fld := ⟨0x20000, 3, 1⟩
def FLT_CTRL_enter : Fld := ⟨0x20000, 8, 1⟩
def FLT_CTRL_release : Fld := ⟨0x20000, 9, 1⟩
def FLT_STAT_safe : Fld := ⟨0x20004, 0, 1⟩
def FLT_STAT_dark_active : Fld := ⟨0x20004, 1, 1⟩
def FLT_STAT_cause : Fld := ⟨0x20004, 2, 3⟩
def FLT_STAT_cause_src : Fld := ⟨0x20004, 5, 6⟩
def FLT_STAT_self_fault : Fld := ⟨0x20004, 11, 1⟩
def FLT_STAT_alive : Fld := ⟨0x20004, 12, 1⟩
def FLT_STAT_fault_n : Fld := ⟨0x20004, 13, 1⟩
def FLT_STAT_release_refused : Fld := ⟨0x20004, 14, 1⟩
def FLT_STAT_locked : Fld := ⟨0x20004, 15, 1⟩
def FLT_SAFE_NS_ns : Fld := ⟨0x20008, 0, 32⟩
def FLT_SAFE_SL_sec_low : Fld := ⟨0x2000c, 0, 32⟩
def FLT_PEND_LO_pending : Fld := ⟨0x20010, 0, 32⟩
def FLT_PEND_HI_pending : Fld := ⟨0x20014, 0, 16⟩
def FLT_ACTIVE_LO_active : Fld := ⟨0x20018, 0, 32⟩
def FLT_ACTIVE_HI_active : Fld := ⟨0x2001c, 0, 16⟩
def FLT_ESC_LO_running : Fld := ⟨0x20020, 0, 32⟩
def FLT_ESC_HI_running : Fld := ⟨0x20024, 0, 16⟩
def FLT_ESCD_LO_escalated : Fld := ⟨0x20028, 0, 32⟩
def FLT_ESCD_HI_escalated : Fld := ⟨0x2002c, 0, 16⟩
def FLT_INT_EN_LO_en : Fld := ⟨0x20030, 0, 32⟩
def FLT_INT_EN_HI_en : Fld := ⟨0x20034, 0, 16⟩
def FLT_LOG_STAT_wptr : Fld := ⟨0x20040, 0, 8⟩
def FLT_LOG_STAT_wrapped : Fld := ⟨0x20040, 8, 1⟩
def FLT_LOG_STAT_merged : Fld := ⟨0x20040, 16, 16⟩
def FLT_SELF_errors : Fld := ⟨0x20044, 0, 32⟩
def FLT_SRC_CFG_severity (n : Nat) : Fld := ⟨0x20100 + 4 * n, 0, 3⟩
def FLT_SRC_CFG_esc (n : Nat) : Fld := ⟨0x20100 + 4 * n, 3, 14⟩
def FLT_CNT_count (n : Nat) : Fld := ⟨0x20200 + 4 * n, 0, 32⟩
def FLT_SUP_CTRL_auto_repair : Fld := ⟨0x20300, 0, 1⟩
def FLT_SUP_CTRL_repair_a : Fld := ⟨0x20300, 1, 1⟩
def FLT_SUP_CTRL_repair_b : Fld := ⟨0x20300, 2, 1⟩
def FLT_SUP_STAT_a_state : Fld := ⟨0x20304, 0, 3⟩
def FLT_SUP_STAT_b_state : Fld := ⟨0x20304, 3, 3⟩
def FLT_SUP_STAT_holder : Fld := ⟨0x20304, 6, 1⟩
def FLT_SUP_STAT_no_holder : Fld := ⟨0x20304, 7, 1⟩
def FLT_SUP_STAT_lease_left_us : Fld := ⟨0x20304, 8, 7⟩
def FLT_SUP_STAT_undecided : Fld := ⟨0x20304, 15, 1⟩
def FLT_SUP_CNT_MIS_count : Fld := ⟨0x20308, 0, 32⟩
def FLT_SUP_CNT_HAND_count : Fld := ⟨0x2030c, 0, 32⟩
def FLT_LOG0_source (e : Nat) : Fld := ⟨0x21000 + 16 * e, 0, 6⟩
def FLT_LOG0_severity (e : Nat) : Fld := ⟨0x21000 + 16 * e, 6, 3⟩
def FLT_LOG0_escalated (e : Nat) : Fld := ⟨0x21000 + 16 * e, 9, 1⟩
def FLT_LOG0_entered_safe (e : Nat) : Fld := ⟨0x21000 + 16 * e, 10, 1⟩
def FLT_LOG1_detail (e : Nat) : Fld := ⟨0x21004 + 16 * e, 0, 32⟩
def FLT_LOG2_ns (e : Nat) : Fld := ⟨0x21008 + 16 * e, 0, 32⟩
def FLT_LOG3_sec_low (e : Nat) : Fld := ⟨0x2100c + 16 * e, 0, 32⟩
def BUS_MODE_mode : Fld := ⟨0x90000, 0, 2⟩
def BUS_REMAP_remap : Fld := ⟨0x90004, 0, 1⟩
def BUS_HOST_FENCE_fences : Fld := ⟨0x90008, 0, 32⟩
def BUS_STARVE_starve_ns : Fld := ⟨0x9000c, 0, 12⟩
def BUS_QOS_qos (m : Nat) : Fld := ⟨0x90010 + 4 * m, 0, 4⟩
def BUS_CNT_UNASSIGNED_count : Fld := ⟨0x90040, 0, 32⟩
def BUS_CNT_ERR_count : Fld := ⟨0x90044, 0, 32⟩
def BUS_CNT_ABANDON_count : Fld := ⟨0x90048, 0, 32⟩
def BUS_ABANDON_LAST_requester : Fld := ⟨0x9004c, 0, 8⟩
def BUS_CONF_CFG_conf_rate : Fld := ⟨0x90050, 0, 16⟩
def BUS_CNT_CONFLICT_count (m : Nat) : Fld := ⟨0x90080 + 8 * m, 0, 32⟩
def BUS_CNT_BUSY_count (m : Nat) : Fld := ⟨0x90084 + 8 * m, 0, 32⟩
def BUS_SPM_PAR_word : Fld := ⟨0x900c0, 0, 20⟩
def BUS_CNT_PAR_count : Fld := ⟨0x900c4, 0, 32⟩
def BUS_HRW_CTRL_hrw_en : Fld := ⟨0x90100, 0, 1⟩
def BUS_HRW_CTRL_int_en : Fld := ⟨0x90100, 1, 2⟩
def BUS_HRW_CTRL_gap_us : Fld := ⟨0x90100, 16, 16⟩
def BUS_HRW_STAT_active : Fld := ⟨0x90104, 0, 1⟩
def BUS_HRW_STAT_fail : Fld := ⟨0x90104, 2, 1⟩
def BUS_HRW_STAT_log_full : Fld := ⟨0x90104, 3, 1⟩
def BUS_HRW_STAT_region : Fld := ⟨0x90104, 16, 15⟩
def BUS_HRW_CNT_PASS_count : Fld := ⟨0x90108, 0, 32⟩
def BUS_HRW_CNT_ABORT_count : Fld := ⟨0x9010c, 0, 32⟩
def BUS_HRW_CNT_SWEEP_count : Fld := ⟨0x90110, 0, 32⟩
def BUS_HRW_LOG_bank (i : Nat) : Fld := ⟨0x90140 + 4 * i, 0, 4⟩
def BUS_HRW_LOG_column (i : Nat) : Fld := ⟨0x90140 + 4 * i, 4, 9⟩
def BUS_HRW_LOG_valid (i : Nat) : Fld := ⟨0x90140 + 4 * i, 13, 1⟩
def BUS_HRW_LOG_hits (i : Nat) : Fld := ⟨0x90140 + 4 * i, 16, 16⟩
def BUS_REPAIR_LO_col0 (b : Nat) : Fld := ⟨0x90200 + 8 * b, 0, 9⟩
def BUS_REPAIR_LO_valid0 (b : Nat) : Fld := ⟨0x90200 + 8 * b, 9, 1⟩
def BUS_REPAIR_LO_col1 (b : Nat) : Fld := ⟨0x90200 + 8 * b, 16, 9⟩
def BUS_REPAIR_LO_valid1 (b : Nat) : Fld := ⟨0x90200 + 8 * b, 25, 1⟩
def BUS_REPAIR_HI_col2 (b : Nat) : Fld := ⟨0x90204 + 8 * b, 0, 9⟩
def BUS_REPAIR_HI_valid2 (b : Nat) : Fld := ⟨0x90204 + 8 * b, 9, 1⟩
def BUS_REPAIR_HI_col3 (b : Nat) : Fld := ⟨0x90204 + 8 * b, 16, 9⟩
def BUS_REPAIR_HI_valid3 (b : Nat) : Fld := ⟨0x90204 + 8 * b, 25, 1⟩
def BUS_REPAIR_CMD_bank : Fld := ⟨0x90300, 0, 4⟩
def BUS_REPAIR_CMD_entry : Fld := ⟨0x90300, 4, 2⟩
def BUS_REPAIR_CMD_column : Fld := ⟨0x90300, 6, 9⟩
def BUS_REPAIR_CMD_go : Fld := ⟨0x90300, 31, 1⟩
def BUS_REPAIR_STAT_busy : Fld := ⟨0x90304, 0, 1⟩
def BUS_REPAIR_STAT_result : Fld := ⟨0x90304, 1, 2⟩
def BUS_REPAIR_PEND_LO_col0 (b : Nat) : Fld := ⟨0x90280 + 8 * b, 0, 9⟩
def BUS_REPAIR_PEND_LO_valid0 (b : Nat) : Fld := ⟨0x90280 + 8 * b, 9, 1⟩
def BUS_REPAIR_PEND_LO_col1 (b : Nat) : Fld := ⟨0x90280 + 8 * b, 16, 9⟩
def BUS_REPAIR_PEND_LO_valid1 (b : Nat) : Fld := ⟨0x90280 + 8 * b, 25, 1⟩
def BUS_REPAIR_PEND_HI_col2 (b : Nat) : Fld := ⟨0x90284 + 8 * b, 0, 9⟩
def BUS_REPAIR_PEND_HI_valid2 (b : Nat) : Fld := ⟨0x90284 + 8 * b, 9, 1⟩
def BUS_REPAIR_PEND_HI_col3 (b : Nat) : Fld := ⟨0x90284 + 8 * b, 16, 9⟩
def BUS_REPAIR_PEND_HI_valid3 (b : Nat) : Fld := ⟨0x90284 + 8 * b, 25, 1⟩
def DRC_CTRL_repair_en : Fld := ⟨0xb0000, 0, 1⟩
def DRC_CTRL_chk_ms : Fld := ⟨0xb0000, 8, 8⟩
def DRC_STAT_d0_off : Fld := ⟨0xb0004, 0, 1⟩
def DRC_STAT_d1_off : Fld := ⟨0xb0004, 1, 1⟩
def DRC_CNT_CRC_count (d : Nat) : Fld := ⟨0xb0010 + 4 * d, 0, 32⟩
def DRC_CNT_GEN_count : Fld := ⟨0xb0018, 0, 32⟩
def DRC_CNT_STALE_count : Fld := ⟨0xb001c, 0, 32⟩
def DRC_CNT_REPAIR_count : Fld := ⟨0xb0020, 0, 32⟩
def DRC_CNT_NOCOPY_count : Fld := ⟨0xb0024, 0, 32⟩
def DRC_LAST_TILE_addr : Fld := ⟨0xb0028, 0, 32⟩
def DRC_CNT_CHECKED_count : Fld := ⟨0xb002c, 0, 32⟩
def BPM_CTRL_low_en : Fld := ⟨0xa0000, 0, 4⟩
def BPM_STAT_ready : Fld := ⟨0xa0004, 0, 1⟩
def BPM_STAT_d0_off : Fld := ⟨0xa0004, 1, 1⟩
def BPM_STAT_d1_off : Fld := ⟨0xa0004, 2, 1⟩
def BPM_STAT_low : Fld := ⟨0xa0004, 4, 4⟩
def BPM_CNT_DFREE_count : Fld := ⟨0xa0010, 0, 32⟩
def BPM_CNT_OWNER_count : Fld := ⟨0xa0014, 0, 32⟩
def BPM_CNT_RECLAIM_count : Fld := ⟨0xa0018, 0, 32⟩
def BPM_PEEK_handle : Fld := ⟨0xa0040, 0, 32⟩
def BPM_PEEK_RES_owner : Fld := ⟨0xa0044, 0, 8⟩
def BPM_PEEK_RES_tag : Fld := ⟨0xa0044, 8, 8⟩
def BPM_PEEK_RES_allocated : Fld := ⟨0xa0044, 16, 1⟩
def BPM_PEEK_RES_offline : Fld := ⟨0xa0044, 17, 1⟩
def BPM_POOL_FREE_free (p : Nat) : Fld := ⟨0xa0100 + 16 * p, 0, 14⟩
def BPM_POOL_FREE_low_water (p : Nat) : Fld := ⟨0xa0100 + 16 * p, 16, 14⟩
def BPM_POOL_CFG_low_thr (p : Nat) : Fld := ⟨0xa0104 + 16 * p, 0, 14⟩
def BPM_CNT_ALLOC_count (p : Nat) : Fld := ⟨0xa0108 + 16 * p, 0, 32⟩
def BPM_CNT_EMPTY_count (p : Nat) : Fld := ⟨0xa010c + 16 * p, 0, 32⟩
def BPM_REQ_SIZE_size (sub : Nat) : Fld := ⟨0xa1000 + 32 * sub, 0, 17⟩
def BPM_ALLOC_handle (sub : Nat) : Fld := ⟨0xa1004 + 32 * sub, 0, 32⟩
def BPM_FREE_handle (sub : Nat) : Fld := ⟨0xa1008 + 32 * sub, 0, 32⟩
def BPM_GIVE_TO_requester (sub : Nat) : Fld := ⟨0xa100c + 32 * sub, 0, 8⟩
def BPM_GIVE_handle (sub : Nat) : Fld := ⟨0xa1010 + 32 * sub, 0, 32⟩
def BPM_RESULT_code (sub : Nat) : Fld := ⟨0xa1014 + 32 * sub, 0, 3⟩
def DMA_CTRL_enable : Fld := ⟨0xe0000, 0, 1⟩
def DMA_DONE_done : Fld := ⟨0xe0004, 0, 16⟩
def DMA_ERR_halted : Fld := ⟨0xe0008, 0, 16⟩
def DMA_INT_EN_done_en : Fld := ⟨0xe000c, 0, 16⟩
def DMA_INT_EN_err_en : Fld := ⟨0xe000c, 16, 16⟩
def DMA_CH_BASE_addr (c : Nat) : Fld := ⟨0xe0100 + 32 * c, 0, 32⟩
def DMA_CH_CFG_entries (c : Nat) : Fld := ⟨0xe0104 + 32 * c, 0, 11⟩
def DMA_CH_HEAD_head (c : Nat) : Fld := ⟨0xe0108 + 32 * c, 0, 10⟩
def DMA_CH_TAIL_tail (c : Nat) : Fld := ⟨0xe010c + 32 * c, 0, 10⟩
def DMA_CH_CTRL_resume (c : Nat) : Fld := ⟨0xe0110 + 32 * c, 0, 1⟩
def DMA_CH_CTRL_reset (c : Nat) : Fld := ⟨0xe0110 + 32 * c, 1, 1⟩
def DMA_CH_STAT_busy (c : Nat) : Fld := ⟨0xe0114 + 32 * c, 0, 1⟩
def DMA_CH_STAT_halted (c : Nat) : Fld := ⟨0xe0114 + 32 * c, 1, 1⟩
def DMA_CH_STAT_result (c : Nat) : Fld := ⟨0xe0114 + 32 * c, 2, 3⟩
def DMA_CH_CNT_count (c : Nat) : Fld := ⟨0xe0118 + 32 * c, 0, 32⟩
def DMA_MSIX_word (v j : Nat) : Fld := ⟨0xef000 + 16 * v + 4 * j, 0, 32⟩
def DMA_MSIX_PEND_pending : Fld := ⟨0xef800, 0, 32⟩
def ID_VENDOR_vendor : Fld := ⟨0x0, 0, 32⟩
def ID_PART_part : Fld := ⟨0x4, 0, 16⟩
def ID_PART_variant : Fld := ⟨0x4, 16, 1⟩
def ID_REV_minor : Fld := ⟨0x8, 0, 8⟩
def ID_REV_major : Fld := ⟨0x8, 8, 8⟩
def ID_JTAG_idcode : Fld := ⟨0xc, 0, 32⟩
def ID_UNIT_LO_unit : Fld := ⟨0x10, 0, 32⟩
def ID_UNIT_HI_unit : Fld := ⟨0x14, 0, 32⟩
def ID_FUSE_STAT_sensed : Fld := ⟨0x18, 0, 1⟩
def ID_FUSE_STAT_seal : Fld := ⟨0x18, 1, 1⟩
def ID_FUSE_STAT_slot_prog : Fld := ⟨0x18, 2, 4⟩
def ID_FUSE_STAT_slot_rev : Fld := ⟨0x18, 6, 4⟩
def ID_FUSE_STAT_ecc_fixed : Fld := ⟨0x18, 10, 1⟩
def ID_FUSE_STAT_ecc_bad : Fld := ⟨0x18, 11, 1⟩
def ID_PUBKEY_key (i : Nat) : Fld := ⟨0x20 + 4 * i, 0, 32⟩
def ID_EPOCHS_remaining : Fld := ⟨0x60, 0, 13⟩
def BOOT_STAT_state : Fld := ⟨0x10000, 0, 3⟩
def BOOT_STAT_held : Fld := ⟨0x10000, 3, 1⟩
def BOOT_STAT_busy : Fld := ⟨0x10000, 4, 1⟩
def BOOT_STAT_boot_mode : Fld := ⟨0x10000, 5, 2⟩
def BOOT_STAT_plan : Fld := ⟨0x10000, 7, 1⟩
def BOOT_HOLD_hold : Fld := ⟨0x10004, 0, 1⟩
def BOOT_HOLD_hold_ds : Fld := ⟨0x10004, 16, 10⟩
def BOOT_RST_warm : Fld := ⟨0x10008, 0, 1⟩
def BOOT_RST_sup_reset : Fld := ⟨0x10008, 1, 1⟩
def BOOT_APT_region : Fld := ⟨0x1000c, 0, 4⟩
def BOOT_FW_ADDR_addr : Fld := ⟨0x10010, 0, 32⟩
def BOOT_PLAN_ADDR_addr : Fld := ⟨0x10014, 0, 32⟩
def BOOT_CMD_op : Fld := ⟨0x10018, 0, 4⟩
def BOOT_CMD_mask : Fld := ⟨0x10018, 4, 2⟩
def BOOT_CMD_go : Fld := ⟨0x10018, 31, 1⟩
def BOOT_RESULT_code : Fld := ⟨0x1001c, 0, 8⟩
def BOOT_RESULT_section : Fld := ⟨0x1001c, 8, 8⟩
def BOOT_RESULT_tile : Fld := ⟨0x1001c, 16, 16⟩
def BOOT_HOLD_STAT_windows : Fld := ⟨0x10020, 0, 18⟩
def BOOT_HOLD_STAT_expired : Fld := ⟨0x10020, 18, 1⟩
def BOOT_HOLD_LEFT_left_ms : Fld := ⟨0x10024, 0, 16⟩
def BOOT_ENTRY_entry : Fld := ⟨0x10028, 0, 32⟩
def BOOT_DOM_RST_reset : Fld := ⟨0x1002c, 0, 30⟩
def BOOT_T_READY_us : Fld := ⟨0x10030, 0, 32⟩
def BOOT_FW_DIGEST_digest (i : Nat) : Fld := ⟨0x10040 + 4 * i, 0, 32⟩
def BOOT_PLAN_DIGEST_digest (i : Nat) : Fld := ⟨0x10060 + 4 * i, 0, 32⟩
def SEC_FUSE_CMD_op : Fld := ⟨0xf0000, 0, 4⟩
def SEC_FUSE_CMD_slot : Fld := ⟨0xf0000, 4, 2⟩
def SEC_FUSE_CMD_go : Fld := ⟨0xf0000, 31, 1⟩
def SEC_FUSE_STAT_busy : Fld := ⟨0xf0004, 0, 1⟩
def SEC_FUSE_STAT_result : Fld := ⟨0xf0004, 1, 3⟩
def SEC_FUSE_DATA_hash (i : Nat) : Fld := ⟨0xf0010 + 4 * i, 0, 32⟩
def SEC_OWNER_hash (s i : Nat) : Fld := ⟨0xf0040 + 32 * s + 4 * i, 0, 32⟩
def SEC_ATT_CMD_go : Fld := ⟨0xf0100, 0, 1⟩
def SEC_ATT_STAT_busy : Fld := ⟨0xf0104, 0, 1⟩
def SEC_ATT_STAT_open : Fld := ⟨0xf0104, 1, 1⟩
def SEC_ATT_STAT_result : Fld := ⟨0xf0104, 2, 3⟩
def SEC_ATT_STAT_left : Fld := ⟨0xf0104, 16, 11⟩
def SEC_ATT_ADDR_addr : Fld := ⟨0xf0108, 0, 32⟩
def SEC_ATT_EPOCH_epoch : Fld := ⟨0xf010c, 0, 12⟩
def SEC_ATT_NONCE_nonce (i : Nat) : Fld := ⟨0xf0110 + 4 * i, 0, 32⟩
def SEC_DBG_CTRL_dbg_en : Fld := ⟨0xf0200, 0, 1⟩
def SEC_DBG_CTRL_sealed : Fld := ⟨0xf0200, 1, 1⟩
def SEC_CNT_DBG_count : Fld := ⟨0xf0204, 0, 32⟩
def GLN_CTRL_tb : Fld := ⟨0x80000, 0, 2⟩
def GLN_CTRL_done_int_en : Fld := ⟨0x80000, 2, 1⟩
def GLN_CTRL_ovf_int_en : Fld := ⟨0x80000, 3, 1⟩
def GLN_STAT_done : Fld := ⟨0x80004, 0, 8⟩
def GLN_STAT_ovf : Fld := ⟨0x80004, 8, 8⟩
def GLN_STAT_armed : Fld := ⟨0x80004, 16, 8⟩
def GLN_FLT_MASK_LO_mask : Fld := ⟨0x80008, 0, 32⟩
def GLN_FLT_MASK_HI_mask : Fld := ⟨0x8000c, 0, 16⟩
def GLN_TRIGOUT_src (n : Nat) : Fld := ⟨0x80010 + 4 * n, 0, 4⟩
def GLN_TRIGOUT_width (n : Nat) : Fld := ⟨0x80010 + 4 * n, 4, 8⟩
def GLN_BUS_CTRL_drive (n : Nat) : Fld := ⟨0x80020 + 4 * n, 0, 1⟩
def GLN_BUS_CTRL_chan (n : Nat) : Fld := ⟨0x80020 + 4 * n, 1, 3⟩
def GLN_BUS_CTRL_width (n : Nat) : Fld := ⟨0x80020 + 4 * n, 4, 8⟩
def GLN_CNT_OVF_count : Fld := ⟨0x80030, 0, 32⟩
def GLN_CH_SRC_window (n : Nat) : Fld := ⟨0x80100 + 64 * n, 0, 5⟩
def GLN_CH_SRC_chan (n : Nat) : Fld := ⟨0x80100 + 64 * n, 5, 11⟩
def GLN_CH_SRC_range (n : Nat) : Fld := ⟨0x80100 + 64 * n, 16, 1⟩
def GLN_CH_SRC_anchor (n : Nat) : Fld := ⟨0x80100 + 64 * n, 17, 1⟩
def GLN_CH_TRIG_src (n : Nat) : Fld := ⟨0x80104 + 64 * n, 0, 5⟩
def GLN_CH_TRIG_edge (n : Nat) : Fld := ⟨0x80104 + 64 * n, 5, 2⟩
def GLN_CH_TRIG_out_filter (n : Nat) : Fld := ⟨0x80104 + 64 * n, 7, 1⟩
def GLN_CH_TRIG_out (n : Nat) : Fld := ⟨0x80104 + 64 * n, 8, 8⟩
def GLN_CH_TRIG_win_window (n : Nat) : Fld := ⟨0x80104 + 64 * n, 16, 5⟩
def GLN_CH_TRIG_win_chan (n : Nat) : Fld := ⟨0x80104 + 64 * n, 21, 11⟩
def GLN_CH_DEPTH_pre (n : Nat) : Fld := ⟨0x80108 + 64 * n, 0, 16⟩
def GLN_CH_DEPTH_post (n : Nat) : Fld := ⟨0x80108 + 64 * n, 16, 16⟩
def GLN_CH_MODE_repeat (n : Nat) : Fld := ⟨0x8010c + 64 * n, 0, 8⟩
def GLN_CH_MODE_give_to (n : Nat) : Fld := ⟨0x8010c + 64 * n, 8, 8⟩
def GLN_CH_CMD_arm (n : Nat) : Fld := ⟨0x80110 + 64 * n, 0, 1⟩
def GLN_CH_CMD_stop (n : Nat) : Fld := ⟨0x80110 + 64 * n, 1, 1⟩
def GLN_CH_CMD_force (n : Nat) : Fld := ⟨0x80110 + 64 * n, 2, 1⟩
def GLN_CH_STAT_state (n : Nat) : Fld := ⟨0x80114 + 64 * n, 0, 3⟩
def GLN_CH_STAT_refused (n : Nat) : Fld := ⟨0x80114 + 64 * n, 3, 1⟩
def GLN_CH_STAT_reason (n : Nat) : Fld := ⟨0x80114 + 64 * n, 4, 3⟩
def GLN_CH_STAT_done_depth (n : Nat) : Fld := ⟨0x80114 + 64 * n, 8, 4⟩
def GLN_CH_STAT_left (n : Nat) : Fld := ⟨0x80114 + 64 * n, 16, 8⟩
def GLN_CH_DONE_handle (n : Nat) : Fld := ⟨0x80118 + 64 * n, 0, 32⟩
def GLN_CH_CNT_REC_count (n : Nat) : Fld := ⟨0x8011c + 64 * n, 0, 32⟩
def GLN_CH_CNT_EXTRA_count (n : Nat) : Fld := ⟨0x80120 + 64 * n, 0, 32⟩

end Sys2Proof.Machine
end

