-- ==== Sys2Proof/Machine/State.lean ====
section
/-! DEFINITION. The machine's state as plain data: every register (in one store keyed by BAR0 offset), and every
buffer, queue, engine state, timer and pin the spec gives the module, in one part for each group of chapters; the
reasons a command can stop; and the state right after the release of the AON reset (`State.reset`). Times are
absolute, in units of 100 ps since POR, unless said otherwise. -/
namespace Sys2Proof.Machine

/-- What an access returned. Codes: 0 OK, 1 BUSY, 2 ERR, 3 supervisor access fault. -/
structure Resp where
  data : Nat
  code : Nat
  deriving DecidableEq, Repr

/-- A circuit (R76, R78, R79). -/
structure Circuit where
  inp    : Nat
  out    : Nat
  mid    : Nat
  holder : Nat                -- tenant
  byRot  : Bool := false
  deriving DecidableEq, Repr

/-- A map of the mesh (R78): circuits in rising order of output, and the 1,920 cell states (1 is CROSS, cell j*128+r). -/
structure MapSt where
  circs : List Circuit := []
  cells : BitVec 1920 := 0
  deriving DecidableEq, Repr

/-- The population modes (Table 2-6). -/
inductive PopMode where
  | full | p128 | p64
  deriving DecidableEq, Repr

/-- Sheaf operations (Table 3-4). -/
inductive SheafOp where
  | connect (inp out : Nat)
  | release (out : Nat)
  | move (inp outOld outNew : Nat)
  deriving DecidableEq, Repr

/-- The AT flag: time base and instant, 2^-40 ns. -/
structure AtSpec where
  tb   : Nat
  inst : Nat
  deriving DecidableEq, Repr

/-- A sheaf as the request engine holds it (R83, R86; chapter 10). -/
structure Sheaf where
  uid       : Nat             -- order of reception (R135)
  tenant    : Nat
  port      : Nat             -- Ethernet port it came by
  peer      : Nat             -- its source address and UDP port, as a label
  seq       : Nat
  slot      : Nat             -- key slot
  ops       : List SheafOp
  at_       : Option AtSpec := none
  allowMove : Bool := false
  fence     : Bool := false
  strict    : Bool := false
  maxDefer  : Nat := 0        -- ns, 0xFFFFFFFF no limit (Table 10-7)
  green     : Bool := true    -- meter colour, green or yellow
  arrival   : Nat := 0        -- instant of reception, 100 ps
  finish    : Nat := 0        -- finish time of the fair queue (R352)
  handle    : Option Nat := none   -- its buffer (R451)
  v6        : Bool := false        -- the request came over IPv6
  arrTb     : Nat := 0             -- reception on the AT flag's base, 2^-40 ns (R87)
  headAt    : Nat := 0             -- instant it entered its queue (R353)
  deriving DecidableEq, Repr

/-- A circuit moved by a sheaf (R95). -/
structure Moved where
  inp : Nat
  out : Nat
  old : Nat
  new : Nat
  deriving DecidableEq, Repr

/-- An accepted sheaf (R121). -/
structure Accepted where
  sheaf    : Sheaf
  tick     : Nat              -- earliest tick, CK_TICK edges since POR (R118)
  unshaped : Nat              -- tick it would take with energy ignored (R140)
  est      : Nat              -- estimated cost, 10^-4 pJ (R137)
  late     : Bool
  fw       : Bool             -- solved by firmware
  moved    : List Moved
  movedC   : List Circuit     -- the circuits it moves, on their new middle rows
  added    : List Circuit     -- circuits it adds
  removed  : List Circuit     -- circuits it removes
  accAt    : Nat              -- acceptance, 100 ps
  deriving DecidableEq, Repr

/-- The sheaf at the solver (R91). -/
structure Solving where
  sheaf : Sheaf
  fw    : Bool                -- the firmware is solving it (R100)
  since : Nat                 -- start of the present solve (R98, R540)
  dead  : Nat := 0            -- reason it is refused with when the solve ends (R177, R348), 0 none
  deriving DecidableEq, Repr

/-- Verify outcomes (Table 4-3). -/
inductive Verdict where
  | pass | unseen | fail
  deriving DecidableEq, Repr

/-- What a pair reads for one transition between the close of the membership and t0 (R244, R245, R246). -/
structure WaveRead where
  win  : Nat
  slot : Nat
  st   : Bool                 -- destination state
  pts  : List Int             -- Q2.14 points
  vpi  : Int                  -- 100 uV
  cEnd : Option Int := none   -- code of R114, fixed at t0
  deriving DecidableEq, Repr

/-- What a commit does: members, the map after it, its changed circuits and its released outputs. -/
structure CommitPlan where
  members  : List Accepted
  rot      : Option Nat       -- slot, for a rotation's commit
  dark     : Bool             -- a stop dark: releases without verification (R186)
  tick     : Nat              -- planned tick T
  cost     : Nat              -- actual cost, 10^-4 pJ (R137)
  before   : MapSt
  after    : MapSt
  changed  : List Circuit     -- in list order
  affected : List Nat         -- affected outputs (R110)
  waves    : List WaveRead := []   -- the waveform points read at the close (R244)
  ver      : Word := 0        -- CMT_VER_CFG at the close (R145)
  rep      : Nat := 0         -- CMT_CTRL.report_tb at the close (R145)
  deriving DecidableEq, Repr

/-- The phases of the timeline of Table 4-1. -/
inductive Phase where
  | fired | routed | strobed | decided | opened
  deriving DecidableEq, Repr

/-- The verify record of one changed circuit (Table 4-15): its outcome, and what its urgent conversions showed, in 0.25 dB
below +13 dBm. -/
structure VerRec where
  out  : Nat
  outA : Nat
  outB : Nat
  verdict : Verdict
  deriving DecidableEq, Repr

/-- The commit between t0 and completion. -/
structure Commit where
  plan  : CommitPlan
  t0    : Nat                 -- tick
  phase : Phase
  wasOpen : List Nat          -- affected outputs open at t0
  times   : List Nat          -- computed time of t0 on TB0 to TB3 (R116, R120)
  vers  : List VerRec
  inPow : List (Nat × Nat) := []   -- input readings of the changed circuits, planes A and B, at t0 (R128)
  deriving DecidableEq, Repr

/-- The states of a time base (Table 5-1). -/
inductive TbState where
  | free | acquire | locked | holdover
  deriving DecidableEq, Repr

/-- One time base (R147, R148): its value in units of 2^-40 ns, and what disciplining it needs. -/
structure TBase where
  val       : Nat := 0        -- 2^-40 ns since the scale's zero
  st        : TbState := .free
  cause     : Nat := 0        -- TIME_TB_STAT.cause
  slewRem   : Int := 0        -- offset not yet absorbed, 2^-40 ns (R153)
  holdStart : Nat := 0        -- instant of the last entry to HOLDOVER
  holdEnd   : Nat := 0        -- instant at which the last HOLDOVER was left
  longDone  : Bool := false   -- FS_HOLDOVER_LONG raised in this HOLDOVER (R158)
  servoAt   : Nat := 0        -- last servo write, or entry to the watched state (R155)
  ppsAt     : Nat := 0        -- last accepted 1PPS edge, or entry to LOCKED (R156)
  deriving DecidableEq, Repr

/-- The clock sub-state: the only part of State that elapsing time changes. -/
structure Clock where
  now : Nat := 0              -- 100 ps units since POR
  tb0 : TBase := {}
  tb1 : TBase := {}
  tb2 : TBase := {}
  tb3 : TBase := {}
  deriving DecidableEq, Repr

/-- An entry of a transmit timestamp queue (R164). -/
structure TsEntry where
  id  : Nat
  tb  : Nat
  val : Nat
  deriving DecidableEq, Repr

/-- Rotation state (R175 to R187). -/
inductive RotState where
  | admitted | running | suspended | stopping
  deriving DecidableEq, Repr

/-- The rotation in operation. Times are on the bank's base, 2^-40 ns. -/
structure RotRun where
  table   : Nat
  st      : RotState
  base    : Nat               -- base time of the operating bank in force
  slot    : Nat               -- slot in force
  next    : Nat               -- next boundary
  nextSlot : Nat              -- the slot that begins at it
  stopAt  : Option (Nat × Bool) := none   -- accepted stop: boundary, dark
  swapAt  : Option Nat := none            -- boundary of an armed swap (R181)
  fellAt  : Option Nat := none            -- earliest resume time (R184)
  cut     : Bool := false                 -- the present cycle was cut short by a re-phase (R180)
  deriving DecidableEq, Repr

/-- A loop beside its record (R193, R206 to R215, R220): codes are Q1.15 as integers. -/
structure LoopX where
  c       : Int := 0          -- centre in force: of the last update, or the code a waveform ended on (R114)
  restart : Bool := true      -- the next update is the first after a start (R211)
  staged  : List Int := []    -- quarter codes staged in this frame (R216)
  active  : List Int := []    -- quarter codes pushed in this frame
  q0      : Option Nat := none   -- commit tick whose quick interval it is in (R208)
  lateS   : Bool := false     -- its dither starts at quick quarter 1 (Table 6-5)
  qa      : Int := 0          -- dither amplitude on the quick grid
  post    : Nat := 0          -- frames until normal updates resume after a quick interval (R215)
  heldR   : Bool := false     -- FS_ELEM_RANGE raised at DEGRADE (Table 12-2)
  heldS   : Bool := false     -- FS_SAT raised at DEGRADE
  doneAt  : Option Nat := none   -- frame boundary of the frame whose normal update was made or missed (R193, R195)
  qn      : Nat := 0          -- quick updates made or missed in this quick interval (R208)
  qlate   : Bool := false     -- the last of them was late: nothing is pushed until the next (R195)
  qd      : Nat := 0          -- dither scaling latched at its last quick quarter (R373)
  cfgF    : Word := 0x04022C00   -- PLOT_LOOP_CFG in force: that of the last update (R231)
  bindF   : Word := 0x00FFFFFF   -- PLOT_LOOP_BIND in force
  limF    : Word := 0x7FFF8000   -- PLOT_LOOP_LIM in force
  mdl     : Bool := false     -- the last update left it in MODEL (Table 6-16)
  deriving DecidableEq, Repr

/-- A trace beside its registers (R228, R229). -/
structure TrcX where
  left : Nat := 0             -- entries still to be written after the trigger
  mark : Bool := false        -- the next entry is the first at or after the trigger
  cnt  : Nat := 0             -- updates of selected loops, for the decimation
  deriving DecidableEq, Repr

/-- An engine pair beside its registers (R222 to R227). -/
structure EngX where
  start  : Bool := false      -- engine 0 takes the lease at the next boundary (R224)
  rep    : Nat := 0           -- engines to be reset at the next boundary by the collector (Table 12-2)
  frozen : Option (AMap (BitVec 32)) := none   -- engine 0's records since it stopped updating
  pushAt : Nat := 0           -- instant from which the holder pushes: after a takeover the next frame boundary (Table 6-12)
  deriving DecidableEq, Repr

/-- A drill channel beside its registers (R239 to R262). Codes are Q1.15 as integers; element codes for RT. -/
structure Chan where
  queue   : List Int := []    -- codes waiting, head first, at most 4 (R239)
  qAt     : List Nat := []    -- instants from which they can be popped, head first (R240)
  wave    : List Int := []    -- waveform points still to be taken, head first (R246)
  wcut    : Bool := false     -- a test play (R248)
  target  : Int := 0          -- latest popped code (R255)
  ticks   : Nat := 0          -- code ticks since the last limiter step (R255)
  fed     : Int := 0          -- element code fed to the modulator at the last code tick
  hold    : Option Nat := none  -- start of a deglitch hold (R249)
  held    : Int := 0          -- output code during the hold
  rangeL  : Bool := false     -- range in force: L (R252)
  seg     : Nat := 0          -- segment mode in force (R257, R260)
  bothBad : Bool := false     -- both segments failed: both clamps closed (R259)
  seed    : Nat := 0          -- pops until a seed code is taken; 0 none waits (R264)
  tickAt  : Nat := 0          -- earliest instant of its next code tick
  otr     : Int := 0          -- output offset trim in force (R235, R304)
  deriving DecidableEq, Repr

/-- A sensing channel beside its registers (R274 to R280, R282, R291, R292): readings are Q1.15. -/
structure SnsX where
  smp   : List (Nat × Int) := []   -- normal samples, by the instant of their window's end in 12.5 us, newest first
  qs    : List (Nat × Int) := []   -- quick samples, by 16 times the commit tick and the quarter, newest first (R278)
  grant : Bool := false       -- holds a quick grant (R279)
  rfail : Option Nat := none  -- instant its reserve electrode failed (R292)
  pw    : Option Int := none  -- the power its comparator last reported, 0.01 dBm (R282)
  left  : Bool := false       -- it left its band and has not returned since (R282)
  bias  : Int := 0            -- bias trim under which its present window integrates (R304)
  deriving DecidableEq, Repr

/-- A conversion that waits at a slice (R275, R276). -/
structure Conv where
  cls  : Nat                  -- 0 urgent, 1 quick, 2 normal (Table 8-4)
  chan : Nat                  -- its channel; 4096 and 4097 the zero and the high reference of the slice (R285)
  due  : Nat                  -- instant its hold cell is due; no urgent conversion is due
  rank : Nat                  -- its place among those of one class and one due instant
  at_  : Nat                  -- instant of the request
  key  : Nat                  -- the sample it yields: by window end or by quick quarter
  isG1 : Bool                 -- range (R271)
  raw  : Nat
  val  : Int                  -- the reading that the raw code stands for (R272)
  deriving DecidableEq, Repr

/-- The queue of a slice (R276). -/
structure ConvQ where
  free : Nat := 0             -- end of the conversion that began last
  wait : List Conv := []      -- in order of class, due instant and rank
  deriving DecidableEq, Repr

/-- The slices of a window beside their registers (R285 to R289, R303). -/
structure SlcX where
  refCal   : List (Nat × Nat) := []   -- calibrated reference values, zero and high, by slice
  refNext  : Option (List (Nat × Nat)) := none   -- values in force from the next frame boundary
  bad      : List Nat := []   -- slices whose last reference check failed
  two      : List Nat := []   -- slices that failed it in two consecutive frames
  failPend : List Nat := []   -- slices failed since the last frame boundary, for the spare to carry
  deadPend : List Nat := []   -- slices failed since then with no slice left
  dead     : List Nat := []   -- slices whose channels read 0 (R289)
  blank    : List Nat := []   -- slices whose channels' loops make no update in this frame (R286)
  bgOn     : Option Nat := none   -- slice of a calibration turn in progress (R287)
  bgDone   : Bool := false    -- it has finished and waits for the next frame boundary
  bgNext   : Nat := 0         -- slice of the next turn
  bgAt     : Nat := 0         -- start of the last turn
  deriving DecidableEq, Repr

/-- A mark of an element under calibration (R310): when it was accepted, and whether R314 has raised for it. -/
structure CalMark where
  at_  : Nat
  long : Bool := false
  deriving DecidableEq, Repr

/-- A TELEM record (Table 10-11): code, port, a, b, the time it reports and the instant it was queued. -/
structure TelemRec where
  code : Nat
  port : Nat
  a    : Nat
  b    : Nat
  time : Nat                  -- 2^-40 ns on telem_tb
  at_  : Nat                  -- 100 ps
  deriving DecidableEq, Repr

/-- The body of a message that leaves the module (Tables 10-9 to 10-13, R329). -/
inductive MsgBody where
  | sheafRsp (reason index part parts : Nat) (committed late deferLate fw : Bool)
      (moved : List Moved) (verify : List VerRec) (time cseq : Nat)
  | queryRsp (reason part parts kind stateSeq : Nat) (records : List (List Nat))
  | telem (tseq lost : Nat) (records : List TelemRec)
  | rotRsp (code table slot mapResult start : Nat) (late : Bool)
  | heartbeat (state step tbs rot tb0 cseq depth : Nat)
  deriving DecidableEq, Repr

/-- A message of REQ that waits at a port (R329): tenant and key slot, addressee (source of the request it answers as one number,
and whether that is IPv6; none for the report address), the seq it answers, its body, and a buffer to free once it has left. -/
structure Msg where
  port   : Nat
  tenant : Nat
  slot   : Nat
  peer   : Option (Nat × Bool) := none
  refSeq : Nat := 0
  body   : MsgBody
  handle : Option Nat := none
  deriving DecidableEq, Repr

/-- A frame that left a port, from its destination MAC to before the FCS. -/
structure Sent where
  port : Nat
  data : List Nat
  deriving DecidableEq, Repr

/-- A URP message that passed the checks of Table 10-14 (R344): what the request engine works on. -/
structure Urp where
  port    : Nat
  peer    : Nat               -- its source MAC, IP address and UDP port, as one number
  v6      : Bool
  type    : Nat               -- Table 10-6
  tenant  : Nat
  pre     : Nat               -- pre_colour
  slot    : Nat               -- key slot
  seq     : Nat
  body    : List Nat
  arrival : Nat               -- instant of reception, 100 ps
  times   : List Nat          -- what TB0 to TB3 showed then, 2^-40 ns
  deriving DecidableEq, Repr

/-- A buffer of the pools (R450). -/
structure Buf where
  alloc : Bool := false
  owner : Nat := 0            -- requester ID
  tag   : Nat := 0
  deriving DecidableEq, Repr

/-- A capture channel beside its registers (R500 to R512). Instants are of the module's clock. -/
structure GlnX where
  buf    : Option Nat := none   -- the buffer it owns
  fillAt : Nat := 0             -- instant from which samples are written
  src    : Nat := 0             -- GLN_CH_SRC at the arm
  trig   : Nat := 0             -- GLN_CH_TRIG at the arm
  depth  : Nat := 0             -- GLN_CH_DEPTH at the arm
  mode   : Nat := 0             -- GLN_CH_MODE at the arm
  code   : Nat := 0             -- trigger code of the record
  forced : Bool := false        -- by `force`
  edge   : Nat := 0             -- instant of sample 0
  delta  : Nat := 0
  time   : Nat := 0             -- trigger time, 2^-40 ns
  preV   : Nat := 0             -- pre_valid
  idx    : Nat := 0             -- area entry of sample 0
  extra  : Nat := 0
  aux    : Nat := 0
  coarse : Bool := false
  gap    : Option Nat := none   -- instant of the last lost sample
  elec   : Option Nat := none   -- instant of the last change of the source's electrode
  srcOff : Option Nat := none   -- instant at which the source domain went off
  tb     : Nat := 0             -- time base of the trigger time
  anc    : Bool := false        -- the trigger requested a conversion
  doneQ  : List Nat := []       -- the done queue, oldest first
  deriving DecidableEq, Repr


/-- MSI-X messages that fell due and have not left (R541), by vector: `owed` those due while PD24 could send none (log 15),
`ev` those of them, and of the pending bits, that an event of no status bit brought. -/
structure MsixDue where
  owed : BitVec 32 := 0
  ev   : BitVec 32 := 0
  deriving DecidableEq, Repr

/-- Part of the state: the registers, and what the model records of what left the module. -/
structure CorePart where
  /-- every register of the spec's register tables, by BAR0 offset; unlisted = its reset value -/
  regs : AMap Word := []
  /-- what the last access returned: data and OK (0), BUSY (1), ERR (2) or access fault (3) (R423, R424, Table 1-13); the model's own field -/
  resp : Resp := ⟨0, 0⟩
  /-- frames that left the module, oldest first; the model's own log -/
  sent : List Sent := []
  /-- bits the hardware set in the present CK_AON cycle: instant, register offset, mask (R14) -/
  hwSet : List (Nat × Nat × Nat) := []
  /-- MSI-X messages sent, by vector, oldest first (R541); the model's own log -/
  msix : List Nat := []
  /-- MSI-X messages that have not left (R541) -/
  msixDue : MsixDue := {}
  /-- counter of free values drawn; the model's own field -/
  freeCtr : Nat := 0
  deriving DecidableEq, Repr

/-- Part of the state: the light: inputs and the population mode (chapters 1 and 2). -/
structure LightPart where
  /-- population mode in force (R66) -/
  popMode : PopMode := .full
  /-- owner mask of each input port (R80) -/
  ownIn : AMap (BitVec 64) := []
  /-- owner mask of each output port (R80) -/
  ownOut : AMap (BitVec 64) := []
  /-- lit threshold of each input, value v for -10 - 0.5 v dBm (Table 14-8) -/
  litThr : AMap Nat := []
  /-- hysteresis of each input, 0.5 dB (R56) -/
  litHyst : AMap Nat := []
  /-- input port LIT (R55) -/
  lit : BitVec 256 := 0
  /-- input port OVER (R53) -/
  overIn : BitVec 256 := 0
  /-- consecutive evaluations at or above the threshold (R55) -/
  hiRun : AMap Nat := []
  /-- consecutive evaluations below threshold less hysteresis (R55) -/
  loRun : AMap Nat := []
  deriving DecidableEq, Repr

/-- Part of the state: maps, solver, scheduled and accepted lists, commits and the shaper (chapters 3 and 4). -/
structure CommitPart where
  /-- the present map (R78) -/
  present : MapSt := {}
  /-- the projected map (R78) -/
  projected : MapSt := {}
  /-- gates of each output open (R57) -/
  gateOpen : BitVec 256 := 0
  /-- the scheduled list, in order of entry (R87) -/
  sched : List Sheaf := []
  /-- sheaves released from the scheduled list, waiting for the solver (R87) -/
  ready : List Sheaf := []
  /-- the sheaf at the solver (R91) -/
  solving : Option Solving := none
  /-- the accepted list (R123) -/
  accepted : List Accepted := []
  /-- the closed membership (R124) -/
  closed : Option CommitPlan := none
  /-- the commit in progress (R111) -/
  commit : Option Commit := none
  /-- tick of the previous commit (R125) -/
  lastT0 : Option Nat := none
  /-- outputs of UNSEEN circuits (R131) -/
  unseen : List Nat := []
  /-- shaper level at shStamp, 10^-4 pJ (R139) -/
  shLevel : Int := 10000000000
  /-- instant of shLevel (R141) -/
  shStamp : Nat := 0
  /-- map whose capture waits for a commit to complete (R108) -/
  captureWait : Option Nat := none
  deriving DecidableEq, Repr

/-- Part of the state: the clock, the time bases, 1PPS and the timestamp queues, the rotation (chapter 5). -/
structure TimePart where
  /-- the module's clock and the four time bases -/
  clk : Clock := {}
  /-- transmit timestamp queue of each port (R164) -/
  tsq : AMap (List TsEntry) := []
  /-- base in force at 1PPS_OUT (R168) -/
  ppsTb : Nat := 0
  /-- 1PPS_OUT is high until this instant (R168) -/
  ppsHighUntil : Nat := 0
  /-- tables with an armed pending bank (R173) -/
  rotArmed : BitVec 16 := 0
  /-- tables marked for arming by the field plan (R174) -/
  rotMarked : BitVec 16 := 0
  /-- tables whose operating bank was armed since PD20 last woke (R175) -/
  rotReady : BitVec 16 := 0
  /-- the operating rotation (R169) -/
  rot : Option RotRun := none
  deriving DecidableEq, Repr

/-- Part of the state: loops, traces and engine pairs (chapter 6). -/
structure LoopPart where
  /-- every loop, by w*4096+slot (R193) -/
  loops : AMap LoopX := []
  /-- the trace of each window (R229) -/
  trc : AMap TrcX := []
  /-- the engine pair of each window (R224) -/
  eng : AMap EngX := []
  /-- instant of the last frame boundary (R192) -/
  frameAt : Nat := 0
  /-- dither scaling in force on the normal grid (R373) -/
  dithFrame : Nat := 0
  /-- cells in cold park (R374) -/
  parked : BitVec 1920 := 0
  deriving DecidableEq, Repr

/-- Part of the state: drill channels (chapter 7). -/
structure DrillPart where
  /-- every drill channel, by w*4096+ch (R239) -/
  chans : AMap Chan := []
  /-- channel of a test play in progress, by window (R248) -/
  playing : AMap (Option Nat) := []
  /-- instant the last seed code was taken, by window (R264) -/
  seedLast : AMap (Option Nat) := []
  /-- start of the deglitch hold of a wake, by window (Table 7-8) -/
  dgWake : AMap (Option Nat) := []
  /-- VPK below its power-good level: every Pockels clamp closed (R522) -/
  vpkBad : Bool := false
  /-- feeds below their power-good level; both: every heater switch open (R522) -/
  vhtrBad : BitVec 2 := 0
  deriving DecidableEq, Repr

/-- Part of the state: sensing channels and slices (chapter 8). -/
structure SensePart where
  /-- every sensing channel, by w*4096+channel (R274) -/
  sns : AMap SnsX := []
  /-- the slices of each window (R286) -/
  slcs : AMap SlcX := []
  /-- conversions of slice k of window w, by w*32+k (R276) -/
  convs : AMap ConvQ := []
  /-- channels whose electrode changes at the next integration window, with the instant of the request (R291, R292) -/
  rsvPend : AMap (Option Nat) := []
  /-- electrode points that the pairs loaded, at w*0x20000 + 64*electrode (R302, R306) -/
  elec : List Host.Cell := []
  /-- front-end bias trims that the pairs loaded, at w*2048 + electrode (R302) -/
  bias : List Host.Cell := []
  deriving DecidableEq, Repr

/-- Part of the state: calibration marks and working sets (chapter 9). -/
structure CalPart where
  /-- marks in force, by w*4096+slot (R310) -/
  calMarks : AMap (Option CalMark) := []
  /-- windows whose working-set load is outstanding (R307) -/
  wsLoad : AMap Bool := []
  /-- windows whose interpolated sensor half waits for a window boundary (R306) -/
  snsSwap : AMap Bool := []
  /-- windows whose slice trims were loaded since their domain woke (R303) -/
  slcLoaded : AMap Bool := []
  deriving DecidableEq, Repr

/-- Part of the state: Ethernet, keys, meters, queues and messages (chapter 10). -/
structure ReqPart where
  /-- key of slot 2*tenant+slot, 256 bits (R343) -/
  keys : AMap (Option Nat) := []
  /-- per-tenant sequence counter of messages sent (R334) -/
  txSeq : AMap Nat := []
  /-- per-tenant tseq (R339) -/
  telemSeq : AMap Nat := []
  /-- per-tenant event records waiting (R339) -/
  telemQ : AMap (List TelemRec) := []
  /-- per-tenant records lost since the previous TELEM (R339) -/
  telemLost : AMap Nat := []
  /-- per-tenant replay window: H and the 64-bit record of seqs seen (R345) -/
  replay : AMap (Option (Nat × Nat)) := []
  /-- committed bucket, 2^-16 operations (R349) -/
  tokC : AMap Nat := []
  /-- peak or excess bucket (R349) -/
  tokP : AMap Nat := []
  /-- instant of the last update of the tenant's buckets (R349) -/
  tokAt : AMap Nat := []
  /-- tenant queues, head first (R350) -/
  queues : AMap (List Sheaf) := []
  /-- virtual time, 2^-16 operation, modulo 2^48 (R352) -/
  vtime : Nat := 0
  /-- last_finish of each tenant (R352) -/
  lastFin : AMap Nat := []
  /-- reception order of the next sheaf (R135) -/
  uidNext : Nat := 0
  /-- QUERY messages of each tenant in the present sampling interval (R338) -/
  queryCnt : AMap Nat := []
  /-- tag failures in the second tagSec of TB0 (R346) -/
  tagFails : Nat := 0
  /-- that second -/
  tagSec : Nat := 0
  /-- FS_URP_AUTH_RATE raised in that second -/
  tagBurst : Bool := false
  /-- TB0 time at which the field plan was applied (R353) -/
  planAt : Option Nat := none
  /-- instant of the last periodic HEARTBEAT (R341) -/
  hbAt : Nat := 0
  /-- tenant that wrote bank 2*table+b (R340) -/
  rotLoader : AMap (Option Nat) := []
  /-- authenticated messages the request engine has not yet processed, in order of arrival (R347) -/
  urpIn : List Urp := []
  /-- messages REQ has waiting at each port (R329) -/
  txWait : AMap (List Msg) := []
  /-- the port's last frame came from its ring (R329) -/
  txRing : AMap Bool := []
  deriving DecidableEq, Repr

/-- Part of the state: the governor and the device state (chapter 11). -/
structure GovPart where
  /-- the 16 latest samples of each site, newest first: TB0 time, 1/256 degree (R362) -/
  siteHist : AMap (List (Nat × Int)) := []
  /-- the site converted last (R359) -/
  lastSite : Nat := 47
  /-- the site under conversion (R359) -/
  convSite : Option Nat := none
  /-- start of that conversion -/
  convAt : Nat := 0
  /-- instant since which every release level lies below the governed step (R365) -/
  fallSince : Option Nat := none
  /-- instant of the last change of the governed step (R365) -/
  stepAt : Nat := 0
  /-- heater reports of each pair in the last 100 us: instant, serving, other, mW (R369) -/
  hrep : AMap (List (Nat × Nat × Nat)) := []
  /-- instant since which P_total lies at or below 90 % of the limit (R370) -/
  lowSince : Option Nat := none
  /-- FS_HTR_BUDGET was raised and not yet rearmed (R371) -/
  serveHot : Bool := false
  /-- instant since which P_serve lies at or below the limit (R371) -/
  serveOk : Option Nat := none
  /-- work classes the budget withdrew, last first (R370) -/
  withdrawn : List Nat := []
  /-- instant of entry to PARK_PEND (R384) -/
  parkAt : Nat := 0
  deriving DecidableEq, Repr

/-- Part of the state: the collector, ALIVE and the supervisor lease (chapter 12). -/
structure FaultPart where
  /-- instant of each source's last raise (R391) -/
  fltRaised : AMap (Option Nat) := []
  /-- instant of each source's last log record (R392) -/
  fltLogged : AMap (Option Nat) := []
  /-- expiry of each source's running escalation timer (R399) -/
  escAt : AMap (Option Nat) := []
  /-- detail word of the raise that started each source's running timer (R399) -/
  escDet : AMap Nat := []
  /-- instant at which a watched supply (source 35 to 37) left its range (R396) -/
  supplyOut : AMap (Option Nat) := []
  /-- instant at which it returned inside after being raised (R396) -/
  supplyIn : AMap (Option Nat) := []
  /-- the supply checks are armed (R526) -/
  supplyArmed : Bool := false
  /-- level of ALIVE, low from POR until its first edge (R407) -/
  aliveLvl : Bool := false
  /-- instant of its last edge or of the start of toggling (R407) -/
  aliveAt : Nat := 0
  /-- instant of the last renewal of the supervisor lease (R410) -/
  supLease : Nat := 0
  deriving DecidableEq, Repr

/-- Part of the state: memories, transactions, harrow, dies and buffer pools (chapter 13). -/
structure MemPart where
  /-- DRAM bytes by supervisor address (R441) -/
  dram : List Host.Cell := []
  /-- scratchpad bytes by scratchpad address (R430) -/
  spm : List Host.Cell := []
  /-- pair SRAM bytes, window w at w*0x40000 (Tables 1-11, 1-12) -/
  sram : List Host.Cell := []
  /-- boot ROM bytes (R43) -/
  rom : List Host.Cell := []
  /-- masters with an issued barrier that has not completed (R425) -/
  barriers : List Nat := []
  /-- a HOST_FENCE read is held (R426) -/
  hostFence : Bool := false
  /-- accepted remap not yet in effect (R427) -/
  remapPend : Option Nat := none
  /-- requested matrix mode not yet in effect (R436) -/
  modePend : Option Nat := none
  /-- BUSY responses and conflicts in millisecond confMs (R432) -/
  confCount : Nat := 0
  /-- that millisecond of TB0 -/
  confMs : Nat := 0
  /-- FS_SPM_CONFLICT_RATE raised in that millisecond -/
  confDone : Bool := false
  /-- start of the last pass -/
  hrwAt : Nat := 0
  /-- repair columns as blown: bank*4+entry to column+1, 0 unblown (R440) -/
  repairFuse : AMap Nat := []
  /-- a repair blow in progress: bank, entry, column -/
  repairBusy : Option (Nat × Nat × Nat) := none
  /-- successive failing training-row checks of each die (R447) -/
  dieBad : AMap Nat := []
  /-- distinct tiles of each die that failed in second dieSec (R447) -/
  dieCrc : AMap (List Nat) := []
  /-- that second of TB0 -/
  dieSec : Nat := 0
  /-- every buffer, by pool*16384+index (R450) -/
  bpmBuf : AMap Buf := []
  /-- cached free indexes of each pool, oldest first (R450) -/
  bpmCache : AMap (List Nat) := []
  /-- free ring of pool*2+die as runs (first index, count) (R450) -/
  bpmRing : AMap (List (Nat × Nat)) := []
  /-- die whose ring refills the pool's cache next (R450) -/
  bpmTurn : AMap Nat := []
  /-- CK_BUS cycle of the BPM's last operation (R452) -/
  bpmCycle : Nat := 0
  /-- requester ID of the last allocation in that cycle (R452) -/
  bpmReq : Nat := 0
  /-- buffers freed in that cycle (R452) -/
  bpmFreed : List Nat := []
  deriving DecidableEq, Repr

/-- Part of the state: fuses, images, attestation, resets, SMBus and DMA (chapter 14). -/
structure BootPart where
  /-- variant fuse: 0 CH-7256-A, 1 CH-7256-H -/
  fuVariant : Nat := 0
  /-- unit identifier fuses, 64 bits -/
  fuUnit : Nat := 0
  /-- IDCODE fuses -/
  fuJtag : Nat := 0
  /-- owner slots programmed, as burned (R468) -/
  fuProg : Nat := 0
  /-- owner slots revoked, as burned -/
  fuRev : Nat := 0
  /-- owner hash of each slot, as burned -/
  fuHash : AMap Nat := []
  /-- the SEAL, as burned (R482) -/
  fuSeal : Bool := false
  /-- epoch bits burned (R479) -/
  fuEpoch : BitVec 4096 := 0
  /-- epoch bits as sensed at POR, with those burned since (R477, R479) -/
  useEpoch : BitVec 4096 := 0
  /-- owner hash of each slot, as sensed at POR (R477) -/
  useHash : AMap Nat := []
  /-- a fuse command in progress: op, slot, hash (R478) -/
  fuBusy : Option (Nat × Nat × Nat) := none
  /-- PD29 has woken since POR: the public key reads (Table 14-14) -/
  pubReady : Bool := false
  /-- open attestation epoch and the leaves it has used (R479) -/
  attOpen : Option (Nat × Nat) := none
  /-- op of the BOOT_CMD in progress, 0 none (R470, R474) -/
  bootBusy : Nat := 0
  /-- header address of the applied field plan (R475) -/
  planBase : Nat := 0
  /-- instant of the last release of a reset (Table 14-15) -/
  resetEnd : Nat := 0
  /-- expiry of the hold timer (R484, R485) -/
  holdAt : Nat := 0
  /-- POR is asserted, or its release is awaited (R527) -/
  porOn : Bool := false
  /-- instant at which the last POR condition cleared -/
  porEnd : Option Nat := none
  /-- VAON is below power-good: OFF (R389) -/
  vaonBad : Bool := false
  /-- RST_N holds a warm reset (R483) -/
  rstLow : Bool := false
  /-- PERST_N holds PD24 (R486) -/
  perstLow : Bool := false
  /-- instruction in force at the 1149.1 port: 0 BYPASS, 1 IDCODE, 2 SAMPLE/PRELOAD, 3 EXTEST (R482) -/
  tapIr : Nat := 1
  /-- domains that are waking or wait to wake, in order (R380) -/
  wakeQ : List Nat := []
  /-- domains that are going to sleep, in order (R381) -/
  sleepQ : List Nat := []
  /-- instant at which the head of the wake queue began to wake (R380) -/
  wakeAt : Nat := 0
  deriving DecidableEq, Repr

/-- Part of the state: glean (chapter 15). -/
structure GleanPart where
  /-- every capture channel (R500) -/
  gln : AMap GlnX := []
  /-- TRIG_OUT[n] is high from the first instant to the second (R514, R529) -/
  trigOut : AMap (Nat × Nat) := []
  /-- TRIGBUS[n] is pulled low from the first instant to the second (R514, R529) -/
  trigBus : AMap (Nat × Nat) := []
  deriving DecidableEq, Repr

/-- Part of the state: pins (chapter 16). -/
structure PinPart where
  /-- level of PD_EN (R526) -/
  pdEn : Bool := false
  /-- instant of its last rise (R526) -/
  pdEnAt : Nat := 0
  deriving DecidableEq, Repr

/-- The whole machine: its parts, and the queue of commands that are waiting. -/
structure State extends
    CorePart,
    LightPart,
    CommitPart,
    TimePart,
    LoopPart,
    DrillPart,
    SensePart,
    CalPart,
    ReqPart,
    GovPart,
    FaultPart,
    MemPart,
    BootPart,
    GleanPart,
    PinPart where
  /-- the queue of commands that are waiting, first in, first out -/
  pending : List Instr := []
  deriving DecidableEq, Repr

/-- Reasons a command can stop with a fault. -/
inductive Fault where
  /-- raised by no command: every access the spec describes completes, with data, with an ERR or counted as unassigned
  (R39, R420, R423); safe -/
  | unreached
  deriving DecidableEq, Repr

/-- Reasons a command can be refused. -/
inductive Refusal where
  /-- a command that has no meaning yet; raised only by `exec`'s refused arms; safe -/
  | notModelled (mnemonic : String)
  /-- a vendor debug or scan instruction while it is permitted (R482): the spec does not say what it does; raised by
  `execTapInstruction`; safe -/
  | vendorDebug
  deriving DecidableEq, Repr

/-- The machine right after the release of the AON reset (R525): every part at the values its fields name as their
defaults, the queue empty. -/
def State.reset : State := {}

end Sys2Proof.Machine
end

