-- ==== Sys2Proof/Machine/RegTable.lean ====
section
/-! DEFINITION. The register tables of chapters 03 to 15 as data: for each register its offset within its
block (or window), its repetition, and its fields with access code and reset value. Bits that no field names are rsv. -/
namespace Sys2Proof.Machine

/-- Registers of block CMT (spec chapter 03, 04), part 0. -/
def rowsCMT0 : List Row := [
  ⟨0x0, 1, 1, 1, 1, [⟨0, 1, .rw, 1⟩, ⟨4, 4, .rw, 5⟩]⟩,
  ⟨0x4, 1, 1, 1, 1, [⟨0, 1, .ro, 0⟩, ⟨1, 1, .ro, 0⟩, ⟨2, 1, .w1c, 0⟩, ⟨3, 1, .w1c, 0⟩, ⟨4, 1, .w1c, 0⟩, ⟨5, 1, .w1c, 0⟩, ⟨8, 8, .ro, 0⟩]⟩,
  ⟨0x8, 1, 1, 1, 1, [⟨0, 10, .rw, 10⟩]⟩,
  ⟨0xc, 1, 1, 1, 1, [⟨0, 11, .ro, 0⟩, ⟨16, 11, .rc, 0⟩]⟩,
  ⟨0x10, 1, 1, 1, 1, [⟨0, 32, .ro, 0⟩]⟩,
  ⟨0x14, 1, 1, 1, 1, [⟨0, 32, .ro, 0⟩]⟩,
  ⟨0x18, 1, 1, 1, 1, [⟨0, 32, .ro, 0⟩]⟩,
  ⟨0x1c, 1, 1, 1, 1, [⟨0, 32, .ro, 0⟩]⟩,
  ⟨0x20, 1, 1, 1, 1, [⟨0, 16, .rc, 0⟩]⟩,
  ⟨0x24, 1, 1, 1, 1, [⟨0, 9, .ro, 0⟩, ⟨16, 9, .ro, 0⟩]⟩,
  ⟨0x30, 1, 1, 1, 1, [⟨0, 12, .rw, 0⟩, ⟨12, 4, .rw, 0⟩, ⟨31, 1, .wo, 0⟩]⟩,
  ⟨0x34, 1, 1, 1, 1, [⟨0, 1, .ro, 0⟩, ⟨4, 4, .ro, 0⟩, ⟨8, 12, .ro, 0⟩]⟩,
  ⟨0x38, 1, 1, 1, 1, [⟨0, 32, .ro, 0⟩]⟩,
  ⟨0x400, 256, 4, 1, 1, [⟨0, 8, .ro, 0⟩, ⟨8, 7, .ro, 0⟩, ⟨15, 1, .ro, 0⟩, ⟨16, 6, .ro, 0⟩, ⟨22, 1, .ro, 0⟩, ⟨24, 2, .ro, 0⟩]⟩,
  ⟨0x800, 60, 4, 1, 1, [⟨0, 32, .ro, 0⟩]⟩,
  ⟨0x1000, 1, 1, 1, 1, [⟨0, 1, .rw, 1⟩, ⟨1, 2, .rw, 0⟩, ⟨4, 3, .rw, 7⟩]⟩,
  ⟨0x1004, 1, 1, 1, 1, [⟨0, 11, .ro, 0⟩, ⟨16, 1, .ro, 0⟩, ⟨17, 1, .ro, 0⟩, ⟨18, 1, .ro, 0⟩, ⟨19, 1, .ro, 0⟩]⟩,
  ⟨0x1010, 1, 1, 1, 1, [⟨0, 16, .ro, 0⟩]⟩,
  ⟨0x1014, 1, 1, 1, 1, [⟨0, 32, .ro, 0⟩]⟩,
  ⟨0x1018, 1, 1, 1, 1, [⟨0, 32, .ro, 0⟩]⟩,
  ⟨0x101c, 1, 1, 1, 1, [⟨0, 16, .ro, 0⟩]⟩,
  ⟨0x1020, 1, 1, 1, 1, [⟨0, 32, .ro, 0⟩]⟩,
  ⟨0x1024, 1, 1, 1, 1, [⟨0, 9, .ro, 0⟩, ⟨16, 9, .ro, 0⟩, ⟨31, 1, .ro, 0⟩]⟩,
  ⟨0x1030, 1, 1, 1, 1, [⟨0, 8, .rw, 30⟩, ⟨8, 8, .rw, 30⟩, ⟨16, 8, .rw, 20⟩, ⟨24, 6, .rw, 44⟩]⟩]

/-- Registers of block CMT (spec chapter 03, 04), part 1. -/
def rowsCMT1 : List Row := [
  ⟨0x1040, 1, 1, 1, 1, [⟨0, 32, .ro, 0⟩]⟩,
  ⟨0x1044, 1, 1, 1, 1, [⟨0, 32, .ro, 0⟩]⟩,
  ⟨0x1048, 1, 1, 1, 1, [⟨0, 32, .ro, 0⟩]⟩,
  ⟨0x104c, 1, 1, 1, 1, [⟨0, 32, .ro, 0⟩]⟩,
  ⟨0x1050, 1, 1, 1, 1, [⟨0, 32, .ro, 0⟩]⟩,
  ⟨0x1054, 1, 1, 1, 1, [⟨0, 32, .ro, 0⟩]⟩,
  ⟨0x1058, 1, 1, 1, 1, [⟨0, 32, .ro, 0⟩]⟩,
  ⟨0x105c, 1, 1, 1, 1, [⟨0, 32, .ro, 0⟩]⟩,
  ⟨0x1100, 1, 1, 1, 1, [⟨0, 24, .ro, 0⟩]⟩,
  ⟨0x1104, 1, 1, 1, 1, [⟨0, 31, .rw, 1000000⟩]⟩,
  ⟨0x1108, 1, 1, 1, 1, [⟨0, 32, .ro, 0⟩]⟩,
  ⟨0x110c, 1, 1, 1, 1, [⟨0, 32, .ro, 0⟩]⟩,
  ⟨0x1110, 1, 1, 1, 1, [⟨0, 32, .rc, 0⟩]⟩,
  ⟨0x1114, 1, 1, 1, 1, [⟨0, 32, .ro, 0⟩]⟩,
  ⟨0x1200, 4, 4, 1, 1, [⟨0, 15, .ro, 0⟩, ⟨16, 1, .ro, 0⟩]⟩,
  ⟨0x1400, 256, 4, 1, 1, [⟨0, 8, .ro, 0⟩, ⟨8, 2, .ro, 0⟩, ⟨16, 8, .ro, 0⟩, ⟨24, 8, .ro, 0⟩]⟩]

/-- Every register of block CMT. -/
def rowsCMT : List Row := rowsCMT0 ++ rowsCMT1

/-- Registers of block TIME (spec chapter 05), part 0. -/
def rowsTIME0 : List Row := [
  ⟨0x0, 1, 1, 1, 1, [⟨0, 1, .wo, 0⟩]⟩,
  ⟨0x100, 4, 64, 1, 1, [⟨0, 1, .rw, 0⟩, ⟨1, 2, .rw, 0⟩, ⟨3, 1, .rw, 0⟩, ⟨4, 8, .rw, 0⟩, ⟨12, 12, .rw, 0⟩]⟩,
  ⟨0x104, 4, 64, 1, 1, [⟨0, 2, .ro, 0⟩, ⟨2, 2, .ro, 0⟩, ⟨4, 1, .ro, 0⟩]⟩,
  ⟨0x108, 4, 64, 1, 1, [⟨0, 32, .rw, 0⟩]⟩,
  ⟨0x10c, 4, 64, 1, 1, [⟨0, 32, .rw, 0⟩]⟩,
  ⟨0x110, 4, 64, 1, 1, [⟨0, 16, .rw, 0⟩, ⟨16, 1, .rw, 0⟩, ⟨31, 1, .wo, 0⟩]⟩,
  ⟨0x114, 4, 64, 1, 1, [⟨0, 9, .rw, 100⟩]⟩,
  ⟨0x118, 4, 64, 1, 1, [⟨0, 2, .wo, 0⟩, ⟨2, 1, .wo, 0⟩]⟩,
  ⟨0x11c, 4, 64, 1, 1, [⟨0, 16, .rw, 3000⟩]⟩,
  ⟨0x120, 4, 64, 1, 1, [⟨0, 16, .rw, 60⟩, ⟨16, 16, .ro, 0⟩]⟩,
  ⟨0x124, 4, 64, 1, 1, [⟨0, 16, .ro, 0⟩]⟩,
  ⟨0x128, 4, 64, 1, 1, [⟨0, 32, .ro, 0⟩]⟩,
  ⟨0x12c, 4, 64, 1, 1, [⟨0, 32, .ro, 0⟩]⟩,
  ⟨0x130, 4, 64, 1, 1, [⟨0, 16, .ro, 0⟩]⟩,
  ⟨0x200, 1, 1, 1, 1, [⟨0, 1, .rw, 0⟩, ⟨1, 2, .rw, 0⟩, ⟨4, 8, .rw, 100⟩, ⟨12, 10, .rw, 1⟩]⟩,
  ⟨0x204, 1, 1, 1, 1, [⟨0, 32, .rw, 0⟩]⟩,
  ⟨0x208, 1, 1, 1, 1, [⟨0, 32, .rw, 0⟩]⟩,
  ⟨0x210, 1, 1, 1, 1, [⟨0, 16, .ro, 0⟩]⟩,
  ⟨0x214, 1, 1, 1, 1, [⟨0, 32, .ro, 0⟩]⟩,
  ⟨0x218, 1, 1, 1, 1, [⟨0, 32, .ro, 0⟩]⟩,
  ⟨0x21c, 1, 1, 1, 1, [⟨0, 16, .ro, 0⟩]⟩,
  ⟨0x220, 1, 1, 1, 1, [⟨0, 16, .ro, 0⟩, ⟨16, 16, .ro, 0⟩]⟩,
  ⟨0x300, 2, 32, 1, 1, [⟨0, 16, .ro, 0⟩, ⟨16, 2, .ro, 0⟩, ⟨31, 1, .ro, 0⟩]⟩,
  ⟨0x304, 2, 32, 1, 1, [⟨0, 16, .ro, 0⟩]⟩]

/-- Registers of block TIME (spec chapter 05), part 1. -/
def rowsTIME1 : List Row := [
  ⟨0x308, 2, 32, 1, 1, [⟨0, 32, .ro, 0⟩]⟩,
  ⟨0x30c, 2, 32, 1, 1, [⟨0, 32, .ro, 0⟩]⟩,
  ⟨0x310, 2, 32, 1, 1, [⟨0, 16, .ro, 0⟩]⟩,
  ⟨0x314, 2, 32, 1, 1, [⟨0, 7, .ro, 0⟩, ⟨16, 16, .rc, 0⟩]⟩,
  ⟨0x400, 2, 16, 1, 1, [⟨0, 32, .rw, 0⟩]⟩,
  ⟨0x404, 2, 16, 1, 1, [⟨0, 32, .rw, 0⟩]⟩]

/-- Every register of block TIME. -/
def rowsTIME : List Row := rowsTIME0 ++ rowsTIME1

/-- Registers of block ROT (spec chapter 05), part 0. -/
def rowsROT0 : List Row := [
  ⟨0x0, 1, 1, 1, 1, [⟨0, 10, .rw, 10⟩]⟩,
  ⟨0x4, 1, 1, 1, 1, [⟨0, 4, .rw, 0⟩, ⟨4, 4, .rw, 0⟩, ⟨31, 1, .wo, 0⟩]⟩,
  ⟨0x8, 1, 1, 1, 1, [⟨0, 1, .ro, 0⟩, ⟨8, 8, .ro, 0⟩, ⟨16, 6, .ro, 0⟩, ⟨24, 4, .ro, 0⟩]⟩,
  ⟨0xc, 1, 1, 1, 1, [⟨0, 4, .ro, 0⟩, ⟨4, 3, .ro, 0⟩, ⟨7, 1, .ro, 0⟩, ⟨8, 6, .ro, 0⟩, ⟨16, 1, .ro, 0⟩]⟩,
  ⟨0x10, 1, 1, 1, 1, [⟨0, 16, .ro, 0⟩]⟩,
  ⟨0x14, 1, 1, 1, 1, [⟨0, 32, .ro, 0⟩]⟩,
  ⟨0x18, 1, 1, 1, 1, [⟨0, 32, .ro, 0⟩]⟩,
  ⟨0x1c, 1, 1, 1, 1, [⟨0, 16, .ro, 0⟩]⟩,
  ⟨0x20, 1, 1, 1, 1, [⟨0, 32, .ro, 0⟩]⟩,
  ⟨0x24, 1, 1, 1, 1, [⟨0, 32, .ro, 0⟩]⟩,
  ⟨0x28, 1, 1, 1, 1, [⟨0, 32, .ro, 0⟩]⟩,
  ⟨0x2c, 1, 1, 1, 1, [⟨0, 32, .ro, 0⟩]⟩,
  ⟨0x30, 1, 1, 1, 1, [⟨0, 32, .ro, 0⟩]⟩,
  ⟨0x34, 1, 1, 1, 1, [⟨0, 32, .ro, 0⟩]⟩,
  ⟨0x1000, 32, 512, 1, 1, [⟨0, 2, .rw, 0⟩, ⟨2, 1, .rw, 0⟩, ⟨4, 3, .rw, 0⟩, ⟨8, 7, .rw, 0⟩]⟩,
  ⟨0x1004, 32, 512, 2, 4, [⟨0, 32, .rw, 0⟩]⟩,
  ⟨0x100c, 32, 512, 1, 1, [⟨0, 16, .rw, 0⟩]⟩,
  ⟨0x1010, 32, 512, 12, 4, []⟩,
  ⟨0x1040, 32, 512, 64, 4, [⟨0, 12, .rw, 0⟩, ⟨12, 20, .rw, 0⟩]⟩,
  ⟨0x1140, 32, 512, 48, 4, []⟩]

/-- Every register of block ROT. -/
def rowsROT : List Row := rowsROT0

/-- Registers of block CAL (spec chapter 09), part 0. -/
def rowsCAL0 : List Row := [
  ⟨0x0, 1, 1, 1, 1, [⟨0, 1, .rw, 0⟩, ⟨16, 16, .rw, 100⟩]⟩,
  ⟨0x4, 1, 1, 1, 1, [⟨0, 1, .ro, 0⟩, ⟨1, 1, .ro, 0⟩, ⟨2, 1, .ro, 0⟩, ⟨3, 1, .ro, 0⟩, ⟨4, 1, .ro, 0⟩, ⟨5, 1, .w1c, 0⟩]⟩,
  ⟨0x8, 1, 1, 1, 1, [⟨0, 32, .ro, 0⟩]⟩,
  ⟨0xc, 1, 1, 1, 1, [⟨0, 32, .ro, 0⟩]⟩,
  ⟨0x10, 1, 1, 1, 1, [⟨0, 4, .rw, 0⟩, ⟨31, 1, .wo, 0⟩]⟩,
  ⟨0x14, 1, 1, 1, 1, [⟨0, 4, .ro, 0⟩, ⟨8, 12, .ro, 0⟩, ⟨20, 1, .ro, 0⟩]⟩,
  ⟨0x20, 1, 1, 1, 1, [⟨0, 32, .ro, 2281701376⟩]⟩,
  ⟨0x24, 1, 1, 1, 1, [⟨0, 32, .ro, 3355443200⟩]⟩,
  ⟨0x28, 1, 1, 1, 1, [⟨0, 32, .ro, 2285895680⟩]⟩,
  ⟨0x2c, 1, 1, 1, 1, [⟨0, 32, .ro, 3359637504⟩]⟩,
  ⟨0x40, 1, 1, 1, 1, [⟨0, 12, .rw, 0⟩, ⟨12, 5, .rw, 0⟩, ⟨17, 2, .rw, 0⟩, ⟨19, 1, .rw, 0⟩, ⟨31, 1, .wo, 0⟩]⟩,
  ⟨0x44, 1, 1, 1, 1, [⟨0, 4, .ro, 0⟩, ⟨16, 5, .ro, 0⟩]⟩,
  ⟨0x48, 1, 1, 1, 1, [⟨0, 32, .ro, 0⟩]⟩,
  ⟨0x80, 1, 1, 1, 1, [⟨0, 32, .ro, 0⟩]⟩,
  ⟨0x84, 1, 1, 1, 1, [⟨0, 32, .ro, 0⟩]⟩,
  ⟨0x88, 1, 1, 1, 1, [⟨0, 32, .ro, 0⟩]⟩,
  ⟨0x8c, 1, 1, 1, 1, [⟨0, 16, .ro, 0⟩]⟩,
  ⟨0x90, 1, 1, 1, 1, [⟨0, 32, .ro, 0⟩]⟩,
  ⟨0x100, 18, 16, 1, 1, [⟨0, 32, .ro, 0⟩]⟩,
  ⟨0x104, 18, 16, 1, 1, [⟨0, 32, .ro, 0⟩]⟩,
  ⟨0x108, 18, 16, 1, 1, [⟨0, 32, .ro, 0⟩]⟩,
  ⟨0x10c, 18, 16, 1, 1, [⟨0, 16, .ro, 0⟩]⟩,
  ⟨0x300, 18, 4, 1, 1, [⟨0, 32, .ro, 0⟩]⟩]

/-- Every register of block CAL. -/
def rowsCAL : List Row := rowsCAL0

/-- Registers of block REQ (spec chapter 10), part 0. -/
def rowsREQ0 : List Row := [
  ⟨0x0, 1, 1, 1, 1, [⟨0, 1, .rw, 0⟩, ⟨1, 1, .rw, 1⟩, ⟨2, 2, .rw, 0⟩, ⟨16, 16, .rw, 49321⟩]⟩,
  ⟨0x4, 1, 1, 1, 1, [⟨0, 14, .rw, 1500⟩, ⟨14, 10, .rw, 10⟩, ⟨24, 8, .rw, 10⟩]⟩,
  ⟨0x8, 1, 1, 1, 1, [⟨0, 32, .rw, 0⟩]⟩,
  ⟨0xc, 1, 1, 1, 1, [⟨0, 16, .rw, 1000⟩]⟩,
  ⟨0x10, 1, 1, 1, 1, [⟨0, 1, .w1c, 0⟩, ⟨1, 1, .w1c, 0⟩, ⟨2, 1, .w1c, 0⟩]⟩,
  ⟨0x14, 1, 1, 1, 1, [⟨0, 3, .rw, 0⟩]⟩,
  ⟨0x18, 1, 1, 1, 1, [⟨0, 15, .ro, 0⟩, ⟨15, 1, .ro, 0⟩, ⟨16, 1, .wo, 0⟩]⟩,
  ⟨0x20, 1, 1, 1, 1, [⟨0, 32, .ro, 0⟩]⟩,
  ⟨0x24, 1, 1, 1, 1, [⟨0, 32, .ro, 0⟩]⟩,
  ⟨0x28, 1, 1, 1, 1, [⟨0, 32, .ro, 0⟩]⟩,
  ⟨0x2c, 1, 1, 1, 1, [⟨0, 32, .ro, 0⟩]⟩,
  ⟨0x30, 1, 1, 1, 1, [⟨0, 32, .ro, 0⟩]⟩,
  ⟨0x34, 1, 1, 1, 1, [⟨0, 32, .ro, 0⟩]⟩,
  ⟨0x40, 1, 1, 1, 1, [⟨0, 32, .ro, 0⟩]⟩,
  ⟨0x44, 1, 1, 1, 1, [⟨0, 32, .ro, 0⟩]⟩,
  ⟨0x48, 1, 1, 1, 1, [⟨0, 32, .ro, 0⟩]⟩,
  ⟨0x4c, 1, 1, 1, 1, [⟨0, 16, .ro, 0⟩]⟩,
  ⟨0x50, 8, 4, 1, 1, [⟨0, 32, .wo, 0⟩]⟩,
  ⟨0x70, 1, 1, 1, 1, [⟨0, 6, .rw, 0⟩, ⟨6, 1, .rw, 0⟩, ⟨7, 2, .rw, 0⟩, ⟨31, 1, .wo, 0⟩]⟩,
  ⟨0x80, 4, 4, 1, 1, [⟨0, 32, .ro, 0⟩]⟩,
  ⟨0x400, 64, 32, 1, 1, [⟨0, 8, .rw, 0⟩, ⟨8, 1, .rw, 0⟩, ⟨9, 1, .rw, 0⟩, ⟨10, 1, .rw, 0⟩, ⟨11, 1, .rw, 0⟩, ⟨12, 1, .rw, 0⟩, ⟨13, 1, .rw, 0⟩, ⟨16, 9, .rw, 32⟩]⟩,
  ⟨0x404, 64, 32, 1, 1, [⟨0, 1, .rw, 0⟩, ⟨1, 1, .rw, 0⟩, ⟨8, 9, .rw, 16⟩]⟩,
  ⟨0x408, 64, 32, 1, 1, [⟨0, 24, .rw, 0⟩]⟩,
  ⟨0x40c, 64, 32, 1, 1, [⟨0, 24, .rw, 0⟩]⟩]

/-- Registers of block REQ (spec chapter 10), part 1. -/
def rowsREQ1 : List Row := [
  ⟨0x410, 64, 32, 1, 1, [⟨0, 16, .rw, 0⟩, ⟨16, 16, .rw, 0⟩]⟩,
  ⟨0x414, 64, 32, 1, 1, [⟨0, 9, .ro, 0⟩, ⟨9, 1, .ro, 0⟩]⟩,
  ⟨0x418, 64, 32, 1, 1, [⟨0, 16, .ro, 0⟩, ⟨16, 16, .ro, 0⟩]⟩,
  ⟨0xc00, 64, 32, 8, 4, [⟨0, 32, .ro, 0⟩]⟩,
  ⟨0x2000, 64, 64, 16, 4, [⟨0, 32, .ro, 0⟩]⟩,
  ⟨0x3000, 64, 32, 6, 4, [⟨0, 32, .rw, 0⟩]⟩,
  ⟨0x8000, 64, 512, 128, 4, [⟨0, 32, .ro, 0⟩]⟩]

/-- Every register of block REQ. -/
def rowsREQ : List Row := rowsREQ0 ++ rowsREQ1

/-- Registers of block ETH (spec chapter 10), part 0. -/
def rowsETH0 : List Row := [
  ⟨0x0, 1, 1, 1, 1, [⟨0, 1, .rw, 0⟩, ⟨1, 1, .rw, 0⟩, ⟨2, 1, .rw, 0⟩, ⟨3, 1, .rw, 1⟩, ⟨4, 3, .rw, 0⟩, ⟨8, 12, .rw, 0⟩]⟩,
  ⟨0x4, 1, 1, 1, 1, [⟨0, 1, .ro, 0⟩, ⟨1, 1, .ro, 0⟩, ⟨2, 1, .ro, 0⟩, ⟨3, 1, .w1c, 0⟩, ⟨4, 1, .w1c, 0⟩, ⟨5, 1, .w1c, 0⟩, ⟨6, 1, .w1c, 0⟩]⟩,
  ⟨0x8, 1, 1, 1, 1, [⟨0, 32, .rw, 0⟩]⟩,
  ⟨0xc, 1, 1, 1, 1, [⟨0, 16, .rw, 0⟩]⟩,
  ⟨0x10, 1, 1, 1, 1, [⟨0, 32, .rw, 0⟩]⟩,
  ⟨0x14, 4, 4, 1, 1, [⟨0, 32, .rw, 0⟩]⟩,
  ⟨0x24, 1, 1, 1, 1, [⟨0, 6, .rw, 0⟩, ⟨8, 8, .rw, 64⟩]⟩,
  ⟨0x30, 1, 1, 1, 1, [⟨0, 32, .rw, 0⟩]⟩,
  ⟨0x34, 1, 1, 1, 1, [⟨0, 11, .rw, 16⟩]⟩,
  ⟨0x38, 1, 1, 1, 1, [⟨0, 10, .ro, 0⟩]⟩,
  ⟨0x3c, 1, 1, 1, 1, [⟨0, 10, .rw, 0⟩]⟩,
  ⟨0x40, 1, 1, 1, 1, [⟨0, 32, .rw, 0⟩]⟩,
  ⟨0x44, 1, 1, 1, 1, [⟨0, 11, .rw, 16⟩]⟩,
  ⟨0x48, 1, 1, 1, 1, [⟨0, 10, .ro, 0⟩]⟩,
  ⟨0x4c, 1, 1, 1, 1, [⟨0, 10, .rw, 0⟩]⟩,
  ⟨0x100, 1, 1, 1, 1, [⟨0, 32, .ro, 0⟩]⟩,
  ⟨0x104, 1, 1, 1, 1, [⟨0, 32, .ro, 0⟩]⟩,
  ⟨0x108, 1, 1, 1, 1, [⟨0, 32, .ro, 0⟩]⟩,
  ⟨0x10c, 1, 1, 1, 1, [⟨0, 32, .ro, 0⟩]⟩,
  ⟨0x110, 1, 1, 1, 1, [⟨0, 32, .ro, 0⟩]⟩,
  ⟨0x114, 1, 1, 1, 1, [⟨0, 32, .ro, 0⟩]⟩,
  ⟨0x118, 1, 1, 1, 1, [⟨0, 32, .ro, 0⟩]⟩,
  ⟨0x11c, 1, 1, 1, 1, [⟨0, 32, .ro, 0⟩]⟩,
  ⟨0x120, 1, 1, 1, 1, [⟨0, 32, .ro, 0⟩]⟩]

/-- Registers of block ETH (spec chapter 10), part 1. -/
def rowsETH1 : List Row := [
  ⟨0x124, 1, 1, 1, 1, [⟨0, 32, .ro, 0⟩]⟩,
  ⟨0x128, 1, 1, 1, 1, [⟨0, 32, .ro, 0⟩]⟩]

/-- Every register of block ETH. -/
def rowsETH : List Row := rowsETH0 ++ rowsETH1

/-- Registers of block GOV (spec chapter 11), part 0. -/
def rowsGOV0 : List Row := [
  ⟨0x0, 1, 1, 1, 1, [⟨0, 8, .rw, 4⟩, ⟨8, 5, .rw, 8⟩, ⟨16, 8, .rw, 10⟩]⟩,
  ⟨0x4, 1, 1, 1, 1, [⟨0, 3, .ro, 0⟩, ⟨3, 3, .ro, 0⟩, ⟨6, 3, .rw, 0⟩]⟩,
  ⟨0x8, 1, 1, 1, 1, [⟨0, 16, .rw, 50⟩, ⟨16, 16, .rw, 100⟩]⟩,
  ⟨0xc, 1, 1, 1, 1, [⟨0, 32, .rw, 100000⟩]⟩,
  ⟨0x10, 1, 1, 1, 1, [⟨0, 32, .rw, 0⟩]⟩,
  ⟨0x14, 1, 1, 1, 1, [⟨0, 16, .rw, 65535⟩]⟩,
  ⟨0x18, 1, 1, 1, 1, [⟨0, 32, .rw, 4294967295⟩]⟩,
  ⟨0x1c, 1, 1, 1, 1, [⟨0, 16, .rw, 65535⟩]⟩,
  ⟨0x20, 1, 1, 1, 1, [⟨0, 32, .wo, 0⟩]⟩,
  ⟨0x24, 1, 1, 1, 1, [⟨0, 16, .wo, 0⟩]⟩,
  ⟨0x28, 1, 1, 1, 1, [⟨0, 32, .ro, 0⟩]⟩,
  ⟨0x2c, 1, 1, 1, 1, [⟨0, 16, .ro, 0⟩]⟩,
  ⟨0x30, 1, 1, 1, 1, [⟨0, 1, .ro, 1⟩, ⟨1, 1, .ro, 1⟩, ⟨2, 1, .ro, 0⟩, ⟨3, 2, .ro, 0⟩, ⟨5, 4, .ro, 0⟩, ⟨9, 1, .w1c, 0⟩, ⟨10, 1, .w1c, 0⟩, ⟨11, 1, .w1c, 0⟩, ⟨12, 1, .w1c, 0⟩, ⟨13, 1, .w1c, 0⟩, ⟨14, 1, .w1c, 0⟩, ⟨15, 1, .ro, 0⟩]⟩,
  ⟨0x34, 1, 1, 1, 1, [⟨0, 5, .rw, 0⟩]⟩,
  ⟨0x38, 1, 1, 1, 1, [⟨0, 20, .ro, 0⟩]⟩,
  ⟨0x3c, 1, 1, 1, 1, [⟨0, 20, .ro, 0⟩]⟩,
  ⟨0x40, 1, 1, 1, 1, [⟨0, 20, .ro, 36000⟩]⟩,
  ⟨0x44, 1, 1, 1, 1, [⟨0, 8, .rw, 95⟩]⟩,
  ⟨0x50, 4, 4, 1, 1, [⟨0, 32, .ro, 0⟩]⟩,
  ⟨0x60, 1, 1, 1, 1, [⟨0, 32, .ro, 0⟩]⟩,
  ⟨0x100, 1, 1, 1, 1, [⟨0, 9, .rw, 360⟩, ⟨9, 2, .rw, 0⟩, ⟨11, 1, .rw, 0⟩, ⟨12, 1, .rw, 1⟩, ⟨13, 1, .rw, 1⟩]⟩,
  ⟨0x108, 1, 1, 1, 1, [⟨0, 9, .rw, 350⟩, ⟨9, 2, .rw, 0⟩, ⟨11, 1, .rw, 0⟩, ⟨12, 1, .rw, 1⟩, ⟨13, 1, .rw, 0⟩]⟩,
  ⟨0x110, 1, 1, 1, 1, [⟨0, 9, .rw, 340⟩, ⟨9, 2, .rw, 0⟩, ⟨11, 1, .rw, 0⟩, ⟨12, 1, .rw, 0⟩, ⟨13, 1, .rw, 0⟩]⟩,
  ⟨0x118, 1, 1, 1, 1, [⟨0, 9, .rw, 330⟩, ⟨9, 2, .rw, 0⟩, ⟨11, 1, .rw, 0⟩, ⟨12, 1, .rw, 0⟩, ⟨13, 1, .rw, 0⟩]⟩]

/-- Registers of block GOV (spec chapter 11), part 1. -/
def rowsGOV1 : List Row := [
  ⟨0x120, 1, 1, 1, 1, [⟨0, 9, .rw, 320⟩, ⟨9, 2, .rw, 0⟩, ⟨11, 1, .rw, 0⟩, ⟨12, 1, .rw, 0⟩, ⟨13, 1, .rw, 0⟩]⟩,
  ⟨0x128, 1, 1, 1, 1, [⟨0, 9, .rw, 310⟩, ⟨9, 2, .rw, 0⟩, ⟨11, 1, .rw, 1⟩, ⟨12, 1, .rw, 0⟩, ⟨13, 1, .rw, 0⟩]⟩,
  ⟨0x130, 1, 1, 1, 1, [⟨0, 9, .rw, 300⟩, ⟨9, 2, .rw, 1⟩, ⟨11, 1, .rw, 1⟩, ⟨12, 1, .rw, 0⟩, ⟨13, 1, .rw, 0⟩]⟩,
  ⟨0x138, 1, 1, 1, 1, [⟨0, 9, .rw, 280⟩, ⟨9, 2, .rw, 2⟩, ⟨11, 1, .rw, 1⟩, ⟨12, 1, .rw, 0⟩, ⟨13, 1, .rw, 0⟩]⟩,
  ⟨0x104, 1, 1, 1, 1, [⟨0, 24, .rw, 6000⟩]⟩,
  ⟨0x10c, 1, 1, 1, 1, [⟨0, 24, .rw, 5000⟩]⟩,
  ⟨0x114, 1, 1, 1, 1, [⟨0, 24, .rw, 4000⟩]⟩,
  ⟨0x11c, 1, 1, 1, 1, [⟨0, 24, .rw, 3000⟩]⟩,
  ⟨0x124, 1, 1, 1, 1, [⟨0, 24, .rw, 2000⟩]⟩,
  ⟨0x12c, 1, 1, 1, 1, [⟨0, 24, .rw, 1000⟩]⟩,
  ⟨0x134, 1, 1, 1, 1, [⟨0, 24, .rw, 500⟩]⟩,
  ⟨0x13c, 1, 1, 1, 1, [⟨0, 24, .rw, 0⟩]⟩,
  ⟨0x200, 1, 1, 1, 1, [⟨0, 2, .rw, 0⟩, ⟨31, 1, .wo, 0⟩]⟩,
  ⟨0x204, 1, 1, 1, 1, [⟨0, 3, .ro, 0⟩, ⟨3, 1, .w1c, 0⟩, ⟨4, 1, .w1c, 0⟩]⟩,
  ⟨0x208, 1, 1, 1, 1, [⟨0, 14, .rw, 1000⟩]⟩,
  ⟨0x210, 1, 1, 1, 1, [⟨0, 30, .ro, 0⟩]⟩,
  ⟨0x214, 1, 1, 1, 1, [⟨0, 30, .rw, 0⟩]⟩,
  ⟨0x218, 1, 1, 1, 1, [⟨0, 30, .w1c, 0⟩]⟩,
  ⟨0x21c, 1, 1, 1, 1, [⟨0, 30, .w1c, 0⟩]⟩,
  ⟨0x400, 48, 16, 1, 1, [⟨0, 16, .ro, 0⟩, ⟨16, 1, .ro, 0⟩]⟩,
  ⟨0x404, 48, 16, 1, 1, [⟨0, 32, .ro, 0⟩]⟩,
  ⟨0x408, 48, 16, 1, 1, [⟨0, 32, .ro, 0⟩]⟩,
  ⟨0x40c, 48, 16, 1, 1, [⟨0, 16, .ro, 0⟩, ⟨16, 16, .ro, 0⟩]⟩,
  ⟨0x800, 48, 16, 1, 1, [⟨0, 16, .rw, 500⟩, ⟨16, 1, .rw, 1⟩, ⟨17, 3, .rw, 2⟩, ⟨20, 1, .rw, 1⟩]⟩]

/-- Registers of block GOV (spec chapter 11), part 2. -/
def rowsGOV2 : List Row := [
  ⟨0x804, 48, 16, 1, 1, [⟨0, 16, .rw, 1000⟩, ⟨16, 1, .rw, 1⟩, ⟨17, 3, .rw, 4⟩, ⟨20, 1, .rw, 1⟩]⟩,
  ⟨0x808, 48, 16, 1, 1, [⟨0, 16, .rw, 5000⟩, ⟨16, 1, .rw, 0⟩, ⟨17, 3, .rw, 6⟩, ⟨20, 1, .rw, 1⟩]⟩,
  ⟨0x80c, 48, 16, 1, 1, [⟨0, 16, .rw, 10000⟩, ⟨16, 1, .rw, 0⟩, ⟨17, 3, .rw, 7⟩, ⟨20, 1, .rw, 1⟩]⟩,
  ⟨0xc00, 48, 4, 1, 1, [⟨0, 3, .ro, 0⟩, ⟨3, 3, .ro, 0⟩]⟩]

/-- Every register of block GOV. -/
def rowsGOV : List Row := rowsGOV0 ++ rowsGOV1 ++ rowsGOV2

/-- Registers of block FLT (spec chapter 12), part 0. -/
def rowsFLT0 : List Row := [
  ⟨0x0, 1, 1, 1, 1, [⟨0, 1, .rw, 0⟩, ⟨1, 1, .rw, 0⟩, ⟨2, 1, .rw, 1⟩, ⟨3, 1, .rw, 0⟩, ⟨8, 1, .wo, 0⟩, ⟨9, 1, .wo, 0⟩]⟩,
  ⟨0x4, 1, 1, 1, 1, [⟨0, 1, .ro, 0⟩, ⟨1, 1, .ro, 0⟩, ⟨2, 3, .ro, 0⟩, ⟨5, 6, .ro, 0⟩, ⟨11, 1, .ro, 0⟩, ⟨12, 1, .ro, 0⟩, ⟨13, 1, .ro, 0⟩, ⟨14, 1, .w1c, 0⟩, ⟨15, 1, .ro, 0⟩]⟩,
  ⟨0x8, 1, 1, 1, 1, [⟨0, 32, .ro, 0⟩]⟩,
  ⟨0xc, 1, 1, 1, 1, [⟨0, 32, .ro, 0⟩]⟩,
  ⟨0x10, 1, 1, 1, 1, [⟨0, 32, .w1c, 0⟩]⟩,
  ⟨0x14, 1, 1, 1, 1, [⟨0, 16, .w1c, 0⟩]⟩,
  ⟨0x18, 1, 1, 1, 1, [⟨0, 32, .ro, 0⟩]⟩,
  ⟨0x1c, 1, 1, 1, 1, [⟨0, 16, .ro, 0⟩]⟩,
  ⟨0x20, 1, 1, 1, 1, [⟨0, 32, .ro, 0⟩]⟩,
  ⟨0x24, 1, 1, 1, 1, [⟨0, 16, .ro, 0⟩]⟩,
  ⟨0x28, 1, 1, 1, 1, [⟨0, 32, .w1c, 0⟩]⟩,
  ⟨0x2c, 1, 1, 1, 1, [⟨0, 16, .w1c, 0⟩]⟩,
  ⟨0x30, 1, 1, 1, 1, [⟨0, 32, .rw, 4294967295⟩]⟩,
  ⟨0x34, 1, 1, 1, 1, [⟨0, 16, .rw, 65535⟩]⟩,
  ⟨0x40, 1, 1, 1, 1, [⟨0, 8, .ro, 0⟩, ⟨8, 1, .ro, 0⟩, ⟨16, 16, .rc, 0⟩]⟩,
  ⟨0x44, 1, 1, 1, 1, [⟨0, 32, .ro, 0⟩]⟩,
  ⟨0x100, 1, 1, 1, 1, [⟨0, 3, .rw, 1⟩, ⟨3, 14, .rw, 1000⟩]⟩,
  ⟨0x104, 1, 1, 1, 1, [⟨0, 3, .rw, 2⟩, ⟨3, 14, .rw, 1000⟩]⟩,
  ⟨0x108, 1, 1, 1, 1, [⟨0, 3, .rw, 1⟩, ⟨3, 14, .rw, 1000⟩]⟩,
  ⟨0x10c, 1, 1, 1, 1, [⟨0, 3, .rw, 1⟩, ⟨3, 14, .rw, 1000⟩]⟩,
  ⟨0x110, 1, 1, 1, 1, [⟨0, 3, .rw, 1⟩, ⟨3, 14, .rw, 1000⟩]⟩,
  ⟨0x114, 1, 1, 1, 1, [⟨0, 3, .rw, 1⟩, ⟨3, 14, .rw, 1000⟩]⟩,
  ⟨0x118, 1, 1, 1, 1, [⟨0, 3, .rw, 0⟩, ⟨3, 14, .rw, 1000⟩]⟩,
  ⟨0x11c, 1, 1, 1, 1, [⟨0, 3, .rw, 0⟩, ⟨3, 14, .rw, 1000⟩]⟩]

/-- Registers of block FLT (spec chapter 12), part 1. -/
def rowsFLT1 : List Row := [
  ⟨0x120, 1, 1, 1, 1, [⟨0, 3, .rw, 2⟩, ⟨3, 14, .rw, 1000⟩]⟩,
  ⟨0x124, 1, 1, 1, 1, [⟨0, 3, .rw, 3⟩, ⟨3, 14, .rw, 10000⟩]⟩,
  ⟨0x128, 1, 1, 1, 1, [⟨0, 3, .rw, 2⟩, ⟨3, 14, .rw, 1000⟩]⟩,
  ⟨0x12c, 1, 1, 1, 1, [⟨0, 3, .rw, 3⟩, ⟨3, 14, .rw, 10000⟩]⟩,
  ⟨0x130, 1, 1, 1, 1, [⟨0, 3, .rw, 1⟩, ⟨3, 14, .rw, 1000⟩]⟩,
  ⟨0x134, 1, 1, 1, 1, [⟨0, 3, .rw, 1⟩, ⟨3, 14, .rw, 1000⟩]⟩,
  ⟨0x138, 1, 1, 1, 1, [⟨0, 3, .rw, 1⟩, ⟨3, 14, .rw, 1000⟩]⟩,
  ⟨0x13c, 1, 1, 1, 1, [⟨0, 3, .rw, 0⟩, ⟨3, 14, .rw, 1000⟩]⟩,
  ⟨0x140, 1, 1, 1, 1, [⟨0, 3, .rw, 1⟩, ⟨3, 14, .rw, 1000⟩]⟩,
  ⟨0x144, 1, 1, 1, 1, [⟨0, 3, .rw, 1⟩, ⟨3, 14, .rw, 1000⟩]⟩,
  ⟨0x148, 1, 1, 1, 1, [⟨0, 3, .rw, 3⟩, ⟨3, 14, .rw, 1000⟩]⟩,
  ⟨0x14c, 1, 1, 1, 1, [⟨0, 3, .rw, 0⟩, ⟨3, 14, .rw, 1000⟩]⟩,
  ⟨0x150, 1, 1, 1, 1, [⟨0, 3, .rw, 1⟩, ⟨3, 14, .rw, 1000⟩]⟩,
  ⟨0x154, 1, 1, 1, 1, [⟨0, 3, .rw, 1⟩, ⟨3, 14, .rw, 1000⟩]⟩,
  ⟨0x158, 1, 1, 1, 1, [⟨0, 3, .rw, 1⟩, ⟨3, 14, .rw, 1000⟩]⟩,
  ⟨0x15c, 1, 1, 1, 1, [⟨0, 3, .rw, 0⟩, ⟨3, 14, .rw, 1000⟩]⟩,
  ⟨0x160, 1, 1, 1, 1, [⟨0, 3, .rw, 0⟩, ⟨3, 14, .rw, 1000⟩]⟩,
  ⟨0x164, 1, 1, 1, 1, [⟨0, 3, .rw, 1⟩, ⟨3, 14, .rw, 1000⟩]⟩,
  ⟨0x168, 1, 1, 1, 1, [⟨0, 3, .rw, 1⟩, ⟨3, 14, .rw, 1000⟩]⟩,
  ⟨0x16c, 1, 1, 1, 1, [⟨0, 3, .rw, 1⟩, ⟨3, 14, .rw, 1000⟩]⟩,
  ⟨0x170, 1, 1, 1, 1, [⟨0, 3, .rw, 0⟩, ⟨3, 14, .rw, 1000⟩]⟩,
  ⟨0x174, 1, 1, 1, 1, [⟨0, 3, .rw, 1⟩, ⟨3, 14, .rw, 1000⟩]⟩,
  ⟨0x178, 1, 1, 1, 1, [⟨0, 3, .rw, 1⟩, ⟨3, 14, .rw, 1000⟩]⟩,
  ⟨0x17c, 1, 1, 1, 1, [⟨0, 3, .rw, 1⟩, ⟨3, 14, .rw, 1000⟩]⟩]

/-- Registers of block FLT (spec chapter 12), part 2. -/
def rowsFLT2 : List Row := [
  ⟨0x180, 1, 1, 1, 1, [⟨0, 3, .rw, 0⟩, ⟨3, 14, .rw, 1000⟩]⟩,
  ⟨0x184, 1, 1, 1, 1, [⟨0, 3, .rw, 4⟩, ⟨3, 14, .rw, 1000⟩]⟩,
  ⟨0x188, 1, 1, 1, 1, [⟨0, 3, .rw, 3⟩, ⟨3, 14, .rw, 1000⟩]⟩,
  ⟨0x18c, 1, 1, 1, 1, [⟨0, 3, .rw, 1⟩, ⟨3, 14, .rw, 1000⟩]⟩,
  ⟨0x190, 1, 1, 1, 1, [⟨0, 3, .rw, 1⟩, ⟨3, 14, .rw, 1000⟩]⟩,
  ⟨0x194, 1, 1, 1, 1, [⟨0, 3, .rw, 4⟩, ⟨3, 14, .rw, 1000⟩]⟩,
  ⟨0x198, 1, 1, 1, 1, [⟨0, 3, .rw, 3⟩, ⟨3, 14, .rw, 100⟩]⟩,
  ⟨0x19c, 1, 1, 1, 1, [⟨0, 3, .rw, 1⟩, ⟨3, 14, .rw, 1000⟩]⟩,
  ⟨0x1a0, 1, 1, 1, 1, [⟨0, 3, .rw, 1⟩, ⟨3, 14, .rw, 1000⟩]⟩,
  ⟨0x1a4, 1, 1, 1, 1, [⟨0, 3, .rw, 1⟩, ⟨3, 14, .rw, 1000⟩]⟩,
  ⟨0x1a8, 1, 1, 1, 1, [⟨0, 3, .rw, 1⟩, ⟨3, 14, .rw, 1000⟩]⟩,
  ⟨0x1ac, 1, 1, 1, 1, [⟨0, 3, .rw, 1⟩, ⟨3, 14, .rw, 1000⟩]⟩,
  ⟨0x1b0, 1, 1, 1, 1, [⟨0, 3, .rw, 1⟩, ⟨3, 14, .rw, 1000⟩]⟩,
  ⟨0x1b4, 1, 1, 1, 1, [⟨0, 3, .rw, 4⟩, ⟨3, 14, .rw, 1000⟩]⟩,
  ⟨0x1b8, 1, 1, 1, 1, [⟨0, 3, .rw, 0⟩, ⟨3, 14, .rw, 1000⟩]⟩,
  ⟨0x1bc, 1, 1, 1, 1, [⟨0, 3, .rw, 0⟩, ⟨3, 14, .rw, 1000⟩]⟩,
  ⟨0x200, 48, 4, 1, 1, [⟨0, 32, .ro, 0⟩]⟩,
  ⟨0x300, 1, 1, 1, 1, [⟨0, 1, .rw, 1⟩, ⟨1, 1, .wo, 0⟩, ⟨2, 1, .wo, 0⟩]⟩,
  ⟨0x304, 1, 1, 1, 1, [⟨0, 3, .ro, 0⟩, ⟨3, 3, .ro, 0⟩, ⟨6, 1, .ro, 0⟩, ⟨7, 1, .ro, 0⟩, ⟨8, 7, .ro, 0⟩, ⟨15, 1, .w1c, 0⟩]⟩,
  ⟨0x308, 1, 1, 1, 1, [⟨0, 32, .ro, 0⟩]⟩,
  ⟨0x30c, 1, 1, 1, 1, [⟨0, 32, .ro, 0⟩]⟩,
  ⟨0x1000, 256, 16, 1, 1, [⟨0, 6, .ro, 0⟩, ⟨6, 3, .ro, 0⟩, ⟨9, 1, .ro, 0⟩, ⟨10, 1, .ro, 0⟩]⟩,
  ⟨0x1004, 256, 16, 1, 1, [⟨0, 32, .ro, 0⟩]⟩,
  ⟨0x1008, 256, 16, 1, 1, [⟨0, 32, .ro, 0⟩]⟩]

/-- Registers of block FLT (spec chapter 12), part 3. -/
def rowsFLT3 : List Row := [
  ⟨0x100c, 256, 16, 1, 1, [⟨0, 32, .ro, 0⟩]⟩]

/-- Every register of block FLT. -/
def rowsFLT : List Row := rowsFLT0 ++ rowsFLT1 ++ rowsFLT2 ++ rowsFLT3

/-- Registers of block BUS (spec chapter 13), part 0. -/
def rowsBUS0 : List Row := [
  ⟨0x0, 1, 1, 1, 1, [⟨0, 2, .rw, 1⟩]⟩,
  ⟨0x4, 1, 1, 1, 1, [⟨0, 1, .rw, 0⟩]⟩,
  ⟨0x8, 1, 1, 1, 1, [⟨0, 32, .ro, 0⟩]⟩,
  ⟨0xc, 1, 1, 1, 1, [⟨0, 12, .rw, 2000⟩]⟩,
  ⟨0x10, 1, 1, 1, 1, [⟨0, 4, .rw, 8⟩]⟩,
  ⟨0x14, 1, 1, 1, 1, [⟨0, 4, .rw, 14⟩]⟩,
  ⟨0x18, 1, 1, 1, 1, [⟨0, 4, .rw, 12⟩]⟩,
  ⟨0x1c, 1, 1, 1, 1, [⟨0, 4, .rw, 13⟩]⟩,
  ⟨0x20, 1, 1, 1, 1, [⟨0, 4, .rw, 10⟩]⟩,
  ⟨0x24, 1, 1, 1, 1, [⟨0, 4, .rw, 4⟩]⟩,
  ⟨0x28, 1, 1, 1, 1, [⟨0, 4, .rw, 4⟩]⟩,
  ⟨0x2c, 1, 1, 1, 1, [⟨0, 4, .rw, 2⟩]⟩,
  ⟨0x40, 1, 1, 1, 1, [⟨0, 32, .ro, 0⟩]⟩,
  ⟨0x44, 1, 1, 1, 1, [⟨0, 32, .ro, 0⟩]⟩,
  ⟨0x48, 1, 1, 1, 1, [⟨0, 32, .ro, 0⟩]⟩,
  ⟨0x4c, 1, 1, 1, 1, [⟨0, 8, .ro, 0⟩]⟩,
  ⟨0x50, 1, 1, 1, 1, [⟨0, 16, .rw, 10000⟩]⟩,
  ⟨0x80, 8, 8, 1, 1, [⟨0, 32, .ro, 0⟩]⟩,
  ⟨0x84, 8, 8, 1, 1, [⟨0, 32, .ro, 0⟩]⟩,
  ⟨0xc0, 1, 1, 1, 1, [⟨0, 20, .ro, 0⟩]⟩,
  ⟨0xc4, 1, 1, 1, 1, [⟨0, 32, .ro, 0⟩]⟩,
  ⟨0x100, 1, 1, 1, 1, [⟨0, 1, .rw, 1⟩, ⟨1, 2, .rw, 0⟩, ⟨16, 16, .rw, 100⟩]⟩,
  ⟨0x104, 1, 1, 1, 1, [⟨0, 1, .ro, 0⟩, ⟨2, 1, .w1c, 0⟩, ⟨3, 1, .w1c, 0⟩, ⟨16, 15, .ro, 0⟩]⟩,
  ⟨0x108, 1, 1, 1, 1, [⟨0, 32, .ro, 0⟩]⟩]

/-- Registers of block BUS (spec chapter 13), part 1. -/
def rowsBUS1 : List Row := [
  ⟨0x10c, 1, 1, 1, 1, [⟨0, 32, .ro, 0⟩]⟩,
  ⟨0x110, 1, 1, 1, 1, [⟨0, 32, .ro, 0⟩]⟩,
  ⟨0x140, 16, 4, 1, 1, [⟨0, 4, .ro, 0⟩, ⟨4, 9, .ro, 0⟩, ⟨13, 1, .ro, 0⟩, ⟨16, 16, .ro, 0⟩]⟩,
  ⟨0x200, 16, 8, 1, 1, [⟨0, 9, .ro, 0⟩, ⟨9, 1, .ro, 0⟩, ⟨16, 9, .ro, 0⟩, ⟨25, 1, .ro, 0⟩]⟩,
  ⟨0x204, 16, 8, 1, 1, [⟨0, 9, .ro, 0⟩, ⟨9, 1, .ro, 0⟩, ⟨16, 9, .ro, 0⟩, ⟨25, 1, .ro, 0⟩]⟩,
  ⟨0x300, 1, 1, 1, 1, [⟨0, 4, .rw, 0⟩, ⟨4, 2, .rw, 0⟩, ⟨6, 9, .rw, 0⟩, ⟨31, 1, .wo, 0⟩]⟩,
  ⟨0x304, 1, 1, 1, 1, [⟨0, 1, .ro, 0⟩, ⟨1, 2, .ro, 0⟩]⟩,
  ⟨0x280, 16, 8, 1, 1, [⟨0, 9, .ro, 0⟩, ⟨9, 1, .ro, 0⟩, ⟨16, 9, .ro, 0⟩, ⟨25, 1, .ro, 0⟩]⟩,
  ⟨0x284, 16, 8, 1, 1, [⟨0, 9, .ro, 0⟩, ⟨9, 1, .ro, 0⟩, ⟨16, 9, .ro, 0⟩, ⟨25, 1, .ro, 0⟩]⟩]

/-- Every register of block BUS. -/
def rowsBUS : List Row := rowsBUS0 ++ rowsBUS1

/-- Registers of block DRC (spec chapter 13), part 0. -/
def rowsDRC0 : List Row := [
  ⟨0x0, 1, 1, 1, 1, [⟨0, 1, .rw, 1⟩, ⟨8, 8, .rw, 1⟩]⟩,
  ⟨0x4, 1, 1, 1, 1, [⟨0, 1, .ro, 0⟩, ⟨1, 1, .ro, 0⟩]⟩,
  ⟨0x10, 2, 4, 1, 1, [⟨0, 32, .ro, 0⟩]⟩,
  ⟨0x18, 1, 1, 1, 1, [⟨0, 32, .ro, 0⟩]⟩,
  ⟨0x1c, 1, 1, 1, 1, [⟨0, 32, .ro, 0⟩]⟩,
  ⟨0x20, 1, 1, 1, 1, [⟨0, 32, .ro, 0⟩]⟩,
  ⟨0x24, 1, 1, 1, 1, [⟨0, 32, .ro, 0⟩]⟩,
  ⟨0x28, 1, 1, 1, 1, [⟨0, 32, .ro, 0⟩]⟩,
  ⟨0x2c, 1, 1, 1, 1, [⟨0, 32, .ro, 0⟩]⟩]

/-- Every register of block DRC. -/
def rowsDRC : List Row := rowsDRC0

/-- Registers of block BPM (spec chapter 13), part 0. -/
def rowsBPM0 : List Row := [
  ⟨0x0, 1, 1, 1, 1, [⟨0, 4, .rw, 0⟩]⟩,
  ⟨0x4, 1, 1, 1, 1, [⟨0, 1, .ro, 0⟩, ⟨1, 1, .ro, 0⟩, ⟨2, 1, .ro, 0⟩, ⟨4, 4, .w1c, 0⟩]⟩,
  ⟨0x10, 1, 1, 1, 1, [⟨0, 32, .ro, 0⟩]⟩,
  ⟨0x14, 1, 1, 1, 1, [⟨0, 32, .ro, 0⟩]⟩,
  ⟨0x18, 1, 1, 1, 1, [⟨0, 32, .ro, 0⟩]⟩,
  ⟨0x40, 1, 1, 1, 1, [⟨0, 32, .rw, 0⟩]⟩,
  ⟨0x44, 1, 1, 1, 1, [⟨0, 8, .ro, 0⟩, ⟨8, 8, .ro, 0⟩, ⟨16, 1, .ro, 0⟩, ⟨17, 1, .ro, 0⟩]⟩,
  ⟨0x100, 1, 1, 1, 1, [⟨0, 14, .ro, 8192⟩, ⟨16, 14, .rc, 8192⟩]⟩,
  ⟨0x110, 1, 1, 1, 1, [⟨0, 14, .ro, 2048⟩, ⟨16, 14, .rc, 2048⟩]⟩,
  ⟨0x120, 1, 1, 1, 1, [⟨0, 14, .ro, 512⟩, ⟨16, 14, .rc, 512⟩]⟩,
  ⟨0x130, 1, 1, 1, 1, [⟨0, 14, .ro, 256⟩, ⟨16, 14, .rc, 256⟩]⟩,
  ⟨0x104, 4, 16, 1, 1, [⟨0, 14, .rw, 0⟩]⟩,
  ⟨0x108, 4, 16, 1, 1, [⟨0, 32, .ro, 0⟩]⟩,
  ⟨0x10c, 4, 16, 1, 1, [⟨0, 32, .ro, 0⟩]⟩,
  ⟨0x1000, 32, 32, 1, 1, [⟨0, 17, .rw, 0⟩]⟩,
  ⟨0x1004, 32, 32, 1, 1, [⟨0, 32, .ro, 0⟩]⟩,
  ⟨0x1008, 32, 32, 1, 1, [⟨0, 32, .wo, 0⟩]⟩,
  ⟨0x100c, 32, 32, 1, 1, [⟨0, 8, .rw, 0⟩]⟩,
  ⟨0x1010, 32, 32, 1, 1, [⟨0, 32, .wo, 0⟩]⟩,
  ⟨0x1014, 32, 32, 1, 1, [⟨0, 3, .ro, 0⟩]⟩]

/-- Every register of block BPM. -/
def rowsBPM : List Row := rowsBPM0

/-- Registers of block DMA (spec chapter 14), part 0. -/
def rowsDMA0 : List Row := [
  ⟨0x0, 1, 1, 1, 1, [⟨0, 1, .rw, 1⟩]⟩,
  ⟨0x4, 1, 1, 1, 1, [⟨0, 16, .w1c, 0⟩]⟩,
  ⟨0x8, 1, 1, 1, 1, [⟨0, 16, .w1c, 0⟩]⟩,
  ⟨0xc, 1, 1, 1, 1, [⟨0, 16, .rw, 0⟩, ⟨16, 16, .rw, 0⟩]⟩,
  ⟨0x100, 16, 32, 1, 1, [⟨0, 32, .rw, 0⟩]⟩,
  ⟨0x104, 16, 32, 1, 1, [⟨0, 11, .rw, 16⟩]⟩,
  ⟨0x108, 16, 32, 1, 1, [⟨0, 10, .ro, 0⟩]⟩,
  ⟨0x10c, 16, 32, 1, 1, [⟨0, 10, .rw, 0⟩]⟩,
  ⟨0x110, 16, 32, 1, 1, [⟨0, 1, .wo, 0⟩, ⟨1, 1, .wo, 0⟩]⟩,
  ⟨0x114, 16, 32, 1, 1, [⟨0, 1, .ro, 0⟩, ⟨1, 1, .ro, 0⟩, ⟨2, 3, .ro, 0⟩]⟩,
  ⟨0x118, 16, 32, 1, 1, [⟨0, 32, .ro, 0⟩]⟩,
  ⟨0xf000, 32, 16, 4, 4, [⟨0, 32, .rw, 0⟩]⟩,
  ⟨0xf800, 1, 1, 1, 1, [⟨0, 32, .ro, 0⟩]⟩]

/-- Every register of block DMA. -/
def rowsDMA : List Row := rowsDMA0

/-- Registers of block ID (spec chapter 14), part 0. -/
def rowsID0 : List Row := [
  ⟨0x0, 1, 1, 1, 1, [⟨0, 32, .ro, 1095583826⟩]⟩,
  ⟨0x4, 1, 1, 1, 1, [⟨0, 16, .ro, 29270⟩, ⟨16, 1, .ro, 0⟩]⟩,
  ⟨0x8, 1, 1, 1, 1, [⟨0, 8, .ro, 1⟩, ⟨8, 8, .ro, 66⟩]⟩,
  ⟨0xc, 1, 1, 1, 1, [⟨0, 32, .ro, 0⟩]⟩,
  ⟨0x10, 1, 1, 1, 1, [⟨0, 32, .ro, 0⟩]⟩,
  ⟨0x14, 1, 1, 1, 1, [⟨0, 32, .ro, 0⟩]⟩,
  ⟨0x18, 1, 1, 1, 1, [⟨0, 1, .ro, 0⟩, ⟨1, 1, .ro, 0⟩, ⟨2, 4, .ro, 0⟩, ⟨6, 4, .ro, 0⟩, ⟨10, 1, .ro, 0⟩, ⟨11, 1, .ro, 0⟩]⟩,
  ⟨0x20, 15, 4, 1, 1, [⟨0, 32, .ro, 0⟩]⟩,
  ⟨0x60, 1, 1, 1, 1, [⟨0, 13, .ro, 4096⟩]⟩]

/-- Every register of block ID. -/
def rowsID : List Row := rowsID0

/-- Registers of block BOOT (spec chapter 14), part 0. -/
def rowsBOOT0 : List Row := [
  ⟨0x0, 1, 1, 1, 1, [⟨0, 3, .ro, 0⟩, ⟨3, 1, .ro, 0⟩, ⟨4, 1, .ro, 0⟩, ⟨5, 2, .ro, 0⟩, ⟨7, 1, .ro, 0⟩]⟩,
  ⟨0x4, 1, 1, 1, 1, [⟨0, 1, .rw, 0⟩, ⟨16, 10, .rw, 100⟩]⟩,
  ⟨0x8, 1, 1, 1, 1, [⟨0, 1, .wo, 0⟩, ⟨1, 1, .wo, 0⟩]⟩,
  ⟨0xc, 1, 1, 1, 1, [⟨0, 4, .rw, 8⟩]⟩,
  ⟨0x10, 1, 1, 1, 1, [⟨0, 32, .rw, 2164260864⟩]⟩,
  ⟨0x14, 1, 1, 1, 1, [⟨0, 32, .rw, 2214592512⟩]⟩,
  ⟨0x18, 1, 1, 1, 1, [⟨0, 4, .rw, 0⟩, ⟨4, 2, .rw, 0⟩, ⟨31, 1, .wo, 0⟩]⟩,
  ⟨0x1c, 1, 1, 1, 1, [⟨0, 8, .ro, 0⟩, ⟨8, 8, .ro, 0⟩, ⟨16, 16, .ro, 0⟩]⟩,
  ⟨0x20, 1, 1, 1, 1, [⟨0, 18, .ro, 0⟩, ⟨18, 1, .w1c, 0⟩]⟩,
  ⟨0x24, 1, 1, 1, 1, [⟨0, 16, .ro, 0⟩]⟩,
  ⟨0x28, 1, 1, 1, 1, [⟨0, 32, .ro, 0⟩]⟩,
  ⟨0x2c, 1, 1, 1, 1, [⟨0, 30, .wo, 0⟩]⟩,
  ⟨0x30, 1, 1, 1, 1, [⟨0, 32, .ro, 0⟩]⟩,
  ⟨0x40, 8, 4, 1, 1, [⟨0, 32, .ro, 0⟩]⟩,
  ⟨0x60, 8, 4, 1, 1, [⟨0, 32, .ro, 0⟩]⟩]

/-- Every register of block BOOT. -/
def rowsBOOT : List Row := rowsBOOT0

/-- Registers of block SEC (spec chapter 14), part 0. -/
def rowsSEC0 : List Row := [
  ⟨0x0, 1, 1, 1, 1, [⟨0, 4, .rw, 0⟩, ⟨4, 2, .rw, 0⟩, ⟨31, 1, .wo, 0⟩]⟩,
  ⟨0x4, 1, 1, 1, 1, [⟨0, 1, .ro, 0⟩, ⟨1, 3, .ro, 0⟩]⟩,
  ⟨0x10, 8, 4, 1, 1, [⟨0, 32, .wo, 0⟩]⟩,
  ⟨0x40, 4, 32, 8, 4, [⟨0, 32, .ro, 0⟩]⟩,
  ⟨0x100, 1, 1, 1, 1, [⟨0, 1, .wo, 0⟩]⟩,
  ⟨0x104, 1, 1, 1, 1, [⟨0, 1, .ro, 0⟩, ⟨1, 1, .ro, 0⟩, ⟨2, 3, .ro, 0⟩, ⟨16, 11, .ro, 0⟩]⟩,
  ⟨0x108, 1, 1, 1, 1, [⟨0, 32, .rw, 0⟩]⟩,
  ⟨0x10c, 1, 1, 1, 1, [⟨0, 12, .ro, 0⟩]⟩,
  ⟨0x110, 8, 4, 1, 1, [⟨0, 32, .wo, 0⟩]⟩,
  ⟨0x200, 1, 1, 1, 1, [⟨0, 1, .rwl, 0⟩, ⟨1, 1, .ro, 0⟩]⟩,
  ⟨0x204, 1, 1, 1, 1, [⟨0, 32, .ro, 0⟩]⟩]

/-- Every register of block SEC. -/
def rowsSEC : List Row := rowsSEC0

/-- Registers of block GLN (spec chapter 15), part 0. -/
def rowsGLN0 : List Row := [
  ⟨0x0, 1, 1, 1, 1, [⟨0, 2, .rw, 0⟩, ⟨2, 1, .rw, 0⟩, ⟨3, 1, .rw, 0⟩]⟩,
  ⟨0x4, 1, 1, 1, 1, [⟨0, 8, .w1c, 0⟩, ⟨8, 8, .w1c, 0⟩, ⟨16, 8, .ro, 0⟩]⟩,
  ⟨0x8, 1, 1, 1, 1, [⟨0, 32, .rw, 0⟩]⟩,
  ⟨0xc, 1, 1, 1, 1, [⟨0, 16, .rw, 0⟩]⟩,
  ⟨0x10, 4, 4, 1, 1, [⟨0, 4, .rw, 0⟩, ⟨4, 8, .rw, 8⟩]⟩,
  ⟨0x20, 2, 4, 1, 1, [⟨0, 1, .rw, 0⟩, ⟨1, 3, .rw, 0⟩, ⟨4, 8, .rw, 10⟩]⟩,
  ⟨0x30, 1, 1, 1, 1, [⟨0, 32, .ro, 0⟩]⟩,
  ⟨0x100, 8, 64, 1, 1, [⟨0, 5, .rw, 0⟩, ⟨5, 11, .rw, 0⟩, ⟨16, 1, .rw, 0⟩, ⟨17, 1, .rw, 0⟩]⟩,
  ⟨0x104, 8, 64, 1, 1, [⟨0, 5, .rw, 0⟩, ⟨5, 2, .rw, 0⟩, ⟨7, 1, .rw, 0⟩, ⟨8, 8, .rw, 0⟩, ⟨16, 5, .rw, 0⟩, ⟨21, 11, .rw, 0⟩]⟩,
  ⟨0x108, 8, 64, 1, 1, [⟨0, 16, .rw, 1024⟩, ⟨16, 16, .rw, 3072⟩]⟩,
  ⟨0x10c, 8, 64, 1, 1, [⟨0, 8, .rw, 1⟩, ⟨8, 8, .rw, 0⟩]⟩,
  ⟨0x110, 8, 64, 1, 1, [⟨0, 1, .wo, 0⟩, ⟨1, 1, .wo, 0⟩, ⟨2, 1, .wo, 0⟩]⟩,
  ⟨0x114, 8, 64, 1, 1, [⟨0, 3, .ro, 0⟩, ⟨3, 1, .w1c, 0⟩, ⟨4, 3, .ro, 0⟩, ⟨8, 4, .ro, 0⟩, ⟨16, 8, .ro, 0⟩]⟩,
  ⟨0x118, 8, 64, 1, 1, [⟨0, 32, .ro, 0⟩]⟩,
  ⟨0x11c, 8, 64, 1, 1, [⟨0, 32, .ro, 0⟩]⟩,
  ⟨0x120, 8, 64, 1, 1, [⟨0, 32, .ro, 0⟩]⟩]

/-- Every register of block GLN. -/
def rowsGLN : List Row := rowsGLN0

/-- Window registers: LOOP (spec chapters 06 to 08). -/
def rowsLOOP (nloop : Nat) : List Row := [
  ⟨0x10000, nloop, 64, 1, 1, [⟨0, 2, .rw, 0⟩, ⟨2, 1, .rw, 0⟩, ⟨3, 2, .rw, 0⟩, ⟨5, 1, .rw, 0⟩, ⟨8, 8, .rw, 44⟩, ⟨16, 4, .rw, 2⟩, ⟨24, 8, .rw, 4⟩]⟩,
  ⟨0x10004, nloop, 64, 1, 1, [⟨0, 12, .rw, 4095⟩, ⟨12, 12, .rw, 4095⟩, ⟨24, 6, .rw, 0⟩]⟩,
  ⟨0x10008, nloop, 64, 1, 1, [⟨0, 2, .ro, 3⟩, ⟨2, 1, .ro, 0⟩, ⟨3, 1, .ro, 0⟩, ⟨4, 1, .w1c, 0⟩, ⟨5, 1, .w1c, 0⟩, ⟨6, 1, .w1c, 0⟩, ⟨7, 1, .w1c, 0⟩, ⟨8, 6, .ro, 0⟩, ⟨14, 1, .ro, 0⟩, ⟨15, 1, .ro, 0⟩, ⟨16, 8, .ro, 0⟩]⟩,
  ⟨0x1000c, nloop, 64, 1, 1, [⟨0, 16, .rw, 0⟩]⟩,
  ⟨0x10010, nloop, 64, 1, 1, [⟨0, 16, .rw, 32768⟩, ⟨16, 16, .rw, 32767⟩]⟩,
  ⟨0x10014, nloop, 64, 1, 1, [⟨0, 16, .ro, 0⟩, ⟨16, 16, .ro, 0⟩]⟩,
  ⟨0x10018, nloop, 64, 1, 1, [⟨0, 16, .ro, 0⟩, ⟨16, 16, .ro, 0⟩]⟩,
  ⟨0x1001c, nloop, 64, 1, 1, [⟨0, 32, .ro, 0⟩]⟩,
  ⟨0x10020, nloop, 64, 1, 1, [⟨0, 8, .ro, 0⟩]⟩,
  ⟨0x10024, nloop, 64, 1, 1, [⟨0, 16, .ro, 0⟩, ⟨16, 16, .ro, 0⟩]⟩,
  ⟨0x10028, nloop, 64, 1, 1, [⟨0, 16, .ro, 0⟩, ⟨16, 16, .ro, 0⟩]⟩,
  ⟨0x1002c, nloop, 64, 1, 1, [⟨0, 32, .ro, 0⟩]⟩,
  ⟨0x10030, nloop, 64, 1, 1, [⟨0, 16, .ro, 0⟩, ⟨16, 16, .ro, 0⟩]⟩,
  ⟨0x10034, nloop, 64, 3, 4, []⟩]

/-- Window registers: PAIR (spec chapters 06 to 08). -/
def rowsPAIR : List Row := [
  ⟨0x0, 1, 1, 1, 1, [⟨0, 1, .rw, 0⟩, ⟨1, 1, .rw, 1⟩, ⟨2, 1, .rw, 1⟩, ⟨8, 1, .wo, 0⟩, ⟨9, 1, .wo, 0⟩]⟩,
  ⟨0x4, 1, 1, 1, 1, [⟨0, 3, .ro, 0⟩, ⟨3, 3, .ro, 0⟩, ⟨6, 1, .ro, 0⟩, ⟨7, 2, .ro, 0⟩, ⟨9, 1, .ro, 0⟩, ⟨10, 1, .ro, 0⟩, ⟨11, 1, .ro, 0⟩]⟩,
  ⟨0x8, 1, 1, 1, 1, [⟨0, 32, .ro, 0⟩]⟩,
  ⟨0xc, 1, 1, 1, 1, [⟨0, 1, .w1c, 0⟩, ⟨1, 1, .w1c, 0⟩, ⟨2, 1, .w1c, 0⟩, ⟨3, 1, .w1c, 0⟩, ⟨16, 12, .ro, 0⟩]⟩,
  ⟨0x10, 1, 1, 1, 1, [⟨0, 32, .ro, 0⟩]⟩,
  ⟨0x14, 1, 1, 1, 1, [⟨0, 32, .ro, 0⟩]⟩,
  ⟨0x18, 1, 1, 1, 1, [⟨0, 32, .ro, 0⟩]⟩,
  ⟨0x20, 1, 1, 1, 1, [⟨0, 8, .rw, 58⟩, ⟨8, 8, .rw, 38⟩, ⟨16, 8, .rw, 18⟩]⟩,
  ⟨0x24, 1, 1, 1, 1, [⟨0, 8, .rw, 10⟩, ⟨8, 8, .rw, 25⟩, ⟨16, 8, .rw, 40⟩, ⟨24, 8, .rw, 55⟩]⟩,
  ⟨0x28, 1, 1, 1, 1, [⟨0, 8, .rw, 70⟩, ⟨8, 8, .rw, 85⟩, ⟨16, 8, .rw, 100⟩]⟩,
  ⟨0x2c, 1, 1, 1, 1, [⟨0, 16, .rw, 200⟩]⟩,
  ⟨0x100, 64, 4, 1, 1, [⟨0, 32, .ro, 0⟩]⟩,
  ⟨0x200, 64, 4, 1, 1, [⟨0, 32, .ro, 0⟩]⟩,
  ⟨0x300, 64, 4, 1, 1, [⟨0, 32, .ro, 0⟩]⟩]

/-- Window registers: TRC (spec chapters 06 to 08). -/
def rowsTRC (base : Nat) : List Row := [
  ⟨base + 0x0, 1, 1, 1, 1, [⟨0, 1, .rw, 0⟩, ⟨1, 1, .rw, 0⟩, ⟨2, 3, .rw, 0⟩, ⟨5, 1, .wo, 0⟩, ⟨6, 1, .wo, 0⟩, ⟨8, 4, .rw, 0⟩, ⟨16, 12, .rw, 2048⟩]⟩,
  ⟨base + 0x4, 1, 1, 1, 1, [⟨0, 12, .ro, 0⟩, ⟨12, 1, .ro, 0⟩, ⟨13, 1, .ro, 0⟩, ⟨14, 1, .ro, 0⟩, ⟨15, 1, .w1c, 0⟩, ⟨16, 12, .ro, 0⟩]⟩,
  ⟨base + 0x10, 4, 4, 1, 1, [⟨0, 12, .rw, 0⟩, ⟨12, 4, .rw, 0⟩]⟩]

/-- Window registers: DRL (spec chapters 06 to 08). -/
def rowsDRL (base nchan : Nat) : List Row := [
  ⟨base + 0x0, nchan, 16, 1, 1, [⟨0, 1, .rw, 0⟩, ⟨1, 1, .rw, 0⟩, ⟨2, 2, .rw, 0⟩, ⟨4, 1, .rw, 1⟩, ⟨5, 1, .rw, 1⟩, ⟨8, 8, .rw, 0⟩]⟩,
  ⟨base + 0x4, nchan, 16, 1, 1, [⟨0, 3, .ro, 0⟩, ⟨3, 1, .ro, 0⟩, ⟨4, 1, .ro, 0⟩, ⟨5, 1, .ro, 0⟩, ⟨6, 1, .w1c, 0⟩, ⟨7, 1, .w1c, 0⟩, ⟨8, 1, .w1c, 0⟩, ⟨9, 1, .w1c, 0⟩, ⟨10, 1, .w1c, 0⟩, ⟨11, 1, .ro, 0⟩, ⟨12, 1, .w1c, 0⟩, ⟨13, 1, .w1c, 0⟩, ⟨14, 1, .w1c, 0⟩, ⟨16, 16, .ro, 0⟩]⟩,
  ⟨base + 0x8, nchan, 16, 1, 1, [⟨0, 16, .rw, 256⟩, ⟨16, 16, .rw, 1⟩]⟩,
  ⟨base + 0xc, nchan, 16, 1, 1, [⟨0, 16, .wo, 0⟩]⟩,
  ⟨base + 0x8000, 1, 1, 1, 1, [⟨0, 1, .wo, 0⟩, ⟨16, 16, .rw, 2000⟩]⟩,
  ⟨base + 0x8004, 1, 1, 1, 1, [⟨0, 1, .ro, 0⟩, ⟨1, 1, .ro, 0⟩, ⟨2, 1, .w1c, 0⟩, ⟨3, 1, .w1c, 0⟩, ⟨4, 1, .w1c, 0⟩]⟩,
  ⟨base + 0x8008, 1, 1, 1, 1, [⟨0, 12, .rw, 0⟩, ⟨12, 8, .rw, 0⟩, ⟨20, 6, .rw, 0⟩, ⟨31, 1, .wo, 0⟩]⟩,
  ⟨base + 0x800c, 1, 1, 1, 1, [⟨0, 1, .ro, 0⟩, ⟨1, 1, .w1c, 0⟩]⟩,
  ⟨base + 0x8010, 1, 1, 1, 1, [⟨0, 20, .ro, 0⟩]⟩,
  ⟨base + 0x8014, 1, 1, 1, 1, [⟨0, 12, .ro, 0⟩]⟩,
  ⟨base + 0x8018, 1, 1, 1, 1, [⟨0, 32, .ro, 0⟩]⟩,
  ⟨base + 0x801c, 1, 1, 1, 1, [⟨0, 32, .ro, 0⟩]⟩,
  ⟨base + 0x8020, 1, 1, 1, 1, [⟨0, 32, .ro, 0⟩]⟩,
  ⟨base + 0x8024, 1, 1, 1, 1, [⟨0, 12, .ro, 0⟩, ⟨12, 3, .ro, 0⟩]⟩,
  ⟨base + 0x8040, 4, 8, 1, 1, [⟨0, 8, .rw, 0⟩, ⟨8, 8, .rw, 0⟩, ⟨16, 8, .rw, 0⟩, ⟨24, 8, .rw, 0⟩]⟩,
  ⟨base + 0x8044, 4, 8, 1, 1, [⟨0, 8, .rw, 0⟩, ⟨8, 8, .rw, 0⟩, ⟨16, 8, .rw, 0⟩, ⟨24, 8, .rw, 0⟩]⟩,
  ⟨base + 0x8100, 8, 4, 1, 1, [⟨0, 32, .ro, 0⟩]⟩]

/-- Window registers: SNS (spec chapters 06 to 08). -/
def rowsSNS (base nsens nslice : Nat) : List Row := [
  ⟨base + 0x0, nsens, 16, 1, 1, [⟨0, 1, .rw, 0⟩, ⟨1, 2, .rw, 0⟩, ⟨3, 1, .rw, 0⟩, ⟨4, 1, .rw, 1⟩, ⟨8, 8, .rw, 0⟩, ⟨16, 8, .rw, 255⟩]⟩,
  ⟨base + 0x4, nsens, 16, 1, 1, [⟨0, 16, .ro, 0⟩, ⟨16, 14, .ro, 0⟩, ⟨30, 1, .ro, 0⟩, ⟨31, 1, .ro, 0⟩]⟩,
  ⟨base + 0x8, nsens, 16, 1, 1, [⟨0, 1, .ro, 0⟩, ⟨1, 1, .w1c, 0⟩, ⟨2, 1, .w1c, 0⟩, ⟨3, 1, .ro, 0⟩, ⟨4, 1, .w1c, 0⟩, ⟨5, 1, .ro, 0⟩, ⟨6, 1, .w1c, 0⟩, ⟨7, 1, .w1c, 0⟩]⟩,
  ⟨base + 0xc, nsens, 16, 1, 1, [⟨0, 16, .ro, 0⟩, ⟨16, 16, .ro, 0⟩]⟩,
  ⟨base + 0x8000, nslice, 32, 1, 1, [⟨0, 8, .rw, 0⟩, ⟨8, 8, .rw, 0⟩]⟩,
  ⟨base + 0x8004, nslice, 32, 1, 1, [⟨0, 2, .ro, 0⟩, ⟨2, 1, .w1c, 0⟩, ⟨3, 1, .w1c, 0⟩, ⟨4, 5, .ro, 31⟩]⟩,
  ⟨base + 0x8008, nslice, 32, 1, 1, [⟨0, 14, .ro, 0⟩, ⟨16, 14, .ro, 0⟩]⟩,
  ⟨base + 0x800c, nslice, 32, 1, 1, [⟨0, 32, .ro, 0⟩]⟩,
  ⟨base + 0x8010, nslice, 32, 1, 1, [⟨0, 32, .ro, 0⟩]⟩,
  ⟨base + 0x8014, nslice, 32, 1, 1, [⟨0, 32, .ro, 0⟩]⟩,
  ⟨base + 0x8018, nslice, 32, 1, 1, [⟨0, 16, .ro, 0⟩]⟩,
  ⟨base + 0xc000, 1, 1, 1, 1, [⟨0, 1, .rw, 1⟩, ⟨8, 8, .rw, 10⟩, ⟨16, 8, .rw, 10⟩]⟩,
  ⟨base + 0xc004, 1, 1, 1, 1, [⟨0, 1, .ro, 0⟩, ⟨1, 1, .ro, 0⟩, ⟨2, 5, .ro, 0⟩, ⟨16, 11, .ro, 0⟩]⟩,
  ⟨base + 0xc008, 1, 1, 1, 1, [⟨0, 32, .ro, 0⟩]⟩,
  ⟨base + 0xc00c, 1, 1, 1, 1, [⟨0, 11, .ro, 0⟩, ⟨12, 2, .ro, 0⟩]⟩,
  ⟨base + 0xc100, 32, 4, 1, 1, [⟨0, 32, .ro, 0⟩]⟩]

/-- Registers of a plot window (Table 1-11). -/
def rowsPlot : List Row :=
  rowsPAIR ++ rowsDRL 0x20000 960 ++ rowsSNS 0x30000 480 17 ++ rowsTRC 0x60000 ++ rowsLOOP 720
/-- Registers of the input headland's window (Table 1-12). -/
def rowsIHL : List Row :=
  rowsPAIR ++ rowsDRL 0x30000 512 ++ rowsSNS 0x40000 1024 9 ++ rowsTRC 0x70000 ++ rowsLOOP 512
/-- Registers of the output headland's window (Table 1-12). -/
def rowsOHL : List Row :=
  rowsPAIR ++ rowsDRL 0x30000 2048 ++ rowsSNS 0x40000 1024 9 ++ rowsTRC 0x70000 ++ rowsLOOP 2048

end Sys2Proof.Machine
end

