-- ==== Sys2Proof/Machine/Store.lean ====
section
/-! DEFINITION. Canonical sparse maps (`amGet`, `amSet`) and the reset value and access codes of every register
offset, looked up in the register tables (`regReset`, `rowFor`). -/
namespace Sys2Proof.Machine

/-- What key `k` holds: its entry, or the default `d k`. -/
def amGet {α : Type} (d : Nat → α) : AMap α → Nat → α
  | [], k => d k
  | (j, v) :: t, k => if k = j then v else amGet d t k

/-- The map without key `k`. -/
def amDel {α : Type} (k : Nat) : AMap α → AMap α
  | [] => []
  | (j, v) :: t => if j = k then amDel k t else (j, v) :: amDel k t

/-- The map with an entry for `k` before the first greater key. -/
def amIns {α : Type} (k : Nat) (x : α) : AMap α → AMap α
  | [] => [(k, x)]
  | (j, v) :: t => if k < j then (k, x) :: (j, v) :: t else (j, v) :: amIns k x t

/-- Set key `k` to `x`, keeping keys rising and listing no default. -/
def amSet {α : Type} [DecidableEq α] (d : Nat → α) (m : AMap α) (k : Nat) (x : α) : AMap α :=
  if x = d k then amDel k m else amIns k x (amDel k m)

/-- Every key of the map is above `lo`. -/
def amAbove {α : Type} (lo : Nat) (m : AMap α) : Bool := m.all (fun e => decide (lo < e.1))

/-- The canonical form: keys strictly rising, no entry equal to the default. -/
def amWf {α : Type} [DecidableEq α] (d : Nat → α) : AMap α → Bool
  | [] => true
  | (j, v) :: t => decide (v ≠ d j) && amAbove j t && amWf d t

/-- Forget every entry with a key in `lo` to `hi - 1`: those keys read as their default again. -/
def amClear {α : Type} (lo hi : Nat) (m : AMap α) : AMap α :=
  m.filter (fun e => !(decide (lo ≤ e.1) && decide (e.1 < hi)))

/-- Does offset `o` fall on register row `r`? -/
def rowHit (r : Row) (o : Nat) : Bool :=
  decide (r.off ≤ o) && decide ((o - r.off) / r.s1 < r.n1) && decide ((o - r.off) % r.s1 % r.s2 = 0)
    && decide ((o - r.off) % r.s1 / r.s2 < r.n2)

/-- The register rows and the offset within them that a BAR0 offset selects (Tables 1-10 to 1-12). -/
def rowsAt (off : Nat) : List Row × Nat :=
  if off < 0x100000 then
    let o := off % 0x10000
    match off / 0x10000 with
    | 0 => (rowsID, o) | 1 => (rowsBOOT, o) | 2 => (rowsFLT, o) | 3 => (rowsGOV, o)
    | 4 => (rowsTIME, o) | 5 => (rowsREQ, o) | 6 => (rowsCMT, o) | 7 => (rowsROT, o)
    | 8 => (rowsGLN, o) | 9 => (rowsBUS, o) | 10 => (rowsBPM, o) | 11 => (rowsDRC, o)
    | 12 => (rowsCAL, o) | 13 => (rowsETH, off % 0x8000) | 14 => (rowsDMA, o) | _ => (rowsSEC, o)
  else if off < 0x1000000 then ([], off)
  else if off < 0x2000000 then (rowsPlot, off % 0x100000)
  else if off < 0x2100000 then (rowsIHL, off % 0x100000)
  else if off < 0x2200000 then (rowsOHL, off % 0x100000)
  else ([], off)

/-- The register row at a BAR0 offset, if the tables give one. -/
def rowFor (off : Nat) : Option Row := (rowsAt off).1.find? (fun r => rowHit r (rowsAt off).2)

/-- The fields of a register value: the sum of the fields' reset values at their places. -/
def fldsReset (fs : List FldSpec) : Nat := fs.foldl (fun n f => n + f.rst * 2 ^ f.lsb) 0

/-- The reset value of the register at a BAR0 offset; 0 where no register stands (R39). -/
def regReset (off : Nat) : Word :=
  match rowFor off with
  | some r => BitVec.ofNat 32 (fldsReset r.flds)
  | none => 0

end Sys2Proof.Machine
end

