-- ==== Sys2Proof/Machine/Ops.lean ====
section
/-! DEFINITION. Named operations over the state: register fields, the clock and the time bases, byte memories,
free values, power domains and MSI-X messages. -/
namespace Sys2Proof.Machine
open Sys2Proof.Config

/-! ### Registers -/

/-- The stored value of the register at BAR0 offset `off` (its reset value until written). -/
def rd (s : State) (off : Nat) : Word := amGet regReset s.regs off

/-- Store a whole register. -/
def setRaw (s : State) (off : Nat) (w : Word) : State := { s with regs := amSet regReset s.regs off w }

/-- The value of a field in a register word. -/
def fldOf (w : Word) (x : Fld) : Nat := w.toNat / 2 ^ x.lsb % 2 ^ x.wid

/-- A register word with one field replaced (bits of `v` above the field's width are dropped). -/
def fldPut (w : Word) (x : Fld) (v : Nat) : Word :=
  BitVec.ofNat 32 (w.toNat - fldOf w x * 2 ^ x.lsb + v % 2 ^ x.wid * 2 ^ x.lsb)

/-- The value of a register field. -/
def f (s : State) (x : Fld) : Nat := fldOf (rd s x.off) x

/-- Is a one-bit field set? -/
def fb (s : State) (x : Fld) : Bool := decide (f s x ≠ 0)

/-- The bits of a register that a field write sets: those newly 1, and a one-bit field's bit though it was 1 before. -/
def setMask (s : State) (x : Fld) (v : Nat) : Nat :=
  (v % 2 ^ x.wid &&& (if x.wid = 1 then 1 else 2 ^ x.wid - 1 - f s x)) * 2 ^ x.lsb

/-- Replace a register field; what the write sets is noted, since it outlasts a clear of the same cycle (R14). -/
def setF (x : Fld) (v : Nat) (s : State) : State :=
  { setRaw s x.off (fldPut (rd s x.off) x v) with
    hwSet := if v % 2 ^ x.wid = 0 then s.hwSet else (s.clk.now, x.off, setMask s x v) :: s.hwSet }

/-- One cycle of the clock of a register's block (Table 1-8): CK_AON for ID, BOOT, FLT and GOV, CK_BUS for the others. -/
def regCycle (off : Nat) : Nat := if off < 0x40000 then aonPeriod else busPeriod

/-- The bits of a register that the hardware set in the present cycle (R14). -/
def heldBits (s : State) (off : Nat) : Nat :=
  s.hwSet.foldl (fun m e =>
    if e.2.1 = off ∧ e.1 / regCycle off = s.clk.now / regCycle off then m ||| e.2.2 else m) 0

/-- Software clears the bits `n` of a W1C field: one that the hardware set in this cycle ends set (R14). -/
def clearBits (x : Fld) (n : Nat) (s : State) : State :=
  setRaw s x.off (fldPut (rd s x.off) x
    (f s x - (f s x &&& n &&& (2 ^ x.wid - 1 - heldBits s x.off / 2 ^ x.lsb % 2 ^ x.wid))))

/-- Set a one-bit field from a Bool. -/
def setB (x : Fld) (b : Bool) (s : State) : State := setF x b.toNat s

/-- Increment a counter field that wraps. -/
def inc (x : Fld) (s : State) : State := setF x (f s x + 1) s

/-- Add to a counter field that wraps. -/
def incBy (x : Fld) (n : Nat) (s : State) : State := setF x (f s x + n) s

/-- Increment a counter field that saturates. -/
def incSat (x : Fld) (s : State) : State := setF x (min (f s x + 1) (2 ^ x.wid - 1)) s

/-- Raise a watermark field to at least `v`. -/
def setMax (x : Fld) (v : Nat) (s : State) : State := setF x (min (max (f s x) v) (2 ^ x.wid - 1)) s

/-- A field read as two's complement. -/
def fInt (s : State) (x : Fld) : Int :=
  if f s x < 2 ^ (x.wid - 1) then (f s x : Int) else (f s x : Int) - 2 ^ x.wid

/-- The two's complement of `v` in `w` bits. -/
def toTwos (w : Nat) (v : Int) : Nat := (v % (2 ^ w : Int)).toNat

/-- Saturate to the range of `w`-bit two's complement. -/
def satInt (w : Nat) (v : Int) : Int := max (-(2 ^ (w - 1) : Int)) (min ((2 ^ (w - 1) : Int) - 1) v)

/-- The value brought to the nearer limit of a range. -/
def clampN (lo hi v : Nat) : Nat := max lo (min hi v)

/-- Apply a list of updates in order. -/
def forEach {α : Type} (l : List α) (g : α → State → State) (s : State) : State :=
  l.foldl (fun t a => g a t) s

/-- Apply an update only when a condition holds. -/
def onlyIf (c : Bool) (g : State → State) (s : State) : State := if c then g s else s

/-! ### Free values -/

/-- Draw a free value (log 8) below `n`. -/
def drawFree (n : Nat) (s : State) : Nat × State :=
  (freeValue s.freeCtr % n, { s with freeCtr := s.freeCtr + 1 })

/-- A quotient whose rounding the spec does not state (log 7): exact where it divides, else either neighbour. -/
def openDiv (a b : Nat) : Nat := if a % b = 0 then a / b else if roundUp a b then a / b + 1 else a / b

/-- The same for a signed numerator, about the floor. -/
def openDivInt (a : Int) (b : Nat) : Int :=
  if a % (b : Int) = 0 then a / (b : Int)
  else if roundUp a.toNat (b + (-a).toNat) then a / (b : Int) + 1 else a / (b : Int)

/-! ### The clock and the time bases -/

/-- Base `b` of a clock. -/
def tbGet (c : Clock) : Nat → TBase
  | 0 => c.tb0 | 1 => c.tb1 | 2 => c.tb2 | _ => c.tb3

/-- Replace base `b` of a clock. -/
def tbPut (c : Clock) (b : Nat) (t : TBase) : Clock :=
  match b with
  | 0 => { c with tb0 := t } | 1 => { c with tb1 := t } | 2 => { c with tb2 := t } | _ => { c with tb3 := t }

/-- Replace base `b`. -/
def setTb (b : Nat) (t : TBase) (s : State) : State := { s with clk := tbPut s.clk b t }

/-- Is base `b` enabled (R150, R189)? -/
def tbEnabled (s : State) (b : Nat) : Bool := b == 0 || (decide (b < 4) && fb s (TIME_TB_CTRL_enable b))

/-- The base's frequency word, 2^-40 ns per CK_TB cycle (R148); TB0 counts at 0 (R149). -/
def tbFreq (s : State) (b : Nat) : Int := if b = 0 then 0 else fInt s (TIME_TB_FREQ_freq b)

/-- Size of the slew of one CK_TB cycle in the direction of `rem`, clamped so that F and the slew together stay
within 488.28125 ppm (R153). DESIGN CHOICE (log 9): a cycle's slew is rounded down to the accumulator's unit. -/
def slewStep (fw : Int) (ppm : Nat) (rem : Int) : Nat :=
  min (4 * nsUnit * ppm / 1000000) (if rem < 0 then 2147483648 + fw else 2147483648 - fw).toNat

/-- What a slew of at most `m` absorbs of `rem`. -/
def slewPart (rem : Int) (m : Nat) : Int := if rem < 0 then max rem (-(m : Int)) else min rem (m : Int)

/-- A base after `n` CK_TB cycles (R148, R153). -/
def tbAdvance (fw : Int) (ppm n : Nat) (t : TBase) : TBase :=
  let sl := slewPart t.slewRem (n * slewStep fw ppm t.slewRem)
  { t with
    val := ((t.val : Int) + n * (4 * (nsUnit : Int) + fw) + sl).toNat % tbWrap
    slewRem := t.slewRem - sl }

/-- Base `b` after `n` CK_TB cycles; a disabled base does not count (R150). -/
def tbAfter (s : State) (n b : Nat) : TBase :=
  if tbEnabled s b then tbAdvance (tbFreq s b) (f s (TIME_TB_SLEW_slew_ppm b)) n (tbGet s.clk b)
  else tbGet s.clk b

/-- CK_TB edges in the `dt` units after instant `now`. -/
def tbEdges (now dt : Nat) : Nat := (now + dt) / tbPeriod - now / tbPeriod

/-- Let `dt` units of 100 ps pass: only the clock changes (log 1), and what was set in an earlier cycle is past. -/
def elapse (s : State) (dt : Nat) : State :=
  let n := tbEdges s.clk.now dt
  { s with
    hwSet := s.hwSet.filter (fun e => e.1 / aonPeriod == (s.clk.now + dt) / aonPeriod)
    clk := { now := s.clk.now + dt, tb0 := tbAfter s n 0, tb1 := tbAfter s n 1,
                    tb2 := tbAfter s n 2, tb3 := tbAfter s n 3 } }

/-- Let time pass up to an absolute instant, if it lies ahead. -/
def elapseTo (s : State) (t : Nat) : State := elapse s (t - s.clk.now)

/-- Let time pass up to the next CK_TB edge, or none when an edge stands now. -/
def toTbEdge (s : State) : State := elapseTo s ((s.clk.now + (tbPeriod - 1)) / tbPeriod * tbPeriod)

/-- The instant from which TB0, which counts 4 ns at each CK_TB edge (R148), shows at least `v`. -/
def tb0Instant (s : State) (v : Nat) : Nat := (s.clk.now / tbPeriod + (v - s.clk.tb0.val + (4 * nsUnit - 1)) / (4 * nsUnit)) * tbPeriod
/-- The next instant, now included, at which TB0 shows a multiple of `p` of 100 ps. -/
def tb0Multiple (s : State) (p : Nat) : Nat :=
  let u := p * (nsUnit / 10)
  tb0Instant s ((s.clk.tb0.val + (u - 1)) / u * u)

/-- What base `b` shows: 0 while disabled (R150). -/
def tbNow (s : State) (b : Nat) : Nat := if tbEnabled s b then (tbGet s.clk b).val else 0

/-- Fractional nanoseconds of a base value, 2^-16 ns (R147, R148). -/
def tFrac (v : Nat) : Nat := v / 2 ^ 24 % 2 ^ 16
/-- Nanoseconds of a base value. -/
def tNs (v : Nat) : Nat := v / nsUnit % 1000000000
/-- Seconds of a base value. -/
def tSec (v : Nat) : Nat := v / secUnit % 2 ^ 48

/-- Write a base value into four registers: fraction, nanoseconds, seconds low and high. -/
def putTime (a b c d : Fld) (v : Nat) (s : State) : State :=
  setF d (tSec v / 2 ^ 32) (setF c (tSec v) (setF b (tNs v) (setF a (tFrac v) s)))

/-- The first CK_TICK edge at or after an instant (R111, R121). -/
def tickAtOrAfter (t : Nat) : Nat := (t + (tickPeriod - 1)) / tickPeriod

/-- What base `b` shows at CK_TICK edge `k`, counting on at its present rate; every CK_TICK edge is a CK_TB edge. -/
def tickExact (s : State) (b k : Nat) : Nat :=
  if tbEnabled s b then (tbAfter s (5 * k - s.clk.now / tbPeriod) b).val else 0

/-- The sequencer's placement error for a tick, within 1 ns (R116). -/
def placeErr (b k : Nat) : Int := max (-(nsUnit : Int)) (min (nsUnit : Int) (placement b k * 2 ^ 30))

/-- The computed time of tick `k` on base `b` (R116). -/
def tickTime (s : State) (b k : Nat) : Nat :=
  if tbEnabled s b then ((tickExact s b k : Int) + placeErr b k).toNat else 0

/-- CK_TB cycles until a base that shows `d` less than an instant shows it: `g` a cycle, with `m` more or less a cycle
while `rem` is slewed in (R153). -/
def cyclesUntil (d g m : Nat) (rem : Int) : Nat :=
  let r := if rem < 0 then g - m else g + m
  let n := (d + (r - 1)) / r
  if m = 0 ∨ n * m ≤ rem.natAbs then n
  else max (rem.natAbs / m + 1) ((((d : Int) - rem).toNat + (g - 1)) / g)

/-- The CK_TICK edge at or after now from which base `b` exactly shows at least `inst`, at its present rate and slew. -/
def exactTick (s : State) (b inst : Nat) : Nat :=
  let t := tbGet s.clk b
  let fw := tbFreq s b
  let n := cyclesUntil (inst - t.val) (4 * (nsUnit : Int) + fw).toNat (slewStep fw (f s (TIME_TB_SLEW_slew_ppm b)) t.slewRem) t.slewRem
  max (tickAtOrAfter s.clk.now) ((s.clk.now / tbPeriod + n + 4) / 5)

/-- The first tick whose computed time on base `b` is at or after `inst` (R117). The placement error is within 1 ns
and ticks lie 20 ns apart, so only the neighbours of the exact tick come into question. An instant that has passed has the
present tick. -/
def firstTick (s : State) (b inst : Nat) : Nat :=
  let k := exactTick s b inst
  if decide (tickAtOrAfter s.clk.now < k) && decide (inst ≤ tickTime s b (k - 1)) then k - 1
  else if inst ≤ tickTime s b k then k else k + 1

/-- The tick of an instant for an order of instants: that of `firstTick`, and for one that base `b` has passed the tick at
which it showed it, counting back at its present rate (DESIGN CHOICE, log 73). -/
def tickOrder (s : State) (b inst : Nat) : Int :=
  let v := tbNow s b
  if v ≤ inst then (firstTick s b inst : Int)
  else -(((((v - inst) / (4 * (nsUnit : Int) + tbFreq s b).toNat : Nat) : Int) - (s.clk.now / tbPeriod : Nat)) / 5)

/-! ### Byte memories -/

/-- What an unlisted byte of memory reads as (log 10). -/
def memReset (_ : Nat) : BitVec 8 := 0

/-- One byte. -/
def memGet (m : List Host.Cell) (a : Nat) : BitVec 8 := amGet memReset m a
/-- Store one byte. -/
def memSet (m : List Host.Cell) (a : Nat) (v : BitVec 8) : List Host.Cell := amSet memReset m a v
/-- `n` bytes from `a`, little-endian. -/
def memRead (m : List Host.Cell) (a : Nat) : Nat → Nat
  | 0 => 0
  | n + 1 => (memGet m a).toNat + 256 * memRead m (a + 1) n
/-- Store `n` bytes of `v` from `a`, little-endian. -/
def memWrite (m : List Host.Cell) (a : Nat) : Nat → Nat → List Host.Cell
  | 0, _ => m
  | n + 1, v => memWrite (memSet m a (BitVec.ofNat 8 v)) (a + 1) n (v / 256)
/-- Store a list of bytes from `a`. -/
def memBytes (m : List Host.Cell) (a : Nat) : List Nat → List Host.Cell
  | [] => m
  | b :: t => memBytes (memSet m a (BitVec.ofNat 8 b)) (a + 1) t
/-- The bytes from `a` as a list. -/
def memList (m : List Host.Cell) (a n : Nat) : List Nat := (List.range n).map (fun i => (memGet m (a + i)).toNat)
/-- The memory's canonical form. -/
def Memory.wf (m : List Host.Cell) : Bool := amWf memReset m

/-! ### Domains, windows, vectors -/

/-- Is switched domain `d` on and released (Table 11-13)? -/
def domOn (s : State) (d : Nat) : Bool := (f s GOV_DOM_STAT_on).testBit d

/-- PD24 is on and no PERST_N holds it in reset (R486): the PCIe function and the DMA engine work. -/
def pd24Up (s : State) : Bool := domOn s 24 && !s.perstLow

/-- Domain of a window: PD00 to PD15 for plots, PD16 IHL, PD17 OHL (Table 1-5). -/
def winDomain (w : Nat) : Nat := w

/-- Loops of a window (Table 1-5). -/
def winLoops (w : Nat) : Nat := if w < 16 then 720 else if w = 16 then 512 else 2048
/-- Converter channels of a window. -/
def winChans (w : Nat) : Nat := if w < 16 then 960 else if w = 16 then 512 else 2048
/-- Sensing channels of a window: sensors and monitors (Table 8-1). -/
def winSensors (w : Nat) : Nat := if w < 16 then 480 else 1024
/-- Slices of a window, the spare last. -/
def winSlices (w : Nat) : Nat := if w < 16 then 17 else 9

/-- The vector's message falls due, `ev` says by an event: it is sent, or stays pending while it is masked (R541). None leaves
while PD24 is off or in reset (R37): it is owed and leaves once PD24 works again (DESIGN CHOICE, log 15). -/
def dueMsix (ev : Bool) (v : Nat) (s : State) : State :=
  let e := if ev then s.msixDue.ev ||| BitVec.ofNat 32 (2 ^ v) else s.msixDue.ev
  if pd24Up s then
    if f s (DMA_MSIX_word v 3) % 2 = 1 then
      setF DMA_MSIX_PEND_pending (f s DMA_MSIX_PEND_pending ||| 2 ^ v) { s with msixDue := { s.msixDue with ev := e } }
    else { s with msix := s.msix ++ [v] }
  else { s with msixDue := { owed := s.msixDue.owed ||| BitVec.ofNat 32 (2 ^ v), ev := e } }

/-- An event that a block's rule names, without a status bit and an enable, sends its vector's message (R541). -/
def sendMsix (v : Nat) (s : State) : State := dueMsix true v s

end Sys2Proof.Machine
end

