-- ==== Sys2Proof/Machine/Flags.lean ====
section
/-! DEFINITION. Status conditions: the condition of every MSI-X vector that status bits and enables govern (R541,
R398, R355, R356 and the blocks' register rules), the pins that follow state, and `settle`, which sends a vector's
message when its condition begins to hold. -/
namespace Sys2Proof.Machine
open Sys2Proof.Config

/-- The pending fault bits of both words, bit b for source b (Table 12-10). -/
def fltPending (s : State) : Nat := f s FLT_PEND_LO_pending + 2 ^ 32 * f s FLT_PEND_HI_pending
/-- Their enables. -/
def fltEnabled (s : State) : Nat := f s FLT_INT_EN_LO_en + 2 ^ 32 * f s FLT_INT_EN_HI_en

/-- Does an enabled pending fault stand (R398)? -/
def fltCond (s : State) : Bool := decide (fltPending s &&& fltEnabled s ≠ 0)

/-- INT_N is driven low while the condition of vector 0 holds and `intn_en` is 1 (R398). -/
def intNLow (s : State) : Bool := fltCond s && fb s FLT_CTRL_intn_en

/-- Is the module in the safe state? -/
def inSafe (s : State) : Bool := fb s FLT_STAT_safe

/-- Sensing channel of window `w` whose PLOT_SNS_CFG stands at a BAR0 offset. -/
def snsCfgChan (w off : Nat) : Option Nat :=
  let b := winBase w + snsBase w
  if b ≤ off && (off - b) % 16 == 0 && decide ((off - b) / 16 < winSensors w) then some ((off - b) / 16) else none

/-- Some channel of the window has `win_out` set and its `win_en` at 1 (R282). -/
def winCond (s : State) (w : Nat) : Bool :=
  s.regs.any (fun e =>
    match snsCfgChan w e.1 with
    | some i => decide (fldOf e.2 (PLOT_SNS_CFG_win_en w i) = 1) && fb s (PLOT_SNS_STAT_win_out w i)
    | none => false)

/-- The condition of MSI-X vector `v` (Table 1-10): vectors 2, 4 and 5 have none; 9 and 10 are sent by events. -/
def vecCond (s : State) (v : Nat) : Bool :=
  match v with
  | 0 => fltCond s
  | 1 => decide (rd s GOV_STAT_rise.off |>.toNat |> (fun n => n / 2 ^ 9 % 32 &&& f s GOV_INT_EN_en) |> (· ≠ 0))
  | 3 => decide (f s REQ_INT_EN_en &&& (rd s 0x50010).toNat % 8 ≠ 0)
  | 6 => (fb s GLN_CTRL_done_int_en && fb s GLN_STAT_done) || (fb s GLN_CTRL_ovf_int_en && fb s GLN_STAT_ovf)
  | 7 => decide (f s BPM_STAT_low &&& f s BPM_CTRL_low_en ≠ 0)
  | 8 => decide (((rd s 0x90104).toNat / 4 % 4) &&& f s BUS_HRW_CTRL_int_en ≠ 0)
  | 11 => decide (((rd s 0xD0004).toNat / 16 % 8) &&& f s (ETH_CTRL_int_en 0) ≠ 0)
  | 12 => decide (((rd s 0xD8004).toNat / 16 % 8) &&& f s (ETH_CTRL_int_en 1) ≠ 0)
  | 31 => decide (f s DMA_DONE_done &&& f s DMA_INT_EN_done_en ≠ 0) ||
          decide (f s DMA_ERR_halted &&& f s DMA_INT_EN_err_en ≠ 0)
  | _ => if 13 ≤ v && v ≤ 30 then winCond s (v - 13) else false

/-- Has the vector a condition (Table 1-10)? -/
def condVec (v : Nat) : Bool := !([2, 4, 5, 9, 10].contains v)
/-- The vector's bit of a set of vectors without it. -/
def vecOff (b : BitVec 32) (v : Nat) : BitVec 32 := b &&& ~~~(BitVec.ofNat 32 (2 ^ v))

/-- A message owed since PD24 could send none falls due when PD24 works again, unless its condition has ended (log 15). -/
def owedMsix (v : Nat) (s : State) : State :=
  if pd24Up s && s.msixDue.owed.getLsbD v then
    let u : State := { s with msixDue := { owed := vecOff s.msixDue.owed v, ev := vecOff s.msixDue.ev v } }
    if s.msixDue.ev.getLsbD v then dueMsix true v u else if vecCond s v then dueMsix false v u else u
  else s

/-- A pending message whose condition has ended while it was masked is not sent (R541, as PCI Express has it). -/
def dropPending (v : Nat) (s : State) : State :=
  if (f s DMA_MSIX_PEND_pending).testBit v && condVec v && !s.msixDue.ev.getLsbD v && !vecCond s v then
    setF DMA_MSIX_PEND_pending (f s DMA_MSIX_PEND_pending - 2 ^ v) s
  else s

/-- Send a message that fell due while its vector was masked, once it is unmasked (R541). -/
def flushPending (v : Nat) (s : State) : State :=
  if pd24Up s && (f s DMA_MSIX_PEND_pending).testBit v && decide (f s (DMA_MSIX_word v 3) % 2 = 0) then
    { setF DMA_MSIX_PEND_pending (f s DMA_MSIX_PEND_pending - 2 ^ v) s with
      msix := s.msix ++ [v], msixDue := { s.msixDue with ev := vecOff s.msixDue.ev v } }
  else s

/-- After a command: every vector whose condition begins to hold sends one message, a message owed falls due, a pending one
whose condition ended is dropped, and an unmasked vector sends the message it owed (R541). `s0` is the state before the
command. -/
def settle (s0 s : State) : State :=
  forEach (List.range 32) flushPending (forEach (List.range 32) dropPending (forEach (List.range 32) owedMsix
    (forEach ((List.range 32).filter (fun v => vecCond s v && !vecCond s0 v)) (dueMsix false) s)))

/-- The common shape of a command's meaning: time passes, the effect takes place, the vectors settle. While POR is
asserted nothing but time acts (R527). -/
def run (s : State) (dt : Nat) (g : State → State) : Host.Outcome State Fault Refusal :=
  if s.porOn then .next (elapse s dt) else .next (settle s (g (elapse s dt)))

end Sys2Proof.Machine
end

