-- ==== Sys2Proof/Machine/BpmCore.lean ====
section
/-! DEFINITION. The buffer pools (R449, R450, Table 13-7): handles, rings, caches, and taking and returning a free
buffer. The checks and fault raises of the commands are in `Bpm.lean`. -/
namespace Sys2Proof.Machine
open Sys2Proof.Config

/-- Buffer size of a pool (Table 13-7). -/
def poolSize (p : Nat) : Nat := match p with | 0 => 256 | 1 => 2048 | 2 => 9216 | _ => 65536
/-- Buffers of a pool. -/
def poolCount (p : Nat) : Nat := match p with | 0 => 8192 | 1 => 2048 | 2 => 512 | _ => 256
/-- Base address of a pool on a die. -/
def poolBase (p die : Nat) : Nat :=
  (match p with | 0 => 0x89000000 | 1 => 0x89100000 | 2 => 0x89300000 | _ => 0x89600000) + 0x40000000 * die
/-- The smallest pool that serves a request of `n` bytes (R449). -/
def poolFor (n : Nat) : Option Nat :=
  if n = 0 then none else if n ≤ 256 then some 0 else if n ≤ 2048 then some 1
  else if n ≤ 9216 then some 2 else if n ≤ 65536 then some 3 else none
/-- Die of buffer index `i` of pool `p`. -/
def bufDie (p i : Nat) : Nat := i / (poolCount p / 2)
/-- Address of a buffer (R449). -/
def bufAddr (p i : Nat) : Nat := poolBase p (bufDie p i) + poolSize p * (i % (poolCount p / 2))
/-- A handle (R450). -/
def mkHandle (p i tag : Nat) : Nat := i + 2 ^ 16 * tag + 2 ^ 28 * p + 2 ^ 31
/-- Index of a handle. -/
def hIndex (h : Nat) : Nat := h % 2 ^ 13
/-- Tag of a handle. -/
def hTag (h : Nat) : Nat := h / 2 ^ 16 % 256
/-- Pool of a handle. -/
def hPool (h : Nat) : Nat := h / 2 ^ 28 % 4
/-- Check 1 of Table 13-8. -/
def hValid (h : Nat) : Bool :=
  h / 2 ^ 31 % 2 == 1 && h / 2 ^ 13 % 8 == 0 && h / 2 ^ 24 % 16 == 0 && h / 2 ^ 30 % 2 == 0 &&
    decide (hIndex h < poolCount (hPool h))
/-- Address of the buffer a handle names. -/
def hAddr (h : Nat) : Nat := bufAddr (hPool h) (hIndex h)
/-- Requester ID (R450). -/
def reqId (master sub : Nat) : Nat := master * 32 + sub

/-- A buffer's record. -/
def bufGet (s : State) (p i : Nat) : Buf := amGet (fun _ => {}) s.bpmBuf (p * 16384 + i)
/-- Replace a buffer's record. -/
def bufPut (p i : Nat) (b : Buf) (s : State) : State :=
  { s with bpmBuf := amSet (fun _ => {}) s.bpmBuf (p * 16384 + i) b }
/-- Is a DRAM die offline? -/
def dieOff (s : State) (d : Nat) : Bool := fb s (if d = 0 then DRC_STAT_d0_off else DRC_STAT_d1_off)

/-- The free ring of a pool on a die; at the wake every buffer of the die in rising order (log 11). -/
def ringReset (k : Nat) : List (Nat × Nat) := [(k % 2 * (poolCount (k / 2) / 2), poolCount (k / 2) / 2)]
/-- The ring of pool `p` on `die`. -/
def ringGet (s : State) (p die : Nat) : List (Nat × Nat) := amGet ringReset s.bpmRing (p * 2 + die)
/-- Replace a ring. -/
def ringPut (p die : Nat) (r : List (Nat × Nat)) (s : State) : State :=
  { s with bpmRing := amSet ringReset s.bpmRing (p * 2 + die) r }
/-- Free buffers in a ring. -/
def ringLen (r : List (Nat × Nat)) : Nat := (r.map (·.2)).sum
/-- Take the first index of a ring. -/
def ringPop : List (Nat × Nat) → Option (Nat × List (Nat × Nat))
  | [] => none
  | (i, n) :: t => if n = 0 then ringPop t else some (i, if n = 1 then t else (i + 1, n - 1) :: t)

/-- The cache of a pool. -/
def cacheGet (s : State) (p : Nat) : List Nat := amGet (fun _ => []) s.bpmCache p
/-- Replace a cache. -/
def cachePut (p : Nat) (c : List Nat) (s : State) : State :=
  { s with bpmCache := amSet (fun _ => []) s.bpmCache p c }
/-- The die whose ring refills a pool's cache next. -/
def turnGet (s : State) (p : Nat) : Nat := amGet (fun _ => 0) s.bpmTurn p

/-- Key of a buffer in the BPM's maps. -/
def bufKey (p i : Nat) : Nat := p * 16384 + i
/-- A new CK_BUS cycle begins for the BPM once one has passed: what the last one freed can be allocated now (R452). -/
def bpmSync (s : State) : State :=
  if s.bpmCycle = s.clk.now / busPeriod then s
  else { s with bpmCycle := s.clk.now / busPeriod, bpmReq := 0, bpmFreed := [] }
/-- Was a buffer freed in the present CK_BUS cycle (R452)? -/
def freedNow (s : State) (p i : Nat) : Bool :=
  s.bpmCycle == s.clk.now / busPeriod && s.bpmFreed.contains (bufKey p i)

/-- Take one index from the rings in alternation, an online die's only (R450). -/
def takeRing (p : Nat) (s : State) : Option (Nat × State) :=
  let t := turnGet s p
  let try_ (d : Nat) : Option (Nat × State) :=
    if dieOff s d then none
    else match ringPop (ringGet s p d) with
      | some (i, r) => if freedNow s p i then none else some (i, { ringPut p d r s with bpmTurn := amSet (fun _ => 0) s.bpmTurn p (1 - d) })
      | none => none
  match try_ t with
  | some x => some x
  | none => try_ (1 - t)

/-- Refill a cache from the rings, at most `n` handles (R450). -/
def refillCache (p : Nat) : Nat → State → State
  | 0, s => s
  | n + 1, s =>
    if (cacheGet s p).length < 64 then
      match takeRing p s with
      | some (i, s') => refillCache p n (cachePut p (cacheGet s' p ++ [i]) s')
      | none => s
    else s

/-- Free buffers of a pool on online dies (BPM_POOL_FREE). -/
def poolFree (s : State) (p : Nat) : Nat :=
  ((cacheGet s p).filter (fun i => !dieOff s (bufDie p i))).length +
  (if dieOff s 0 then 0 else ringLen (ringGet s p 0)) + (if dieOff s 1 then 0 else ringLen (ringGet s p 1))

/-- Bring BPM_POOL_FREE up to date: `free`, its watermark, and `low` when `free` falls to `low_thr`. -/
def poolNote (p : Nat) (s : State) : State :=
  let n := poolFree s p
  let old := f s (BPM_POOL_FREE_free p)
  let lw := min (f s (BPM_POOL_FREE_low_water p)) n
  onlyIf (decide (n ≤ f s (BPM_POOL_CFG_low_thr p)) && decide (f s (BPM_POOL_CFG_low_thr p) < old))
    (fun t => setF BPM_STAT_low (f t BPM_STAT_low ||| 2 ^ p) t)
    (setF (BPM_POOL_FREE_low_water p) lw (setF (BPM_POOL_FREE_free p) n s))

/-- Grant a free buffer of pool `p` to a requester: its tag increments (R450, R451). Which cached handle is taken is
a free value (log 11); with an empty cache one comes from a ring of an online die. A buffer freed in this cycle is not taken (R452). -/
def takeBuffer (p req : Nat) (s : State) : Option (Nat × State) :=
  let c := (cacheGet s p).filter (fun i => !dieOff s (bufDie p i) && !freedNow s p i)
  let got : Option (Nat × State) :=
    match c with
    | [] => takeRing p s
    | a :: t =>
      let (k, s1) := drawFree (t.length + 1) s
      let i := (a :: t).getD k a
      some (i, cachePut p ((cacheGet s p).erase i) s1)
  match got with
  | none => none
  | some (i, s1) =>
    let tag := ((bufGet s p i).tag + 1) % 256
    some (mkHandle p i tag,
      inc (BPM_CNT_ALLOC_count p) (poolNote p (bufPut p i { alloc := true, owner := req, tag := tag } s1)))

/-- Mark a buffer free and return its handle to the cache; a full cache spills its oldest 16 to the rings of their
dies first (R450). A buffer of an offline die returns to no service (R454). -/
def spillOne (p : Nat) (s : State) : State :=
  match cacheGet s p with
  | [] => s
  | i :: t => cachePut p t (ringPut p (bufDie p i) (ringGet s p (bufDie p i) ++ [(i, 1)]) s)

/-- Return a buffer to service: from the next CK_BUS cycle on it can be allocated (R452). -/
def giveBack (p i : Nat) (s : State) : State :=
  let s0 := bpmSync s
  let s1 := bufPut p i { bufGet s p i with alloc := false } { s0 with bpmFreed := bufKey p i :: s0.bpmFreed }
  if dieOff s (bufDie p i) then s1
  else
    let s2 := if (cacheGet s1 p).length < 64 then s1
      else forEach (List.range 16) (fun _ => spillOne p) s1
    poolNote p (cachePut p (cacheGet s2 p ++ [i]) s2)

/-- Hardware's own return of a buffer it holds. -/
def releaseHandle (h : Option Nat) (s : State) : State :=
  match h with
  | some h => if hValid h && (bufGet s (hPool h) (hIndex h)).alloc then giveBack (hPool h) (hIndex h) s else s
  | none => s

end Sys2Proof.Machine
end

