-- ==== Sys2Proof/Machine/Mesh.lean ====
section
/-! DEFINITION. The mesh (R24, R71 to R77): lines, wiring, paths; maps of circuits; the incremental add and the
full solve of the route solver (R83, R84, R92 to R97, R99). Pure functions. -/
namespace Sys2Proof.Machine

/-- The line of a port (R24). -/
def portLine (p : Nat) : Nat := 2 * (p % 128) + p / 128

/-- Rotate the lowest `b` bits right by one (R73). -/
def rotR (line b : Nat) : Nat :=
  let low := line % 2 ^ b
  (line - low) + low / 2 + low % 2 * 2 ^ (b - 1)

/-- Rotate the lowest `b` bits left by one (R73). -/
def rotL (line b : Nat) : Nat :=
  let low := line % 2 ^ b
  (line - low) + low * 2 % 2 ^ b + low / 2 ^ (b - 1)

/-- The input line of column `j + 1` fed by output line `line` of column `j` (R73). -/
def nextLine (j line : Nat) : Nat := if j ≤ 6 then rotR line (8 - j) else rotL line (j - 5)

/-- One column of a path: column, input line, output line. -/
structure Hop where
  col  : Nat
  inL  : Nat
  outL : Nat
  deriving DecidableEq, Repr

/-- The cell state a hop needs: CROSS when it changes line within the cell (Table 3-1). -/
def hopCross (h : Hop) : Bool := h.inL != h.outL
/-- Cell index j*128 + r of a hop (Table 3-10). -/
def hopCell (h : Hop) : Nat := h.col * 128 + h.inL / 2

/-- Bit of the output line wanted at column `j` (R74). -/
def wantedBit (j mid target : Nat) : Nat := if j ≤ 6 then mid / 2 ^ (6 - j) % 2 else target / 2 ^ (14 - j) % 2

/-- The hops from column `j` on, for `n` columns (R74). -/
def pathFrom (mid target : Nat) : Nat → Nat → Nat → List Hop
  | 0, _, _ => []
  | n + 1, j, line =>
    let out := line - line % 2 + wantedBit j mid target
    ⟨j, line, out⟩ :: pathFrom mid target n (j + 1) (nextLine j out)

/-- The path of input `i`, output `o` and middle row `m` (R74). -/
def path (i o m : Nat) : List Hop := pathFrom m (portLine o) 15 0 (portLine i)

/-- The path of a circuit. -/
def circPath (c : Circuit) : List Hop := path c.inp c.out c.mid

/-- Is a cell CROSS? -/
def cellAt (m : MapSt) (i : Nat) : Bool := m.cells.getLsbD i

/-- Set a cell. -/
def setCell (cells : BitVec 1920) (i : Nat) (x : Bool) : BitVec 1920 :=
  if cells.getLsbD i = x then cells else cells ^^^ BitVec.ofNat 1920 (2 ^ i)

/-- Drive the cells of a path into its states (R77). -/
def bindPath (cells : BitVec 1920) (hs : List Hop) : BitVec 1920 :=
  hs.foldl (fun c h => setCell c (hopCell h) (hopCross h)) cells

/-- Insert a circuit in rising order of output. -/
def insCirc (c : Circuit) : List Circuit → List Circuit
  | [] => [c]
  | d :: t => if c.out < d.out then c :: d :: t else d :: insCirc c t

/-- The circuit on an output. -/
def onOut (m : MapSt) (o : Nat) : Option Circuit := m.circs.find? (fun c => c.out == o)
/-- The circuit from an input. -/
def onIn (m : MapSt) (i : Nat) : Option Circuit := m.circs.find? (fun c => c.inp == i)
/-- Remove the circuit on an output; its cells keep their states (R77, R82). -/
def dropOut (o : Nat) (m : MapSt) : MapSt := { m with circs := m.circs.filter (fun c => c.out != o) }
/-- Place a circuit and bind its cells. -/
def placeCirc (c : Circuit) (m : MapSt) : MapSt :=
  { circs := insCirc c (dropOut c.out m).circs, cells := bindPath m.cells (circPath c) }
/-- Remove a circuit only if the map still holds that same circuit: input, output and middle row (R82). -/
def dropSame (c : Circuit) (m : MapSt) : MapSt :=
  match onOut m c.out with
  | some d => if d.inp = c.inp ∧ d.mid = c.mid then dropOut c.out m else m
  | none => m

/-- Does a map hold a circuit with the same input, output and middle row? -/
def holdsCirc (m : MapSt) (c : Circuit) : Bool :=
  match onOut m c.out with | some d => d.inp == c.inp && d.mid == c.mid | none => false
/-- The cells after a step from one map to another: the circuits that the first does not hold bind theirs, every other cell
keeps its state (R77, R110). -/
def settleCells (before after : MapSt) : MapSt :=
  { after with cells := (after.circs.filter (fun c => !holdsCirc before c)).foldl (fun u c => bindPath u (circPath c)) before.cells }

/-- Two hops of one column use a common line. -/
def hopClash (g h : Hop) : Bool := g.inL == h.inL || g.outL == h.outL
/-- Does a path use no line of the other circuits (R92)? -/
def fits (hs : List Hop) (others : List (List Hop)) : Bool :=
  others.all (fun o => (hs.zip o).all (fun p => !hopClash p.1 p.2))
/-- Cells of the map whose state a path changes. -/
def pathChanges (m : MapSt) (hs : List Hop) : Nat := (hs.filter (fun h => cellAt m (hopCell h) != hopCross h)).length

/-- The least middle row by (changed cells, row) among `n` rows counted down to 0 (R92). -/
def bestMid (m : MapSt) (i o : Nat) (others : List (List Hop)) : Nat → Option (Nat × Nat)
  | 0 => none
  | n + 1 =>
    let hs := path i o n
    let rest := bestMid m i o others n
    if fits hs others then
      let k := pathChanges m hs
      match rest with
      | some (k', n') => if k < k' then some (k, n) else some (k', n')
      | none => some (k, n)
    else rest

/-- Middle rows the population mode considers (R99). -/
def modeMids : PopMode → Nat
  | .full => 128 | .p128 => 64 | .p64 => 64

/-- The incremental add of one circuit (R92). -/
def incAdd (mode : PopMode) (m : MapSt) (i o holder : Nat) : Option MapSt :=
  match bestMid m i o (m.circs.map circPath) (modeMids mode) with
  | some (_, mid) => some (placeCirc ⟨i, o, mid, holder, false⟩ m)
  | none => none

/-! ### The full solve -/

/-- A circuit in the full solve: its present middle row when it was in the projected map and not removed, whether the
sheaf may move it, and the middle row chosen so far. -/
structure FsCirc where
  c       : Circuit
  present : Option Nat
  movable : Bool
  mid     : Nat
  deriving DecidableEq, Repr

/-- Row of a circuit at a column, with the bits chosen so far (R94). -/
def fsRow (x : FsCirc) (col : Nat) : Nat := ((path x.c.inp x.c.out x.mid).getD col ⟨0, 0, 0⟩).inL / 2

/-- Is the circuit kept at this level: present before and every bit chosen so far equal to its present row's? -/
def fsKept (level : Nat) (x : FsCirc) : Bool :=
  match x.present with
  | some p => p / 2 ^ (7 - level) == x.mid / 2 ^ (7 - level)
  | none => false

/-- The circuit linked to `x` at a column, other than itself. -/
def fsPartner (xs : List FsCirc) (x : FsCirc) (col : Nat) : Option FsCirc :=
  xs.find? (fun y => y.c.inp != x.c.inp && fsRow y col == fsRow x col)

/-- Follow a chain from `x`, alternating links and halves; `seen` guards a closed chain. -/
def fsFollow (xs : List FsCirc) (level : Nat) :
    Nat → FsCirc → Bool → Bool → List (FsCirc × Bool) → List (FsCirc × Bool)
  | 0, _, _, _, acc => acc
  | n + 1, x, useIn, half, acc =>
    match fsPartner xs x (if useIn then level else 14 - level) with
    | none => acc
    | some y =>
      if acc.any (fun p => p.1.c.inp == y.c.inp) then acc
      else fsFollow xs level n y (!useIn) (!half) ((y, !half) :: acc)

/-- The chain of `x` with the halves of split_a: `x` upper (`false`). -/
def fsChain (xs : List FsCirc) (level : Nat) (x : FsCirc) : List (FsCirc × Bool) :=
  fsFollow xs level xs.length x false false (fsFollow xs level xs.length x true false [(x, false)])

/-- A kept circuit is moved by putting it in a half its present row does not have. -/
def fsMoves (level : Nat) (inv : Bool) (p : FsCirc × Bool) : Bool :=
  fsKept level p.1 &&
    (match p.1.present with
     | some q => (q / 2 ^ (6 - level) % 2 == 1) != xor p.2 inv
     | none => false)

/-- Choose whether to invert split_a (R94, rules 1 to 4). -/
def fsInvert (level : Nat) (ch : List (FsCirc × Bool)) : Bool :=
  let bad inv := (ch.filter (fun p => !p.1.movable && fsMoves level inv p)).length
  let mv inv := (ch.filter (fsMoves level inv)).length
  if bad false ≠ bad true then decide (bad true < bad false)
  else if mv false ≠ mv true then decide (mv true < mv false)
  else
    let kept := ch.filter (fun p => fsKept level p.1)
    match kept with
    | [] => false
    | k :: t =>
      let low := t.foldl (fun a p => if p.1.c.inp < a.1.c.inp then p else a) k
      fsMoves level false low

/-- The circuit with the lowest input port. -/
def fsLowest (x : FsCirc) (xs : List FsCirc) : FsCirc :=
  xs.foldl (fun a y => if y.c.inp < a.c.inp then y else a) x

/-- One level over the circuits not yet placed, chain by chain in order of lowest input port. -/
def fsLevel (all : List FsCirc) (level : Nat) : Nat → List FsCirc → List FsCirc
  | 0, _ => []
  | _, [] => []
  | n + 1, x :: xs =>
    let ch := fsChain all level (fsLowest x xs)
    let inv := fsInvert level ch
    let placed := ch.map (fun p => { p.1 with mid := p.1.mid + (if xor p.2 inv then 2 ^ (6 - level) else 0) })
    placed ++ fsLevel all level n ((x :: xs).filter (fun y => !ch.any (fun p => p.1.c.inp == y.c.inp)))

/-- All seven levels. -/
def fsLevels (xs : List FsCirc) : List FsCirc :=
  (List.range 7).foldl (fun ys l => fsLevel ys l ys.length ys) xs

/-! ### Working copies -/

/-- A working copy (R84): the map, the circuits the sheaf removed from the projected map, the outputs it added. -/
structure Work where
  map     : MapSt
  removed : List Circuit
  added   : List Nat
  deriving DecidableEq, Repr

/-- Remove the circuit on an output from the working copy. -/
def workDrop (o : Nat) (w : Work) : Work :=
  match onOut w.map o with
  | some c =>
    { map := dropOut o w.map
      removed := if w.added.contains o then w.removed else w.removed ++ [c]
      added := w.added.filter (· != o) }
  | none => w

/-- Add a circuit without a path (its middle row is sought later). -/
def workAdd (c : Circuit) (w : Work) : Work :=
  { w with map := { w.map with circs := insCirc c w.map.circs }, added := w.added ++ [c.out] }

/-- Does an operation meet its condition of Table 3-4? -/
def opOk (tenant : Nat) (m : MapSt) : SheafOp → Bool
  | .connect i o => (onIn m i).isNone && (onOut m o).isNone
  | .release o => match onOut m o with | some c => c.holder == tenant | none => true
  | .move i oOld oNew =>
    (match onOut m oOld with | some c => c.inp == i && c.holder == tenant | none => false) && (onOut m oNew).isNone

/-- The effect of an operation on ports alone. -/
def opPorts (tenant : Nat) (w : Work) : SheafOp → Work
  | .connect i o => workAdd ⟨i, o, 0, tenant, false⟩ w
  | .release o => workDrop o w
  | .move i oOld oNew => workAdd ⟨i, oNew, 0, tenant, false⟩ (workDrop oOld w)

/-- The PORT_BUSY checks of every operation in order: the first failing index (R89). -/
def portScan (tenant : Nat) : List SheafOp → Nat → Work → Option Nat
  | [], _, _ => none
  | op :: t, k, w => if opOk tenant w.map op then portScan tenant t (k + 1) (opPorts tenant w op) else some k

/-- The whole sheaf's effect on ports, once every condition holds. -/
def portsAll (tenant : Nat) (ops : List SheafOp) (w : Work) : Work := ops.foldl (opPorts tenant) w

/-- The circuit an operation adds. -/
def opAdds : SheafOp → Option (Nat × Nat)
  | .connect i o => some (i, o) | .release _ => none | .move i _ oNew => some (i, oNew)

/-- Circuits a sheaf adds. -/
def addCount (ops : List SheafOp) : Nat := (ops.filter (fun op => (opAdds op).isSome)).length

/-- The incremental adds in the order of the operations: the working copy, or the index of the operation whose add
found no fitting path (R92, R93). -/
def incAll (mode : PopMode) (tenant : Nat) : List SheafOp → Nat → Work → Work ⊕ Nat
  | [], _, w => .inl w
  | op :: t, k, w =>
    let w1 := match op with | .connect _ _ => w | .release o => workDrop o w | .move _ oOld _ => workDrop oOld w
    match opAdds op with
    | none => incAll mode tenant t (k + 1) w1
    | some (i, o) =>
      match incAdd mode w1.map i o tenant with
      | none => .inr k
      | some m => incAll mode tenant t (k + 1) { w1 with map := m, added := w1.added ++ [o] }

/-- The outcome of a solve. -/
inductive Solved where
  | ok (w : Work) (moved : List Moved) (incs : Nat) (full : Bool)
  | refused (reason index : Nat)
  deriving DecidableEq, Repr

/-- Index of the first CONNECT or MOVE (R96). -/
def firstAdd (ops : List SheafOp) : Nat := (ops.findIdx? (fun op => (opAdds op).isSome)).getD 0

/-- Put a moved circuit into a list in rising order of output. -/
def insMoved (x : Moved) : List Moved → List Moved
  | [] => [x]
  | y :: l => if x.out ≤ y.out then x :: y :: l else y :: insMoved x l

/-- The full solve of a sheaf (R93 to R97): every circuit of the working copy is placed; NEEDS_MOVE as R96 says. -/
def fullSolve (before : MapSt) (tenant index : Nat) (allowMove : Bool) (yields : Nat → Bool) (w : Work) : Solved :=
  let old (c : Circuit) : Option Nat :=
    if w.added.contains c.out then none else (onOut before c.out).map (·.mid)
  let may (c : Circuit) : Bool := allowMove && (c.holder == tenant || yields c.holder)
  let xs := w.map.circs.map (fun c => (⟨c, old c, may c, 0⟩ : FsCirc))
  let ys := fsLevels xs
  let map := ys.foldl (fun m y => placeCirc { y.c with mid := y.mid } m)
    { circs := [], cells := before.cells }
  let moves := ys.filter (fun y => match y.present with | some p => p != y.mid | none => false)
  if moves.any (fun y => !y.movable) then .refused 0x05 index
  else .ok { w with map := map }
    (moves.foldr (fun y l => insMoved ⟨y.c.inp, y.c.out, y.present.getD 0, y.mid⟩ l) []) 0 true

/-- The solve of a sheaf against a projected map (R84, R89, R92, R93). -/
def solve (mode : PopMode) (incLimit : Nat) (yields : Nat → Bool) (pm : MapSt) (sh : Sheaf) : Solved :=
  match portScan sh.tenant sh.ops 0 ⟨pm, [], []⟩ with
  | some k => .refused 0x04 k
  | none =>
    let whole := portsAll sh.tenant sh.ops ⟨pm, [], []⟩
    if incLimit < addCount sh.ops then
      fullSolve pm sh.tenant (firstAdd sh.ops) sh.allowMove yields whole
    else
      match incAll mode sh.tenant sh.ops 0 ⟨pm, [], []⟩ with
      | .inl w => .ok { w with map := settleCells pm w.map } [] (addCount sh.ops) false
      | .inr k => fullSolve pm sh.tenant k sh.allowMove yields whole

/-! ### What a map reaches -/

/-- The output port that an input's light reaches under a cell-state vector (R126). -/
def traceFrom (cells : BitVec 1920) : Nat → Nat → Nat → Nat
  | 0, _, line => line
  | n + 1, j, line =>
    let out := if cells.getLsbD (j * 128 + line / 2) then (if line % 2 = 0 then line + 1 else line - 1) else line
    if n = 0 then out else traceFrom cells n (j + 1) (nextLine j out)

/-- Output port of a column-14 output line. -/
def linePort (l : Nat) : Nat := l / 2 + 128 * (l % 2)

/-- The output reached by an input port. -/
def reaches (m : MapSt) (i : Nat) : Nat := linePort (traceFrom m.cells 15 0 (portLine i))

/-- Every circuit's input reaches its output (R126). -/
def permOk (m : MapSt) : Bool := m.circs.all (fun c => reaches m c.inp == c.out)

/-- Cells that differ between two maps. -/
def cellDiff (a b : MapSt) : List Nat := (List.range 1920).filter (fun i => cellAt a i != cellAt b i)

end Sys2Proof.Machine
end

