-- ==== Sys2Proof/Machine/Report.lean ====
section
/-! DEFINITION. Messages that leave the module (R332 to R335, R337, R339 to R343): addressing, sequence numbers,
splitting, TELEM queues and sheaf responses. -/
namespace Sys2Proof.Machine
open Sys2Proof.Config

/-- A message that could not be sent (R332, R333, R343). -/
def unsent (s : State) : State :=
  if domOn s 21 then setF REQ_INT_STAT_unsent 1 (inc REQ_CNT_UNSENT_count s) else s

/-- Is a key loaded in a tenant's slot (R343)? -/
def keyLoaded (s : State) (tenant slot : Nat) : Bool := (amGet (fun _ => none) s.keys (2 * tenant + slot)).isSome

/-- A per-tenant counter map. -/
def ctr (m : AMap Nat) (t : Nat) : Nat := amGet (fun _ => 0) m t
/-- Set a per-tenant counter. -/
def ctrPut (m : AMap Nat) (t v : Nat) : AMap Nat := amSet (fun _ => 0) m t v

/-- The messages REQ has waiting at a port (R329). -/
def txWaiting (s : State) (port : Nat) : List Msg := amGet (fun _ => []) s.txWait port
/-- Hand a message to a port whose link is up, when a key to tag it is loaded; else it is not sent (R332, R333, R343). -/
def deliver (m : Msg) (s : State) : State :=
  if keyLoaded s m.tenant m.slot && fb s (ETH_STAT_link m.port) then
    { s with txWait := amSet (fun _ => []) s.txWait m.port (txWaiting s m.port ++ [m]) }
  else releaseHandle m.handle (unsent s)

/-- An unsolicited message to a tenant's report address (R333, R342). -/
def notify (tenant : Nat) (body : MsgBody) (s : State) : State :=
  let p := f s (REQ_T_CFG_rpt_port tenant)
  if fb s (REQ_T_CFG_rpt_valid tenant) then
    deliver { port := if fb s (ETH_STAT_link p) then p else 1 - p, tenant := tenant, slot := f s (REQ_T_CFG_tx_slot tenant), body := body } s
  else unsent s

/-- Bytes of IP, UDP, URP header and tag around a body (R330). -/
def overhead (v6 : Bool) : Nat := (if v6 then 40 else 20) + 8 + 48

/-- Records of `size` bytes that fit one datagram beside `fixed` body bytes (R335). -/
def recsPerPart (s : State) (v6 : Bool) (fixed size : Nat) : Nat :=
  max 1 ((f s REQ_CFG_mtu - overhead v6 - fixed) / size)

/-- Parts a response is split into. -/
def partsOf (recs per : Nat) : Nat := max 1 ((recs + (per - 1)) / per)

/-- What a sheaf response says beside its records. -/
structure RspInfo where
  reason    : Nat
  index     : Nat := 0
  committed : Bool := false
  late      : Bool := false
  deferLate : Bool := false
  fw        : Bool := false
  time      : Nat := 0
  cseq      : Nat := 0
  deriving DecidableEq, Repr

/-- One part of a SHEAF_RSP: moved records first, then verify records (Table 10-9). -/
def sheafPart (r : RspInfo) (moved : List Moved) (ver : List VerRec) (per parts k : Nat) : MsgBody :=
  let lo := k * per
  let hi := lo + per
  .sheafRsp r.reason r.index k parts r.committed r.late r.deferLate r.fw
    ((moved.take hi).drop lo) ((ver.take (hi - moved.length)).drop (lo - moved.length)) r.time r.cseq

/-- Send the SHEAF_RSP of a sheaf, split under R335; its buffer is freed when the last part has left (R337, R347). -/
def sheafRsp (sh : Sheaf) (r : RspInfo) (moved : List Moved) (ver : List VerRec) (s : State) : State :=
  let per := recsPerPart s sh.v6 28 4
  let parts := partsOf (moved.length + ver.length) per
  forEach (List.range parts) (fun k => deliver
    { port := sh.port, tenant := sh.tenant, slot := sh.slot, peer := some (sh.peer, sh.v6), refSeq := sh.seq
      body := sheafPart r moved ver per parts k, handle := if k + 1 = parts then sh.handle else none }) s

/-- Refuse a sheaf: its response leaves at once (R337). -/
def refuseSheaf (reason index : Nat) (fw : Bool) (sh : Sheaf) (s : State) : State :=
  let s1 := if reason = 0x08 then inc (REQ_T_CNT_count sh.tenant 5) s else s
  sheafRsp sh { reason := reason, index := index, fw := fw } [] [] s1

/-- A tenant's waiting TELEM records. -/
def telemOf (s : State) (t : Nat) : List TelemRec := amGet (fun _ => []) s.telemQ t

/-- Queue a TELEM record for a tenant, or count it lost (R339). -/
def telem (t code port a b : Nat) (s : State) : State :=
  if domOn s 21 && fb s REQ_CTRL_telem_en then
    let r : TelemRec := ⟨code, port, a, b, tbNow s (f s REQ_CTRL_telem_tb), s.clk.now⟩
    if (telemOf s t).length < 256 then
      { s with telemQ := amSet (fun _ => []) s.telemQ t (telemOf s t ++ [r]) }
    else { s with telemLost := ctrPut s.telemLost t (min (ctr s.telemLost t + 1) 65535) }
  else s

/-- The tenants of a 64-bit owner mask. -/
def maskTenants (m : BitVec 64) : List Nat := (List.range 64).filter (fun t => m.getLsbD t)
/-- Owner mask of an input (R80). -/
def inOwners (s : State) (i : Nat) : BitVec 64 := amGet (fun _ => 0) s.ownIn i
/-- Owner mask of an output. -/
def outOwners (s : State) (o : Nat) : BitVec 64 := amGet (fun _ => 0) s.ownOut o
/-- Does a tenant own an input? -/
def ownsIn (s : State) (t i : Nat) : Bool := (inOwners s i).getLsbD t
/-- Does a tenant own an output? -/
def ownsOut (s : State) (t o : Nat) : Bool := (outOwners s o).getLsbD t

/-- Do an output's gates count as open: through a commit, as they stood at its t0 (R108)? -/
def outOpen (s : State) (o : Nat) : Bool :=
  match s.commit with
  | some c => if c.plan.affected.contains o then c.wasOpen.contains o else s.gateOpen.getLsbD o
  | none => s.gateOpen.getLsbD o
/-- State of an output (Table 2-4): 0 IDLE, 1 LIT, 2 STARVED. -/
def outState (s : State) (o : Nat) : Nat :=
  match onOut s.present o with
  | some c => if outOpen s o then (if s.lit.getLsbD c.inp then 1 else 2) else 0
  | none => 0

/-- Report every output whose state differs from that in `s0` to its owners (R57, R59). -/
def reportOuts (s0 : State) (s : State) : State :=
  forEach ((List.range 256).filter (fun o => outState s o != outState s0 o))
    (fun o t => forEach (maskTenants (outOwners t o)) (fun x => telem x 5 o (outState t o) 0) t) s

/-- Report an input's state to its owners (R59). -/
def reportIn (i : Nat) (s : State) : State :=
  forEach (maskTenants (inOwners s i))
    (fun x => telem x 6 i (s.lit.getLsbD i).toNat (s.overIn.getLsbD i).toNat) s

/-- Set one bit of a 256-bit vector. -/
def putBit (v : BitVec 256) (i : Nat) (x : Bool) : BitVec 256 :=
  if v.getLsbD i = x then v else v ^^^ BitVec.ofNat 256 (2 ^ i)

/-- Open or darken an output's gates. -/
def setGate (o : Nat) (x : Bool) (s : State) : State := { s with gateOpen := putBit s.gateOpen o x }

end Sys2Proof.Machine
end

