-- ==== Sys2Proof/Machine/Calib.lean ====
section
/-! DEFINITION. Tiles in DRAM (R441, R443, R444) and the calibration set: where its tiles and entries lie (R297 to
R299), the working set (R305), and interpolation (R300, R301). -/
namespace Sys2Proof.Machine
open Sys2Proof.Config

/-! ### Tiles -/

/-- One bit step of the reflected CRC-32C. -/
def crcBit (c : Nat) : Nat := if c % 2 = 1 then (c / 2) ^^^ 0x82F63B78 else c / 2
/-- One byte of the CRC. -/
def crcByte (c b : Nat) : Nat := crcBit (crcBit (crcBit (crcBit (crcBit (crcBit (crcBit (crcBit (c ^^^ b))))))))
/-- CRC-32C of a list of bytes (R443). -/
def crc32c (l : List Nat) : Nat := (l.foldl crcByte 0xFFFFFFFF) ^^^ 0xFFFFFFFF

/-- Is an address in a free-ring region (Table 13-5)? -/
def inFreeRing (a : Nat) : Bool := decide (0x8800000 ≤ a % 0x40000000) && decide (a % 0x40000000 < 0x8900000)
/-- Does a range of bytes touch a free-ring region? -/
def ringTouch (a n : Nat) : Bool := (List.range n).any (fun i => inFreeRing (a + i))
/-- A byte of DRAM: in the free-ring regions what the BPM stored there (R442). -/
def dramByte (s : State) (a : Nat) : BitVec 8 := if inFreeRing a then ringByte s.bpmRing a else memGet s.dram a
/-- The stored value of `n` little-endian bytes of DRAM. -/
def dramVal (s : State) (a : Nat) : Nat → Nat
  | 0 => 0
  | n + 1 => (dramByte s a).toNat + 256 * dramVal s (a + 1) n
/-- The bytes a DRAM address range holds; an offline die reads 0 (R447), and so does DRAM while PD25 is off (R39). -/
def dramList (s : State) (a n : Nat) : List Nat :=
  if domOn s 25 && !dieOff s (if a < 0xC0000000 then 0 else 1) then
    (if ringTouch a n then (List.range n).map (fun i => (dramByte s (a + i)).toNat) else memList s.dram a n)
  else List.replicate n 0
/-- `n` little-endian bytes of DRAM. -/
def dramRead (s : State) (a n : Nat) : Nat :=
  if domOn s 25 && !dieOff s (if a < 0xC0000000 then 0 else 1) then memRead s.dram a n else 0

/-- Does the tile at an address pass its CRC (R443)? -/
def tilePasses (s : State) (a : Nat) : Bool := crc32c (dramList s a 1020) == dramRead s (a + 1020) 4
/-- Generation of the tile at an address. -/
def tileGen (s : State) (a : Nat) : Nat := dramRead s (a + 4) 4

/-- The outcome of a checked read (Table 13-6). -/
inductive TileResult where
  | ok (copy : Nat) | genConflict | noCopy
  deriving DecidableEq, Repr

/-- Address of copy `c` of the tile whose copy 0 is at `a` (R441). -/
def copyAddr (a c : Nat) : Nat := a + 0x40000000 * c

/-- Which copy a checked read returns, by Table 13-6. -/
def checkTile (s : State) (a : Nat) : TileResult :=
  match dieOff s 0, dieOff s 1 with
  | true, true => .noCopy
  | true, false => if tilePasses s (copyAddr a 1) then .ok 1 else .noCopy
  | false, true => if tilePasses s a then .ok 0 else .noCopy
  | false, false =>
    match tilePasses s a, tilePasses s (copyAddr a 1) with
    | true, true =>
      if dramList s a 1024 = dramList s (copyAddr a 1) 1024 then .ok 0
      else if tileGen s a = tileGen s (copyAddr a 1) then .genConflict
      else if tileGen s (copyAddr a 1) < tileGen s a then .ok 0 else .ok 1
    | true, false => .ok 0
    | false, true => .ok 1
    | false, false => .noCopy

/-! ### Elements of windows -/

/-- Element kinds (Table 1-2). -/
inductive ElemKind where
  | rt | bt | ct | voa | gateP | gateH
  deriving DecidableEq, Repr

/-- Kind of the element of slot `sl` of window `w` (R29, R30). -/
def elemKind (w sl : Nat) : ElemKind :=
  if w < 16 then (match sl % 3 with | 0 => .rt | 1 => .bt | _ => .ct)
  else if w = 16 then .voa else if sl % 2 = 0 then .gateP else .gateH

/-- Is the slot's actuator a Pockels shifter? -/
def slotPockels (w sl : Nat) : Bool := match elemKind w sl with | .rt => true | .gateP => true | _ => false

/-- Cell index j*128+r of a plot's slot (R29). -/
def slotCell (w sl : Nat) : Nat :=
  let m := sl / 3
  m / 8 % 15 * 128 + (8 * w + m % 8)
/-- Plane of a slot. -/
def slotPlane (w sl : Nat) : Nat :=
  if w < 16 then sl / 3 / 8 / 15 else if w = 16 then sl / 256 else sl / 4 / 256
/-- Port of a headland slot (R30). -/
def slotPort (w sl : Nat) : Nat := if w = 16 then sl % 256 else sl / 4 % 256
/-- Slot of the element `k` of a cell in plane `q` (R29). -/
def cellSlot (q cell k : Nat) : Nat := ((q * 15 + cell / 128) * 8 + cell % 128 % 8) * 3 + k
/-- Plot of a cell (R28). -/
def cellPlot (cell : Nat) : Nat := cell % 128 / 8
/-- Slot of the gate element `k` of output `o` in plane `q`. -/
def gateSlot (q o k : Nat) : Nat := (q * 256 + o) * 4 + k

/-- Temperature site named in a loop record (R301). -/
def slotSite (s : State) (w sl : Nat) : Nat := f s (PLOT_LOOP_BIND_site w sl)
/-- Has a site been sampled since AON power-up? -/
def siteValid (s : State) (i : Nat) : Bool := fb s (GOV_SITE_TEMP_valid i)
/-- The latest sample of a site rounded to the nearest 1/16 degree, ties toward plus infinity (R360). -/
def siteT (s : State) (i : Nat) : Int := (fInt s (GOV_SITE_TEMP_temp i) + 8) / 16

/-! ### Interpolation -/

/-- R300: eight values at eight temperatures, at temperature `t`. -/
def interpolate (v temp : Nat → Int) (t : Int) : Int :=
  if t ≤ temp 0 then v 0
  else if temp 7 ≤ t then v 7
  else
    let i := ((List.range 7).filter (fun i => decide (temp i ≤ t))).getLastD 0
    let weight := (t - temp i) * 65536 / (temp (i + 1) - temp i)
    v i + ((v (i + 1) - v i) * weight + 32768) / 65536

/-- Two's complement of 16 bits. -/
def s16 (n : Nat) : Int := if n % 65536 < 32768 then ((n % 65536 : Nat) : Int) else ((n % 65536 : Nat) : Int) - 65536
/-- Two's complement of 8 bits. -/
def s8 (n : Nat) : Int := if n % 256 < 128 then ((n % 256 : Nat) : Int) else ((n % 256 : Nat) : Int) - 256

/-! ### The active set in DRAM -/

/-- Is a calibration set active? -/
def calActive (s : State) : Bool := fb s CAL_STAT_active_valid
/-- Copy-0 address of a bank (Table 9-11). -/
def bankBase (b : Nat) : Nat := 0x88000000 + 0x400000 * b
/-- First bank tile of a window (Table 9-2). -/
def winFirst (w : Nat) : Nat := if w < 16 then 1 + 116 * w else if w = 16 then 1857 else 2034
/-- Tiles of a window. -/
def winTiles (w : Nat) : Nat := if w < 16 then 116 else if w = 16 then 177 else 281
/-- First electrode tile within a window (R297). -/
def elecFirst (w : Nat) : Nat := if w < 16 then 49 else if w = 16 then 36 else 138
/-- First tile after the electrode tiles: the slice tile. -/
def sliceTile (w : Nat) : Nat := if w < 16 then 113 else if w = 16 then 173 else 275
/-- First Pockels offset trim tile; none in the IHL. -/
def otrimTile (w : Nat) : Option Nat := if w < 16 then some 115 else if w = 16 then none else some 279
/-- Address of a tile of the active bank, on the copy of an online die. -/
def activeTile (s : State) (n : Nat) : Nat :=
  copyAddr (bankBase (f s CAL_STAT_active) + 1024 * n) (if dieOff s 0 then 1 else 0)
/-- Temperature `k` of the active set. -/
def setTemp (s : State) (k : Nat) : Int := s16 (dramRead s (activeTile s 0 + 0x10 + 2 * k) 2)
/-- Field at byte `b` of point `k` of the element entry of a slot in the active set. -/
def setPoint (s : State) (w sl k b : Nat) : Nat :=
  dramRead s (activeTile s (winFirst w + 1 + sl / 15) + 0x10 + 64 * (sl % 15) + 8 * k + b) 2
/-- E_tr of an element in units of 0.01 pJ: interpolated to its site's last sample, or the largest of its eight
points while that site was never sampled (R136, R301). -/
def etr (s : State) (w sl : Nat) : Nat :=
  let v k : Int := (setPoint s w sl k 6 : Int)
  if siteValid s (slotSite s w sl) then (interpolate v (setTemp s) (siteT s (slotSite s w sl))).toNat
  else ((List.range 8).map (fun k => setPoint s w sl k 6)).foldl max 0
/-- The largest of an element's eight E_tr points (R172). -/
def etrMax (s : State) (w sl : Nat) : Nat := ((List.range 8).map (fun k => setPoint s w sl k 6)).foldl max 0

/-! ### The working set -/

/-- Address in the pair SRAM store of an offset of window `w`'s SRAM. -/
def sramAddr (w off : Nat) : Nat := w * 0x40000 + off
/-- `n` bytes of a pair's SRAM. -/
def sramRead (s : State) (w off n : Nat) : Nat := memRead s.sram (sramAddr w off) n
/-- Store bytes in a pair's SRAM. -/
def sramWrite (w off n v : Nat) (s : State) : State := { s with sram := memWrite s.sram (sramAddr w off) n v }
/-- Generation of the pair's working set; 0 none (R305). -/
def wsGen (s : State) (w : Nat) : Nat := sramRead s w 0x4000 4
/-- Temperature `k` of the working set. -/
def wsTemp (s : State) (w k : Nat) : Int := s16 (sramRead s w (0x4008 + 2 * k) 2)
/-- Field at byte `b` of point `k` of a slot's element record in the working set. -/
def wsPoint (s : State) (w sl k b : Nat) : Nat := sramRead s w (0xC400 + 64 * sl + 8 * k + b) 2
/-- An element value of the working set at a temperature. -/
def wsValue (s : State) (w sl b : Nat) (signed : Bool) (t : Int) : Int :=
  interpolate (fun k => if signed then s16 (wsPoint s w sl k b) else (wsPoint s w sl k b : Int)) (wsTemp s w) t
/-- model(state, T) of an element (R209): the bar or dark code (`false`) or the cross or open code (`true`) of a
Pockels element, or the seed code of a heater, at its site's latest sample. -/
def modelCode (s : State) (w sl : Nat) (st : Bool) : Int :=
  wsValue s w sl (if st && slotPockels w sl then 2 else 0) true (siteT s (slotSite s w sl))
/-- The element's Vpi in 100 uV (R246). -/
def modelVpi (s : State) (w sl : Nat) : Int := wsValue s w sl 4 false (siteT s (slotSite s w sl))
/-- Where the points of electrode `e` that window `w` loaded stand. -/
def elecAddr (w e : Nat) : Nat := w * 0x20000 + 64 * e
/-- Field at byte `b` of point `k` of an electrode of window `w`, as loaded (R296, R306). -/
def elecPoint (s : State) (w e k b : Nat) : Nat := memRead s.elec (elecAddr w e + 8 * k + b) 2
/-- The bias trim that window `w` loaded for electrode `e`, 0.25 % of the nominal bias (R302). -/
def biasTrim (s : State) (w e : Nat) : Int := s8 (memGet s.bias (w * 2048 + e)).toNat
/-- Electrode field `b` (0 gain0, 2 gain1, 4 offset, 6 crossover) of the sensor half in use (R305). -/
def elecField (s : State) (w e b : Nat) : Nat :=
  sramRead s w ((if sramRead s w 0x4004 1 = 0 then 0x4400 else 0x8400) + 8 * e + b) 2

end Sys2Proof.Machine
end

