-- ==== Sys2Proof/Machine/Drive.lean ====
section
/-! DEFINITION. The core of the drill and of the loops that other chapters act on: channel kinds (R233), queues
(R239), segment shares (R257), transition waveforms (R243 to R247), the code a loop holds for a state (R114, R209),
calibration marks (R310 to R313), cold park (R374, R375), and driving gates dark (R265). -/
namespace Sys2Proof.Machine
open Sys2Proof.Config

/-! ### Channels and loops -/

/-- Key of a channel, a loop or a sensing channel of a window. -/
def wKey (w i : Nat) : Nat := w * 4096 + i
/-- A channel. -/
def chanOf (s : State) (w ch : Nat) : Chan := amGet (fun _ => {}) s.chans (wKey w ch)
/-- Replace a channel. -/
def chanPut (w ch : Nat) (c : Chan) (s : State) : State := { s with chans := amSet (fun _ => {}) s.chans (wKey w ch) c }
/-- A loop. -/
def loopOf (s : State) (w sl : Nat) : LoopX := amGet (fun _ => {}) s.loops (wKey w sl)
/-- Replace a loop. -/
def loopPut (w sl : Nat) (l : LoopX) (s : State) : State := { s with loops := amSet (fun _ => {}) s.loops (wKey w sl) l }
/-- The listed keys of a window, as indexes. -/
def winKeys {α : Type} (w : Nat) (m : AMap α) : List Nat :=
  (m.filter (fun e => decide (wKey w 0 ≤ e.1) && decide (e.1 < wKey (w + 1) 0))).map (fun e => e.1 - wKey w 0)

/-- Is a channel a segment-1 channel (Table 7-1)? -/
def chSeg1 (w ch : Nat) : Bool := decide (w < 16) && decide (720 ≤ ch)
/-- Is a channel a Pockels channel (Table 7-1)? -/
def chPockels (w ch : Nat) : Bool :=
  if w < 16 then (ch % 3 == 0 || decide (720 ≤ ch)) else if w = 16 then false else ch % 2 == 0
/-- Is a channel a gate Pockels channel, whose range can be selected? -/
def chGate (w ch : Nat) : Bool := w == 17 && ch % 2 == 0
/-- Is a channel the segment-0 channel of an RT element? -/
def chRt (w ch : Nat) : Bool := decide (w < 16) && decide (ch < 720) && ch % 3 == 0
/-- The segment-1 channel of an RT slot (R233). -/
def seg1Of (sl : Nat) : Nat := 720 + sl / 3

/-- Does the population mode put a cell in service (Table 2-6)? -/
def inService (m : PopMode) (cell : Nat) : Bool :=
  match m with
  | .full => true
  | .p128 => cell / 128 == 0 || cell / 128 == 14 || decide (cell % 128 < 64)
  | .p64 => decide (cell % 128 < 64)
/-- The module is a CH-7256-H (R2). -/
def variantH (s : State) : Bool := fb s ID_PART_variant
/-- The cells that are fallow on a CH-7256-H in every mode: rows 64 to 127 of columns 1 to 13 (R2, R67). -/
def variantFallow (cell : Nat) : Bool := decide (1 ≤ cell / 128) && decide (cell / 128 ≤ 13) && decide (64 ≤ cell % 128)
/-- A fallow cell: out of service in a plot whose domain stays on (R67, R2). -/
def cellFallow (s : State) (cell : Nat) : Bool := !inService s.popMode cell || (variantH s && variantFallow cell)
/-- The population mode while no field plan has set one: the largest the variant permits (Table 0-2; log 16). -/
def defaultMode (s : State) : PopMode := if variantH s then .p128 else .full
/-- Slot of the element a channel drives. -/
def chSlot (w ch : Nat) : Nat := if chSeg1 w ch then 3 * (ch - 720) else ch
/-- Does a channel drive an element of a fallow cell? -/
def chFallow (s : State) (w ch : Nat) : Bool := decide (w < 16) && cellFallow s (slotCell w (chSlot w ch))

/-- Full scale in 100 uV (R235). -/
def fullScale (rangeL : Bool) : Int := if rangeL then 15000 else 30000
/-- What segment `i` takes of element code `c` (R257); a segment whose clamp is closed takes none. -/
def share (seg i : Nat) (c : Int) : Int :=
  match seg with
  | 0 => if i = 0 then (c + 1) / 2 else c - (c + 1) / 2
  | 1 => if i = 0 then c else 0
  | _ => if i = 0 then 0 else c
/-- The code fed to a channel's modulator: its share for a segment of an RT element (R257). -/
def fedCode (s : State) (w ch : Nat) : Int :=
  if chSeg1 w ch then share (chanOf s w (3 * (ch - 720))).seg 1 (chanOf s w (3 * (ch - 720))).fed
  else if chRt w ch then share (chanOf s w ch).seg 0 (chanOf s w ch).fed else (chanOf s w ch).fed
/-- Is a Pockels channel's clamp closed (R257, R259, R522)? -/
def clampClosed (s : State) (w ch : Nat) : Bool :=
  !domOn s (winDomain w) || s.vpkBad || chFallow s w ch ||
  (chRt w ch && ((chanOf s w ch).seg == 2 || (chanOf s w ch).bothBad)) ||
  (chSeg1 w ch && ((chanOf s w (3 * (ch - 720))).seg == 1 || (chanOf s w (3 * (ch - 720))).bothBad))
/-- Is a heater's switch held open (R262, R522)? -/
def switchOpen (s : State) (w ch : Nat) : Bool :=
  !domOn s (winDomain w) || s.vhtrBad == 3 || fb s (PLOT_DRL_STAT_htr_short w ch)

/-- Does a Pockels channel stand under the deglitch hold of its domain's wake (Table 7-8)? -/
def wakeHold (s : State) (w ch : Nat) : Bool :=
  chPockels w ch && !clampClosed s w ch && (match amGet (fun _ => none) s.dgWake w with | some x => decide (s.clk.now < x + 4000) | none => false)
/-- A channel's output voltage outside a clamp, in 2^-15 of 100 uV (R235): code times FS, and the offset trim in force, 0.5 mV
per unit. -/
def outVolt (s : State) (w ch : Nat) : Int := fedCode s w ch * fullScale (chanOf s w ch).rangeL + (chanOf s w ch).otr * 5 * 32768
/-- Duty of a heater channel, Q1.15 (R237), at a measured V_HTR in mV; its rounding is open (log 7). -/
def heaterDuty (s : State) (w ch : Nat) : Nat :=
  let c := (chanOf s w ch).fed.toNat
  let mv := f s (PLOT_DRL_VHTR_v_htr_mv w)
  if switchOpen s w ch then 0
  else min 32767 (if fb s (PLOT_DRL_CFG_vcomp w ch) then (if mv = 0 then 32767 * min c 1 else openDiv (c * 3300 ^ 2) (mv ^ 2)) else c)

/-- Push a code that can be popped from instant `at_` on into a channel's queue (R239, R240), the code last pushed to the channel
(Table 6-14): a full queue discards it, a waveform discards and counts it. -/
def pushAt (at_ w ch : Nat) (v : Int) (s : State) : State :=
  let c := chanOf s w ch
  if !c.wave.isEmpty then inc (PLOT_DRL_CNT_FLUSH_count w) s
  else if 4 ≤ c.queue.length then setF (PLOT_DRL_STAT_qovf w ch) 1 s
  else setF (PLOT_LOOP_OUT_code w ch) (toTwos 16 v) (chanPut w ch { c with queue := c.queue ++ [v], qAt := c.qAt ++ [at_] } s)
/-- An engine's push, written in the CK_LOOP cycle before this instant (R240). -/
def pushCode (w ch : Nat) (v : Int) (s : State) : State := pushAt s.clk.now w ch v s
/-- Make a channel take a code at its next code tick, before anything else that waits (R374, R375). -/
def forceCode (w ch : Nat) (v : Int) (s : State) : State :=
  setF (PLOT_LOOP_OUT_code w ch) (toTwos 16 v)
    (chanPut w ch { chanOf s w ch with queue := [v], qAt := [s.clk.now], seed := 0 } s)

/-- Opening of a slot's window in the present frame (R193, R194). -/
def slotOpen (s : State) (sl : Nat) : Nat := s.frameAt + 25000 + 800 * (sl / 4)
/-- A listed loop of a window restarts: its next update is the first after a start (R211), in this frame while its slot window has
not opened. -/
def restartLoop (w sl : Nat) (s : State) : State :=
  let l := loopOf s w sl
  loopPut w sl { l with
    restart := true, staged := [], active := [], q0 := none, post := 0
    doneAt := if slotOpen s sl < s.clk.now then some s.frameAt else l.doneAt } s

/-- Every loop drops what it has staged and leaves its quick interval: codes are held (R143, R404, Table 12-4; DEDUCED, log 90). -/
def freezeLoops (s : State) : State :=
  { s with loops := s.loops.map (fun e => (e.1, { e.2 with staged := [], active := [], q0 := none, post := 0, qa := 0 })) }

/-! ### The state of an element and the code a loop holds for it -/

/-- The map whose states the elements take: the commit's result from its verify strobe on (R206). -/
def mapInForce (s : State) : MapSt :=
  match s.commit with
  | some c => match c.phase with | .fired => s.present | .routed => s.present | _ => c.plan.after
  | none => s.present
/-- State bit of an element (R206, Table 6-3). -/
def stateBit (s : State) (w sl : Nat) : Bool :=
  match elemKind w sl with
  | .voa => false
  | .gateP => s.gateOpen.getLsbD (slotPort w sl)
  | .gateH => s.gateOpen.getLsbD (slotPort w sl)
  | _ => cellAt (mapInForce s) (slotCell w sl)

/-- A loop's integrator, Q9.31 (R198). -/
def integOf (s : State) (w sl : Nat) : Int :=
  let n : Nat := f s (PLOT_LOOP_INT_L_integ_low w sl) + 2 ^ 32 * f s (PLOT_LOOP_INT_H_integ_high w sl)
  if n < 2 ^ 39 then (n : Int) else (n : Int) - 2 ^ 40
/-- Store a loop's integrator. -/
def integPut (w sl : Nat) (v : Int) (s : State) : State :=
  setF (PLOT_LOOP_INT_H_integ_high w sl) (toTwos 40 v / 2 ^ 32) (setF (PLOT_LOOP_INT_L_integ_low w sl) (toTwos 40 v) s)
/-- Q9.31 to Q1.15 (R199), before saturation. -/
def roundQ (v : Int) : Int := (v + 32768) / 65536
/-- Two's complement of a half of a word. -/
def halfInt (x : Word) (k : Nat) : Int := s16 (x.toNat / 2 ^ (16 * k))
/-- A Q1.15 value brought into the limits that a loop's last update took (R200, R231). -/
def clampOut (s : State) (w sl : Nat) (v : Int) : Int :=
  max (halfInt (loopOf s w sl).limF 0) (min (halfInt (loopOf s w sl).limF 1) (satInt 16 v))
/-- The Walsh pattern of a loop's last update (R231). -/
def walshF (s : State) (w sl : Nat) : Nat := (loopOf s w sl).cfgF.toNat / 8 % 4
/-- The code a loop holds for a state of its element (R114): its model value, and the offset of model hold or the
drift integrator. -/
def heldCode (s : State) (w sl : Nat) (st : Bool) : Int :=
  let drift := if f s (PLOT_LOOP_STAT_mode w sl) = 3 then fInt s (PLOT_LOOP_MODEL_offset w sl) else roundQ (integOf s w sl)
  clampOut s w sl (modelCode s w sl st + drift)

/-- The temperature band of a site under a window's edges t1 to t7 (R204). -/
def tbandOf (s : State) (w site : Nat) : Nat :=
  let edge (k : Nat) : Int :=
    s8 (if k < 4 then (rd s (winBase w + 0x24)).toNat / 2 ^ (8 * k) else (rd s (winBase w + 0x28)).toNat / 2 ^ (8 * (k - 4)))
  ((List.range 7).filter (fun k => decide (edge k * 16 ≤ siteT s site))).length

/-! ### Waveforms -/

/-- Point `i` of waveform `wf` of a pair's library (R243). -/
def libPoint (s : State) (w wf i : Nat) : Int := s16 (sramRead s w (0x38000 + 0x80 * wf + 2 * i) 2)
/-- The waveform a pair selects for transition kind `k` in band `t` (R245, Table 7-14). -/
def waveSel (s : State) (w k t : Nat) : Nat := f s ⟨(PLOT_DRL_WSEL_LO_w_t0 w k).off + t / 4 * 4, t % 4 * 8, 8⟩
/-- Points played by a kind (Table 7-5). -/
def kindLen (k : Nat) : Nat := if k < 2 then 10 else 3
/-- Transition kind of an element's change to state `st` (Table 7-5). -/
def kindOf (w : Nat) (st : Bool) : Nat := if w < 16 then (if st then 0 else 1) else (if st then 3 else 2)
/-- Read a transition's waveform (R244, R245). -/
def readWave (s : State) (w sl : Nat) (st : Bool) : WaveRead :=
  let wf := waveSel s w (kindOf w st) (tbandOf s w (slotSite s w sl))
  { win := w, slot := sl, st := st, pts := (List.range (kindLen (kindOf w st))).map (libPoint s w wf), vpi := modelVpi s w sl }

/-- Vpi in codes: Vpi * 32768 / FS rounded to the nearest, ties up (R246). -/
def swing (vpi fs : Int) : Int := (2 * vpi * 32768 + fs) / (2 * fs)
/-- p * u in codes, rounded to the nearest, ties up (R246). -/
def pointCode (p u : Int) : Int := (p * u + 8192) / 16384

/-- A waveform cuts a channel's deglitch hold (R253). -/
def cutHold (w ch : Nat) (s : State) : State :=
  if (chanOf s w ch).hold.isSome then
    setF (PLOT_DRL_STAT_dg_cut w ch) 1 (chanPut w ch { chanOf s w ch with hold := none } s)
  else s
/-- Start a waveform on a channel: its queue is flushed and counted (R247), a deglitch hold is cut on every channel it plays on
(R253), and a test play that it overtakes is over (R248). Points beyond the code range saturate and set `clip`. -/
def startWave (w ch : Nat) (codes : List Int) (test : Bool) (s : State) : State :=
  let c := chanOf s w ch
  let s1 := incBy (PLOT_DRL_CNT_FLUSH_count w) c.queue.length s
  let s2 := onlyIf (chRt w ch) (cutHold w (seg1Of ch)) (cutHold w ch s1)
  let s3 := onlyIf (codes.any (fun v => satInt 16 v != v)) (setF (PLOT_DRL_STAT_clip w ch) 1) s2
  let s4 := if c.wcut then { s3 with playing := amSet (fun _ => none) s3.playing w none } else s3
  chanPut w ch { c with queue := [], qAt := [], seed := 0, hold := none, wave := codes.map (satInt 16), wcut := test } s4
/-- Is a window held through a warm reset and not yet reclaimed, so that no waveform plays in it (R266, R484)? -/
def winHeld (s : State) (w : Nat) : Bool := fb s ⟨BOOT_HOLD_STAT_windows.off, w, 1⟩

/-- Play a transition on its element (R246): the points from the code held, the last one the held code of the
destination state, from which the loop resumes (R114). -/
def playWave (r : WaveRead) (s : State) : State :=
  if domOn s (winDomain r.win) && !winHeld s r.win then
    let c := chanOf s r.win r.slot
    let cEnd := r.cEnd.getD (heldCode s r.win r.slot r.st)
    let u := (if cEnd < c.fed then -1 else if cEnd = c.fed then 0 else 1) * swing r.vpi (fullScale c.rangeL)
    loopPut r.win r.slot { loopOf s r.win r.slot with c := cEnd, staged := [], active := [] }
      (startWave r.win r.slot ((r.pts.dropLast.map (fun p => c.fed + pointCode p u)) ++ [cEnd]) false s)
  else s

/-- The four gate Pockels slots of an output: gates 1 and 2 in both planes (R30). -/
def gateSlots (o : Nat) : List Nat := [gateSlot 0 o 0, gateSlot 0 o 2, gateSlot 1 o 0, gateSlot 1 o 2]

/-- Drive every open gate dark (R265): kind 2 is played on its Pockels elements. -/
def gatesDark (s : State) : State :=
  forEach ((List.range 256).filter (fun o => s.gateOpen.getLsbD o))
    (fun o t => setGate o false (forEach ((gateSlots o).map (fun sl => readWave t 17 sl false)) playWave t)) s

/-! ### Calibration marks -/

/-- Is an element under calibration (R310)? -/
def markOf (s : State) (w sl : Nat) : Option CalMark := amGet (fun _ => none) s.calMarks (wKey w sl)
/-- Marks in force in a window. -/
def marksIn (s : State) (w : Nat) : List Nat := winKeys w s.calMarks
/-- End a mark: `stale` clears and the loop restarts (R312). -/
def endMark (w sl : Nat) (s : State) : State :=
  restartLoop w sl (setF (PLOT_LOOP_STAT_stale w sl) 0
    { s with calMarks := amSet (fun _ => none) s.calMarks (wKey w sl) none })
/-- Abandon a mark (R312). -/
def abandonMark (w sl : Nat) (s : State) : State :=
  if (markOf s w sl).isSome then inc CAL_CNT_ABANDON_count (endMark w sl s) else s
/-- Abandon every mark of a window. -/
def abandonWindow (w : Nat) (s : State) : State := forEach (marksIn s w) (abandonMark w) s

/-! ### Population mode, fallow cells, cold park -/

/-- The cells that circuits of a map cross. -/
def boundCells (m : MapSt) : BitVec 1920 :=
  m.circs.foldl (fun v c => (circPath c).foldl (fun u h => setCell u (hopCell h) true) v) 0
/-- Slots of a cell's elements of index `k`, in both planes (R29). -/
def cellSlots (cell k : Nat) : List Nat := [cellSlot 0 cell k, cellSlot 1 cell k]
/-- Is some element of a cell under calibration? -/
def cellMarked (s : State) (cell : Nat) : Bool :=
  [0, 1, 2].any (fun k => (cellSlots cell k).any (fun sl => (markOf s (cellPlot cell) sl).isSome))
/-- Is the element of a slot a heater of a cell in cold park (R374)? -/
def heaterParked (s : State) (w sl : Nat) : Bool := decide (w < 16) && sl % 3 != 0 && s.parked.getLsbD (slotCell w sl)
/-- Is cold park in force? -/
def coldPark (s : State) : Bool := fb s GOV_STAT_cold_park
/-- The idle cells (R374). -/
def idleCells (s : State) : List Nat :=
  let b := boundCells s.present ||| boundCells s.projected
  (List.range 1920).filter (fun i => !cellFallow s i && !b.getLsbD i && !cellMarked s i)
/-- The heater slots (BT and CT) of a cell. -/
def heaterSlots (cell : Nat) : List Nat := cellSlots cell 1 ++ cellSlots cell 2

/-- Park one cell: its heaters take code 0, its BT and CT loops stop and report MODEL (R374). -/
def parkCell (i : Nat) (s : State) : State :=
  { forEach (heaterSlots i) (fun sl t => setF (PLOT_LOOP_STAT_mode (cellPlot i) sl) 3
      (loopPut (cellPlot i) sl { loopOf t (cellPlot i) sl with staged := [], active := [], q0 := none, post := 0, qa := 0, mdl := true }
        (forceCode (cellPlot i) sl 0 t))) s
    with parked := setCell s.parked i true }
/-- While cold park is in force, every idle cell is parked (R374). -/
def parkIdle (s : State) : State :=
  if coldPark s then
    forEach ((idleCells s).filter (fun i => !s.parked.getLsbD i && domOn s (winDomain (cellPlot i)))) parkCell s
  else s
/-- A parked cell takes its seed codes and restarts its loops (R375). -/
def unparkCell (i : Nat) (s : State) : State :=
  if s.parked.getLsbD i then
    { forEach (heaterSlots i) (fun sl t => restartLoop (cellPlot i) sl
        (forceCode (cellPlot i) sl (modelCode t (cellPlot i) sl false) t)) s
      with parked := setCell s.parked i false }
  else s
/-- Every cell a map binds leaves cold park (R375). -/
def unparkBound (m : MapSt) (s : State) : State :=
  forEach ((List.range 1920).filter (fun i => s.parked.getLsbD i && (boundCells m).getLsbD i)) unparkCell s

end Sys2Proof.Machine
end

