-- ==== Sys2Proof/Machine/Collector.lean ====
section
/-! DEFINITION. The fault collector: registering a raise (R391 to R394, R398, R399), the collector remedies of Table
12-2, and entry into the safe state (R402 to R404). Also what those act on: a stop of the rotation with hold (R186,
R187), the refusal of every sheaf in the module (R144, R348), and the reset of a diverged supervisor core (R411). -/
namespace Sys2Proof.Machine
open Sys2Proof.Config

/-! ### Device state, supervisors -/

/-- Device state (Table 11-13): 0 RUN, 1 PARK_PEND, 2 PARK, 3 STANDBY_PEND, 4 STANDBY, 5 WAKING. -/
def devState (s : State) : Nat := f s GOV_DEV_STAT_state
/-- Move to a device state; `dev_chg` is set when it changes (R390). -/
def devGo (n : Nat) (s : State) : State :=
  if devState s = n then s else setF GOV_STAT_dev_chg 1 (setF GOV_DEV_STAT_state n s)

/-- State of supervisor core `k` (Table 12-5): 0 OFF, 1 RESYNC, 2 STANDBY, 3 HOLDER, 4 DIVERGED. -/
def supState (s : State) (k : Nat) : Nat := f s (if k = 0 then FLT_SUP_STAT_a_state else FLT_SUP_STAT_b_state)
/-- Set a core's state. -/
def supPut (k n : Nat) (s : State) : State := setF (if k = 0 then FLT_SUP_STAT_a_state else FLT_SUP_STAT_b_state) n s
/-- Reset a diverged core: it resynchronises while its partner is HOLDER, else it stays OFF (R411, Table 12-5). -/
def supReset (k : Nat) (s : State) : State :=
  if supState s k = 4 then supPut k (if supState s (1 - k) = 3 then 1 else 0) s else s

/-! ### The rotation at a stop -/

/-- Bring ROT_STAT up to date with the operating rotation (Table 5-14): table and slot keep their last values. While the rotation
is ADMITTED no slot of it is in force yet, and `slot` keeps showing the last slot that was (DESIGN CHOICE, log 79). -/
def rotNote (s : State) : State :=
  match s.rot with
  | none => setF ROT_STAT_armed 0 (setF ROT_STAT_state 0 s)
  | some r =>
    let st := match r.stopAt, r.st with
      | some _, _ => 4 | none, .admitted => 1 | none, .running => 2 | none, .suspended => 3 | none, .stopping => 4
    setB ROT_STAT_armed (s.rotArmed.getLsbD r.table) (setF ROT_STAT_state st
      ((if r.st = .admitted then id else setF ROT_STAT_slot r.slot) (setF ROT_STAT_table r.table s)))

/-- The tenant that loaded bank `b` of a table, if a tenant did. -/
def loaderOf (s : State) (t b : Nat) : Option Nat := amGet (fun _ => none) s.rotLoader (2 * t + b)

/-- A rotation event to the tenant that loaded the table (Table 10-11, code 7). -/
def rotEvent (table a : Nat) (s : State) : State :=
  match loaderOf s table 0 with
  | some t => telem t 7 table a 0 s
  | none => s

/-- The circuits of a map no longer belong to a rotation (R186). -/
def clearByRot (m : MapSt) : MapSt := { m with circs := m.circs.map (fun c => { c with byRot := false }) }

/-- Circuits that a rotation placed pass to the tenants its map names, which are told (R186, TELEM code 3). -/
def passCircuits (s : State) : State :=
  let moved := s.present.circs.filter (fun c => c.byRot)
  forEach moved (fun c t => telem c.holder 3 c.out c.inp 0 t)
    { s with present := clearByRot s.present, projected := clearByRot s.projected }

/-- The table becomes idle: an armed pending bank becomes unarmed, its contents are kept (R186). -/
def rotIdle (s : State) : State :=
  match s.rot with
  | none => s
  | some r =>
    rotNote { s with rot := none, rotArmed := s.rotArmed &&& ~~~(BitVec.ofNat 16 (2 ^ r.table)) }

/-- Stop with hold, at once (R186, R187): no commit of the rotation whose t0 has not come takes place. -/
def stopHold (s : State) : State :=
  match s.rot with
  | none => s
  | some r =>
    let s1 := match s.closed with
      | some p => if p.rot.isSome then { s with closed := none } else s
      | none => s
    rotEvent r.table 3 (rotIdle (passCircuits s1))

/-! ### Refusing sheaves -/

/-- A tenant's queue. -/
def queueOf (s : State) (t : Nat) : List Sheaf := amGet (fun _ => []) s.queues t
/-- Replace a tenant's queue. -/
def queuePut (t : Nat) (q : List Sheaf) (s : State) : State := { s with queues := amSet (fun _ => []) s.queues t q }

/-- The map the present map becomes once a commit in progress has completed. -/
def settledMap (s : State) : MapSt :=
  match s.commit with | some c => c.plan.after | none => s.present

/-- The projected map changes other than by an acceptance: a solve in progress starts again (R540). -/
def restartSolve (s : State) : State := { s with solving := s.solving.map (fun v => { v with since := s.clk.now }) }

/-- Refuse every accepted sheaf not yet committed; no commit that has not begun takes place, and the projected map is
set to the present map, a commit in progress counted as complete (R127, R144, R177). -/
def refuseAccepted (reason : Nat) (s : State) : State :=
  let l := s.accepted
  forEach l (fun a t => refuseSheaf reason 0 a.fw a.sheaf t)
    { restartSolve s with accepted := [], closed := none, projected := settledMap s }

/-- Refuse every sheaf of the queues, the scheduled list and the solver's inlet with SAFE_STATE; the sheaf being solved
is refused when its solve ends (R348). -/
def refuseWaiting (reason : Nat) (s : State) : State :=
  let l := s.ready ++ s.sched ++ (s.queues.map (·.2)).flatten
  forEach l (fun sh t => refuseSheaf reason 0 false sh t)
    { s with ready := [], sched := [], queues := [], solving := s.solving.map (fun v => { v with dead := reason }) }

/-! ### The safe state -/

/-- The dark form: every gate is driven dark and every circuit leaves the present map; each output whose state changes
is reported (R403, R265, R59). -/
def goDark (s : State) : State :=
  let s1 := gatesDark s
  reportOuts s { restartSolve s1 with
    present := { s1.present with circs := [] }, projected := { s1.projected with circs := [] }, unseen := [] }

/-- Entry into the safe state (R402 to R404). A commit between t0 and completion runs on; codes are held, and the dark
form acts, from its completion (R143). A stop dark whose commit has not begun is cancelled with the other commits: the circuits
that its rotation placed then pass to their tenants, as at a stop with hold (DESIGN CHOICE, log 79). -/
def safeEnter (cause src : Nat) (dark : Bool) (s : State) : State :=
  if inSafe s then s
  else
    let t := tbNow s 0
    let s1 := setF FLT_SAFE_SL_sec_low (tSec t) (setF FLT_SAFE_NS_ns (tNs t)
      (setF FLT_STAT_cause_src src (setF FLT_STAT_cause cause (setB FLT_STAT_dark_active dark (setF FLT_STAT_safe 1 s)))))
    let s2 := if devState s1 = 1 then devGo 0 (setF GOV_DEV_STAT_refused 1 s1) else s1
    let undone := match s2.closed with | some p => p.dark | none => false
    let s3 := forEach (List.range 18) abandonWindow
      (onlyIf undone passCircuits (stopHold (refuseWaiting 0x0B (refuseAccepted 0x0B s2))))
    if s3.commit.isNone then onlyIf dark goDark (freezeLoops s3) else s3

/-! ### Raising -/

/-- Severity a source acts by (R393): codes 5 to 7 act as 4. -/
def sevOf (s : State) (n : Nat) : Nat := min 4 (f s (FLT_SRC_CFG_severity n))
/-- The FLT_x field of a 48-bit register pair that holds source `n`'s bit. -/
def srcBit (lo : Fld) (n : Nat) : Fld := ⟨lo.off + n / 32 * 4, n % 32, 1⟩
/-- The pending bit of a source. -/
def pendBit (n : Nat) : Fld := srcBit FLT_PEND_LO_pending n
/-- The escalated bit of a source. -/
def escdBit (n : Nat) : Fld := srcBit FLT_ESCD_LO_escalated n
/-- A source's instant in a map of instants. -/
def atOf (m : AMap (Option Nat)) (n : Nat) : Option Nat := amGet (fun _ => none) m n
/-- Set it. -/
def atPut (m : AMap (Option Nat)) (n : Nat) (v : Option Nat) : AMap (Option Nat) := amSet (fun _ => none) m n v

/-- Was source `n` raised in the present CK_AON cycle already (R391)? -/
def sameCycle (n : Nat) (s : State) : Bool :=
  match atOf s.fltRaised n with
  | some t => t / aonPeriod == s.clk.now / aonPeriod
  | none => false
/-- Was a record of source `n` written in the present CK_AON cycle? -/
def loggedNow (s : State) (n : Nat) : Bool :=
  match atOf s.fltLogged n with
  | some t => t / aonPeriod == s.clk.now / aonPeriod
  | none => false
/-- Put one record into entry `e` of the fault log (Table 12-13). -/
def logPut (e n sev : Nat) (escd entered : Bool) (detail : Nat) (s : State) : State :=
  let t := tbNow s 0
  setF (FLT_LOG3_sec_low e) (tSec t) (setF (FLT_LOG2_ns e) (tNs t) (setF (FLT_LOG1_detail e) detail
    (setB (FLT_LOG0_entered_safe e) entered (setB (FLT_LOG0_escalated e) escd
      (setF (FLT_LOG0_severity e) sev (setF (FLT_LOG0_source e) n s))))))
/-- The log takes one entry more, which holds a record of source `n`. -/
def logTaken (n : Nat) (s : State) : State :=
  let s2 := if f s FLT_LOG_STAT_wptr = 255 then setF FLT_LOG_STAT_wrapped 1 s else s
  { inc FLT_LOG_STAT_wptr s2 with fltLogged := atPut s2.fltLogged n (some s2.clk.now) }
/-- Write one record of the fault log (Table 12-13). -/
def logRecord (n sev : Nat) (escd entered : Bool) (detail : Nat) (s : State) : State :=
  logTaken n (logPut (f s FLT_LOG_STAT_wptr) n sev escd entered detail s)
/-- Entry `e` of the log takes the record of the entry before it. -/
def logShift (e : Nat) (s : State) : State :=
  forEach [FLT_LOG0_source, FLT_LOG1_detail, FLT_LOG2_ns, FLT_LOG3_sec_low]
    (fun x t => setRaw t (x (e % 256)).off (rd t (x ((e + 255) % 256)).off)) s
/-- The record of a raise (R392): it stands before the records that sources of higher numbers wrote in the same cycle (log 37). -/
def logRaise (n sev : Nat) (entered : Bool) (detail : Nat) (s : State) : State :=
  let k := ((List.range 48).filter (fun m => decide (n < m) && loggedNow s m)).length
  let e := f s FLT_LOG_STAT_wptr + 256
  let s1 := forEach (List.range k) (fun i => logShift (e - i)) s
  logTaken n (logPut ((e - k) % 256) n sev false entered detail s1)

/-- Window named by a detail word (Table 12-14). -/
def detWin (d : Nat) : Nat := d % 32
/-- Slot or channel named by a detail word. -/
def detSlot (d : Nat) : Nat := d / 32 % 4096
/-- A detail word of sources 0 to 8 and 47. -/
def winDetail (w sl kind : Nat) : Nat := w + 32 * sl + 2 ^ 17 * kind

/-- The collector's remedy of a source at DEGRADE (Table 12-2); a loop's hold ends with the raise that is not. -/
def remedy (n detail : Nat) (degrade : Bool) (s : State) : State :=
  let w := detWin detail
  let sl := detSlot detail
  match n with
  | 1 => loopPut w sl { loopOf s w sl with heldR := degrade } s
  | 7 => loopPut w sl { loopOf s w sl with heldS := degrade } s
  | 8 => if degrade then
      let e : EngX := amGet (fun _ => {}) s.eng w
      { s with eng := amSet (fun _ => {}) s.eng w { e with rep := e.rep ||| 2 ^ (detail / 2 ^ 17 % 2) } }
    else s
  | 10 => if degrade then supReset (detail % 2) s else s
  | _ => s

/-- The expiry of a timer that a raise at instant `t` starts, rounded up to a CK_AON edge (R399). -/
def timerEnd (s : State) (n t : Nat) : Nat :=
  (t + f s (FLT_SRC_CFG_esc n) * (10 * us) + (aonPeriod - 1)) / aonPeriod * aonPeriod
/-- Start a source's escalation timer unless it runs (R399). -/
def startTimer (n detail : Nat) (s : State) : State :=
  if (atOf s.escAt n).isSome then s
  else { s with escAt := atPut s.escAt n (some (timerEnd s n s.clk.now)), escDet := amSet (fun _ => 0) s.escDet n detail }

/-- What the severity of a raise does (Table 12-1). -/
def actSeverity (n sev detail : Nat) (s : State) : State :=
  let s1 := if sev = 0 then s else setF (pendBit n) 1 s
  let s2 := remedy n detail (sev == 2) s1
  let s3 := if sev = 3 then startTimer n detail s2 else s2
  if sev = 4 then safeEnter 1 n (fb s FLT_CTRL_dark) s3 else s3

/-- Was source `n` logged within the last 100 us (R392)? -/
def loggedSoon (n : Nat) (s : State) : Bool :=
  match atOf s.fltLogged n with
  | some t => decide (s.clk.now < t + 100 * us)
  | none => false
/-- A raise of source `n` (R391, R392): raises within one CK_AON cycle count as one. After a fault inside the collector
severities act on counts and the log alone (R406). -/
def raise (n detail : Nat) (s : State) : State :=
  if sameCycle n s then s
  else
    let sev := sevOf s n
    let self := fb s FLT_STAT_self_fault
    let s1 := inc (FLT_CNT_count n) { s with fltRaised := atPut s.fltRaised n (some s.clk.now) }
    let s2 := if loggedSoon n s1 then incSat FLT_LOG_STAT_merged s1
      else logRaise n sev (sev == 4 && !self && !inSafe s) detail s1
    if self then s2 else actSeverity n sev detail s2

/-- The sources that have a lasting condition and whose condition lasts (R397, Table 12-3). -/
def fltActive (s : State) (n : Nat) : Bool :=
  match n with
  | 9 => (List.range 18).any (fun w => fb s (PLOT_ENG_STAT_no_holder w))
  | 11 => fb s FLT_SUP_STAT_no_holder
  | 29 => fb s (ETH_CTRL_enable 0) && !(f s GOV_DOM_FALLOW_fallow).testBit 22 && !fb s (ETH_STAT_link 0)
  | 30 => fb s (ETH_CTRL_enable 1) && !(f s GOV_DOM_FALLOW_fallow).testBit 23 && !fb s (ETH_STAT_link 1)
  | 33 => (List.range 48).any (fun i => siteValid s i && decide (105 * 256 ≤ fInt s (GOV_SITE_TEMP_temp i)))
  | 34 => decide (f s GOV_LIMIT_limit_mw < f s GOV_HPWR_SERVE_serve_mw)
  | 35 => (atOf s.supplyOut 35).isSome
  | 36 => (atOf s.supplyOut 36).isSome
  | 37 => (atOf s.supplyOut 37).isSome
  | 38 => decide (f s GOV_DOM_FAIL_fail ≠ 0)
  | _ => false

end Sys2Proof.Machine
end

