-- ==== Sys2Proof/Machine/Tiles.lean ====
section
/-! DEFINITION. Checked reads of tiles with what they raise, count and repair (R444 to R446), a DRAM die going offline
(R447), and compiled maps: reading one, validating it (R103 to R106) and writing a capture (R107). -/
namespace Sys2Proof.Machine
open Sys2Proof.Config

/-! ### Dies -/

/-- A die fails: it goes offline and FS_DRAM_DIE is raised, once (R447). Its free handles leave the caches
and rings (R454). -/
def dieFail (d : Nat) (s : State) : State :=
  if dieOff s d then s
  else
    let s1 := setF (if d = 0 then BPM_STAT_d0_off else BPM_STAT_d1_off) 1
      (setF (if d = 0 then DRC_STAT_d0_off else DRC_STAT_d1_off) 1 s)
    raise 25 (2 ^ 21 * d) (forEach [0, 1, 2, 3] (fun p t =>
      poolNote p (ringPut p d [] (cachePut p ((cacheGet t p).filter (fun i => bufDie p i != d)) t))) s1)

/-- Detail word of FS_TILE_CRC for copy `c` of the tile at `a` (Table 12-14). -/
def copyDetail (a c : Nat) : Nat := copyAddr a c / 1024 % 2 ^ 21 + 2 ^ 21 * c

/-- Count a copy that failed its CRC; the sixteenth distinct tile of a second whose other copy passed fails the die
(R447). -/
def noteCrc (d a : Nat) (otherPasses : Bool) (s : State) : State :=
  let s0 := inc (DRC_CNT_CRC_count d) s
  if otherPasses then
    let sec := tSec (tbNow s0 0)
    let base := if s0.dieSec = sec then s0.dieCrc else []
    let l := amGet (fun _ => []) base d
    let l1 := if l.contains a then l else a :: l
    let s1 := { s0 with dieSec := sec, dieCrc := amSet (fun _ => []) base d l1 }
    if 16 ≤ l1.length then dieFail d s1 else s1
  else s0

/-- Copy a tile's bytes from copy `c` over the other copy, when repair is on (R446). -/
def repairTile (a c : Nat) (s : State) : State :=
  if fb s DRC_CTRL_repair_en then
    inc DRC_CNT_REPAIR_count { s with dram := memBytes s.dram (copyAddr a (1 - c)) (memList s.dram (copyAddr a c) 1024) }
  else s

/-- Raise a tile fault; an off domain raises none (R391). -/
def raiseTile (n detail : Nat) (s : State) : State := if domOn s 25 then raise n detail s else s

/-- A checked read of the tile at copy-0 address `a`: what it returns is `checkTile`; this is what it counts, raises
and repairs (Table 13-6). -/
def checkedNote (a : Nat) (s : State) : State :=
  let s0 := inc DRC_CNT_CHECKED_count s
  let bad (t : State) : State := setF DRC_LAST_TILE_addr a t
  match dieOff s 0, dieOff s 1 with
  | true, true => inc DRC_CNT_NOCOPY_count (bad s0)
  | true, false =>
    if tilePasses s (copyAddr a 1) then bad s0
    else raiseTile 16 (copyDetail a 1) (noteCrc 1 a false (inc DRC_CNT_NOCOPY_count (bad s0)))
  | false, true =>
    if tilePasses s a then bad s0
    else raiseTile 16 (copyDetail a 0) (noteCrc 0 a false (inc DRC_CNT_NOCOPY_count (bad s0)))
  | false, false =>
    match tilePasses s a, tilePasses s (copyAddr a 1) with
    | true, true =>
      match checkTile s a with
      | .genConflict => raiseTile 17 (a / 1024 % 2 ^ 21) (inc DRC_CNT_GEN_count (bad s0))
      | _ => if dramList s a 1024 = dramList s (copyAddr a 1) 1024 then s0 else inc DRC_CNT_STALE_count (bad s0)
    | true, false => raiseTile 16 (copyDetail a 1) (noteCrc 1 a true (repairTile a 0 (bad s0)))
    | false, true => raiseTile 16 (copyDetail a 0) (noteCrc 0 a true (repairTile a 1 (bad s0)))
    | false, false =>
      raiseTile 16 (copyDetail a 0) (noteCrc 1 a false (noteCrc 0 a false (inc DRC_CNT_NOCOPY_count (bad s0))))

/-! ### Compiled maps -/

/-- Copy-0 address of tile `t` of map `n` (Table 13-5). -/
def mapAddr (n t : Nat) : Nat := 0x80000000 + 2048 * n + 1024 * t

/-- A byte of the returned copy of a tile. -/
def tByte (s : State) (a c off : Nat) : Nat := dramRead s (copyAddr a c + off) 1
/-- Little-endian bytes of it. -/
def tRead (s : State) (a c off n : Nat) : Nat := dramRead s (copyAddr a c + off) n

/-- The map a pair of tiles holds: tile 0 read on copy `c0`, tile 1 on copy `c1` (R104, R105). -/
def storedMap (s : State) (n c0 c1 : Nat) : MapSt :=
  let a := mapAddr n 0
  { circs := ((List.range 256).filter (fun m => (tByte s a c0 (0x200 + m / 8)).testBit (m % 8))).map (fun m =>
      { inp := tByte s a c0 (0x100 + m), out := m, mid := tByte s a c0 (0x220 + m) % 128,
        holder := tByte s (mapAddr n 1) c1 (0x10 + m) % 64, byRot := true })
    cells := BitVec.ofNat 1920 (tRead s a c0 0x10 240) }

/-- The ports a population mode admits (Table 2-6). -/
def modePort (m : PopMode) (p : Nat) : Bool :=
  match m with | .full => decide (p < 256) | .p128 => decide (p < 128) | .p64 => decide (p < 64)
/-- Mode number of a map. -/
def modeNum (m : PopMode) : Nat := match m with | .full => 0 | .p128 => 1 | .p64 => 2

/-- The result of validating a map (Table 3-12). -/
structure MapCheck where
  code : Nat
  gen  : Nat
  map  : MapSt
  deriving DecidableEq, Repr

/-- No two circuits share an input. -/
def distinctIns (l : List Circuit) : Bool := l.Pairwise (fun a b => a.inp ≠ b.inp)

/-- Checks 3 to 6 of Table 3-12, on the copies read. -/
def mapContent (s : State) (n c0 c1 : Nat) : Nat :=
  let a0 := mapAddr n 0
  let a1 := mapAddr n 1
  let m := storedMap s n c0 c1
  let ins := (List.range 256).filter (fun i => (tByte s a1 c1 (0x110 + i / 8)).testBit (i % 8))
  if !(tRead s a0 c0 0 2 == 0x21 && tRead s a1 c1 0 2 == 0x22 && tRead s a0 c0 2 2 == n && tRead s a1 c1 2 2 == n &&
      tRead s a0 c0 4 4 == tRead s a1 c1 4 4) then 3
  else if !(tRead s a0 c0 0xA 2 == m.circs.length && tRead s a0 c0 0xA 2 == ins.length && distinctIns m.circs &&
      ins.all (fun i => (onIn m i).isSome) && m.circs.all (fun c => ins.contains c.inp) &&
      m.circs.all (fun c => (circPath c).all (fun h => cellAt m (hopCell h) == hopCross h))) then 4
  else if !(m.circs.all (fun c => ownsIn s c.holder c.inp && ownsOut s c.holder c.out)) then 5
  else if !(tRead s a0 c0 8 2 == modeNum s.popMode &&
      m.circs.all (fun c => modePort s.popMode c.inp && modePort s.popMode c.out && decide (c.mid < modeMids s.popMode) &&
        (circPath c).all (fun h => !cellFallow s (hopCell h)))) then 6
  else 0

/-- Validation of map `n` (R106): the first failing check. -/
def validateMap (s : State) (n : Nat) : MapCheck :=
  match checkTile s (mapAddr n 0), checkTile s (mapAddr n 1) with
  | .ok c0, .ok c1 =>
    { code := mapContent s n c0 c1, gen := tRead s (mapAddr n 0) c0 4 4, map := storedMap s n c0 c1 }
  | .noCopy, _ => { code := 1, gen := 0, map := {} }
  | _, .noCopy => { code := 1, gen := 0, map := {} }
  | _, _ => { code := 2, gen := 0, map := {} }

/-- The checked reads a validation makes, with what they count and raise. -/
def validateNote (n : Nat) (s : State) : State := checkedNote (mapAddr n 1) (checkedNote (mapAddr n 0) s)

/-- The bytes of a tile with its CRC: `l` is padded with zeros to 1,020 bytes. -/
def tileBytes (l : List Nat) : List Nat :=
  let b := l ++ List.replicate (1020 - l.length) 0
  b ++ (List.range 4).map (fun i => crc32c b / 256 ^ i % 256)

/-- `n` little-endian bytes of a number. -/
def leBytes (n v : Nat) : List Nat := (List.range n).map (fun i => v / 256 ^ i % 256)

/-- Tile 0 of a capture (Table 3-10). -/
def captureTile0 (s : State) (n gen : Nat) : List Nat :=
  let m := s.present
  let at_ (g : Circuit → Nat) (o : Nat) : Nat := match onOut m o with | some c => g c | none => 0
  tileBytes (leBytes 2 0x21 ++ leBytes 2 n ++ leBytes 4 gen ++ leBytes 2 (modeNum s.popMode) ++
    leBytes 2 m.circs.length ++ leBytes 4 1 ++ leBytes 240 m.cells.toNat ++
    (List.range 256).map (at_ (·.inp)) ++
    (List.range 32).map (fun b => ((List.range 8).filter (fun k => (onOut m (8 * b + k)).isSome)).foldl (fun x k => x + 2 ^ k) 0) ++
    (List.range 256).map (at_ (·.mid)))
/-- Tile 1 of a capture (Table 3-11). -/
def captureTile1 (s : State) (n gen : Nat) : List Nat :=
  let m := s.present
  tileBytes (leBytes 2 0x22 ++ leBytes 2 n ++ leBytes 4 gen ++ leBytes 8 0 ++
    (List.range 256).map (fun o => match onOut m o with | some c => c.holder | none => 0) ++
    (List.range 32).map (fun b => ((List.range 8).filter (fun k => (onIn m (8 * b + k)).isSome)).foldl (fun x k => x + 2 ^ k) 0))

/-- An ERR response to a hardware master (R423): one for each block of bytes it reads or writes (DESIGN CHOICE, log 81). -/
def hwErr (s : State) : State := inc BUS_CNT_ERR_count s
/-- Write a tile's bytes to both copies; an offline die takes none and answers ERR (R447), a sleeping domain takes none and each copy
counts as unassigned (R39). -/
def writeTile (a : Nat) (l : List Nat) (s : State) : State :=
  if domOn s 25 then
    let s1 := if dieOff s 0 then hwErr s else { s with dram := memBytes s.dram a l }
    if dieOff s1 1 then hwErr s1 else { s1 with dram := memBytes s1.dram (copyAddr a 1) l }
  else incBy BUS_CNT_UNASSIGNED_count 2 s

/-- Generation a capture writes (R107). -/
def captureGen (s : State) (n : Nat) : Nat :=
  let v := validateMap s n
  if v.code = 0 ∧ v.gen < 0xFFFFFFFF then v.gen + 1 else 1

/-- A DMA channel completed a descriptor or a hardware transfer (Table 14-20). -/
def dmaCount (c : Nat) (s : State) : State := if pd24Up s then inc (DMA_CH_CNT_count c) s else s

end Sys2Proof.Machine
end

