-- ==== Sys2Proof/Machine/Plan.lean ====
section
/-! DEFINITION. What a commit changes and costs: changed circuits and affected outputs (R110), transition energy
(R136, R137, R172), applying an accepted sheaf to a map (R133), the energy shaper (R139, R141), and the elements a
commit plays and puts in quick mode (Table 4-2). -/
namespace Sys2Proof.Machine
open Sys2Proof.Config

/-! ### What changes -/

/-- The changed circuits of a step from one map to another (R110): those added or moved, and those that end on an
output of `extra`, where a circuit was removed and added again (R95). -/
def changedCircs (before after : MapSt) (extra : List Nat) : List Circuit :=
  after.circs.filter (fun c => !holdsCirc before c || extra.contains c.out)
/-- The affected outputs (R110): a changed circuit ends on them, or their circuit is released or moved away. -/
def affectedOuts (before after : MapSt) (extra : List Nat) : List Nat :=
  (List.range 256).filter (fun o =>
    match onOut before o, onOut after o with
    | none, none => false
    | none, some _ => true
    | some _, none => true
    | some c, some d => !(c.inp == d.inp && c.mid == d.mid) || extra.contains o)
/-- Outputs whose circuit a member of a commit added and the result still holds (R95). -/
def addedOuts (members : List Accepted) (after : MapSt) : List Nat :=
  (members.flatMap (fun a => a.added.filterMap (fun c =>
    match onOut after c.out with | some d => if d.inp = c.inp then some c.out else none | none => none))).eraseDups

/-! ### Cost -/

/-- Sum of an element cost over the transitions of Table 4-6a, in 0.01 pJ: `e` costs a slot of a window, `open_` says
which gates count as open before. -/
def transCost (e : Nat → Nat → Nat) (open_ : Nat → Bool) (before after : MapSt) (extra : List Nat) : Nat :=
  let rts := ((cellDiff before after).map (fun c =>
    e (cellPlot c) (cellSlot 0 c 0) + e (cellPlot c) (cellSlot 1 c 0))).sum
  let gates := ((affectedOuts before after extra).map (fun o =>
    (match open_ o, (onOut after o).isSome with | false, false => 0 | false, true => 1 | true, false => 1 | true, true => 2) *
      ((gateSlots o).map (e 17)).sum)).sum
  rts + gates

/-- Estimated cost of a sheaf, 10^-4 pJ (R137): every output of the projected map counts as open. -/
def estCost (s : State) (before after : MapSt) (extra : List Nat) : Nat :=
  100 * transCost (etr s) (fun o => (onOut before o).isSome) before after extra
/-- Actual cost of a commit, 10^-4 pJ. -/
def realCost (s : State) (before after : MapSt) (extra : List Nat) : Nat :=
  100 * transCost (etr s) (fun o => s.gateOpen.getLsbD o) before after extra
/-- Cost of a rotation's transition with the largest E_tr of each element, 10^-4 pJ (R172). -/
def rotCost (s : State) (before after : MapSt) : Nat :=
  100 * transCost (etrMax s) (fun o => (onOut before o).isSome) before after []

/-! ### The shaper -/

/-- Burst in 10^-4 pJ. -/
def burstE (s : State) : Int := (f s CMT_EBKT_BURST_burst : Int) * 10000
/-- The shaper's level now, in 10^-4 pJ (R141): 1 pJ per us is one unit per 100 ps. -/
def shNow (s : State) : Int :=
  min (burstE s) (s.shLevel + (f s CMT_EBKT_RATE_rate : Int) * ((s.clk.now : Int) - s.shStamp))
/-- Bring the level up to now. -/
def shUpdate (s : State) : State := { s with shLevel := shNow s, shStamp := s.clk.now }
/-- Charge a commit; the level saturates at -2^31 pJ (R139). -/
def shCharge (c : Nat) (s : State) : State :=
  let t := shUpdate s
  { t with shLevel := max (-(2147483648 * 10000)) (t.shLevel - c) }
/-- A new refill rate keeps the level and any debt (R141). -/
def setRate (r : Nat) (s : State) : State := setF CMT_EBKT_RATE_rate r (shUpdate s)
/-- A new burst lowers the level to it and forgives no debt (R141); 0 is set to 1. -/
def setBurst (b : Nat) (s : State) : State :=
  shUpdate (setF CMT_EBKT_BURST_burst (max 1 (b % 2 ^ 31)) (shUpdate s))
/-- The first tick at or after now at which the level is at or above zero, at the present rate; none at rate 0. -/
def readyTick (s : State) (level : Int) : Option Nat :=
  if 0 ≤ level then some (tickAtOrAfter s.clk.now)
  else
    let r := f s CMT_EBKT_RATE_rate
    if r = 0 then none else some (tickAtOrAfter (s.clk.now + ((-level).toNat + (r - 1)) / r))

/-! ### Applying accepted sheaves -/

/-- A map after an accepted sheaf (R133). A release or a move away from a circuit that is no longer there changes nothing for
that circuit (R82); a circuit that the sheaf adds or moves is placed as it was solved. -/
def applyAcc (m : MapSt) (a : Accepted) : MapSt :=
  (a.movedC ++ a.added).foldl (fun x c => placeCirc c x) (a.removed.foldl (fun x c => dropSame c x) m)
/-- A map after the members of a commit: the circuits that stay bind their cells (R77, R110). -/
def applyAll (m : MapSt) (l : List Accepted) : MapSt := settleCells m (l.foldl applyAcc m)

/-! ### Elements of a commit -/

/-- The waveforms a commit will play (R113, R244): dark waveforms of affected open outputs, routing waveforms of every
changing cell, open waveforms of the changed circuits' outputs. -/
def commitWaves (s : State) (before after : MapSt) (extra : List Nat) : List WaveRead :=
  let outs := affectedOuts before after extra
  let dark := (outs.filter (fun o => s.gateOpen.getLsbD o)).flatMap gateSlots
  let up := (outs.filter (fun o => (onOut after o).isSome)).flatMap gateSlots
  dark.map (fun sl => readWave s 17 sl false) ++
  (cellDiff before after).flatMap (fun c =>
    [readWave s (cellPlot c) (cellSlot 0 c 0) (cellAt after c), readWave s (cellPlot c) (cellSlot 1 c 0) (cellAt after c)]) ++
  up.map (fun sl => readWave s 17 sl true)

/-- Elements, as (window, slot), that a commit puts in quick mode at t0+280 ns (Table 4-2). -/
def quickElems (p : CommitPlan) : List (Nat × Nat) :=
  let cells := (p.changed.flatMap (fun c => (circPath c).map hopCell)).eraseDups
  cells.flatMap (fun c => [0, 1, 2].flatMap (fun k => (cellSlots c k).map (fun sl => (cellPlot c, sl)))) ++
  p.affected.flatMap (fun o => [0, 1].flatMap (fun q => [0, 1, 2, 3].map (fun k => (17, gateSlot q o k)))) ++
  p.changed.flatMap (fun c => [(16, c.inp), (16, 256 + c.inp)])

/-- The changed circuits in list order: member by member, a member's added circuits before its moved ones; then those of
no member, by output. -/
def listOrder (members : List Accepted) (cs : List Circuit) : List Circuit :=
  let outs := (members.flatMap (fun a => a.added.map (·.out) ++ a.moved.map (·.out))).eraseDups
  outs.filterMap (fun o => cs.find? (fun c => c.out == o)) ++ cs.filter (fun c => !outs.contains c.out)

/-- Build the plan of a commit from its result, with the configuration that holds for it (R145). -/
def mkPlan (s : State) (members : List Accepted) (rot : Option Nat) (dark : Bool) (tick : Nat) (after : MapSt) : CommitPlan :=
  let extra := addedOuts members after
  { members := members, rot := rot, dark := dark, tick := tick, cost := realCost s s.present after extra,
    before := s.present, after := after, changed := listOrder members (changedCircs s.present after extra),
    affected := affectedOuts s.present after extra, waves := commitWaves s s.present after extra,
    ver := rd s CMT_VER_CFG_plane_min.off, rep := f s CMT_CTRL_report_tb }

/-! ### Planned ticks -/

/-- How many of the following sheaves join a commit of tick `t` that closes at instant `close` (R123). -/
def joinCount (co : Bool) (burst : Int) (t close : Nat) : Nat → List Accepted → Nat
  | _, [] => 0
  | sum, a :: l =>
    if co && decide (a.accAt < close) && decide (a.tick ≤ t) && decide (((sum + a.est : Nat) : Int) ≤ burst) then
      joinCount co burst t close (sum + a.est) l + 1
    else 0

/-- Planned tick of a head sheaf (R123, R125). -/
def headTick (last : Option Nat) (a : Accepted) : Nat := match last with | some l => max a.tick (l + 50) | none => a.tick
/-- Instant at which the membership of a commit of tick `t` closes. -/
def closeAt (t : Nat) : Nat := t * tickPeriod - 2000

/-- Planned tick of each accepted sheaf, commit by commit, the shaper always permitting (R123). -/
def planTicks (co : Bool) (burst : Int) : Nat → Option Nat → List Accepted → List Nat
  | 0, _, _ => []
  | _, _, [] => []
  | n + 1, last, a :: l =>
    let t := headTick last a
    let k := joinCount co burst t (closeAt t) a.est l
    List.replicate (k + 1) t ++ planTicks co burst n (some t) (l.drop k)

/-- Planned ticks of a list of accepted sheaves, the closed membership first. -/
def acceptedTicks (s : State) (l : List Accepted) : List Nat :=
  let co := fb s CMT_CTRL_coalesce
  match s.closed with
  | some p => List.replicate p.members.length p.tick ++
      planTicks co (burstE s) l.length (some p.tick) (l.drop p.members.length)
  | none => planTicks co (burstE s) l.length s.lastT0 l

end Sys2Proof.Machine
end

