-- ==== Sys2Proof/Machine/RotCore.lean ====
section
/-! DEFINITION. Rotations as other chapters meet them: the banks (R170), boundaries on the bank's base, the arming check
(R171 to R174), admission of a start (R175 to R177), re-phasing after a step of the base (R176, R180), stops and
discards (R182, R186). -/
namespace Sys2Proof.Machine
open Sys2Proof.Config

/-- A word of bank `b` (0 operating, 1 pending) of table `t` (R190). -/
def bankWord (s : State) (t b off : Nat) : Nat := (rd s (0x71000 + 0x400 * t + 0x200 * b + off)).toNat
/-- Its time base. -/
def bankTb (s : State) (t b : Nat) : Nat := bankWord s t b 0 % 4
/-- Its strict bit. -/
def bankStrict (s : State) (t b : Nat) : Bool := bankWord s t b 0 / 4 % 2 == 1
/-- Its highest tolerated throttle step. -/
def bankMax (s : State) (t b : Nat) : Nat := bankWord s t b 0 / 16 % 8
/-- Its slots. -/
def bankSlots (s : State) (t b : Nat) : Nat := bankWord s t b 0 / 256 % 128
/-- Its base time in 2^-40 ns. -/
def bankBaseT (s : State) (t b : Nat) : Nat :=
  (bankWord s t b 8 + 2 ^ 32 * (bankWord s t b 0xC % 65536)) * secUnit + bankWord s t b 4 * nsUnit
/-- Map of slot `i`. -/
def slotMap (s : State) (t b i : Nat) : Nat := bankWord s t b (0x40 + 4 * i) % 4096
/-- Duration of slot `i` in 2^-40 ns. -/
def slotDur (s : State) (t b i : Nat) : Nat := bankWord s t b (0x40 + 4 * i) / 4096 * (20 * nsUnit)
/-- Start of slot `i` within the cycle. -/
def slotStart (s : State) (t b i : Nat) : Nat := ((List.range i).map (slotDur s t b)).sum
/-- The cycle, 2^-40 ns. -/
def cycleOf (s : State) (t b : Nat) : Nat := slotStart s t b (bankSlots s t b)

/-- The first slot-0 boundary base + k * cycle, k at least 0, at or after `x`. -/
def boundaryFrom (base cycle x : Nat) : Nat :=
  if x ≤ base then base else if cycle = 0 then x else base + (x - base + (cycle - 1)) / cycle * cycle

/-- admit_us in 2^-40 ns. -/
def admitT (s : State) : Nat := f s ROT_CTRL_admit_us * 1000 * nsUnit

/-- Is the table operating? -/
def rotOn (s : State) (t : Nat) : Bool := match s.rot with | some r => r.table == t | none => false
/-- Is a pending bank armed? -/
def armedOf (s : State) (t : Nat) : Bool := s.rotArmed.getLsbD t
/-- Is a table marked for arming (R174)? -/
def markedOf (s : State) (t : Nat) : Bool := s.rotMarked.getLsbD t
/-- Set one bit of a table mask. -/
def putT (v : BitVec 16) (t : Nat) (x : Bool) : BitVec 16 := if v.getLsbD t = x then v else v ^^^ BitVec.ofNat 16 (2 ^ t)

/-- Do rotations name a base (R151)? -/
def rotNames (s : State) (b : Nat) : Bool :=
  (match s.rot with | some r => bankTb s r.table 0 == b | none => false) ||
  (List.range 16).any (fun t => (armedOf s t || markedOf s t) && bankTb s t 1 == b)

/-! ### Arming -/

/-- The answer to a ROT command: code, slot of a failing map check, map result. -/
structure RotRes where
  code : Nat := 0
  slot : Nat := 0
  map  : Nat := 0
  deriving DecidableEq, Repr

/-- Check 1 of Table 5-5. -/
def armShape (s : State) (t : Nat) : Bool :=
  let n := bankSlots s t 1
  decide (1 ≤ n) && decide (n ≤ 64) && (List.range n).all (fun i => decide (50 ≤ bankWord s t 1 (0x40 + 4 * i) / 4096)) &&
    tbEnabled s (bankTb s t 1)

/-- The first counted slot whose map does not validate, with its code (check 3). -/
def armMaps (s : State) (t : Nat) : Option (Nat × Nat) :=
  (List.range (bankSlots s t 1)).findSome? (fun i =>
    let c := (validateMap s (slotMap s t 1 i)).code
    if c = 0 then none else some (i, c))

/-- Does tenant `k` hold every circuit of every map of the pending bank (check 4)? -/
def armOwned (s : State) (t k : Nat) : Bool :=
  (List.range (bankSlots s t 1)).all (fun i => (validateMap s (slotMap s t 1 i)).map.circs.all (fun c => c.holder == k))

/-- Transition costs of the pending bank (R172), and the transition from the running bank's last slot when there is
one, which is checked against the burst alone. -/
def armCosts (s : State) (t : Nat) : List Nat × List Nat :=
  let n := bankSlots s t 1
  let m (i : Nat) : MapSt := (validateMap s (slotMap s t 1 i)).map
  let own := if n = 1 then [0] else (List.range n).map (fun i => rotCost s (m ((i + (n - 1)) % n)) (m i))
  let join := if rotOn s t then
      let v := validateMap s (slotMap s t 0 (bankSlots s t 0 - 1))
      [rotCost s (if v.code = 0 then v.map else s.present) (m 0)]
    else []
  (own, join)

/-- Rate of a throttle step's row, pJ per us. -/
def stepRate (s : State) (n : Nat) : Nat := f s (GOV_STEP_RATE_rate n)

/-- Check 5 of Table 5-5: costs within the burst, cycle energy within the floor rate. -/
def armEnergy (s : State) (t : Nat) : Bool :=
  let (own, join) := armCosts s t
  (own ++ join).all (fun c => decide ((c : Int) ≤ burstE s)) &&
    decide (own.sum ≤ stepRate s (bankMax s t 1) * (cycleOf s t 1 / (20 * nsUnit) * tickPeriod))

/-- The arming check of a table (Table 5-5), for the tenant that loaded the pending bank, if one did. -/
def armCheck (s : State) (t : Nat) (tenant : Option Nat) : RotRes :=
  if !armShape s t then { code := 0x0C }
  else if rotOn s t && bankTb s t 1 != bankTb s t 0 then { code := 0x0C }
  else if rotOn s t && armedOf s t then { code := 0x04 }
  else match armMaps s t with
    | some (i, c) => { code := 0x0C, slot := i, map := c }
    | none =>
      if (match tenant with | some k => !(fb s (REQ_T_CFG_rot_ctl k) && armOwned s t k) | none => false) then { code := 0x03 }
      else if !calActive s || !armEnergy s t then { code := 0x07 }
      else {}

/-- What checking leaves behind: the checked reads of the maps, and the energy registers once check 5 has run
(Table 5-15). -/
def armNote (t : Nat) (r : RotRes) (s : State) : State :=
  if !armShape s t || (rotOn s t && (bankTb s t 1 != bankTb s t 0 || armedOf s t)) then s
  else
    let s1 := forEach (List.range (bankSlots s t 1)) (fun i => validateNote (slotMap s t 1 i)) s
    if calActive s && (r.code == 0 || r.code == 7) then
      let own := (armCosts s t).1
      setF ROT_TRANS_EMAX_energy (openDiv (own.foldl max 0) 10000) (setF ROT_CYCLE_E_energy (openDiv own.sum 10000) s1)
    else s1

/-- Copy the pending bank into the operating bank (R173). -/
def copyBank (t : Nat) (s : State) : State :=
  { forEach (List.range 128) (fun i u =>
      setRaw u (0x71000 + 0x400 * t + 4 * i) (rd u (0x71200 + 0x400 * t + 4 * i))) s
    with rotLoader := amSet (fun _ => none) s.rotLoader (2 * t) (loaderOf s t 1) }

/-- Arm a table (R171, R173): its answer is that of `armCheck`. An arm by command of a table that is still marked for arming is
checked and acts as any other, and its mark stays: the table is armed again with the marked ones (DESIGN CHOICE, log 79). -/
def armTable (t : Nat) (tenant : Option Nat) (s : State) : State :=
  let r := armCheck s t tenant
  let s1 := armNote t r s
  if r.code = 0 then
    if rotOn s t then
      let at_ := boundaryFrom ((s.rot.map (·.base)).getD 0) (cycleOf s t 0) (tbNow s (bankTb s t 0) + admitT s)
      let rot' := s1.rot.map (fun x => ({ x with swapAt := some at_ } : RotRun))
      rotNote { s1 with rotArmed := putT s1.rotArmed t true, rot := rot' }
    else { copyBank t s1 with rotArmed := putT s1.rotArmed t false, rotReady := putT s1.rotReady t true }
  else s1

/-- Write ROT_RESULT (Table 5-14). -/
def rotResult (r : RotRes) (s : State) : State :=
  setF ROT_RESULT_map_result r.map (setF ROT_RESULT_slot r.slot (setF ROT_RESULT_code r.code s))

/-- Arm every marked table in ascending order (R174). -/
def armMarked (s : State) : State :=
  forEach ((List.range 16).filter (fun t => markedOf s t)) (fun t u =>
    rotResult (armCheck u t (loaderOf u t 1)) (armTable t (loaderOf u t 1) { u with rotMarked := putT u.rotMarked t false })) s

/-! ### Starting -/

/-- The start instant of a bank, or none where strict refuses it (R175, R176). -/
def startInst (s : State) (t : Nat) : Option (Nat × Bool) :=
  let earliest := tbNow s (bankTb s t 0) + admitT s
  let b := bankBaseT s t 0
  if earliest ≤ b then some (b, false)
  else if bankStrict s t 0 then none
  else some (boundaryFrom b (cycleOf s t 0) earliest, true)

/-- Code of a start of table `t` (R175). -/
def startCode (s : State) (t : Nat) : Nat :=
  if !s.rotReady.getLsbD t then 0x0C
  else if !tbEnabled s (bankTb s t 0) then 0x0C
  else if s.rot.isSome then 0x04
  else if inSafe s then 0x0B
  else if devState s = 2 then 0x04
  else if (startInst s t).isNone then 0x06
  else 0

/-- Report a start or swap instant. -/
def putStart (v : Nat) (s : State) : State :=
  putTime ROT_START_F_frac_ns ROT_START_NS_ns ROT_START_SL_sec_low ROT_START_SH_sec_high v s

/-- The tick of a boundary on base `b` (R179): the first tick at or after it, and at least 1 us after the last t0. -/
def rotTick (s : State) (b inst : Nat) : Nat :=
  match s.lastT0 with
  | some t => max (firstTick s b inst) (t + 50)
  | none => firstTick s b inst

/-- Settle the accepted list at the acceptance of a start at `inst` on base `b` (R177): sheaves whose planned tick lies
at least 1 us before it, by the tick's computed time, stay; the others are refused with PORT_BUSY, the sheaf being solved when
its solve ends. A closed membership commits as it was planned when it is early enough. -/
def settleAccepted (b inst : Nat) (s : State) : State :=
  let pl := s.accepted.zip (acceptedTicks s s.accepted)
  let keep := (pl.takeWhile (fun x => decide (tickTime s b x.2 + 1000 * nsUnit ≤ inst))).map (·.1)
  let drop := s.accepted.drop keep.length
  let solving := s.solving.map (fun v => ({ v with dead := if v.dead = 0 then 0x04 else v.dead } : Solving))
  let closed := match s.closed with
    | some p => if decide (p.members.length ≤ keep.length) then s.closed else none
    | none => none
  forEach drop (fun a t => refuseSheaf 0x04 0 a.fw a.sheaf t)
    { s with accepted := keep, closed := closed, solving := solving, projected := applyAll (settledMap s) keep }

/-- Start a table (R175 to R177): its answer is `startCode`. -/
def startTable (t : Nat) (s : State) : State :=
  match startCode s t, startInst s t with
  | 0, some (inst, late) =>
    let s1 := setB ROT_STAT_late_start late (putStart inst s)
    let s2 := settleAccepted (bankTb s t 0) inst s1
    let r : RotRun := { table := t, st := .admitted, base := bankBaseT s t 0, slot := 0, next := inst, nextSlot := 0 }
    rotNote { s2 with rot := some r }
  | _, _ => s

/-- The base of an operating rotation was stepped (R176, R180): boundaries re-phase to the first slot-0 boundary at
least admit after the step. A start that still lies far enough ahead stays. A cycle whose slots have not all been in force is cut
short. A suspended rotation re-phases and is counted as a running one (DESIGN CHOICE, log 79). -/
def rotResync (b : Nat) (s : State) : State :=
  match s.rot with
  | none => s
  | some r =>
    if bankTb s r.table 0 ≠ b then s
    else
      let now := tbNow s b
      if r.st = .admitted ∧ now + admitT s ≤ r.next then s
      else
        let nx := boundaryFrom r.base (cycleOf s r.table 0) (now + admitT s)
        let closed := match s.closed with | some p => if p.rot.isSome then none else s.closed | none => none
        let r' : RotRun := { r with
          next := nx, nextSlot := 0, cut := r.cut || decide (r.nextSlot ≠ 0), stopAt := r.stopAt.map (fun x => (nx, x.2)), swapAt := r.swapAt.map (fun _ => nx) }
        let s1 := inc ROT_CNT_RESYNC_count { s with closed := closed, rot := some r' }
        if r.st = .admitted then setF ROT_STAT_late_start 1 (putStart nx s1) else s1

/-! ### Stopping and discarding -/

/-- A closing commit abandons the marks of the elements it affects (R313). -/
def closeMarks (p : CommitPlan) (s : State) : State :=
  let cells := (cellDiff p.before p.after).flatMap (fun c => [0, 1, 2].flatMap (fun k => (cellSlots c k).map (fun sl => (cellPlot c, sl))))
  let gates := p.affected.flatMap (fun o => [0, 1].flatMap (fun q => [0, 1, 2, 3].map (fun k => (17, gateSlot q o k))))
  let voas := p.changed.flatMap (fun c => [(16, c.inp), (16, 256 + c.inp)])
  forEach (cells ++ gates ++ voas) (fun e => abandonMark e.1 e.2) s

/-- Code of a stop (R186). -/
def stopCode (s : State) (t : Nat) : Nat :=
  match s.rot with
  | some r => if r.table = t ∧ r.stopAt.isSome then 0x04 else 0
  | none => 0

/-- The commit of a stop dark: every circuit is released, without verification (R186). -/
def darkPlan (s : State) (tick : Nat) : CommitPlan :=
  mkPlan s [] (some 0) true tick { s.present with circs := [] }

/-- A stop takes effect now (R186): with hold the circuits pass to their tenants; dark, a commit releases them all. -/
def stopNow (dark : Bool) (s : State) : State :=
  match s.rot with
  | none => s
  | some r =>
    if dark then
      let tick := match s.lastT0 with
        | some l => max (tickAtOrAfter s.clk.now) (l + 50)
        | none => tickAtOrAfter s.clk.now
      let s1 := rotEvent r.table 3 (rotIdle s)
      if s1.present.circs.isEmpty && s1.commit.isNone then s1
      else closeMarks (darkPlan s1 tick)
        { restartSolve s1 with closed := some (darkPlan s1 tick), projected := { s1.projected with circs := [] } }
    else stopHold s

/-- A stop of table `t` is accepted (R186): at the first slot-0 boundary at least admit ahead, at once when suspended. -/
def stopTable (t : Nat) (dark : Bool) (s : State) : State :=
  match s.rot with
  | none => s
  | some r =>
    if r.table ≠ t ∨ r.stopAt.isSome then s
    else if r.st = .suspended then stopNow dark s
    else
      let b := bankTb s t 0
      let at_ := boundaryFrom (if r.st = .admitted then r.next else r.base) (cycleOf s t 0) (tbNow s b + admitT s)
      rotNote { s with rot := some { r with stopAt := some (at_, dark) } }

/-- Code of a discard (R174, R182). -/
def discardCode (s : State) (t : Nat) : Nat :=
  match s.rot with
  | some r =>
    if r.table = t ∧ armedOf s t ∧ !(r.st == .suspended && r.fellAt.isNone) then
      match r.swapAt with
      | some x => if x < tbNow s (bankTb s t 0) + admitT s then 0x04 else 0
      | none => 0
    else 0
  | none => 0

/-- A discard: an armed pending bank becomes unarmed, a mark clears; the bank is kept as written. -/
def discardTable (t : Nat) (s : State) : State :=
  if discardCode s t = 0 then
    let rot' := s.rot.map (fun r => if r.table = t then ({ r with swapAt := none } : RotRun) else r)
    rotNote { s with rotArmed := putT s.rotArmed t false, rotMarked := putT s.rotMarked t false, rot := rot' }
  else s

end Sys2Proof.Machine
end

