-- ==== Sys2Proof/Machine/Access.lean ====
section
/-! DEFINITION. Who reaches a register: the domains of the blocks (Table 1-10), the boot states (Table 14-1), the paths
of the masters (Table 13-1), and the count of what reaches nothing (R39, R420). -/
namespace Sys2Proof.Machine
open Sys2Proof.Config

/-- Window of a BAR0 offset at or above 0x1000000, if one stands there (Table 1-10). -/
def offWin (off : Nat) : Option Nat :=
  if 0x1000000 ≤ off ∧ off < 0x2200000 then some ((off - 0x1000000) / 0x100000) else none

/-- The switched domain of the block at a BAR0 offset; none for the always-on domain (Table 1-10). -/
def blockDomain (off : Nat) : Option Nat :=
  match offWin off with
  | some w => some (winDomain w)
  | none =>
    match off / 0x10000 with
    | 5 => some 21 | 6 => some 20 | 7 => some 20 | 8 => some 28 | 10 => some 25 | 11 => some 25
    | 13 => some (if off < 0xD8000 then 22 else 23) | 14 => some 24 | 15 => some 29 | _ => none

/-- Is the block's domain on? -/
def blockOn (s : State) (off : Nat) : Bool :=
  match blockDomain off with | some d => domOn s d | none => true

/-- Boot state (Table 14-1): 0 FUSE, 1 ROM, 2 LOAD, 3 VERIFY, 4 START, 5 APPLY, 6 READY. -/
def bootState (s : State) : Nat := f s BOOT_STAT_state

/-- Is a BAR0 access of the host open in the boot state (Table 14-1)? -/
def bar0Open (s : State) (off : Nat) (write : Bool) : Bool :=
  match bootState s with
  | 0 => false
  | 1 => decide (off < 0x10000) || (decide (off < 0x20000) && !write)
  | 2 => decide (off < 0x30000) || (off == 0x90008 && !write) || (decide (0xF0000 ≤ off) && decide (off < 0xF0100))
  | 3 => decide (off < 0x10000) || (decide (off < 0x20000) && !write)
  | _ => true

/-- Can a master issue anything? Not while its barrier is outstanding (R425); SUP while a core holds the lease (R410,
R412); the others while their domain is on. -/
def masterLive (s : State) (m : Nat) : Bool :=
  !s.barriers.contains m &&
  match m with
  | 0 => supState s 0 == 3 || supState s 1 == 3
  | 1 => domOn s 20 | 2 => domOn s 21 | 3 => domOn s 25 | 4 => domOn s 28 | 5 => pd24Up s | 6 => pd24Up s
  | _ => true

/-- Does a core hold the lease? -/
def supHeld (s : State) : Bool := supState s 0 == 3 || supState s 1 == 3
/-- The lease expires (R410, R412): a STANDBY core takes it, and its partner, reset before, resynchronises (R411); with
none, no core holds it, and FS_SUP_LEASE names the core that held it last. -/
def supLeaseExpire (s : State) : State :=
  if supHeld s || fb s FLT_SUP_STAT_no_holder || (supState s 0 == 0 && supState s 1 == 0 && bootState s ≤ 3) then s
  else
    let u := elapseTo s (s.supLease + 100 * us)
    match [0, 1].find? (fun k => supState u k == 2) with
    | some k =>
      let u1 := inc FLT_SUP_CNT_HAND_count (setF FLT_SUP_STAT_holder k (supPut k 3 { u with supLease := u.clk.now }))
      if supState u1 (1 - k) = 0 then supPut (1 - k) 1 u1 else u1
    | none => raise 11 (f u FLT_SUP_STAT_holder) (setF FLT_SUP_STAT_no_holder 1 u)
/-- A request of SUP that stands uncompared when the holder diverged waits for the lease: the new holder issues its own copy
(R410; DEDUCED, log 38). -/
def supStall (m : Nat) (s : State) : State :=
  if m == 0 && !supHeld s && (supState s 0 == 2 || supState s 1 == 2) then supLeaseExpire s else s
/-- What a master does through the matrix: `g`, after the stall of R410, or nothing when it can issue nothing. -/
def onIssue (m : Nat) (g : State → State) (s : State) : State :=
  let t := supStall m s
  if masterLive t m then g t else t

/-- Count an access that reaches nothing (R39, R420, R442). -/
def countUnassigned (s : State) : State := inc BUS_CNT_UNASSIGNED_count s

/-- Does a master's register access reach its block (R39, R420, R458)? DMA reaches the windows and SEC alone. -/
def regOpen (s : State) (m off : Nat) (write : Bool) : Bool :=
  blockOn s off &&
    (match m with
     | 0 => true
     | 5 => (offWin off).isSome || (decide (0xF0000 ≤ off) && decide (off < 0x100000))
     | 6 => bar0Open s off write
     | _ => false)

/-- The effect of a register command of a master: `g` when the access reaches the register, a count when it does not,
nothing when the master can issue nothing. -/
def regCmd (m off : Nat) (g : State → State) (s : State) : State :=
  onIssue m (fun t => if regOpen t m off true then g t else countUnassigned t) s

/-- Is a field one that software writes as a value? -/
def accPut (a : Acc) : Bool := a == .rw || a == .wo || a == .rwl
/-- Store the writable fields of a register from `v`; its other bits keep their values (Table 0-5, R15). -/
def putRw (off v : Nat) (s : State) : State :=
  match rowFor off with
  | some r => forEach (r.flds.filter (fun x => accPut x.acc)) (fun x => setF ⟨off, x.lsb, x.wid⟩ (v / 2 ^ x.lsb)) s
  | none => s

/-- Keep the bits of `v` outside a field and put the field of register value `w` in its place. -/
def keepFld (x : Fld) (w : Word) (v : Nat) : Nat := v - v / 2 ^ x.lsb % 2 ^ x.wid * 2 ^ x.lsb + fldOf w x * 2 ^ x.lsb

end Sys2Proof.Machine
end

