-- ==== Sys2Proof/Machine/Bpm.lean ====
section
/-! DEFINITION. The buffer pools' commands (R449 to R454, R457): allocation, free, give, reclaim, refill, initialisation. -/
namespace Sys2Proof.Machine
open Sys2Proof.Config

/-- Each master's own copy of a BPM window register (R457). -/
def mFld (m : Nat) (x : Fld) : Fld := { x with off := x.off + 0x8000000 * (m + 1) }

/-- An allocation reaches the BPM (R452). The allocations of one CK_BUS cycle stand in the queue in ascending requester ID: one
that follows a higher ID reaches the BPM in the next cycle (DEDUCED, log 80). -/
def bpmArrive (req : Nat) (s : State) : State :=
  let t := bpmSync s
  let u := if req < t.bpmReq then bpmSync (elapseTo t ((t.clk.now / busPeriod + 1) * busPeriod)) else t
  { u with bpmReq := req }

/-- Allocate `size` bytes for a requester (R449, R451): the handle, or 0, and the result code 0 OK, 1 EMPTY, 2 SIZE. Until the
pools are ready every allocation is EMPTY and raises nothing (R454). -/
def bpmAlloc (req size : Nat) (s0 : State) : Nat × Nat × State :=
  let s := bpmArrive req s0
  match poolFor size with
  | none => (0, if domOn s 25 && fb s BPM_STAT_ready then 2 else 1, s)
  | some p =>
    if !domOn s 25 || !fb s BPM_STAT_ready then (0, 1, if domOn s 25 then inc (BPM_CNT_EMPTY_count p) s else s)
    else match takeBuffer p req s with
      | some (h, t) => (h, 0, t)
      | none => (0, 1, raise 23 req (inc (BPM_CNT_EMPTY_count p) s))

/-- Is the named new owner's master one that may own a buffer (Table 13-8, check 5)? -/
def mayOwn (r : Nat) : Bool := [0, 1, 2, 4, 5, 6].contains (r / 32)

/-- The result of the checks of Table 13-8, in order: 0, or the first failing check's code. -/
def bpmCheck (s : State) (req h : Nat) (give : Option Nat) : Nat :=
  if !hValid h then 3
  else
    let b := bufGet s (hPool h) (hIndex h)
    if !b.alloc || b.tag != hTag h then 4
    else if b.owner != req then 5
    else match give with | some r => if mayOwn r then 0 else 3 | none => 0

/-- What a refused free or give counts and raises (Table 13-8). -/
def bpmRefuse (code req h : Nat) (s : State) : State :=
  match code with
  | 3 => let t := inc BPM_CNT_OWNER_count s; if hValid h then t else raise 22 req t
  | 4 => raise 21 req (inc BPM_CNT_DFREE_count s)
  | _ => raise 22 req (inc BPM_CNT_OWNER_count s)

/-- A free (R453). -/
def bpmFree (req h : Nat) (s : State) : State :=
  let c := bpmCheck s req h none
  if c = 0 then giveBack (hPool h) (hIndex h) s else bpmRefuse c req h s
/-- A give (R453). -/
def bpmGive (req h who : Nat) (s : State) : State :=
  let c := bpmCheck s req h (some who)
  if c = 0 then bufPut (hPool h) (hIndex h) { bufGet s (hPool h) (hIndex h) with owner := who } s else bpmRefuse c req h s

/-- Free every buffer a master owns, under every sub-ID, and count them (R454). -/
def bpmReclaim (m : Nat) (s : State) : State :=
  if domOn s 25 then
    forEach (s.bpmBuf.filter (fun e => e.2.alloc && e.2.owner / 32 == m)) (fun e t =>
      inc BPM_CNT_RECLAIM_count (giveBack (e.1 / 16384) (e.1 % 16384) t)) s
  else s

/-- Every buffer free with tag 0 (R454). -/
def bpmInit (s : State) : State :=
  forEach [0, 1, 2, 3] (fun p t => setF (BPM_POOL_FREE_free p) (poolFree t p) (setF (BPM_POOL_FREE_low_water p) (poolFree t p) t))
    { s with bpmBuf := [], bpmCache := [], bpmRing := [], bpmTurn := [] }

/-- An allocation by a read of BPM_ALLOC in a master's window (R451, R457). -/
def bpmReadAlloc (m sub : Nat) (s : State) : State :=
  let (h, c, t) := bpmAlloc (reqId m sub) (f s (mFld m (BPM_REQ_SIZE_size sub))) s
  { setF (mFld m (BPM_RESULT_code sub)) c t with resp := ⟨h, 0⟩ }

/-- R449, R451, R452: SUP and PCIE by a read of BPM_ALLOC, whose size stands in their window; another master by a
hardware request of `size` bytes. -/
def execBpmAlloc (dt m sub size : Nat) (s : State) : Host.Outcome State Fault Refusal :=
  run s dt (onIssue m (fun t =>
    if m = 0 ∨ m = 6 then
      (if regOpen t m (BPM_ALLOC_handle sub).off false then bpmReadAlloc m sub t else countUnassigned { t with resp := ⟨0, 0⟩ })
    else
      let r := bpmAlloc (reqId m sub) size t
      { r.2.2 with resp := ⟨r.1, 0⟩ }))

/-- A free written to a master's window. -/
def bpmWriteFree (m sub h : Nat) (s : State) : State :=
  setF (mFld m (BPM_RESULT_code sub)) (bpmCheck s (reqId m sub) h none) (bpmFree (reqId m sub) h s)
/-- R453. -/
def execBpmFree (dt m sub h : Nat) (s : State) : Host.Outcome State Fault Refusal :=
  run s dt (regCmd m (BPM_FREE_handle sub).off (bpmWriteFree m sub h))

/-- A give written to a master's window. -/
def bpmWriteGive (m sub h : Nat) (s : State) : State :=
  let who := f s (mFld m (BPM_GIVE_TO_requester sub))
  setF (mFld m (BPM_RESULT_code sub)) (bpmCheck s (reqId m sub) h (some who)) (bpmGive (reqId m sub) h who s)
/-- R453. -/
def execBpmGive (dt m sub h : Nat) (s : State) : Host.Outcome State Fault Refusal :=
  run s dt (regCmd m (BPM_GIVE_handle sub).off (bpmWriteGive m sub h))

/-- R450: a cache below 16 handles is refilled from both rings in alternation. -/
def execBpmCacheRefill (dt p : Nat) (s : State) : Host.Outcome State Fault Refusal :=
  run s dt (fun t =>
    if domOn t 25 && fb t BPM_STAT_ready && decide ((cacheGet t p).length < 16) then refillCache p 64 t else t)

/-- R454: the pools are initialised. -/
def execBpmReady (dt : Nat) (s : State) : Host.Outcome State Fault Refusal :=
  run s dt (fun t => if domOn t 25 && !fb t BPM_STAT_ready then setF BPM_STAT_ready 1 (bpmInit t) else t)

/-- What BPM_PEEK_RES reads for a master (Table 13-13). -/
def bpmPeek (s : State) (m : Nat) : Nat :=
  let h := f s (mFld m BPM_PEEK_handle)
  if decide (hIndex h < poolCount (hPool h)) then
    let b := bufGet s (hPool h) (hIndex h)
    b.owner + 256 * b.tag + 65536 * b.alloc.toNat + 131072 * (dieOff s (bufDie (hPool h) (hIndex h))).toNat
  else 0

end Sys2Proof.Machine
end

