-- ==== Sys2Proof/Machine/LoopCore.lean ====
section
/-! DEFINITION. What commits and loops share: sensing channels bound to a loop (R202, R268, R269), region keys and
coefficients (R204, Table 6-8), the engines' push path (R213, R223), quick mode (R208) and quick grants (R279). -/
namespace Sys2Proof.Machine
open Sys2Proof.Config

/-! ### Sensing channels -/

/-- Windows whose domain is on. -/
def onWindows (s : State) : List Nat := (List.range 18).filter (fun w => domOn s (winDomain w))

/-- A sensing channel. -/
def snsOf (s : State) (w i : Nat) : SnsX := amGet (fun _ => {}) s.sns (wKey w i)
/-- Replace a sensing channel. -/
def snsPut (w i : Nat) (x : SnsX) (s : State) : State := { s with sns := amSet (fun _ => {}) s.sns (wKey w i) x }
/-- The channel an input code names in a window (R202, R268, R269). -/
def inputChan (w code : Nat) : Option Nat :=
  if code < 0x800 then (if code < (if w < 16 then 480 else 512) then some code else none)
  else if 16 ≤ w ∧ code < 0xA00 then some (code - 0x800 + 512) else none
/-- Channels bound as inputs of a loop, by the binding its last update took (R231). -/
def boundChans (s : State) (w sl : Nat) : List Nat :=
  let b := (loopOf s w sl).bindF.toNat
  ([b % 4096, b / 4096 % 4096].filterMap (inputChan w)).eraseDups
/-- The active slice a channel belongs to (Table 8-3). -/
def sliceOf (w i : Nat) : Nat := if w < 16 then i / 30 else i % 8
/-- The spare slice of a window. -/
def spareOf (w : Nat) : Nat := winSlices w - 1
/-- The slice that converts the channels of active slice `k`: the spare while it carries them (R286, R287). -/
def carrierOf (s : State) (w k : Nat) : Nat := if f s (PLOT_SLC_STAT_carries w (spareOf w)) = k then spareOf w else k
/-- The electrode index of a channel in use: its reserve or its main electrode (R270). -/
def onReserve (s : State) (w i : Nat) : Bool := fb s (PLOT_SNS_STAT_on_reserve w i)
/-! ### Powers, regions, coefficients -/

/-- Is a mean of `n` readings with sum `sum` at or above the level `e` half decibels below +13 dBm (R203, R204, R272)? -/
def atDb (sum : Int) (n e : Nat) : Bool := decide ((n * 32768) ^ 20 ≤ sum.toNat ^ 20 * 10 ^ e)
/-- Light band of a sum of `n` readings (Table 6-3). -/
def lightBand (s : State) (w : Nat) (sum : Int) (n : Nat) : Nat :=
  if !atDb sum n (f s (PLOT_BAND_CFG_edge1 w)) then 0
  else if !atDb sum n (f s (PLOT_BAND_CFG_edge2 w)) then 1
  else if !atDb sum n (f s (PLOT_BAND_CFG_edge3 w)) then 2 else 3
/-- Region key (Table 6-3): mode 0 HOLD, 1 QUICK, 2 ACQUIRE, 3 MODEL. -/
def regionKey (s : State) (w sl mode band : Nat) (st : Bool) : Nat :=
  mode + 4 * band + 16 * tbandOf s w (slotSite s w sl) + 128 * st.toNat
/-- Template of a loop: 0 EXTREMUM, 1 SETPOINT, 2 DRIFT, 3 MODEL. -/
def tmplOf (s : State) (w sl : Nat) : Nat := f s (PLOT_LOOP_CFG_template w sl)
/-- The region map's entry (R204, Table 6-7). -/
def regionOf (s : State) (w sl key : Nat) : Nat := sramRead s w (0x1000 * tmplOf s w sl + key) 1 % 64
/-- Coefficient at byte `b` of region `n`'s set, Q1.15 (Table 6-8). -/
def coefS (s : State) (w sl n b : Nat) : Int := s16 (sramRead s w (0x1000 * tmplOf s w sl + 0x400 + 0x20 * n + b) 2)
/-- A coefficient of range 0 to 1 - 2^-15; a negative pattern acts as 0 (log 40). -/
def coefU (s : State) (w sl n b : Nat) : Int := max 0 (coefS s w sl n b)
/-- The gain shift of region `n` (R198). -/
def coefG (s : State) (w sl n : Nat) : Int :=
  max (-8) (min 7 (s8 (sramRead s w (0x1000 * tmplOf s w sl + 0x400 + 0x20 * n + 0x10) 1)))
/-- Dither amplitude of region `n` under a scaling (R216, R373). -/
def ditherAmp (s : State) (w sl n scale : Nat) : Int :=
  if tmplOf s w sl = 0 ∨ tmplOf s w sl = 2 then (openDiv (coefU s w sl n 4).toNat (2 ^ scale) : Nat) else 0
/-- Sign of a Walsh pattern in quarter `i` (Table 6-6). -/
def walshSign (p i : Nat) : Int :=
  match p with
  | 1 => if i % 4 < 2 then 1 else -1
  | 2 => if i % 4 = 0 ∨ i % 4 = 3 then 1 else -1
  | 3 => if i % 2 = 0 then 1 else -1
  | _ => 0

/-! ### Traces and sticky bits -/

/-- A trace. -/
def trcOf (s : State) (w : Nat) : TrcX := amGet (fun _ => {}) s.trc w
/-- Replace it. -/
def trcPut (w : Nat) (x : TrcX) (s : State) : State := { s with trc := amSet (fun _ => {}) s.trc w x }
/-- A trigger reaches the trace (R229). -/
def trcTrigger (w : Nat) (s : State) : State :=
  if !fb s (PLOT_TRC_CTRL_en w) then s
  else if fb s (PLOT_TRC_CTRL_one_shot w) && fb s (PLOT_TRC_STAT_stopped w) then
    raise 47 (winDetail w 0 0) (setF (PLOT_TRC_STAT_ovf w) 1 s)
  else if fb s (PLOT_TRC_CTRL_one_shot w) && (!fb s (PLOT_TRC_STAT_armed w) || fb s (PLOT_TRC_STAT_triggered w)) then s
  else setF (PLOT_TRC_STAT_trig_index w) (f s (PLOT_TRC_STAT_wptr w)) (setF (PLOT_TRC_STAT_triggered w) 1
    (trcPut w { trcOf s w with mark := true, left := f s (PLOT_TRC_CTRL_post w) } s))
/-- An event of a pair triggers its trace where its source is selected (Table 6-17): 1 a commit tick, 2 a fault of the pair, 3 a
mode change. -/
def trcEvent (src w : Nat) (s : State) : State := if f s (PLOT_TRC_CTRL_trig w) = src then trcTrigger w s else s
/-- A fault of a pair is raised, and triggers its trace where that is selected (R229). -/
def pairRaise (src w det : Nat) (s : State) : State := trcEvent 2 w (raise src det s)
/-- Set a sticky bit; the source is raised when it was clear (R201, R219, R220, R221). -/
def sticky (x : Fld) (src w sl : Nat) (s : State) : State :=
  if fb s x then s else pairRaise src w (winDetail w sl 0) (setF x 1 s)

/-! ### The push path -/

/-- State of engine `k` (Table 6-11): 0 OFF, 1 RESYNC, 2 STANDBY, 3 HOLDER, 4 DIVERGED. -/
def engState (s : State) (w k : Nat) : Nat := f s (if k = 0 then PLOT_ENG_STAT_e0_state w else PLOT_ENG_STAT_e1_state w)
/-- Does an engine hold the lease and push (R223)? -/
def hasHolder (s : State) (w : Nat) : Bool := engState s w 0 == 3 || engState s w 1 == 3
/-- An engine pair. -/
def engOf (s : State) (w : Nat) : EngX := amGet (fun _ => {}) s.eng w
/-- Replace it. -/
def engPut (w : Nat) (x : EngX) (s : State) : State := { s with eng := amSet (fun _ => {}) s.eng w x }
/-- Set an engine's state. -/
def engSet (w k n : Nat) (s : State) : State := setF (if k = 0 then PLOT_ENG_STAT_e0_state w else PLOT_ENG_STAT_e1_state w) n s

/-- Does the commit in progress hold an element's pushes back (Table 4-2): from t0 to t0+280 ns those of the RT elements of its
changing cells, of the BT and CT of the cells and the VOAs of its changed circuits, and of the gates of its affected outputs? -/
def commitHolds (s : State) (w sl : Nat) : Bool :=
  match s.commit with
  | some c =>
    (c.phase == .fired || c.phase == .routed) &&
    match elemKind w sl with
    | .rt => cellAt c.plan.before (slotCell w sl) != cellAt c.plan.after (slotCell w sl)
    | .voa => c.plan.changed.any (fun x => x.inp == slotPort w sl)
    | .gateP => c.plan.affected.contains (slotPort w sl)
    | .gateH => c.plan.affected.contains (slotPort w sl)
    | _ => c.plan.changed.any (fun x => (circPath x).any (fun h => hopCell h == slotCell w sl))
  | none => false
/-- Are the drive codes held in the safe state (R404, Table 12-4)? A commit in progress completes first (R143). -/
def codesHeld (s : State) : Bool := inSafe s && s.commit.isNone
/-- May the loop's engine push a code now: the pair runs with a holder that drives, the loop is enabled, its element plays no
waveform, is not calibrated, parked or fallow, and no commit holds its pushes back (R113, R213, R214, R223, R227, R374, R67)? -/
def canPush (s : State) (w sl : Nat) : Bool :=
  domOn s (winDomain w) && fb s (PLOT_ENG_CTRL_run w) && hasHolder s w && decide ((engOf s w).pushAt ≤ s.clk.now) &&
    (loopOf s w sl).cfgF.getLsbD 2 && (chanOf s w sl).wave.isEmpty && !fb s (PLOT_LOOP_STAT_stale w sl) &&
    !chFallow s w sl && !heaterParked s w sl && !commitHolds s w sl
/-- Push a loop's code (R240). -/
def loopPush (w sl : Nat) (v : Int) (s : State) : State := if canPush s w sl then pushCode w sl v s else s
/-- Does an element dither now: it is lit, no codes are held and no PARK is in force (Table 6-4, R197, R212)? -/
def mayDither (s : State) (w sl : Nat) : Bool :=
  fb s (PLOT_LOOP_STAT_lit w sl) && !codesHeld s && !fb s (PLOT_ENG_STAT_park w)
/-- A centre with a dither step, Q1.15, under the limits in force; a step that is cut sets SAT_OUT (R200). -/
def ditherPush (w sl : Nat) (c step : Int) (s : State) : State :=
  let v := clampOut s w sl (c + step)
  let s1 := onlyIf (decide (step ≠ 0 ∧ v ≠ c + step)) (sticky (PLOT_LOOP_STAT_sat_out w sl) 7 w sl) s
  loopPush w sl v s1

/-! ### Quick mode -/

/-- Is a channel quick: bound as an input of a loop in its quick interval (R278)? -/
def chanQuick (s : State) (w i : Nat) : Bool :=
  (winKeys w s.loops).any (fun sl => (loopOf s w sl).q0.isSome && (boundChans s w sl).contains i)
/-- Quick grants of a slice (R279). -/
def grantsOf (s : State) (w k : Nat) : Nat :=
  ((winKeys w s.sns).filter (fun i => sliceOf w i == k && (snsOf s w i).grant && chanQuick s w i)).length
/-- One channel of a headland that becomes quick asks its slice for a grant (R279); what it sampled before is past. -/
def grantOne (w i : Nat) (s : State) : State :=
  let x := { snsOf s w i with grant := false, qs := [] }
  let s1 := snsPut w i x s
  if grantsOf s1 w (sliceOf w i) < 4 then snsPut w i { x with grant := true } s1
  else inc (PLOT_SNS_CNT_DENY_count w) (setF (PLOT_SNS_STAT_quick_denied w i) 1 s1)
/-- The dither amplitude with which a loop enters a quick quarter before its first quick update: the region is that of its last
power in mode QUICK (log 41), the scaling the one latched at the quarter (R373). -/
def quickAmp (s : State) (w sl : Nat) : Int :=
  let p : Nat := f s (PLOT_LOOP_PWR_pa w sl) + f s (PLOT_LOOP_PWR_pb w sl)
  let n := regionOf s w sl (regionKey s w sl 1 (lightBand s w p 1) (stateBit s w sl))
  if mayDither s w sl then ditherAmp s w sl n (loopOf s w sl).qd else 0
/-- Centre and dither of the first quick quarter are pushed (Table 6-5). -/
def quickFirst (w sl : Nat) (s : State) : State :=
  let l := { loopOf s w sl with qd := f s GOV_STAT_dither, lateS := false }
  let a := quickAmp (loopPut w sl l s) w sl
  let s1 := loopPut w sl { l with qa := a } s
  if a = 0 then s1 else ditherPush w sl l.c (a * walshSign (walshF s w sl) 0) s1
/-- May an element enter quick mode (R208)? -/
def mayQuick (s : State) (w : Nat) : Bool := domOn s (winDomain w) && fb s (PLOT_ENG_CTRL_quick_en w)
/-- The elements of a commit of tick `t0` enter quick mode (R113, R115, R208, R279): what an abandoned grid sampled and
staged is discarded. -/
def quickEnter (t0 : Nat) (els : List (Nat × Nat)) (s : State) : State :=
  let els := els.filter (fun e => mayQuick s e.1)
  let was := [16, 17].map (fun w => (w, (els.filter (fun e => e.1 == w)).flatMap (fun e => boundChans s w e.2)))
  let chs := was.flatMap (fun e => ((List.range 1024).filter (fun i => e.2.contains i && !chanQuick s e.1 i)).map (fun i => (e.1, i)))
  let s1 := forEach els (fun e t =>
    loopPut e.1 e.2 { loopOf t e.1 e.2 with q0 := some t0, qn := 0, qlate := false, staged := [], active := [], post := 0 } t) s
  forEach els (fun e => quickFirst e.1 e.2) (forEach chs (fun e => grantOne e.1 e.2) s1)
/-- A loop leaves its quick interval (R215): its channels give back their grants once no quick loop is bound to them. -/
def quickLeave (w sl : Nat) (s : State) : State :=
  let s1 := loopPut w sl { loopOf s w sl with q0 := none, qa := 0, lateS := false } s
  forEach (boundChans s w sl) (fun i t =>
    if chanQuick t w i then t else snsPut w i { snsOf t w i with grant := false, qs := [] } t) s1

end Sys2Proof.Machine
end

