-- ==== Sys2Proof/Machine/Convert.lean ====
section
/-! DEFINITION. Conversions: from a front-end's codes to a reading (R271, R272), the queues of the slices and their classes
(R275 to R277, R281), normal and quick samples (R274, R278, R280), reference conversions (R285). A slice's conversions that
have ended by an instant are carried out when something reads what they leave (`runConv`). -/
namespace Sys2Proof.Machine
open Sys2Proof.Config

/-! ### Readings -/

/-- Raw codes that the front-ends of the listed channels present, by key: high-gain and low-gain; the others show none. -/
abbrev RawCodes := List (Nat × (Nat × Nat))
/-- What one channel's integrators hold. -/
def rawOf (l : RawCodes) (k : Nat) : Nat × Nat := ((l.find? (fun e => e.1 == k)).map (·.2)).getD (0, 0)
/-- The electrode a channel uses (R270, R296). -/
def elecOf (s : State) (w i : Nat) : Nat := 2 * i + (onReserve s w i).toNat
/-- Does the front-end present its G1 value (R271)? -/
def presentsG1 (s : State) (w i g1 : Nat) : Bool :=
  match f s (PLOT_SNS_CFG_rmode w i) with
  | 1 => true
  | 2 => false
  | _ => decide (g1 ≤ elecField s w (elecOf s w i) 6)
/-- A raw code turned into a reading (R272): gain1 for range G1, gain0 for G0. -/
def readingOf (s : State) (w i : Nat) (isG1 : Bool) (raw : Nat) : Int :=
  let e := elecOf s w i
  let gain : Nat := elecField s w e (if isG1 then 2 else 0)
  min 32767 (max 0 ((((raw : Int) - s16 (elecField s w e 4)) * gain + 2048) / 4096))
/-- Latest reading of a channel. -/
def lastReading (s : State) (w i : Nat) : Int := (f s (PLOT_SNS_VAL_reading w i) : Nat)
/-- A reading in 0.25 dB below +13 dBm (Table 4-15); its rounding is open (log 7). -/
def quarterDb (r : Nat) : Nat :=
  let n := ((List.range 256).filter (fun n => decide (r ^ 40 * 10 ^ n ≤ 32768 ^ 40))).length - 1
  if n = 255 then 255 else if roundUp r n then n + 1 else n

/-- The slices of a window. -/
def slcOf (s : State) (w : Nat) : SlcX := amGet (fun _ => {}) s.slcs w
/-- Replace them. -/
def slcPut (w : Nat) (x : SlcX) (s : State) : State := { s with slcs := amSet (fun _ => {}) s.slcs w x }
/-- Is no slice left for a channel, so that it reads 0 (R289)? -/
def chanDead (s : State) (w i : Nat) : Bool := (slcOf s w).dead.contains (sliceOf w i)
/-- Has the channel's reserve electrode, in use, failed before instant `t` (R292)? -/
def reserveOut (s : State) (w i t : Nat) : Bool :=
  onReserve s w i && (match (snsOf s w i).rfail with | some q => decide (q ≤ t) | none => false)

/-! ### Queues -/

/-- The queue of slice `k` of a window. -/
def convOf (s : State) (w k : Nat) : ConvQ := amGet (fun _ => {}) s.convs (w * 32 + k)
/-- Replace it. -/
def convPut (w k : Nat) (q : ConvQ) (s : State) : State := { s with convs := amSet (fun _ => {}) s.convs (w * 32 + k) q }
/-- Does conversion `a` go before `b` when both wait (R276)? -/
def convFirst (a b : Conv) : Bool :=
  decide (a.cls < b.cls) || (a.cls == b.cls && (decide (a.due < b.due) || (a.due == b.due && decide (a.rank ≤ b.rank))))
/-- Insert a conversion in the order of R276. -/
def insConv (c : Conv) : List Conv → List Conv
  | [] => [c]
  | d :: l => if convFirst d c then d :: insConv c l else c :: d :: l
/-- A conversion waits at a slice. -/
def convAdd (w k : Nat) (c : Conv) (s : State) : State :=
  convPut w k { convOf s w k with wait := insConv c (convOf s w k).wait } s

/-- The first conversion requested by instant `t`, and the others (R276). -/
def convPick (t : Nat) : List Conv → Option (Conv × List Conv)
  | [] => none
  | c :: l => if c.at_ ≤ t then some (c, l) else (convPick t l).map (fun p => (p.1, c :: p.2))

/-- A conversion waits that yields a channel's held value: the range of R271, its reading by R272 with the electrode in use,
0 from a failed reserve. `t` is the instant from which the value was integrated. -/
def heldConv (s : State) (w i cls due rank key t : Nat) (g : Nat × Nat) : Conv :=
  let g1 := presentsG1 s w i g.1
  let raw := (if g1 then g.1 else g.2) % 16384
  { cls := cls, chan := i, due := due, rank := rank, at_ := s.clk.now, key := key, isG1 := g1
    raw := if reserveOut s w i t then 0 else raw
    val := if reserveOut s w i t then 0 else readingOf s w i g1 raw }

/-- Reference readings of a slice, raw (R285): a check fails beyond 24 raw codes. -/
def refCheck (w k low high : Nat) (s : State) : State :=
  let x := slcOf s w
  let c := x.refCal.getD k (low, high)
  let fails := decide (24 < ((low : Int) - c.1).natAbs) || decide (24 < ((high : Int) - c.2).natAbs)
  if fails then incSat (PLOT_SLC_CNT_REFF_count w k)
    (slcPut w { x with two := if x.bad.contains k then k :: x.two.filter (· != k) else x.two, bad := k :: x.bad.filter (· != k) } s)
  else slcPut w { x with bad := x.bad.filter (· != k), two := x.two.filter (· != k) } s

/-- A channel's reading is shown (Table 8-7) and its sample counted; it is kept by its key (R274, R278). -/
def showSample (w : Nat) (c : Conv) (s : State) : State :=
  let dead := chanDead s w c.chan
  let v := if dead then 0 else c.val
  let s1 := setB (PLOT_SNS_VAL_over w c.chan) (v == 32767) (setB (PLOT_SNS_VAL_range w c.chan) (!c.isG1)
    (setF (PLOT_SNS_VAL_raw w c.chan) (if dead then 0 else c.raw) (setF (PLOT_SNS_VAL_reading w c.chan) v.toNat s)))
  let x := snsOf s1 w c.chan
  inc (PLOT_SNS_CNT_samples w c.chan) (snsPut w c.chan
    (if c.cls = 1 then { x with qs := (c.key, v) :: x.qs } else { x with smp := ((c.key, v) :: x.smp).take 8 }) s1)

/-- A conversion of slice `k` has ended: it is counted, and its value goes where it belongs (R272, R281, R285). -/
def convDone (w k : Nat) (c : Conv) (s : State) : State :=
  let s1 := inc (PLOT_SLC_CNT_CONV_count w k) s
  if c.chan = 4096 then setF (PLOT_SLC_REF_ref_zero w k) c.raw s1
  else if c.chan = 4097 then refCheck w k (f s1 (PLOT_SLC_REF_ref_zero w k)) c.raw (setF (PLOT_SLC_REF_ref_high w k) c.raw s1)
  else if c.cls = 0 then inc (PLOT_SLC_CNT_URG_count w k) s1
  else showSample w c s1

/-- A sample is missed (R277): the one before it stands in its place. -/
def convMiss (w k : Nat) (c : Conv) (s : State) : State :=
  if 4096 ≤ c.chan then s
  else incSat (PLOT_SNS_CNT_misses w c.chan) (inc (PLOT_SLC_CNT_MISS_count w k) (setF (PLOT_SNS_STAT_missed w c.chan) 1 s))

/-- Carry out the conversions of a slice that have ended by instant `t`, each 80 ns long, in the order of R276; a sample whose
conversion has not begun when its hold cell is due is missed (R277; DEDUCED, log 30). -/
def runSlice (w k t : Nat) : Nat → State → State
  | 0, s => s
  | n + 1, s =>
    let q := convOf s w k
    match q.wait with
    | [] => s
    | c0 :: l =>
      let b := max q.free (l.foldl (fun m c => min m c.at_) c0.at_)
      let lost (c : Conv) : Bool := c.cls != 0 && decide (c.due < min b t)
      if q.wait.any lost then
        runSlice w k t n (forEach (q.wait.filter lost) (convMiss w k)
          (convPut w k { q with wait := q.wait.filter (fun c => !lost c) } s))
      else if b + 800 ≤ t then
        match convPick b q.wait with
        | some (c, rest) => runSlice w k t n (convDone w k c (convPut w k { free := b + 800, wait := rest } s))
        | none => s
      else s

/-- Carry out the conversions of a window that have ended by now. -/
def runConv (w : Nat) (s : State) : State :=
  forEach (List.range (winSlices w)) (fun k t => runSlice w k t.clk.now (2 * (convOf t w k).wait.length + 1) t) s
/-- Carry out every conversion that has ended by now. -/
def runConvs (s : State) : State := forEach (List.range 18) runConv s

/-! ### Requests -/

/-- Does a channel supply quick samples in place of its normal ones (R278 to R280)? -/
def quickSampled (s : State) (w i : Nat) : Bool := chanQuick s w i && (decide (w < 16) || (snsOf s w i).grant)
/-- The channels of an active slice in the order of their conversion (R275, Table 8-3). -/
def sliceChans (w k : Nat) : List Nat :=
  if w < 16 then (List.range 30).map (fun j => 30 * k + j)
  else [0, 1].flatMap (fun q => (List.range 32).flatMap (fun j => [q * 256 + 8 * j + k, 512 + q * 256 + 8 * j + k]))
/-- An integration window ends now on every channel of a window of loops (R274): the slices that carry them have the samples
to convert within 25 us (Table 8-4). -/
def sampleWin (l : RawCodes) (w : Nat) (s : State) : State :=
  forEach (List.range (winSlices w - 1)) (fun k t =>
    let c := carrierOf t w k
    let new := ((sliceChans w k).filter (fun i => !quickSampled t w i)).mapIdx (fun j i =>
      heldConv t w i 2 (t.clk.now + 250000) j (t.clk.now / 125000) (t.clk.now - 25000) (rawOf l (wKey w i)))
    convPut w c { convOf t w c with wait := (convOf t w c).wait ++ new } t) s
/-- A new bias trim of a channel's electrode takes effect at its next integration window (R304). -/
def biasWin (w : Nat) (s : State) : State :=
  forEach ((List.range (winSensors w)).filter (fun i => (snsOf s w i).bias != biasTrim s w (elecOf s w i)))
    (fun i t => snsPut w i { snsOf t w i with bias := biasTrim t w (elecOf t w i) } t) s
/-- Every slice has its references to convert after its run of sample 2 (R285); a slice that is not listed reads the calibrated
values. -/
def refWin (refs : RawCodes) (w : Nat) (s : State) : State :=
  forEach (List.range (winSlices w)) (fun k t =>
    let v := ((refs.find? (fun e => e.1 == w * 32 + k)).map (·.2)).getD ((slcOf t w).refCal.getD k (0, 0))
    let ref (ch raw : Nat) : Conv :=
      { cls := 2, chan := ch, due := t.clk.now + 250000, rank := ch, at_ := t.clk.now, key := 0, isG1 := true, raw := raw % 16384, val := 0 }
    convPut w k { convOf t w k with wait := (convOf t w k).wait ++ [ref 4096 v.1, ref 4097 v.2] } t) s
/-- A quick quarter ends on a quick channel (R278, R280): its sample has to be converted within the next one; a channel without
a grant supplies the latest normal sample converted. -/
def quickSample (l : RawCodes) (w i key : Nat) (s : State) : State :=
  if quickSampled s w i then
    convAdd w (carrierOf s w (sliceOf w i)) (heldConv s w i 1 (s.clk.now + 25000) i key (s.clk.now - 25000) (rawOf l (wKey w i))) s
  else snsPut w i { snsOf s w i with qs := (key, lastReading s w i) :: (snsOf s w i).qs } s
/-- An urgent conversion of a channel is requested (R281); its reading, 0 where no slice is left (R289). -/
def urgentOne (w i : Nat) (g : Nat × Nat) (s : State) : State :=
  convAdd w (carrierOf s w (sliceOf w i)) (heldConv s w i 0 0 i 0 s.clk.now g) s
/-- The reading of an urgent conversion requested now. -/
def urgentVal (s : State) (w i : Nat) (g : Nat × Nat) : Nat :=
  if chanDead s w i then 0 else (heldConv s w i 0 0 i 0 s.clk.now g).val.toNat

/-! ### Samples -/

/-- The sample of the window that ended at `key`, in 12.5 us; where it is wanting, the one before it (R277). -/
def smpAt (x : SnsX) (key : Nat) : Int := ((x.smp.find? (fun e => decide (e.1 ≤ key))).map (·.2)).getD 0
/-- The quick sample of a quarter: where its conversion waits, what that will yield (DESIGN CHOICE, log 75); where it is wanting,
the one before it, or else the channel's latest reading. -/
def quickAtKey (s : State) (w i key : Nat) : Int :=
  let x := snsOf s w i
  let waits := (convOf s w (carrierOf s w (sliceOf w i))).wait.find? (fun c => c.cls == 1 && c.chan == i && c.key == key)
  match x.qs.find? (fun e => e.1 == key), waits with
  | some e, _ => e.2
  | none, some c => if chanDead s w i then 0 else c.val
  | none, none => ((x.qs.find? (fun e => decide (e.1 < key) && e.1 / 16 == key / 16)).map (·.2)).getD (lastReading s w i)

end Sys2Proof.Machine
end

