-- ==== Sys2Proof/Machine/Glean.lean ====
section
/-! DEFINITION. Glean (R497 to R515): arming, triggers, records, the done queues, trigger outputs. -/
namespace Sys2Proof.Machine
open Sys2Proof.Config

/-! ### Channels -/

/-- A capture channel. -/
def glnOf (s : State) (n : Nat) : GlnX := amGet (fun _ => {}) s.gln n
/-- Replace it. -/
def glnPut (n : Nat) (x : GlnX) (s : State) : State := { s with gln := amSet (fun _ => {}) s.gln n x }
/-- State of a channel (Table 15-2): 0 IDLE, 1 FILLING, 2 ARMED, 3 TRIGGERED, 4 WAITING. -/
def glnState (s : State) (n : Nat) : Nat := f s (GLN_CH_STAT_state n)
/-- Move to a state; `armed` follows. -/
def glnGo (n st : Nat) (s : State) : State :=
  setF (GLN_CH_STAT_state n) st (setB ⟨GLN_STAT_armed.off, 16 + n, 1⟩ (st == 1 || st == 2) s)
/-- Pre-trigger depth of the arm. -/
def glnPre (x : GlnX) : Nat := x.depth % 65536
/-- Samples from sample 0 of the arm. -/
def glnPost (x : GlnX) : Nat := x.depth / 65536
/-- L of R501. -/
def glnLen (x : GlnX) : Nat := glnPre x + glnPost x
/-- Records per arm. -/
def glnRepeat (x : GlnX) : Nat := x.mode % 256
/-- Requester of channel `n` (R501). -/
def glnReq (n : Nat) : Nat := 0x80 + n
/-- CK_GLN period, 100 ps. -/
def glnPeriod : Nat := 125
/-- First CK_GLN edge at or after an instant (R498). -/
def glnEdge (t : Nat) : Nat := t + (glnPhase % 5 * 25 + glnPeriod - t % glnPeriod) % glnPeriod
/-- The trigger code in force: of the arm while the channel is armed, of the register else. -/
def glnCode (s : State) (n : Nat) : Nat :=
  (if glnState s n = 0 then f s (GLN_CH_TRIG_src n) else (glnOf s n).trig % 32)

/-- FS_GLN_OVF (R512). -/
def glnOvf (n cause : Nat) (s : State) : State :=
  raise 46 (n + 8 * cause) (inc GLN_CNT_OVF_count (setF ⟨GLN_STAT_ovf.off, 8 + n, 1⟩ 1 s))

/-- Count a trigger that is not accepted (R501, R512). -/
def glnExtra (n : Nat) (s : State) : State :=
  let x := glnOf s n
  let s1 := inc (GLN_CH_CNT_EXTRA_count n) (glnPut n { x with extra := min (x.extra + 1) 65535 } s)
  if glnRepeat x = 0 ∨ f s (GLN_CH_STAT_left n) ≠ 0 then glnOvf n 2 s1 else s1

/-! ### Arming -/

/-- Does the chain of followed channels from `k` reach `n`? -/
def glnChain (s : State) (n : Nat) : Nat → Nat → Bool
  | 0, _ => false
  | u + 1, k => k == n || (let c := glnCode s k; decide (10 ≤ c) && decide (c < 18) && glnChain s n u (c - 10))

/-- The reason an arm is refused, 0 none (R500); EMPTY is found by allocating. -/
def glnArmReason (s : State) (n : Nat) : Nat :=
  let w := f s (GLN_CH_SRC_window n)
  let c := f s (GLN_CH_TRIG_src n)
  if !(decide (w ≤ 17) && domOn s (winDomain w) && !(f s GOV_DOM_FALLOW_fallow).testBit w && decide (f s (GLN_CH_SRC_chan n) < winSensors w)) then 1
  else if 32736 < f s (GLN_CH_DEPTH_pre n) + f s (GLN_CH_DEPTH_post n) ∨ f s (GLN_CH_DEPTH_post n) = 0 then 2
  else if !([0, 5, 6].contains (f s (GLN_CH_MODE_give_to n) / 32)) then 3
  else if decide (10 ≤ c) && decide (c < 18) && glnChain s n 9 (c - 10) then 5
  else 0

/-- A refused arm. -/
def glnRefuse (n reason : Nat) (s : State) : State :=
  setF (GLN_CH_STAT_reason n) reason (setF (GLN_CH_STAT_refused n) 1 s)

/-- An arm (R500, R501): an X buffer, then FILLING; samples are written 200 ns later. -/
def glnArm (n : Nat) (s : State) : State :=
  if glnState s n ≠ 0 then s
  else if glnArmReason s n ≠ 0 then glnRefuse n (glnArmReason s n) s
  else
    let r := bpmAlloc (glnReq n) 65536 s
    if r.2.1 ≠ 0 then glnRefuse n 4 r.2.2
    else
      let x : GlnX := {
        buf := some r.1, fillAt := s.clk.now + 2000, src := (rd s (GLN_CH_SRC_window n).off).toNat
        trig := (rd s (GLN_CH_TRIG_src n).off).toNat, depth := (rd s (GLN_CH_DEPTH_pre n).off).toNat
        mode := (rd s (GLN_CH_MODE_repeat n).off).toNat, doneQ := (glnOf s n).doneQ }
      glnGo n 1 (setF (GLN_CH_STAT_left n) x.mode (setF (GLN_CH_STAT_refused n) 0 (glnPut n x r.2.2)))

/-- To IDLE; a buffer still owned is freed and no record is made (R509). -/
def glnStop (n : Nat) (s : State) : State :=
  let x := glnOf s n
  glnGo n 0 (setF (GLN_CH_STAT_left n) 0 (glnPut n { doneQ := x.doneQ } (releaseHandle x.buf s)))

/-! ### Triggers -/

/-- What a trigger fixes (R505). -/
structure GlnTrig where
  code   : Nat
  inst   : Nat      -- instant of the trigger
  edge   : Nat      -- instant of sample 0
  time   : Nat      -- trigger time on the base, 2^-40 ns
  forced : Bool
  coarse : Bool
  aux    : Nat
  deriving DecidableEq, Repr

/-- A pulse of TRIG_OUT[n] that rises 28 to 32 ns after a commit tick's computed time, or 39 to 41 ns after the edge of sample 0
(R514, R529): `least` and `spread` are in 100 ps. -/
def trigOutPulse (k least spread : Nat) (s : State) : State :=
  let (d, t) := drawFree (spread + 1) s
  { t with trigOut := amSet (fun _ => (0, 0)) t.trigOut k (least + d, least + d + f t (GLN_TRIGOUT_width k) * glnPeriod) }
/-- TRIGBUS[n] is pulled low 58 to 62 ns after the edge of sample 0 (R514, R529). -/
def trigBusPulse (k edge : Nat) (s : State) : State :=
  let (d, t) := drawFree 41 s
  { t with trigBus := amSet (fun _ => (0, 0)) t.trigBus k (edge + 580 + d, edge + 580 + d + f t (GLN_BUS_CTRL_width k) * 1000) }
/-- TRIG_OUT and TRIGBUS at the accepted trigger of channel `n` whose sample 0 lies at `edge` (R514). The module's own TRIGBUS input
sees the line fall: that edge reaches a channel which follows the line as its GLN_TRIGGER (log 89). -/
def glnDrive (n edge : Nat) (s : State) : State :=
  forEach ((List.range 2).filter (fun k => fb s (GLN_BUS_CTRL_drive k) && f s (GLN_BUS_CTRL_chan k) == n)) (fun k => trigBusPulse k edge)
    (forEach ((List.range 4).filter (fun k => f s (GLN_TRIGOUT_src k) == n + 1)) (fun k => trigOutPulse k (edge + 390) 20) s)

/-- Does an accepted trigger request a conversion of the source channel: `anchor` is 1 and the source is on (R503)? -/
def anchorAsked (s : State) (x : GlnX) : Bool := x.src / 2 ^ 17 % 2 == 1 && domOn s (winDomain (x.src % 32))
/-- With `anchor` an accepted trigger requests one urgent conversion of the source channel (R503, R281); the codes it finds come
with the record (`glnComplete`). -/
def glnAnchor (x : GlnX) (s : State) : State :=
  if anchorAsked s x then urgentOne (x.src % 32) (x.src / 32 % 2048) (0, 0) s else s

/-- One channel meets a trigger: accepted in FILLING or ARMED, counted in TRIGGERED or WAITING, but a force and a
source trigger within one sample count as one (R501, R502, R505, R509). -/
def glnTake (n : Nat) (g : GlnTrig) (s : State) : Bool × State :=
  let x := glnOf s n
  match glnState s n with
  | 0 => (false, s)
  | 1 | 2 =>
    let wrote := if x.fillAt ≤ g.edge then (g.edge - glnEdge x.fillAt + (glnPeriod - 1)) / glnPeriod else 0
    let y := { x with
      code := g.code, forced := g.forced, edge := g.edge, delta := g.edge - g.inst, time := g.time
      preV := min wrote (glnPre x), idx := wrote % glnLen x, extra := 0, aux := g.aux, coarse := g.coarse
      tb := f s GLN_CTRL_tb, anc := anchorAsked s x }
    (true, glnDrive n g.edge (glnAnchor x (glnGo n 3 (glnPut n y s))))
  | _ =>
    if glnState s n = 3 ∧ s.clk.now ≤ x.edge ∧ g.forced ≠ x.forced then (false, s) else (false, glnExtra n s)

/-- A trigger of channel `n`, and of the channels that follow it (R508). -/
def glnTrigger : Nat → Nat → GlnTrig → State → State
  | 0, _, _, s => s
  | u + 1, n, g, s =>
    let (ok, s1) := glnTake n g s
    if ok then
      forEach ((List.range 8).filter (fun k => k != n && glnState s k != 0 && (glnOf s k).trig % 32 == 10 + n))
        (fun k t => glnTrigger u k g t) s1
    else s1

/-- The time of an instant on `tb` of GLN_CTRL, within 1 ns (Table 15-1); 0 on a disabled base. The instant is the present one or
the sample edge after it. -/
def glnTime (at_ : Nat) (s : State) : Nat × State :=
  let b := f s GLN_CTRL_tb
  let (e, t) := drawFree (2 * nsUnit + 1) s
  (if tbEnabled s b then
    ((tbNow s b + (s.clk.now % tbPeriod + (at_ - s.clk.now)) * (nsUnit / 10) : Nat) + (e : Int) - nsUnit).toNat % tbWrap else 0, t)

/-- A trigger at the present instant. -/
def glnNow (n code : Nat) (s : State) : State :=
  let (v, t) := glnTime s.clk.now s
  glnTrigger 9 n ⟨code, s.clk.now, glnEdge s.clk.now, v, false, false, 0⟩ t

/-- `force`: the trigger stands on a sample edge, delta 0 (Table 15-3). -/
def glnForce (n : Nat) (s : State) : State :=
  let e := glnEdge s.clk.now
  let (v, t) := glnTime e s
  glnTrigger 9 n ⟨0, e, e, v, true, false, 0⟩ t

/-- A commit tick at this instant (R505, Table 15-3, R514): `times` are the computed times of t0 on the bases. -/
def glnCommit (affected times : List Nat) (s : State) : State :=
  if domOn s 28 then
    let s1 := forEach ((List.range 4).filter (fun k => f s (GLN_TRIGOUT_src k) == 9)) (fun k => trigOutPulse k (s.clk.now + 280) 40) s
    let g : GlnTrig := ⟨7, s.clk.now, glnEdge s.clk.now, times.getD (f s GLN_CTRL_tb) 0, false, false, (f s CMT_LAST_SEQ_seq + 1) % 2 ^ 32⟩
    forEach ((List.range 8).filter (fun n => glnState s n != 0 && (glnOf s n).trig % 32 == 7 &&
        ((glnOf s n).trig / 128 % 2 == 0 || affected.contains ((glnOf s n).trig / 256 % 256))))
      (fun n t => glnTrigger 9 n g t) s1
  else s

/-- Does an output headland sensor carry a verify window (R284)? From the close to the completion of a commit that
changes a circuit of its output. -/
def verWindow (s : State) (w ch : Nat) : Bool :=
  let names (p : CommitPlan) : Bool := p.changed.any (fun c => c.out == ch % 256)
  w == 17 && decide (ch < 512) &&
    ((match s.closed with | some p => names p | none => false) || (match s.commit with | some c => names c.plan | none => false))

/-- The registered raise that a fault trigger of the mask stands for: its source, and its CK_AON edge. -/
def glnFault (s : State) : Option (Nat × Nat) :=
  (List.range 48).findSome? (fun b =>
    if (f s GLN_FLT_MASK_LO_mask + 2 ^ 32 * f s GLN_FLT_MASK_HI_mask).testBit b then
      match atOf s.fltRaised b with
      | some t => if s.clk.now < t + aonPeriod then some (b, (t + (aonPeriod - 1)) / aonPeriod * aonPeriod) else none
      | none => none
    else none)

/-- Has the channel that code 8 of a channel watches left its band, with its band in force (R282, R284, R504, R507)? -/
def glnWinOut (s : State) (x : GlnX) : Bool :=
  let w := x.trig / 2 ^ 16 % 32
  let ch := x.trig / 2 ^ 21
  domOn s (winDomain w) && (snsOf s w ch).left && !verWindow s w ch
/-- The selected source of channel `n` triggers (R504 to R507); of code 8, where the watched channel has left its band. Commit ticks and followed channels trigger within the
command that brings them. -/
def glnSource (n : Nat) (rising : Bool) (s : State) : State :=
  let x := glnOf s n
  let c := x.trig % 32
  if glnState s n = 0 then s
  else if 1 ≤ c ∧ c ≤ 4 then
    let e := x.trig / 32 % 4
    if e = 2 ∨ rising = (e != 1) then glnNow n c s else s
  else if c = 5 ∨ c = 6 then glnNow n c s
  else if c = 8 then (if glnWinOut s x then glnNow n 8 s else s)
  else if c = 9 then
    match glnFault s with
    | some (b, t) =>
      let u := elapseTo s t
      let (v, u1) := glnTime u.clk.now u
      glnTrigger 9 n ⟨9, u.clk.now, glnEdge u.clk.now, v, false, true, b⟩ u1
    | none => s
  else s

/-! ### Records -/

/-- Does an instant lie within the record: from its first valid sample to its last (Table 15-4)? -/
def glnWithin (x : GlnX) (at_ : Option Nat) : Bool :=
  match at_ with
  | some t => decide (x.edge ≤ t + x.preV * glnPeriod) && decide (t < x.edge + glnPost x * glnPeriod)
  | none => false
/-- The header of a record, its CRC included (Table 15-4). -/
def glnHeader (n : Nat) (x : GlnX) (seq anchor : Nat) (clip : Bool) : List Nat :=
  let anc := x.anc.toNat
  let flags := x.src / 2 ^ 16 % 2 + 2 * anc + 4 * x.coarse.toNat + 8 * (glnWithin x x.gap).toNat + 16 * (glnWithin x x.elec).toNat + 32 * x.srcOff.isSome.toNat + 64 * clip.toNat
  let b := leBytes 2 0x0051 ++ [n, flags] ++ leBytes 2 (x.src % 32) ++ leBytes 2 (x.src / 32 % 2048) ++
    [x.code, x.delta, x.tb, 0] ++ leBytes 6 (tSec x.time) ++ leBytes 4 (tNs x.time) ++ leBytes 2 (tFrac x.time) ++
    leBytes 4 seq ++ leBytes 4 (glnLen x) ++ leBytes 4 x.preV ++ leBytes 4 (glnPost x) ++ leBytes 4 x.idx ++
    leBytes 2 (if anc = 1 then anchor else 0) ++ leBytes 2 x.extra ++ leBytes 4 x.aux ++ leBytes 8 0
  b ++ leBytes 4 (crc32c b)

/-- The entries of a record: those of samples taken since the source domain went off carry bit 12 and read 0 (R513). -/
def glnSeen (x : GlnX) (samples : List (Option Nat)) : List (Option Nat) :=
  samples.zipIdx.map (fun p => match x.srcOff with
    | some t => if t < x.edge + p.2 * glnPeriod - x.preV * glnPeriod then p.1.map (fun _ => 4096) else p.1
    | none => p.1)
/-- Write the record into the buffer: the header and the entries of the samples that were not lost. -/
def glnWrite (n h : Nat) (x : GlnX) (anchor : Nat) (samples : List (Option Nat)) (s : State) : State :=
  if domOn s 25 && !dieOff s (bufDie (hPool h) (hIndex h)) then
    let a := hAddr h
    let l := glnSeen x samples
    let clip := l.any (fun v => match v with | some c => c % 4096 == 4095 | none => false)
    let first := x.idx + glnLen x - x.preV
    let m := memBytes s.dram a (glnHeader n x (f s (GLN_CH_CNT_REC_count n)) anchor clip)
    { s with dram := ((List.range (x.preV + glnPost x)).zip l).foldl (fun m p =>
        match p.2 with
        | some c => memWrite m (a + 0x40 + 2 * ((first + p.1) % glnLen x)) 2 (c % 8192)
        | none => m) m }
  else if domOn s 25 then hwErr s
  else countUnassigned s

/-- A complete record leaves the channel: the buffer is given and its handle queued; then the channel re-arms or
returns to IDLE (R502). -/
def glnLeave (n : Nat) (s : State) : State :=
  let x := glnOf s n
  let h := x.buf.getD 0
  let s1 := setF ⟨GLN_STAT_done.off, n, 1⟩ 1 (bpmGive (glnReq n) h (x.mode / 256 % 256) s)
  let q := x.doneQ ++ [h]
  let left := f s (GLN_CH_STAT_left n)
  let s2 := setF (GLN_CH_STAT_done_depth n) q.length s1
  if glnRepeat x = 0 ∨ 0 < left then
    let r := bpmAlloc (glnReq n) 65536 s2
    if r.2.1 = 0 then glnGo n 1 (glnPut n { x with buf := some r.1, fillAt := s.clk.now, doneQ := q, gap := none, elec := none, srcOff := (if domOn s (winDomain (x.src % 32)) then none else some s.clk.now) } r.2.2)
    else glnOvf n 1 (glnGo n 0 (setF (GLN_CH_STAT_left n) 0 (glnPut n { doneQ := q } r.2.2)))
  else glnGo n 0 (glnPut n { doneQ := q } s2)

/-- The calibrated reading of a record's anchor from its raw codes (R503). -/
def anchorVal (s : State) (x : GlnX) (g : Nat × Nat) : Nat := urgentVal s (x.src % 32) (x.src / 32 % 2048) g
/-- `post` samples are written (R502), and one record less is left to make: with the done queue full the channel waits with the complete record. -/
def glnComplete (n : Nat) (anchor : Nat × Nat) (samples : List (Option Nat)) (s : State) : State :=
  if glnState s n = 3 then
    let x := glnOf s n
    let t := elapseTo s (x.edge + glnPost x * glnPeriod)
    let t1 := setF (GLN_CH_STAT_left n) (f t (GLN_CH_STAT_left n) - 1)
      (glnWrite n (x.buf.getD 0) x (anchorVal t x anchor) samples (inc (GLN_CH_CNT_REC_count n) t))
    if x.doneQ.length < 8 then glnLeave n t1 else glnGo n 4 t1
  else s

/-- A pop of the done queue (R511). -/
def glnPop (n : Nat) (s : State) : State :=
  let x := glnOf s n
  match x.doneQ with
  | [] => { s with resp := ⟨0, 0⟩ }
  | h :: q =>
    let t := setF (GLN_CH_STAT_done_depth n) q.length { glnPut n { x with doneQ := q } s with resp := ⟨h, 0⟩ }
    if glnState s n = 4 then glnLeave n t else t

/-- The source electrode of a sensing channel changes: records in progress say so (Table 15-4). -/
def glnElec (w ch : Nat) (s : State) : State :=
  forEach ((List.range 8).filter (fun n => glnState s n != 0 && glnState s n != 4 && (glnOf s n).src % 32 == w &&
      (glnOf s n).src / 32 % 2048 == ch))
    (fun n t => glnPut n { glnOf t n with elec := some t.clk.now } t) s
/-- A source domain goes off during captures (R513). -/
def glnSrcOff (w : Nat) (s : State) : State :=
  forEach ((List.range 8).filter (fun n => glnState s n != 0 && (glnOf s n).src % 32 == w))
    (fun n t => glnPut n { glnOf t n with srcOff := some ((glnOf t n).srcOff.getD t.clk.now) } t) s
/-! ### The commands -/

/-- A write of GLN_CH_CMD: a stop prevails (R509). -/
def glnCmd (n v : Nat) (s : State) : State :=
  if v / 2 % 2 = 1 then glnStop n s
  else
    let t := if v % 2 = 1 then glnArm n s else s
    if v / 4 % 2 = 1 then glnForce n t else t

/-- R500, R501. -/
def execGlnArm (dt m n : Nat) (s : State) : Host.Outcome State Fault Refusal :=
  run s dt (regCmd m (GLN_CH_CMD_arm n).off (glnCmd n 1))
/-- R509. -/
def execGlnStop (dt m n : Nat) (s : State) : Host.Outcome State Fault Refusal :=
  run s dt (regCmd m (GLN_CH_CMD_arm n).off (glnCmd n 2))
/-- R504, R509. -/
def execGlnForce (dt m n : Nat) (s : State) : Host.Outcome State Fault Refusal :=
  run s dt (regCmd m (GLN_CH_CMD_arm n).off (glnCmd n 4))
/-- R501: 200 ns after the arm the mux has settled and samples are written. -/
def execGlnMuxSettled (dt n : Nat) (s : State) : Host.Outcome State Fault Refusal :=
  run s dt (fun t => if glnState t n = 1 then elapseTo t (glnOf t n).fillAt else t)
/-- R501: `pre` samples are written. -/
def execGlnPreFilled (dt n : Nat) (s : State) : Host.Outcome State Fault Refusal :=
  run s dt (fun t =>
    if glnState t n = 1 then
      glnGo n 2 (elapseTo t (glnEdge (glnOf t n).fillAt + (glnPre (glnOf t n) - 1) * glnPeriod))
    else t)
/-- R505 to R508. -/
def execGlnTrigger (dt n : Nat) (rising : Bool) (s : State) : Host.Outcome State Fault Refusal :=
  run s dt (fun t => if domOn t 28 then glnSource n rising t else t)
/-- R502, R510. -/
def execGlnRecordComplete (dt n : Nat) (anchor : Nat × Nat) (samples : List (Option Nat)) (s : State) : Host.Outcome State Fault Refusal :=
  run s dt (glnComplete n anchor samples)
/-- R502, R511. -/
def execGlnDonePop (dt m n : Nat) (s : State) : Host.Outcome State Fault Refusal :=
  run s dt (onIssue m (fun t =>
    if regOpen t m (GLN_CH_DONE_handle n).off false then glnPop n t else countUnassigned { t with resp := ⟨0, 0⟩ }))
/-- R512: the queue to DRAM is full at a sample edge. -/
def execGlnSampleLost (dt n : Nat) (s : State) : Host.Outcome State Fault Refusal :=
  run s dt (fun t =>
    if glnState t n = 0 ∨ glnState t n = 4 then t
    else glnOvf n 0 (glnPut n { glnOf t n with gap := some t.clk.now } t))

end Sys2Proof.Machine
end

