-- ==== Sys2Proof/Machine/Sensing.lean ====
section
/-! DEFINITION. Sensing: conversions and samples (R271 to R280), window comparators (R282 to R284), slices and the spare
(R285 to R289), failed electrodes (R290 to R292). -/
namespace Sys2Proof.Machine
open Sys2Proof.Config

/-! ### Samples -/

/-- Electrode changes asked for before the window that ends at `at_` began take effect (R291, R292). -/
def applyReserve (at_ : Nat) (s : State) : State :=
  forEach (s.rsvPend.filter (fun e => match e.2 with | some q => decide (q + 25000 ≤ at_) | none => false))
    (fun e t =>
      let w := e.1 / 4096
      let i := e.1 % 4096
      glnElec w i (setB (PLOT_SNS_STAT_on_reserve w i) (fb t (PLOT_SNS_CFG_reserve w i))
        { t with rsvPend := amSet (fun _ => none) t.rsvPend e.1 none })) s
/-- The integration windows of a quarter end now on every channel of a powered domain, and the next ones begin (R274, R275, R304). -/
def sampleAll (l : RawCodes) (s : State) : State :=
  let s1 := applyReserve s.clk.now s
  forEach (onWindows s1) (fun w t => biasWin w (sampleWin l w t)) s1
/-- R276, R277: the conversions of the channel's slice are carried out up to now; a sample whose hold cell came due before its
conversion began is missed. -/
def execSampleMissed (dt w i : Nat) (s : State) : Host.Outcome State Fault Refusal :=
  run s dt (fun t =>
    if domOn t (winDomain w) then
      let k := carrierOf t w (sliceOf w i)
      runSlice w k t.clk.now (2 * (convOf t w k).wait.length + 1) t
    else t)

/-! ### Window comparators -/

/-- Does a power, in 0.01 dBm, lie inside a channel's band (R282, R283)? -/
def inBand (s : State) (w i : Nat) (p : Int) : Bool :=
  decide (1300 - 25 * (f s (PLOT_SNS_CFG_win_lo w i) : Nat) ≤ p) && decide (p ≤ 1300 - 25 * (f s (PLOT_SNS_CFG_win_hi w i) : Nat))
/-- Is a channel's power outside its band at present, as its comparator last reported it (Table 8-7)? -/
def outNow (s : State) (w i : Nat) : Bool := match (snsOf s w i).pw with | some p => !inBand s w i p | none => false
/-- A channel leaves its band (R282). -/
def bandLeft (w i : Nat) (s : State) : State :=
  setF (PLOT_SNS_STAT_win_out w i) 1 (snsPut w i { snsOf s w i with left := true } s)
/-- A band is applied to a channel: outside it the channel counts as having left it (R283). -/
def bandJudge (w i : Nat) (s : State) : State :=
  if verWindow s w i then s
  else if outNow s w i then bandLeft w i s else snsPut w i { snsOf s w i with left := false } s
/-- A channel's power has stayed at `p` for `dur` (R282): outside the band for `persist` it leaves it, inside it has returned. A
channel that carries a verify window reports nothing (R284). -/
def windowLeave (w i : Nat) (p : Int) (dur : Nat) (s : State) : State :=
  let t := snsPut w i { snsOf s w i with pw := some p } s
  if verWindow t w i then t
  else if inBand t w i p then snsPut w i { snsOf t w i with left := false } t
  else if (snsOf t w i).left || decide (dur < f t (PLOT_SNS_CTRL_persist w) * 1000) then t
  else bandLeft w i t
/-- R282 to R284. -/
def execWindowLeave (dt w i : Nat) (stay : Int × Nat) (s : State) : Host.Outcome State Fault Refusal :=
  run s dt (fun t => if domOn t (winDomain w) then windowLeave w i stay.1 stay.2 t else t)
/-- A write of PLOT_SNS_CFG: an electrode change waits for the next window after it was asked for (R292), a new band judges the channel afresh
(R283). -/
def snsCfgWrite (w i v : Nat) (s : State) : State :=
  let bandNew := decide (v / 256 % 65536 ≠ (rd s (PLOT_SNS_CFG_win_en w i).off).toNat / 256 % 65536)
  let rsv := if v / 8 % 2 = 0 ∧ fb s (PLOT_SNS_STAT_failed w i) then f s (PLOT_SNS_CFG_reserve w i) else v / 8 % 2
  let s1 := setF (PLOT_SNS_CFG_win_lo w i) (v / 2 ^ 16) (setF (PLOT_SNS_CFG_win_hi w i) (v / 256)
    (setF (PLOT_SNS_CFG_fdet_en w i) (v / 16) (setF (PLOT_SNS_CFG_reserve w i) rsv (setF (PLOT_SNS_CFG_rmode w i) (v / 2)
      (setF (PLOT_SNS_CFG_win_en w i) v s)))))
  let s2 := onlyIf bandNew (bandJudge w i) s1
  if (rsv != 0) != onReserve s w i then
    let asked := if rsv = f s (PLOT_SNS_CFG_reserve w i) then amGet (fun _ => none) s.rsvPend (wKey w i) else none
    { s2 with rsvPend := amSet (fun _ => none) s2.rsvPend (wKey w i) (some (asked.getD s2.clk.now)) }
  else { s2 with rsvPend := amSet (fun _ => none) s2.rsvPend (wKey w i) none }
/-- R292: software moves a channel to its reserve electrode or back. -/
def execReserveSelect (dt m w i : Nat) (b : Bool) (s : State) : Host.Outcome State Fault Refusal :=
  run s dt (regCmd m (PLOT_SNS_CFG_reserve w i).off (fun t =>
    snsCfgWrite w i (keepFld (PLOT_SNS_CFG_reserve w i) (if b then 8 else 0) (rd t (PLOT_SNS_CFG_reserve w i).off).toNat) t))

/-! ### Slices -/

/-- Role of a slice: 0 active, 1 under calibration, 2 spare idle, 3 spare carrying (Table 8-8). -/
def role (w k n : Nat) (s : State) : State := if k < winSlices w then setF (PLOT_SLC_STAT_role w k) n s else s
/-- The spare carries the channels of slice `k`. -/
def spareCarry (w k : Nat) (s : State) : State := role w (spareOf w) 3 (setF (PLOT_SLC_STAT_carries w (spareOf w)) k s)
/-- The spare carries none. -/
def spareFree (w : Nat) (s : State) : State := role w (spareOf w) 2 (setF (PLOT_SLC_STAT_carries w (spareOf w)) 31 s)
/-- Is the spare lost: it has failed or carries a failed slice (Table 8-9)? -/
def spareLost (s : State) (w : Nat) : Bool := fb s (PLOT_SNS_STAT_no_spare w)
/-- Abandon a calibration turn: its slice takes its channels back at the next frame boundary (R288). -/
def bgAbandon (w : Nat) (s : State) : State :=
  if (slcOf s w).bgOn.isSome then slcPut w { slcOf s w with bgDone := true } s else s
/-- Does a trim stand at an end of its range (R286)? -/
def trimEnd (otrim gtrim : Nat) : Bool := [127, 128].contains (otrim % 256) || [127, 128].contains (gtrim % 256)
/-- A slice fails (R286, R288, R289): `trim` when background calibration left a trim at its limit. -/
def sliceFail (w k : Nat) (trim : Bool) (s : State) : State :=
  let s1 := setF (PLOT_SLC_STAT_failed w k) 1 (onlyIf trim (setF (PLOT_SLC_STAT_trim_limit w k) 1) s)
  let x := { slcOf s1 w with two := (slcOf s1 w).two.filter (· != k), bad := (slcOf s1 w).bad.filter (· != k) }
  let sp := spareOf w
  let car := f s1 (PLOT_SLC_STAT_carries w sp)
  let s2 :=
    if k = sp then
      let x' := if spareLost s1 w ∧ car ≠ 31 then { x with deadPend := x.deadPend ++ [car] } else x
      bgAbandon w (setF (PLOT_SNS_STAT_no_spare w) 1 (slcPut w { x' with deadPend := x'.deadPend ++ x'.failPend, failPend := [] } s1))
    else if spareLost s1 w || !x.failPend.isEmpty then slcPut w { x with deadPend := x.deadPend ++ [k] } s1
    else bgAbandon w (slcPut w { x with failPend := [k] } s1)
  raise 4 (winDetail w k 0) s2
/-- R286, R288, R289. -/
def execSliceFail (dt w k : Nat) (trim : Bool) (s : State) : Host.Outcome State Fault Refusal :=
  run s dt (fun t =>
    if domOn t (winDomain w) && !fb t (PLOT_SLC_STAT_failed w k) &&
        (if trim then (slcOf t w).bgOn == some k && !(slcOf t w).bgDone && trimEnd (f t (PLOT_SLC_TRIM_otrim w k)) (f t (PLOT_SLC_TRIM_gtrim w k)) else (slcOf t w).two.contains k) then sliceFail w k trim t
    else t)
/-- What a frame boundary does to the slices of a window (R286 to R289, R303). -/
def sliceBoundary (w : Nat) (s : State) : State :=
  let x := slcOf s w
  let s1 := match x.bgOn, x.bgDone with
    | some k, true =>
      let t := setF (PLOT_SNS_STAT_bg_active w) 0 (role w k (if k = spareOf w then 2 else 0) s)
      if f t (PLOT_SLC_STAT_carries w (spareOf w)) = k then spareFree w t else t
    | _, _ => s
  let s2 := forEach x.failPend (fun k t => setF (PLOT_SNS_STAT_no_spare w) 1 (spareCarry w k t)) s1
  slcPut w { x with
    refCal := x.refNext.getD x.refCal, refNext := none, failPend := [], deadPend := [], dead := x.dead ++ x.deadPend
    blank := x.failPend, bgOn := if x.bgDone then none else x.bgOn, bgDone := false } s2
/-- The slice whose turn comes next: failed slices have none. -/
def bgPick (s : State) (w : Nat) : Nat :=
  let n := winSlices w
  let b := (slcOf s w).bgNext
  (((List.range n).map (fun i => (b + i) % n)).find? (fun k => !fb s (PLOT_SLC_STAT_failed w k))).getD (b % n)
/-- Length of a frame (R192, R197). -/
def frameLen (s : State) : Nat := if devState s = 2 then 10000000 else 500000
/-- A background calibration turn begins at a frame boundary (R287, R288). -/
def bgTurn (w : Nat) (s : State) : State :=
  let x := slcOf s w
  let k := bgPick s w
  let due := x.bgAt + f s (PLOT_SNS_CTRL_bg_period_ms w) * ms
  let at_ := (max s.clk.now due + (frameLen s - 1)) / frameLen s * frameLen s
  let quick := (List.range (winSensors w)).any (fun i => sliceOf w i == k && chanQuick s w i)
  if !fb s (PLOT_SNS_CTRL_bg_en w) || spareLost s w || x.bgOn.isSome || !x.failPend.isEmpty || (quick && k != spareOf w) then s
  else
    let u := setF (PLOT_SNS_STAT_bg_slice w) k (setF (PLOT_SNS_STAT_bg_active w) 1 (role w k 1
      (slcPut w { x with bgOn := some k, bgDone := false, bgNext := (k + 1) % winSlices w, bgAt := at_ } (elapseTo s at_))))
    if k = spareOf w then u else spareCarry w k u
/-- R287, R288. -/
def execBgCalTurn (dt w : Nat) (s : State) : Host.Outcome State Fault Refusal :=
  run s dt (fun t => if domOn t (winDomain w) then bgTurn w t else t)
/-- The slice of a turn ends its adjustment with its trims and its last reference readings (R286, R287): both within 1 raw code of
the calibrated values in at most 1 ms, it takes its channels back at the next frame boundary; a trim at its limit fails it. -/
def bgDoneNote (w k otrim gtrim low high : Nat) (s : State) : State :=
  let c := (slcOf s w).refCal.getD k (low, high)
  let near := decide (((low : Int) - c.1).natAbs ≤ 1) && decide (((high : Int) - c.2).natAbs ≤ 1)
  let put (t : State) : State := setF (PLOT_SLC_TRIM_gtrim w k) gtrim (setF (PLOT_SLC_TRIM_otrim w k) otrim
    (setF (PLOT_SLC_REF_ref_high w k) high (setF (PLOT_SLC_REF_ref_zero w k) low (incBy (PLOT_SLC_CNT_CONV_count w k) 2 t))))
  if (slcOf s w).bgAt + ms < s.clk.now then s
  else if trimEnd otrim gtrim then sliceFail w k true (put s)
  else if near then bgAbandon w (put s)
  else s
/-- R286, R287, R303. -/
def execBgCalDone (dt w : Nat) (trims refs : Nat × Nat) (s : State) : Host.Outcome State Fault Refusal :=
  run s dt (fun t =>
    match (slcOf t w).bgOn with
    | some k => if domOn t (winDomain w) && !(slcOf t w).bgDone then bgDoneNote w k trims.1 trims.2 (refs.1 % 16384) (refs.2 % 16384) t else t
    | none => t)

/-! ### Electrodes -/

/-- Replace the newest `n` samples of a channel, those still waiting for conversion among them, by the one before them (R291). -/
def dropSamples (w i n : Nat) (s : State) : State :=
  let k := carrierOf s w (sliceOf w i)
  let q := convOf s w k
  let x := snsOf s w i
  let mine (c : Conv) (cls : Nat) : Bool := c.cls == cls && c.chan == i
  let v (cls : Nat) (l : List (Nat × Int)) : Int :=
    let all := (q.wait.filter (fun c => mine c cls)).reverse.map (·.val) ++ l.map (·.2)
    all.getD n (all.getLastD 0)
  let fix (cls : Nat) (l : List (Nat × Int)) : List (Nat × Int) :=
    l.mapIdx (fun j e => if j + (q.wait.filter (fun c => mine c cls)).length < n then (e.1, v cls l) else e)
  let wait' := q.wait.map (fun c => if mine c 2 then { c with val := v 2 x.smp } else if mine c 1 then { c with val := v 1 x.qs } else c)
  convPut w k { q with wait := wait' } (snsPut w i { x with smp := fix 2 x.smp, qs := fix 1 x.qs } s)
/-- Do an electrode's last four integrator resets all find a departure (R290)? Each gives a bias current in per cent of its
calibrated value and what a hold cell reads after it, the last reset first: 1 for the bias current, 2 for a hold cell, 0 for
neither. -/
def electrodeKind (bias cells : List Nat) : Nat :=
  if 4 ≤ bias.length ∧ (bias.take 4).all (fun c => decide (c < 50) || decide (200 < c)) then 1
  else if 4 ≤ cells.length ∧ (cells.take 4).all (fun c => decide (1024 < c)) then 2 else 0
/-- Record an electrode failure and raise FS_SENSOR (R291, R292). -/
def sensorFault (w i kind : Nat) (s : State) : State :=
  raise 3 (winDetail w i kind) (setF (PLOT_SNS_FAIL_kind w) kind (setF (PLOT_SNS_FAIL_chan w) i s))
/-- A main electrode fails (R291). Four resets end the windows of four samples, of which the last three were taken since the first
failing check (DEDUCED, log 76); a channel already on its reserve took none of them from it. -/
def electrodeFail (w i kind : Nat) (s : State) : State :=
  if kind = 0 || !fb s (PLOT_SNS_CFG_fdet_en w i) || fb s (PLOT_SNS_STAT_failed w i) then s
  else
    let s1 := if onReserve s w i then s else dropSamples w i 3 (runConv w s)
    let s2 := setF (PLOT_SNS_CFG_reserve w i) 1 (setF (PLOT_SNS_STAT_failed w i) 1 s1)
    let pend := if onReserve s w i then none else some s2.clk.now
    sensorFault w i kind { s2 with rsvPend := amSet (fun _ => none) s2.rsvPend (wKey w i) pend }
/-- R290, R291: an integrator reset of the main electrode, with what the resets before it measured. -/
def execElectrodeFail (dt w i : Nat) (bias cells : List Nat) (s : State) : Host.Outcome State Fault Refusal :=
  run s dt (fun t => if domOn t (winDomain w) then electrodeFail w i (electrodeKind bias cells) t else t)
/-- R290, R292: an integrator reset of the reserve electrode in use. -/
def execReserveElectrodeFail (dt w : Nat) (e : Nat × List Nat × List Nat) (s : State) : Host.Outcome State Fault Refusal :=
  let i := e.1
  run s dt (fun t =>
    if domOn t (winDomain w) && onReserve t w i && (snsOf t w i).rfail.isNone && fb t (PLOT_SNS_CFG_fdet_en w i) &&
        electrodeKind e.2.1 e.2.2 != 0 then
      sensorFault w i 3 (setF (PLOT_SNS_STAT_reserve_failed w i) 1 (snsPut w i { snsOf t w i with rfail := some t.clk.now } t))
    else t)

end Sys2Proof.Machine
end

