-- ==== Sys2Proof/Machine/Demand.lean ====
section
/-! DEFINITION. Temperature demands (R357 to R359): the pending set, the order of conversions, and a demand's count. -/
namespace Sys2Proof.Machine
open Sys2Proof.Config

/-- The pending set, bit i for site i (R359). -/
def demPend (s : State) : Nat := f s GOV_PEND_LO_sites + 2 ^ 32 * f s GOV_PEND_HI_sites
/-- Store it. -/
def putPend (p : Nat) (s : State) : State := setF GOV_PEND_HI_sites (p / 2 ^ 32) (setF GOV_PEND_LO_sites p s)
/-- The site converted next: ascending from the site after the last, wrapping. -/
def nextSite (s : State) : Option Nat :=
  ((List.range 48).map (fun k => (s.lastSite + 1 + k) % 48)).find? (fun i => (demPend s).testBit i)
/-- Begin the next conversion, if a site is pending and none is under way. -/
def convStart (s : State) : State :=
  match s.convSite, nextSite s with
  | none, some i => { putPend (demPend s ^^^ 2 ^ i) s with convSite := some i, lastSite := i, convAt := s.clk.now }
  | _, _ => s
/-- A demand of a source (Table 11-2): 0 host, 1 firmware, 2 timer, 3 commit path. -/
def demandSites (src mask : Nat) (s : State) : State :=
  convStart (inc (GOV_CNT_DEM_count src) (putPend (demPend s ||| mask % 2 ^ 48) s))
end Sys2Proof.Machine
end

