-- ==== Sys2Proof/Machine/Solver.lean ====
section
/-! DEFINITION. From the tenant queues to the accepted list: the fair queue (R352), the scheduled list (R87), the solve
(R84 to R102, R540), acceptance (R121, R122, R138, R140), and the map commands (R106 to R108). -/
namespace Sys2Proof.Machine
open Sys2Proof.Config

/-! ### Tenant queues -/

/-- The later of two virtual times, modulo 2^48 (R352). -/
def vMax (a b : Nat) : Nat := if (b + 2 ^ 48 - a) % 2 ^ 48 < 2 ^ 47 then b else a

/-- The finish time of a sheaf that becomes the head of its tenant's queue (R352). -/
def headFinish (s : State) (t : Nat) (sh : Sheaf) : Nat :=
  (vMax s.vtime (ctr s.lastFin t) + max 1 sh.ops.length * 65536 / f s (REQ_T_CFG_weight t)) % 2 ^ 48

/-- Replace a tenant's queue; a sheaf that becomes its head receives its finish time. -/
def queueSet (t : Nat) (q : List Sheaf) (s : State) : State :=
  match q with
  | [] => queuePut t [] s
  | h :: l =>
    if (queueOf s t).head?.map (·.uid) = some h.uid then queuePut t q s
    else queuePut t ({ h with finish := headFinish s t h } :: l) s

/-- Does some earlier sheaf of the tenant neither stand committed nor refused (R135)? -/
def earlierOpen (s : State) (sh : Sheaf) : Bool :=
  let older (x : Sheaf) : Bool := x.tenant == sh.tenant && decide (x.uid < sh.uid)
  s.sched.any older || s.ready.any older || (match s.solving with | some v => older v.sheaf | none => false) ||
    s.accepted.any (fun a => older a.sheaf) ||
    (match s.commit with | some c => c.plan.members.any (fun a => older a.sheaf) | none => false)
/-- Is some earlier fenced sheaf of the tenant not yet solved (Table 4-4)? -/
def fencedAhead (s : State) (sh : Sheaf) : Bool :=
  let before (x : Sheaf) : Bool := x.fence && x.tenant == sh.tenant && decide (x.uid < sh.uid)
  s.sched.any before || s.ready.any before || (match s.solving with | some v => before v.sheaf | none => false)
/-- Does a head wait: under its own FENCE, or behind a fenced sheaf (R135, Table 4-4)? -/
def fenceWait (s : State) (sh : Sheaf) : Bool := (sh.fence && earlierOpen s sh) || fencedAhead s sh

/-- The head the fair queue takes: the least finish time, then the lower tenant, among the heads not waiting. -/
def fairPick (s : State) : Option (Nat × Sheaf) :=
  let d (sh : Sheaf) : Nat := (sh.finish + 2 ^ 48 + 2 ^ 47 - s.vtime) % 2 ^ 48
  (s.queues.filterMap (fun e => match e.2 with
      | h :: _ => if fenceWait s h then none else some (e.1, h)
      | [] => none)).foldl
    (fun b e => match b with | none => some e | some x => if d e.2 < d x.2 then some e else b) none

/-! ### Acceptance -/

/-- Finish a sheaf without a solve (R85): lateness is checked, then it is answered. -/
def acceptEmpty (fw : Bool) (sh : Sheaf) (s : State) : State :=
  let k0 := tickAtOrAfter (s.clk.now + 2000)
  let late := match sh.at_ with | some a => decide (firstTick s a.tb a.inst < k0) | none => false
  let s1 := if late then inc CMT_CNT_PAST_count s else s
  if late && sh.strict then refuseSheaf 0x06 0 fw sh s1
  else sheafRsp sh { reason := 0, fw := fw, late := late } [] [] s1

/-- The deferral predicted for a sheaf, in ns; none when it has no end (R141). -/
def predicted (s : State) (unshaped : Nat) : Option Nat :=
  match readyTick s (shNow s - ((s.accepted.map (fun a => a.est)).sum : Nat)) with
  | some k => some ((k - unshaped) * 20)
  | none => none

/-- The refusal of R138 and R122 for a solved sheaf, 0 none. -/
def acceptReason (s : State) (a : Accepted) : Nat :=
  if a.late && a.sheaf.strict then 0x06
  else if !calActive s then 0x07
  else if f s CMT_CTRL_thr_refuse ≤ f s GOV_STEP_step ∧ 0 < a.est then 0x0E
  else if burstE s < a.est then 0x07
  else if a.sheaf.maxDefer = 0xFFFFFFFF then 0
  else match predicted s a.unshaped with
    | some d => if a.sheaf.maxDefer < d then 0x07 else 0
    | none => 0x07

/-- The record of a solved sheaf (R118, R121, R137). -/
def acceptedOf (s : State) (sh : Sheaf) (fw : Bool) (w : Work) (moved : List Moved) : Accepted :=
  let k0 := tickAtOrAfter (s.clk.now + 2000)
  let k := match sh.at_ with | some a => firstTick s a.tb a.inst | none => k0
  let a : Accepted := {
    sheaf := sh, tick := max k k0, unshaped := 0, est := if calActive s then estCost s s.projected w.map w.added else 0
    late := decide (k < k0), fw := fw, moved := moved
    movedC := w.map.circs.filter (fun c => moved.any (fun v => v.out == c.out)), added := w.map.circs.filter (fun c => w.added.contains c.out)
    removed := w.removed, accAt := s.clk.now }
  { a with unshaped := (acceptedTicks s (s.accepted ++ [a])).getLastD (max k k0) }

/-- What a refusal at acceptance counts. -/
def countRefusal (reason : Nat) (s : State) : State :=
  if reason = 0x07 then inc CMT_CNT_ENERGY_count s else if reason = 0x0E then inc CMT_CNT_THROTTLED_count s else s

/-- A solved sheaf is accepted into the projected map, or refused (R121, R122, R138); a parked cell it binds leaves cold
park (R375), and a costly sheaf demands temperatures (R358). -/
def acceptSheaf (sh : Sheaf) (fw : Bool) (w : Work) (moved : List Moved) (s : State) : State :=
  let a := acceptedOf s sh fw w moved
  let s1 := if a.late then inc CMT_CNT_PAST_count s else s
  let r := acceptReason s a
  if r ≠ 0 then refuseSheaf r 0 fw sh (countRefusal r s1)
  else
    let s2 := unparkBound w.map { s1 with projected := w.map, accepted := s1.accepted ++ [a] }
    let s3 := incBy CMT_CNT_MOVED_count moved.length s2
    if f s GOV_ECHK_energy * 10000 < a.est then
      demandSites 3 (f s GOV_ECHK_SITES_LO_sites + 2 ^ 32 * f s GOV_ECHK_SITES_HI_sites) s3
    else s3

/-! ### The solver -/

/-- A sheaf reaches the solver (R85, R91, R102); one that reaches it while a rotation operates is refused when its solve
ends (R90, R177). -/
def toSolver (sh : Sheaf) (s : State) : State :=
  if sh.ops.isEmpty then acceptEmpty false sh s
  else { s with solving := some { sheaf := sh, fw := !fb s CMT_SOLVE_CTRL_hw_en, since := s.clk.now,
                                  dead := if s.rot.isSome then 0x04 else 0 } }

/-- The software solver has stopped: it solves, and no core holds the supervisor lease (R412). -/
def swStopped (s : State) : Bool := !fb s CMT_SOLVE_CTRL_hw_en && fb s FLT_SUP_STAT_no_holder

/-- The next sheaf released from the scheduled list goes to the solver when it is free (R87) and takes sheaves (R412). -/
def solverNext : Nat → State → State
  | 0, s => s
  | n + 1, s =>
    if s.solving.isSome || swStopped s then s
    else match s.ready with
      | [] => s
      | sh :: l => solverNext n (toSolver sh { s with ready := l })

/-- Marks of yielding tenants (R96). -/
def yields (s : State) (t : Nat) : Bool := fb s (REQ_T_CFG_yield_moves t)

/-- The outcome of the solve of a sheaf against the projected map (R84). -/
def solveOf (s : State) (sh : Sheaf) : Solved := solve s.popMode (f s CMT_SOLVE_CTRL_inc_limit) (yields s) s.projected sh

/-- A sheaf refused at the solve stage. -/
def solveRefuse (reason index : Nat) (fw : Bool) (sh : Sheaf) (s : State) : State :=
  refuseSheaf reason index fw sh (setF CMT_SOLVE_STAT_last_reason reason s)

/-- The solve of a sheaf has ended (R84, R90, R96, R177, R348). DESIGN CHOICE (log 74): CMT_CNT_INC counts the circuits of a
solve that placed them incrementally whether or not the sheaf is then accepted, CMT_CNT_FULL every full solve whose outcome
stands, refused or not. -/
def solveEnd (v : Solving) (s : State) : State :=
  let s0 := { s with solving := none }
  let fin (t : State) : State := solverNext (t.ready.length + 1) t
  if v.dead ≠ 0 then fin (solveRefuse v.dead 0 v.fw v.sheaf s0)
  else if s.rot.isSome then fin (solveRefuse 0x04 0 v.fw v.sheaf s0)
  else match solveOf s v.sheaf with
    | .refused r k =>
      let s1 := if r = 0x05 then inc CMT_CNT_NEEDS_MOVE_count (inc CMT_CNT_FULL_count s0) else s0
      fin (solveRefuse r k v.fw v.sheaf s1)
    | .ok w moved incs full =>
      let s1 := acceptSheaf v.sheaf v.fw w moved s0
      fin (incBy CMT_CNT_INC_count incs (if full then inc CMT_CNT_FULL_count s1 else s1))

/-- The hardware solver fails (R100): the firmware solves the sheaf and every later one. -/
def hwFail (x : Fld) (v : Solving) (s : State) : State :=
  raise 13 0 (setF x 1 (setF CMT_SOLVE_STAT_hw_fail 1 (setF CMT_SOLVE_CTRL_hw_en 0
    { s with solving := some { v with fw := true, since := s.clk.now } })))

/-- R84, R98, R100: the hardware solve ends; `fault` says what the checks of its result find. A result that comes after the
watchdog's limit is discarded. DESIGN CHOICE (log 74): `tmax_ns` takes whole nanoseconds, rounded down. -/
def execSolveComplete (dt fault : Nat) (s : State) : Host.Outcome State Fault Refusal :=
  run s dt (fun t =>
    match t.solving with
    | some v =>
      if v.fw || !domOn t 20 then t
      else if v.since + 12 * us < t.clk.now then hwFail CMT_SOLVE_STAT_fail_timeout v t
      else if fault = 1 then hwFail CMT_SOLVE_STAT_fail_mismatch v t
      else if fault = 2 then hwFail CMT_SOLVE_STAT_fail_parity v t
      else setMax CMT_SOLVE_TMAX_tmax_ns ((t.clk.now - v.since) / 10) (solveEnd v t)
    | none => t)

/-- R100: the watchdog of 12 us expires. -/
def execSolveWatchdog (dt : Nat) (s : State) : Host.Outcome State Fault Refusal :=
  run s dt (fun t =>
    match t.solving with
    | some v => if v.fw || !domOn t 20 then t else hwFail CMT_SOLVE_STAT_fail_timeout v (elapseTo t (v.since + 12 * us))
    | none => t)

/-- R101, R412: the firmware finishes a sheaf; a result that fails the verifier check refuses it. DESIGN CHOICE (log 74): a
full solve whose result is discarded (R100, R101, R540) does not count in CMT_CNT_FULL. -/
def execFwSolveComplete (dt : Nat) (mismatch : Bool) (s : State) : Host.Outcome State Fault Refusal :=
  run s dt (fun t =>
    match t.solving with
    | some v =>
      if !v.fw || !domOn t 20 || fb t FLT_SUP_STAT_no_holder then t
      else if mismatch && v.dead == 0 && t.rot.isNone then
        let u := solveRefuse 0x0A 0 true v.sheaf { t with solving := none }
        solverNext (u.ready.length + 1) u
      else solveEnd v t
    | none => t)

/-- A write of CMT_SOLVE_CTRL (R93, R102). -/
def solveCtrlWrite (v : Nat) (s : State) : State :=
  setF CMT_SOLVE_CTRL_inc_limit (v / 16) (setF CMT_SOLVE_CTRL_hw_en v s)
/-- R102. -/
def execHwEnWrite (dt m v : Nat) (s : State) : Host.Outcome State Fault Refusal :=
  run s dt (regCmd m CMT_SOLVE_CTRL_hw_en.off (solveCtrlWrite v))

/-! ### The scheduled list and the fair queue -/

/-- A served sheaf carrying AT enters the scheduled list, or is refused (R87, R119). -/
def schedEnter (sh : Sheaf) (a : AtSpec) (s : State) : State :=
  if 1024 ≤ s.sched.length then refuseSheaf 0x08 0 false sh s
  else if !tbEnabled s a.tb ∨ sh.arrTb + 2 ^ 32 * nsUnit < a.inst then refuseSheaf 0x0C 0 false sh s
  else setMax CMT_SCHED_STAT_high_water (s.sched.length + 1) { s with sched := s.sched ++ [sh] }

/-- Serve heads until one reaches the solver or none is left (R352). -/
def fairServe : Nat → State → State
  | 0, s => s
  | n + 1, s =>
    match fairPick s with
    | none => s
    | some (t, sh) =>
      let s1 := { s with vtime := sh.finish, lastFin := ctrPut s.lastFin t sh.finish }
      let s2 := queueSet t ((queueOf s t).drop 1) s1
      match sh.at_ with
      | some a => fairServe n (schedEnter sh a s2)
      | none => toSolver sh s2

/-- Is a scheduled sheaf ready to leave the list (R87)? One whose base is no longer enabled is dealt with at once. -/
def schedReady (s : State) (sh : Sheaf) : Bool :=
  match sh.at_ with
  | some a => !tbEnabled s a.tb || decide (a.inst ≤ tbNow s a.tb + f s CMT_LEAD_lead_us * (1000 * nsUnit))
  | none => true

/-- The place of a scheduled sheaf among the ready ones: the tick of its instant (R87); one whose base is disabled is first. -/
def schedKey (s : State) (sh : Sheaf) : Int :=
  match sh.at_ with
  | some a => if tbEnabled s a.tb then tickOrder s a.tb a.inst else -(2 ^ 80)
  | none => -(2 ^ 80)
/-- The sheaf that leaves next: the earliest tick, then the order of entry (R87). -/
def schedPick (s : State) : Option Sheaf :=
  (s.sched.filter (schedReady s)).foldl
    (fun b e => match b with | none => some e | some x => if schedKey s e < schedKey s x then some e else b) none

/-- R352, R87, R412: a ready sheaf of the scheduled list goes first. -/
def execFairQueueSelect (dt : Nat) (s : State) : Host.Outcome State Fault Refusal :=
  run s dt (fun t =>
    if t.solving.isSome || !t.ready.isEmpty || (schedPick t).isSome || !domOn t 20 || !domOn t 21 || swStopped t then t
    else fairServe ((t.queues.map (fun e => e.2.length)).sum) t)

/-- R87, R117, R119: a sheaf leaves the scheduled list for the solver; with none ready, one that left it before and waits
is taken once the solver takes sheaves again (R412). -/
def execScheduledRelease (dt : Nat) (s : State) : Host.Outcome State Fault Refusal :=
  run s dt (fun t =>
    if domOn t 20 then
      match schedPick t with
      | some sh =>
        let u := { t with sched := t.sched.filter (fun x => x.uid != sh.uid) }
        if (match sh.at_ with | some a => tbEnabled t a.tb | none => true) then
          solverNext (u.ready.length + 2) { u with ready := u.ready ++ [sh] }
        else refuseSheaf 0x0C 0 false sh u
      | none => solverNext (t.ready.length + 1) t
    else t)

/-! ### Map commands -/

/-- The result of a validation, noted (Table 3-21). -/
def mapResult (n : Nat) (v : MapCheck) (s : State) : State :=
  setF CMT_MAP_STAT_busy 0 (setF CMT_MAP_STAT_map n (setF CMT_MAP_STAT_result v.code s))

/-- Validate a stored map (R106). -/
def mapValidate (n : Nat) (s : State) : State :=
  let v := validateMap s n
  setF CMT_MAP_GEN_generation v.gen (mapResult n v (validateNote n s))

/-- Write the present map into map `n` and validate it (R107). -/
def mapCopy (n : Nat) (s : State) : State :=
  let g := captureGen s n
  let s1 := writeTile (mapAddr n 1) (captureTile1 s n g) (writeTile (mapAddr n 0) (captureTile0 s n g) (validateNote n s))
  setF CMT_MAP_GEN_generation g (mapResult n (validateMap s1 n) (validateNote n { s1 with captureWait := none }))

/-- A write of CMT_MAP_CMD (Table 3-20). -/
def mapCmd (v : Nat) (s : State) : State :=
  let s1 := setF CMT_MAP_CMD_op (v / 4096) (setF CMT_MAP_CMD_map v s)
  if v / 2 ^ 31 % 2 = 0 ∨ fb s CMT_MAP_STAT_busy then s1
  else match v / 4096 % 16 with
    | 1 => setF CMT_MAP_STAT_busy 1 (setF CMT_MAP_STAT_map v { s1 with captureWait := some (v % 4096) })
    | 2 => mapValidate (v % 4096) s1
    | _ => s1

/-- R107, R108. -/
def execMapCapture (dt m n : Nat) (s : State) : Host.Outcome State Fault Refusal :=
  run s dt (regCmd m CMT_MAP_CMD_op.off (mapCmd (2 ^ 31 + 4096 + n % 4096)))
/-- R106. -/
def execMapValidate (dt m n : Nat) (s : State) : Host.Outcome State Fault Refusal :=
  run s dt (regCmd m CMT_MAP_CMD_op.off (mapCmd (2 ^ 31 + 8192 + n % 4096)))
/-- A waiting capture copies the present map (R107, R108). -/
def captureNow (s : State) : State := match s.captureWait with | some n => mapCopy n s | none => s
/-- R107, R108: the copy waits while a commit is in progress. -/
def execMapCaptureCopy (dt : Nat) (s : State) : Host.Outcome State Fault Refusal :=
  run s dt (fun t => if t.commit.isNone && domOn t 20 then captureNow t else t)

end Sys2Proof.Machine
end

