-- ==== Sys2Proof/Machine/CommitSeq.lean ====
section
/-! DEFINITION. Commits from the close of the membership to completion (R110 to R144): the close and the pre-check, the
tick and its energy, the phases of Table 4-1, verification, responses, and the late check of unseen circuits. -/
namespace Sys2Proof.Machine
open Sys2Proof.Config

/-! ### Close of the membership -/

/-- An output at which the pre-check of R126 fails: its circuit's input does not reach it, or its holder does not own
both ports. -/
def preCheckFail (s : State) (m : MapSt) : Option Nat :=
  (m.circs.find? (fun c => reaches m c.inp != c.out || !ownsIn s c.holder c.inp || !ownsOut s c.holder c.out)).map (·.out)
/-- The pre-check fails: no commit, every uncommitted sheaf is refused, FS_VERIFY is raised (R127). -/
def preCheckRefuse (out : Nat) (s : State) : State := raise 12 (out + 512) (refuseAccepted 0x0A s)
/-- The commit that the head of the accepted list forms (R123): its planned tick and its members. -/
def formCommit (s : State) : Option (Nat × List Accepted) :=
  match s.accepted with
  | [] => none
  | a :: l =>
    let t := headTick s.lastT0 a
    some (t, a :: l.take (joinCount (fb s CMT_CTRL_coalesce) (burstE s) t (closeAt t) a.est l))
/-- The plan of a membership against the present map (R133). -/
def sheafPlan (s : State) (tick : Nat) (ms : List Accepted) : CommitPlan :=
  mkPlan s ms none false tick (applyAll s.present ms)
/-- Close a planned membership: the pre-check decides (R126, R127). -/
def closePlan (p : CommitPlan) (s : State) : State :=
  match preCheckFail s p.after with
  | some o => preCheckRefuse o s
  | none => closeMarks p { s with closed := some p }
/-- The membership of the next commit closes 200 ns before its planned tick (R123). -/
def membershipClose (s : State) : State :=
  match formCommit s with
  | none => s
  | some (t, ms) =>
    if s.closed.isSome || s.commit.isSome || inSafe s || !domOn s 20 then s
    else
      let u := elapseTo s (closeAt t)
      closePlan (sheafPlan u t ms) u
/-- R123, R126, R127, R244, R313. -/
def execMembershipClose (dt : Nat) (s : State) : Host.Outcome State Fault Refusal := run s dt membershipClose

/-! ### The tick -/

/-- The latest normal conversion of a headland sensor (R128, R131). -/
def normReading (s : State) (w i : Nat) : Nat := ((snsOf s w i).smp.head?.map (·.2.toNat)).getD 0
/-- The input readings of a circuit in both planes. -/
def inReadings (s : State) (c : Circuit) : Nat × Nat := (normReading s 16 c.inp, normReading s 16 (256 + c.inp))
/-- t0 of a commit (Table 4-1): it is charged, the points are fixed on the codes held (R114), the open affected gates play
their dark waveforms, and the clock base times of the tick are taken (R116). -/
def fireCommit (p : CommitPlan) (tick : Nat) (s : State) : State :=
  let s1 := setF CMT_EBKT_LAST_cost (openDiv p.cost 10000) (shCharge p.cost (captureNow (runConv 16 s)))
  let times := (List.range 4).map (fun b => tickTime s1 b tick)
  let waves := p.waves.map (fun r => ({ r with cEnd := some (r.cEnd.getD (heldCode s1 r.win r.slot r.st)) } : WaveRead))
  let opened := p.affected.filter (fun o => s1.gateOpen.getLsbD o)
  let c : Commit := { plan := { p with waves := waves }, t0 := tick, phase := .fired, wasOpen := opened, times := times,
                      vers := [], inPow := p.changed.map (inReadings s1) }
  let s2 := forEach (waves.filter (fun r => r.win == 17 && !r.st && opened.contains (slotPort 17 r.slot))) playWave { s1 with
    commit := some c, closed := none, lastT0 := some tick, accepted := s1.accepted.drop p.members.length
    unseen := s1.unseen.filter (fun o => !p.affected.contains o) }
  forEach (onWindows s2) (trcEvent 1) (glnCommit p.affected times (forEach opened (fun o => setGate o false) s2))
/-- Deferral of a member at the tick of its commit, ns (R140). -/
def deferral (a : Accepted) (tick : Nat) : Nat := (tick - a.unshaped) * 20
/-- Does a member's deferral exceed its max_defer? -/
def deferLate (a : Accepted) (tick : Nat) : Bool :=
  decide (a.sheaf.maxDefer ≠ 0xFFFFFFFF) && decide (a.sheaf.maxDefer < deferral a tick)
/-- What deferrals count and raise (R140). -/
def noteDeferral (tick : Nat) (a : Accepted) (s : State) : State :=
  let s1 := setMax CMT_EBKT_DEFMAX_defer_ns (deferral a tick) s
  if deferLate a tick then raise 15 0 (inc CMT_EBKT_LATE_count s1) else s1
/-- A closed plan brought up to the present map, which a late removal (R131) may have changed since: its cost, its waveforms and its
configuration stay those of the close (R137, R145, R244). -/
def freshPlan (s : State) (p : CommitPlan) : CommitPlan :=
  if p.before = s.present then p
  else { (if p.dark then darkPlan s p.tick else sheafPlan s p.tick p.members) with
    waves := p.waves, cost := p.cost, ver := p.ver, rep := p.rep }
/-- The closed commit fires at the first tick at or after its planned tick at which the level is at or above zero (R139);
a stop dark never waits (R142). -/
def commitTick (s : State) : State :=
  match s.closed with
  | none => s
  | some p =>
    if s.commit.isSome || inSafe s || !domOn s 20 then s
    else
      let u := elapseTo s (p.tick * tickPeriod)
      match readyTick u (if p.dark then 0 else shNow u) with
      | none => s
      | some k =>
        let v := elapseTo u (k * tickPeriod)
        let p' := freshPlan v p
        match preCheckFail v p'.after with
        | some o => preCheckRefuse o v
        | none => forEach p.members (noteDeferral k) (fireCommit p' k v)
/-- R111, R124, R139, R140. -/
def execCommitTick (dt : Nat) (s : State) : Host.Outcome State Fault Refusal := run s dt commitTick

/-! ### After t0 -/

/-- Act on the commit in progress when it stands in a phase, at an offset after t0 in 100 ps (Table 4-1). -/
def atPhase (ph : Phase) (off : Nat) (g : Commit → State → State) (s : State) : State :=
  match s.commit with
  | some c => if c.phase = ph then g c (elapseTo s (c.t0 * tickPeriod + off)) else s
  | none => s
/-- R111, R113: routing waveforms start on every RT element whose cell changes. -/
def routingStart (c : Commit) (s : State) : State :=
  forEach (c.plan.waves.filter (fun r => decide (r.win < 16))) playWave { s with commit := some { c with phase := .routed } }
def execRoutingWaveformStart (dt : Nat) (s : State) : Host.Outcome State Fault Refusal :=
  run s dt (atPhase .fired 800 routingStart)

/-- Does a plane's input reading qualify (R128)? `cfg` is CMT_VER_CFG. -/
def qualifies (cfg : Word) (v : Nat) : Bool := atDb v 1 (26 + min 50 (fldOf cfg CMT_VER_CFG_plane_min))
/-- Does an output reading lie inside the window of an input reading (R128)? -/
def inWindow (cfg : Word) (v o : Nat) : Bool :=
  let loss := fldOf cfg CMT_VER_CFG_loss
  decide (v ^ 100 ≤ o ^ 100 * 10 ^ (loss + fldOf cfg CMT_VER_CFG_below)) &&
    decide (o ^ 100 * 10 ^ loss ≤ v ^ 100 * 10 ^ fldOf cfg CMT_VER_CFG_above)
/-- The outcome of Table 4-3, from the input and output readings of planes A and B. -/
def verdictOf (cfg : Word) (p o : Nat × Nat) : Verdict :=
  if !qualifies cfg p.1 && !qualifies cfg p.2 then .unseen
  else if (!qualifies cfg p.1 || inWindow cfg p.1 o.1) && (!qualifies cfg p.2 || inWindow cfg p.2 o.2) then .pass
  else .fail
/-- What the output headland sensors of a changed circuit show at the strobe: the powers its comparators latch, Q1.15 of +13 dBm,
and the raw codes of its urgent conversions, in planes A and B. -/
structure Strobe where
  latched : Nat × Nat
  codesA  : Nat × Nat
  codesB  : Nat × Nat
  deriving DecidableEq, Repr
/-- The strobe of a circuit that the operands do not list: dark. -/
def strobeOf (latched : List (Nat × Nat)) (urgent : List ((Nat × Nat) × (Nat × Nat))) (k : Nat) : Strobe :=
  let u := urgent.getD k ((0, 0), (0, 0))
  ⟨latched.getD k (0, 0), u.1, u.2⟩
/-- The verify record of a changed circuit (R129, R132, Table 4-15). -/
def verRecord (s : State) (cfg : Word) (p : Nat × Nat) (x : Strobe) (c : Circuit) : VerRec :=
  ⟨c.out, quarterDb (urgentVal s 17 c.out x.codesA), quarterDb (urgentVal s 17 (256 + c.out) x.codesB), verdictOf cfg p x.latched⟩
/-- Verify records of the changed circuits, in list order. -/
def verRecords (s : State) (cfg : Word) (inPow : List (Nat × Nat)) (st : Nat → Strobe) (l : List Circuit) : List VerRec :=
  l.mapIdx (fun k c => verRecord s cfg (inPow.getD k (0, 0)) (st k) c)
/-- The urgent conversions of a changed circuit's output sensors are requested (R132, R281). -/
def urgentBoth (o : Nat) (x : Strobe) (s : State) : State :=
  urgentOne 17 (256 + o) x.codesB (urgentOne 17 o x.codesA s)
/-- R129, R132, R113: comparators are latched, urgent conversions requested, quick mode begins; RT loops stand on the code of
the new state. -/
def verifyStrobe (latched : List (Nat × Nat)) (urgent : List ((Nat × Nat) × (Nat × Nat))) (c : Commit) (s : State) : State :=
  let s0 := runConv 17 s
  let st := strobeOf latched urgent
  let vers := verRecords s0 c.plan.ver c.inPow st c.plan.changed
  let s1 := forEach (c.plan.waves.filter (fun r => decide (r.win < 16)))
    (fun r t => loopPut r.win r.slot { loopOf t r.win r.slot with c := r.cEnd.getD 0 } t)
    { s0 with commit := some { c with phase := .strobed, vers := vers } }
  forEach (c.plan.changed.mapIdx (fun k x => (x.out, st k))) (fun e => urgentBoth e.1 e.2) (quickEnter c.t0 (quickElems c.plan) s1)
def execVerifyStrobe (dt : Nat) (latched : List (Nat × Nat)) (urgent : List ((Nat × Nat) × (Nat × Nat))) (s : State) : Host.Outcome State Fault Refusal :=
  run s dt (atPhase .routed 2800 (verifyStrobe latched urgent))

/-- A circuit that failed leaves what the commit in progress becomes, and the projected map if it still holds that same
circuit (R82). -/
def dropFailed (c : Circuit) (s : State) : State :=
  let s1 : State := { s with
    commit := s.commit.map (fun k => { k with plan := { k.plan with after := dropSame c k.plan.after } }) }
  if holdsCirc s.projected c then restartSolve { s1 with projected := dropSame c s1.projected } else s1
/-- One changed circuit's decision (R129, R130). -/
def decideOne (x : Circuit) (v : Verdict) (s : State) : State :=
  match v with
  | .pass => s
  | .unseen => inc CMT_CNT_UNSEEN_count s
  | .fail => telem x.holder 4 x.out x.inp 0 (inc CMT_CNT_VFAIL_count (dropFailed x s))
/-- R129, R130, R82, R540: the decision for every changed circuit. -/
def verifyDecision (c : Commit) (s : State) : State :=
  let s0 : State := { s with commit := some { c with phase := .decided } }
  let s1 := forEach (c.plan.changed.zip (c.vers.map (·.verdict))) (fun e => decideOne e.1 e.2) s0
  match c.vers.find? (fun v => v.verdict == .fail) with
  | some v => raise 12 v.out s1
  | none => s1
def execVerifyDecision (dt : Nat) (s : State) : Host.Outcome State Fault Refusal :=
  run s dt (atPhase .strobed 3400 verifyDecision)

/-- Outputs whose circuit passed or is unseen. -/
def passing (c : Commit) : List Nat := (c.vers.filter (fun v => v.verdict != .fail)).map (·.out)
/-- R111, R113: the gates of every passing circuit open; their loops start late on the quick grid (Table 6-5). -/
def gatesOpen (c : Commit) (s : State) : State :=
  let ok := passing c
  let s1 := forEach ok (fun o => setGate o true) { s with commit := some { c with phase := .opened } }
  forEach (c.plan.waves.filter (fun r => r.win == 17 && r.st && ok.contains (slotPort 17 r.slot)))
    (fun r t => let u := playWave r t
      loopPut 17 r.slot { loopOf u 17 r.slot with lateS := (loopOf u 17 r.slot).q0.isSome } u) s1
def execGateOpen (dt : Nat) (s : State) : Host.Outcome State Fault Refusal :=
  run s dt (atPhase .decided 3600 gatesOpen)

/-! ### Completion -/

/-- Verify records of a member: every changed circuit it added or moved. -/
def memberVers (c : Commit) (a : Accepted) : List VerRec :=
  c.vers.filter (fun v => a.added.any (fun x => x.out == v.out) || a.moved.any (fun x => x.out == v.out))
/-- Did a circuit that the member added fail? -/
def memberFailed (c : Commit) (a : Accepted) : Bool :=
  c.vers.any (fun v => v.verdict == .fail && a.added.any (fun x => x.out == v.out &&
    c.plan.changed.any (fun y => y.out == v.out && y.inp == x.inp)))
/-- A member's response (R120, R130, R140). -/
def memberRsp (c : Commit) (rep seq : Nat) (a : Accepted) : RspInfo :=
  { reason := if memberFailed c a then 0x0A else 0, committed := true, late := a.late, deferLate := deferLate a c.t0,
    fw := a.fw, time := c.times.getD (match a.sheaf.at_ with | some x => x.tb | none => rep) 0, cseq := seq }
/-- A member is answered, and the holders of the circuits it moved are told (R95). -/
def answerMember (c : Commit) (rep seq : Nat) (a : Accepted) (s : State) : State :=
  forEach a.moved (fun v t =>
      match onOut c.plan.before v.out with
      | some x => telem x.holder 1 v.out v.old v.new t
      | none => match onOut c.plan.after v.out with | some x => telem x.holder 1 v.out v.old v.new t | none => t)
    (sheafRsp a.sheaf (memberRsp c rep seq a) a.moved (memberVers c a) s)
/-- The registers of the last commit change together (R145). -/
def lastCommit (c : Commit) (s : State) : State :=
  let s1 := putTime CMT_LAST_T0_F_frac_ns CMT_LAST_T0_NS_ns CMT_LAST_T0_SL_sec_low CMT_LAST_T0_SH_sec_high
    (c.times.getD c.plan.rep 0) s
  let s2 := setB CMT_LAST_INFO_vfail (c.vers.any (fun v => v.verdict == .fail))
    (setF CMT_LAST_INFO_changed c.plan.changed.length (setF CMT_LAST_INFO_members c.plan.members.length
      (inc CMT_LAST_SEQ_seq s1)))
  forEach (List.range 256) (fun i t =>
    match c.vers[i]? with
    | some v => setF (CMT_VER_LAST_out_b i) v.outB (setF (CMT_VER_LAST_out_a i) v.outA
        (setF (CMT_VER_LAST_outcome i) (match v.verdict with | .pass => 0 | .unseen => 1 | .fail => 2)
          (setF (CMT_VER_LAST_output i) v.out t)))
    | none => setRaw t (CMT_VER_LAST_output i).off 0x300) s2
/-- What a commit counts. -/
def countCommit (c : Commit) (s : State) : State :=
  if c.plan.rot.isSome then inc CMT_CNT_ROT_COMMITS_count s
  else incBy CMT_CNT_COALESCED_count (c.plan.members.length - 1) (inc CMT_CNT_COMMITS_count s)
/-- Holders of circuits that a rotation's commit released are told (R178). -/
def tellReleased (c : Commit) (s : State) : State :=
  if c.plan.rot.isSome && !c.plan.dark then
    forEach (c.plan.before.circs.filter (fun x => !x.byRot && !holdsCirc c.plan.after x))
      (fun x => telem x.holder 2 x.out x.inp 0) s
  else s
/-- The projected map follows the present map in the cells that no circuit it alone holds binds (R78; DEDUCED, log 78): a solve in
progress starts again when that changes it (R540). -/
def syncProjected (s : State) : State :=
  let m : MapSt := { s.projected with
    cells := (s.projected.circs.filter (fun c => !holdsCirc s.present c)).foldl (fun u c => bindPath u (circPath c)) s.present.cells }
  if m = s.projected then s else { restartSolve s with projected := m }
/-- A commit's outputs get their sensors' own bands back (R284). -/
def bandsBack (c : Commit) (s : State) : State :=
  forEach c.plan.changed (fun x t => bandJudge 17 (256 + x.out) (bandJudge 17 x.out t)) s
/-- R111: the commit completes. A safe state entered meanwhile takes hold now (R143), and circuits placed by a rotation
that stopped meanwhile pass to their tenants (R187). -/
def commitComplete (c : Commit) (s : State) : State :=
  let unseen' := (c.vers.filter (fun v => v.verdict == .unseen)).map (·.out)
  let s1 := bandsBack c (reportOuts s (syncProjected { s with commit := none, present := c.plan.after, unseen := s.unseen ++ unseen' }))
  let s2 := countCommit c (lastCommit c s1)
  let s3 := tellReleased c (forEach c.plan.members (answerMember c c.plan.rep (f s2 CMT_LAST_SEQ_seq)) s2)
  let s4 := if c.plan.rot.isSome && s3.rot.isNone then passCircuits s3 else s3
  if inSafe s4 then onlyIf (fb s4 FLT_STAT_dark_active) goDark (freezeLoops s4) else s4
def execCommitComplete (dt : Nat) (s : State) : Host.Outcome State Fault Refusal :=
  run s dt (atPhase .opened 5000 commitComplete)

/-! ### Unseen circuits, burst -/

/-- Drive one output's gates dark outside a commit (R131). -/
def gateDark (o : Nat) (s : State) : State :=
  setGate o false (forEach ((gateSlots o).map (fun sl => readWave s 17 sl false)) playWave s)
/-- The late check of an unseen circuit whose plane now qualifies (R131): the windows of its input readings are applied to the normal
conversions of its output headland sensors. -/
def unseenLate (o : Nat) (s : State) : State :=
  match onOut s.present o with
  | none => s
  | some c =>
    let u := runConv 17 (runConv 16 s)
    let cfg := rd u CMT_VER_CFG_plane_min.off
    let p := inReadings u c
    if !u.unseen.contains o || (!qualifies cfg p.1 && !qualifies cfg p.2) || !domOn u 20 then s
    else
      let s1 : State := { u with unseen := u.unseen.filter (· != o) }
      if verdictOf cfg p (normReading u 17 o, normReading u 17 (256 + o)) = .pass then s1
      else reportOuts s (raise 12 (o + 256) (telem c.holder 4 o c.inp 1 (inc CMT_CNT_VFAIL_count
        (dropFailed c { gateDark o s1 with present := dropSame c s1.present }))))
/-- R131. -/
def execUnseenLateVerify (dt o : Nat) (_ _ : Unit) (s : State) : Host.Outcome State Fault Refusal := run s dt (unseenLate o)

/-- R141, R146: a write of CMT_EBKT_BURST. -/
def execBurstWrite (dt m v : Nat) (s : State) : Host.Outcome State Fault Refusal :=
  run s dt (regCmd m CMT_EBKT_BURST_burst.off (setBurst v))

end Sys2Proof.Machine
end

