-- ==== Sys2Proof/Machine/Rotation.lean ====
section
/-! DEFINITION. Rotations in operation: the commands of ROT_CMD (Table 5-14), the first commit (R178), slot boundaries
(R179 to R181), suspension and resumption (R183 to R185), and stops at their boundaries (R186). -/
namespace Sys2Proof.Machine
open Sys2Proof.Config

/-! ### Commands -/

/-- Run a command of table `t` (R171 to R186): its code stands in ROT_RESULT. -/
def rotRun (t op : Nat) (s : State) : State :=
  match op with
  | 1 => rotResult (armCheck s t (loaderOf s t 1)) (armTable t (loaderOf s t 1) s)
  | 2 => rotResult { code := startCode s t } (startTable t s)
  | 3 => rotResult { code := stopCode s t } (stopTable t false s)
  | 4 => rotResult { code := stopCode s t } (stopTable t true s)
  | 5 => rotResult { code := discardCode s t } (discardTable t s)
  | _ => s
/-- A write of ROT_CMD. -/
def rotCmd (v : Nat) (s : State) : State :=
  let s1 := setF ROT_CMD_op (v / 16) (setF ROT_CMD_table v s)
  if v / 2 ^ 31 % 2 = 1 then rotRun (v % 16) (v / 16 % 16) s1 else s1
/-- A write of ROT_CMD with `go` by a master. -/
def rotMaster (m op t : Nat) : State → State := regCmd m ROT_CMD_op.off (rotCmd (2 ^ 31 + 16 * op + t % 16))
/-- R171 to R174. -/
def execRotArm (dt m t : Nat) (s : State) : Host.Outcome State Fault Refusal := run s dt (rotMaster m 1 t)
/-- R175 to R177. -/
def execRotStart (dt m t : Nat) (s : State) : Host.Outcome State Fault Refusal := run s dt (rotMaster m 2 t)
/-- R186. -/
def execRotStopHold (dt m t : Nat) (s : State) : Host.Outcome State Fault Refusal := run s dt (rotMaster m 3 t)
/-- R186. -/
def execRotStopDark (dt m t : Nat) (s : State) : Host.Outcome State Fault Refusal := run s dt (rotMaster m 4 t)
/-- R174, R182. -/
def execRotDiscard (dt m t : Nat) (s : State) : Host.Outcome State Fault Refusal := run s dt (rotMaster m 5 t)

/-! ### Boundaries -/

/-- The map that slot `i` of table `t` makes of the present map: its circuits, held by the rotation, with the cells of
their paths; other cells keep their states (R77, R178). -/
def slotTarget (s : State) (v : MapCheck) : MapSt :=
  { circs := v.map.circs.map (fun c => { c with byRot := true })
    cells := v.map.circs.foldl (fun u c => bindPath u (circPath c)) s.present.cells }
/-- Commit slot `i` of table `t` at a tick (R178 to R180): nothing for an invalid map but the count; a map that changes no
circuit makes no commit (R112), its circuits are held by the rotation all the same. A tile fault of the map's own checked reads may
enter the safe state, which stops the rotation before this commit (R187). -/
def commitSlot (t i tick : Nat) (s : State) : State :=
  let n := slotMap s t 0 i
  let v := validateMap s n
  let s1 := validateNote n s
  if v.code ≠ 0 then inc ROT_CNT_SKIP_count s1
  else
    let after := slotTarget s1 v
    if s1.rot.isNone then s1
    else if (affectedOuts s1.present after []).isEmpty then { s1 with present := after, projected := after }
    else
      match preCheckFail s1 after with
      | some o => preCheckRefuse o s1
      | none =>
        let p := mkPlan s1 [] (some i) false tick after
        fireCommit p tick (closeMarks p (restartSolve { s1 with projected := after }))
/-- The rotation proceeds to slot `i` at boundary `at_`. -/
def enterSlot (r : RotRun) (i at_ tick : Nat) (s : State) : State :=
  let n := bankSlots s r.table 0
  let r' : RotRun := { r with st := .running, slot := i, next := at_ + slotDur s r.table 0 i, nextSlot := if i + 1 < n then i + 1 else 0, fellAt := none, cut := false }
  rotNote (commitSlot r.table i tick { s with rot := some r' })
/-- An armed pending bank replaces the operating bank at boundary `at_` (R181). -/
def swapBank (r : RotRun) (at_ : Nat) (s : State) : State :=
  let t := r.table
  let s1 := { copyBank t s with rotArmed := putT s.rotArmed t false }
  let s2 := setRaw (setRaw (setRaw s1 (0x71004 + 0x400 * t) (BitVec.ofNat 32 (tNs at_)))
    (0x71008 + 0x400 * t) (BitVec.ofNat 32 (tSec at_))) (0x7100C + 0x400 * t) (BitVec.ofNat 32 (tSec at_ / 2 ^ 32))
  rotEvent t 2 (putStart at_ s2)
/-- Is a swap due at a boundary? -/
def swapDue (s : State) (r : RotRun) : Bool :=
  armedOf s r.table && (match r.swapAt with | some x => decide (x ≤ r.next) | none => false)
/-- Slot 0 of the bank in force, or of the bank swapped in. -/
def slotZero (r : RotRun) (tick : Nat) (s : State) : State :=
  if swapDue s r then enterSlot { r with base := r.next, swapAt := none } 0 r.next tick (swapBank r r.next s)
  else enterSlot r 0 r.next tick s
/-- Does the throttle step lie above the operating bank's max_step (R183)? -/
def overStep (s : State) (r : RotRun) : Bool := decide (bankMax s r.table 0 < f s GOV_STEP_step)
/-- Suspend at this boundary (R183, R185): a fault and a count for the throttle, neither for PARK. -/
def suspend (r : RotRun) (s : State) : State :=
  let r' : RotRun := { r with st := .suspended, fellAt := none }
  let s1 := rotEvent r.table 0 (rotNote { s with rot := some r' })
  if overStep s r then raise 14 0 (inc ROT_CNT_SUSPEND_count s1) else s1
/-- Is the stop's boundary reached (R186)? -/
def stopDue (r : RotRun) : Option Bool :=
  match r.stopAt with | some (x, dark) => if x ≤ r.next then some dark else none | none => none
/-- A slot-0 boundary of a rotation that is not suspended, in the order stop, suspension, swap. A whole cycle that ends here counts.
The throttle step and PARK are judged here alone: one that came and went since the last slot-0 boundary suspends nothing
(DESIGN CHOICE, log 79). -/
def boundaryZero (r : RotRun) (tick : Nat) (s : State) : State :=
  let s1 := if r.st = .running ∧ r.cut = false then inc ROT_CNT_CYCLES_count s else s
  match stopDue r with
  | some dark => stopNow dark s1
  | none => if overStep s1 r || devState s1 == 2 then suspend r s1 else slotZero r tick s1
/-- A boundary of the operating rotation (R179): a suspended one resumes here once the step has fallen (R184). -/
def rotBoundary (r : RotRun) (s : State) : State :=
  let tick := rotTick s (bankTb s r.table 0) r.next
  let u := elapseTo s (tick * tickPeriod)
  if r.st = .suspended then
    (if r.fellAt.isSome && !overStep u r && devState u != 2 then rotEvent r.table 1 (slotZero r tick u) else s)
  else if r.nextSlot = 0 then boundaryZero r tick u
  else enterSlot r r.nextSlot r.next tick u
/-- Act at the boundary of the rotation in operation when no commit stands in the way. -/
def atBoundary (first : Bool) (s : State) : State :=
  match s.rot with
  | some r =>
    if (r.st == .admitted) != first || s.commit.isSome || s.closed.isSome || !domOn s 20 then s else rotBoundary r s
  | none => s
/-- R178. -/
def execRotFirstCommit (dt : Nat) (s : State) : Host.Outcome State Fault Refusal := run s dt (atBoundary true)
/-- R179 to R184, R186. -/
def execRotSlotBoundary (dt : Nat) (s : State) : Host.Outcome State Fault Refusal := run s dt (atBoundary false)

/-- After a change of the throttle step or of the device state: a suspended rotation that may run again takes the first
slot-0 boundary at least admit ahead (R184, R185). -/
def rotThrottle (s : State) : State :=
  match s.rot with
  | some r =>
    if r.st ≠ .suspended then s
    else if overStep s r ∨ devState s = 2 then { s with rot := some { r with fellAt := none } }
    else if r.fellAt.isSome then s
    else
      let now := tbNow s (bankTb s r.table 0)
      let nx := boundaryFrom r.base (cycleOf s r.table 0) (now + admitT s)
      { s with rot := some { r with fellAt := some now, next := nx, nextSlot := 0, swapAt := r.swapAt.map (fun x => max x nx) } }
  | none => s

end Sys2Proof.Machine
end

