-- ==== Sys2Proof/Machine/Calibration.lean ====
section
/-! DEFINITION. Calibration: verify, activate and invalidate (R316 to R319), working-set loads (R302 to R309), sensor
halves (R306), and element marks (R310 to R315). -/
namespace Sys2Proof.Machine
open Sys2Proof.Config

/-! ### The tiles of a bank -/

/-- Loops of a window as element entries; electrodes and Pockels entries of a window (R297, R299). -/
def winElectrodes (w : Nat) : Nat := 2 * winSensors w
def winPockels (w : Nat) : Nat := if w < 16 then 480 else if w = 16 then 0 else 1024
/-- Entries tile `i` of a run of tiles holds when `n` entries lie `per` to a tile. -/
def entriesIn (n per i : Nat) : Nat := min per (n - per * i)
/-- Window of bank tile `n` (R297), n at least 1. -/
def tileWin (n : Nat) : Nat := if n < 1857 then (n - 1) / 116 else if n < 2034 then 16 else 17
/-- First bias trim tile within a window. -/
def biasTile (w : Nat) : Nat := sliceTile w + 1
/-- What a tile's header must hold: type, window, index, count (Tables 9-2, 9-3). The count of the two header types is
open (log 48). -/
def tileHead (n : Nat) : Nat × Nat × Nat × Nat :=
  if n = 0 then (0x31, 0xFFFF, 0, calHeadCount 0)
  else
    let w := tileWin n
    let i := n - winFirst w
    if i = 0 then (0x32, w, 0, calHeadCount 1)
    else if i < elecFirst w then (0x33, w, i, entriesIn (winLoops w) 15 (i - 1))
    else if i < sliceTile w then (0x34, w, i, entriesIn (winElectrodes w) 15 (i - elecFirst w))
    else if i = sliceTile w then (0x35, w, i, winSlices w)
    else match otrimTile w with
      | some k => if k ≤ i then (0x37, w, i, entriesIn (winPockels w) 960 (i - k))
                  else (0x36, w, i, entriesIn (winElectrodes w) 960 (i - biasTile w))
      | none => (0x36, w, i, entriesIn (winElectrodes w) 960 (i - biasTile w))
/-- The header of the tile at an address matches its place and the set's generation (check 3). -/
def headOk (s : State) (a n gen : Nat) : Bool :=
  let h := tileHead n
  dramRead s a 2 == h.1 && dramRead s (a + 2) 2 == h.2.1 && tileGen s a == gen && dramRead s (a + 8) 2 == h.2.2.1 &&
    dramRead s (a + 10) 2 == h.2.2.2
/-- Temperatures strictly rising within -40 to +125 degrees (check 5). -/
def tempsOk (s : State) (a : Nat) : Bool :=
  let t (k : Nat) : Int := s16 (dramRead s (a + 0x10 + 2 * k) 2)
  decide (-640 ≤ t 0) && decide (t 7 ≤ 2000) && (List.range 7).all (fun k => decide (t k < t (k + 1)))
/-- The values of an element or electrode tile (check 6). -/
def valuesOk (s : State) (a n : Nat) : Bool :=
  let h := tileHead n
  let v (x k b : Nat) : Nat := dramRead s (a + 0x10 + 64 * x + 8 * k + b) 2
  let pts := List.range 8
  if h.1 = 0x33 then
    (List.range h.2.2.2).all (fun x => !slotPockels h.2.1 (15 * (h.2.2.1 - 1) + x) || pts.all (fun k => v x k 4 != 0))
  else if h.1 = 0x34 then
    (List.range h.2.2.2).all (fun x => pts.all (fun k => v x k 0 != 0 && v x k 2 != 0 && decide (v x k 6 ≤ 16383)))
  else true

/-! ### Verify -/

/-- A failure: code and copy. -/
abbrev TileFail := Nat × Nat
/-- The first of the two copies of the tile at copy-0 address `a` at which a check fails. -/
def firstCopy (a : Nat) (ok : Nat → Bool) : Option Nat := [0, 1].find? (fun c => !ok (copyAddr a c))
/-- The unit identifier the ID block reports. -/
def unitId (s : State) : Nat := f s ID_UNIT_LO_unit + 2 ^ 32 * f s ID_UNIT_HI_unit
/-- The first check of Table 9-9 that tile `n` of a bank fails. -/
def tileVerify (s : State) (b gen n : Nat) : Option TileFail :=
  let a := bankBase b + 1024 * n
  match firstCopy a (tilePasses s) with
  | some c => some (1, c)
  | none =>
    if checkTile s a = .genConflict then some (2, 0)
    else match firstCopy a (fun x => headOk s x n gen) with
      | some c => some (3, c)
      | none =>
        if n = 0 then
          match firstCopy a (fun x => dramRead s (x + 0x20) 8 == unitId s), firstCopy a (tempsOk s) with
          | some c, _ => some (4, c)
          | none, some c => some (5, c)
          | none, none => none
        else (firstCopy a (fun x => valuesOk s x n)).map (fun c => (6, c))
/-- The bank that is not active (R316); while none is active, the one CAL_STAT.active does not name (log 49). -/
def inactiveBank (s : State) : Nat := 1 - f s CAL_STAT_active
/-- The first failing tile of the inactive bank. -/
def verifyScan (s : State) (gen : Nat) : Option (Nat × TileFail) :=
  (List.range 2315).findSome? (fun n => (tileVerify s (inactiveBank s) gen n).map (fun x => (n, x)))
/-- A command of CAL_CMD ends with a result (Table 9-9); every completion interrupts (R321). -/
def calResult (code tile copy : Nat) (s : State) : State :=
  sendMsix 9 (setF CAL_RESULT_copy copy (setF CAL_RESULT_tile tile (setF CAL_RESULT_code code s)))
/-- A verify ends (R317): at its first failure, or with the bank verified and its generation recorded. Its checked reads
run up to the tile it ends on (R444). -/
def verifyEnd (s : State) : State :=
  let b := inactiveBank s
  let gen := tileGen s (bankBase b)
  let bad := verifyScan s gen
  let reads := match bad with | some (n, _) => n + 1 | none => 2315
  let s1 := forEach (List.range reads) (fun n t => dmaCount 4 (checkedNote (bankBase b + 1024 * n) t)) (setF CAL_STAT_busy 0 s)
  match bad with
  | some (n, code, c) => calResult code n c s1
  | none => calResult 0 0 0 (setF CAL_INACTIVE_GEN_generation gen (setF CAL_STAT_inactive_verified 1 s1))
/-- Is a command of CAL_CMD refused with BUSY? -/
def calIsBusy (s : State) : Bool := fb s CAL_STAT_busy || fb s CAL_STAT_reload_pend
/-- A verify starts; without DRAM it ends at once (R317). -/
def verifyStart (s : State) : State := if domOn s 25 then setF CAL_STAT_busy 1 s else calResult 1 0 0 s

/-! ### Activate -/

/-- Are all powered windows on the active generation (R318)? -/
def reloaded (s : State) : Bool :=
  !calActive s || (List.range 18).all (fun w => !domOn s (winDomain w) ||
    f s (CAL_WIN_GEN_generation w) == f s CAL_ACTIVE_GEN_generation)
/-- Bring `reload_pend` up to date; it interrupts when it falls (R321). -/
def reloadNote (s : State) : State :=
  if reloaded s then (if fb s CAL_STAT_reload_pend then sendMsix 9 (setF CAL_STAT_reload_pend 0 s) else s)
  else setF CAL_STAT_reload_pend 1 s
/-- A working-set load of a window becomes due (R307). -/
def loadDue (w : Nat) (s : State) : State := { s with wsLoad := amSet (fun _ => false) s.wsLoad w true }
/-- The verified bank becomes active, at one edge (R318); marked rotation tables are armed (R174). -/
def activateBank (s : State) : State :=
  let s1 := inc CAL_DEV_FLIPS_count (setF CAL_STAT_inactive_verified 0
    (setF CAL_ACTIVE_GEN_generation (f s CAL_INACTIVE_GEN_generation) (setF CAL_STAT_active_valid 1
      (setF CAL_STAT_active (inactiveBank s) s))))
  calResult 0 0 0 (reloadNote (forEach ((List.range 18).filter (fun w => domOn s1 (winDomain w))) loadDue (armMarked s1)))
/-- Code of an activate (Table 9-9), checked in the order of log 50. -/
def activateCode (s : State) : Nat :=
  if !fb s CAL_STAT_inactive_verified then 8
  else if f s CAL_INACTIVE_GEN_generation ≤ f s CAL_ACTIVE_GEN_generation then 7
  else if fb s CAL_CTRL_hold_flip then 9
  else 0
/-- R318. -/
def activate (s : State) : State := if activateCode s = 0 then activateBank s else calResult (activateCode s) 0 0 s
/-- A write of CAL_CMD. -/
def calCmdWrite (v : Nat) (s : State) : State :=
  let s1 := setF CAL_CMD_op v s
  if v / 2 ^ 31 % 2 = 0 then s1
  else match v % 16 with
    | 1 => if calIsBusy s1 then calResult 10 0 0 s1 else verifyStart s1
    | 2 => if calIsBusy s1 then calResult 10 0 0 s1 else activate s1
    | 3 => if calIsBusy s1 then calResult 10 0 0 s1 else calResult 0 0 0 (setF CAL_STAT_inactive_verified 0 s1)
    | _ => s1
/-- CAL_CMD with `go` and an op, by a master. -/
def calMaster (m op : Nat) : State → State := regCmd m CAL_CMD_op.off (calCmdWrite (2 ^ 31 + op))
/-- R317. -/
def execCalVerify (dt m : Nat) (s : State) : Host.Outcome State Fault Refusal := run s dt (calMaster m 1)
/-- R317: the verify in progress has checked every tile it will check. -/
def execCalVerifyDone (dt : Nat) (s : State) : Host.Outcome State Fault Refusal :=
  run s dt (fun t => if fb t CAL_STAT_busy then verifyEnd t else t)
/-- R318, R174. -/
def execCalActivate (dt m : Nat) (s : State) : Host.Outcome State Fault Refusal := run s dt (calMaster m 2)
/-- R317. -/
def execCalInvalidate (dt m : Nat) (s : State) : Host.Outcome State Fault Refusal := run s dt (calMaster m 3)
/-- A verify in progress is abandoned when what runs it is reset (Table 9-10): the bank stays unverified, no result is given. -/
def verifyAbandon (s : State) : State :=
  if fb s CAL_STAT_busy then setF CAL_STAT_inactive_verified 0 (setF CAL_STAT_busy 0 s) else s
/-- Both banks become invalid (R319); a verify in progress ends on unreadable tiles (R317). -/
def calLost (s : State) : State :=
  let s1 := setF CAL_ACTIVE_GEN_generation 0 (setF CAL_STAT_inactive_verified 0 (setF CAL_STAT_active_valid 0
    { s with wsLoad := [] }))
  reloadNote (if fb s1 CAL_STAT_busy then calResult 1 0 0 (setF CAL_STAT_busy 0 s1) else s1)
/-- A write that reached a byte range of DRAM by a master's access: may it be stored, given R316? -/
def inBank (b a : Nat) : Bool :=
  let x := a - bankBase b
  let y := a - (bankBase b + 0x40000000)
  (decide (bankBase b ≤ a) && decide (x < 2315 * 1024)) || (decide (bankBase b + 0x40000000 ≤ a) && decide (y < 2315 * 1024))
/-- Is a DRAM address in the active bank, whose writes are discarded? -/
def calBlocked (s : State) (a : Nat) : Bool := calActive s && inBank (f s CAL_STAT_active) a
/-- What a write at an address does to the CAL block (R316): blocked, or the inactive bank is no longer verified. -/
def calWriteNote (a : Nat) (s : State) : State :=
  if calBlocked s a then
    (if fb s CAL_STAT_wr_blocked then s else sendMsix 9 (setF CAL_STAT_wr_blocked 1 s))
  else if inBank (inactiveBank s) a then setF CAL_STAT_inactive_verified 0 s
  else s

/-! ### Working-set loads -/

/-- Store the values of half `h` of the working set for one electrode, interpolated from its entry (R300, R306). -/
def putElectrode (w h e : Nat) (v : Nat → Int) (s : State) : State :=
  forEach [0, 1, 2, 3] (fun b => sramWrite w ((if h = 0 then 0x4400 else 0x8400) + 8 * e + 2 * b) 2 (toTwos 16 (v b))) s
/-- Interpolate electrode `e` of a window from the points it loaded at temperature `t`; the offset alone is signed (R296). -/
def elecValue (s : State) (w e : Nat) (t : Int) (b : Nat) : Int :=
  interpolate (fun k => let v := elecPoint s w e k (2 * b); if b = 2 then s16 v else (v : Int)) (wsTemp s w) t
/-- The site of a window's electrode values, from its working set. -/
def snsSite (s : State) (w : Nat) : Nat := sramRead s w 0x4005 1
/-- Interpolate every electrode into the half not in use and change halves (R306). -/
def swapHalf (w : Nat) (s : State) : State :=
  let h := 1 - sramRead s w 0x4004 1
  let t := siteT s (snsSite s w)
  sramWrite w 0x4004 1 h (forEach (List.range (winElectrodes w)) (fun e => putElectrode w h e (elecValue s w e t)) s)
/-- Replace the element record of a slot, the loop's centre unchanged (R308): `s0` is the state before the load. -/
def loadElement (s0 : State) (w sl : Nat) (bytes : List Nat) (s : State) : State :=
  let s1 := { s with sram := memBytes s.sram (sramAddr w (0xC400 + 64 * sl)) bytes }
  if wsGen s0 w = 0 then s1
  else
    let d := modelCode s0 w sl (stateBit s w sl) - modelCode s1 w sl (stateBit s w sl)
    let bd := coefU s w sl (f s (PLOT_LOOP_STAT_region w sl)) 0xC * 65536
    let s2 := if tmplOf s w sl = 2 then integPut w sl (max (-bd) (min bd (integOf s1 w sl + d * 65536))) s1 else s1
    if tmplOf s w sl = 3 ∨ f s (PLOT_LOOP_STAT_mode w sl) = 3 then
      setF (PLOT_LOOP_MODEL_offset w sl) (toTwos 16 (satInt 16 (fInt s2 (PLOT_LOOP_MODEL_offset w sl) + d))) s2
    else s2
/-- Channel of Pockels entry `j` (R299). -/
def pockelsChan (w j : Nat) : Nat := if w < 16 then (if j < 240 then 3 * j else 720 + (j - 240)) else 2 * j
/-- Payload bytes `o` to `o + n - 1` of the returned copy of the tile at `a`. -/
def payload (s : State) (a c o n : Nat) : List Nat := dramList s (copyAddr a c + 0x10 + o) n
/-- What the load takes from bank tile `n` of the window (Tables 9-4, 9-6, 9-7): the electrode points too, which R306 interpolates
afterwards, and the bias trims. -/
def loadTile (s0 : State) (w n a c : Nat) (s : State) : State :=
  let i := n - winFirst w
  if n = 0 then { s with sram := memBytes s.sram (sramAddr w 0x4008) (payload s a c 0 16) }
  else if i = 0 then sramWrite w 0x4005 1 (tRead s a c 0x10 1) s
  else if i < elecFirst w then
    forEach (List.range (entriesIn (winLoops w) 15 (i - 1))) (fun x t =>
      loadElement s0 w (15 * (i - 1) + x) (payload t a c (64 * x) 64) t) s
  else if i < sliceTile w then
    { s with elec := memBytes s.elec (elecAddr w (15 * (i - elecFirst w))) (payload s a c 0 (64 * entriesIn (winElectrodes w) 15 (i - elecFirst w))) }
  else if i = sliceTile w then
    let e (k b m : Nat) : Nat := tRead s a c (0x10 + 8 * k + b) m
    let refs := (List.range (winSlices w)).map (fun k => (e k 4 2 % 16384, e k 6 2 % 16384))
    let s1 := slcPut w { slcOf s w with refNext := some refs } s
    if amGet (fun _ => false) s1.slcLoaded w then s1
    else { forEach (List.range (winSlices w)) (fun k t =>
             setF (PLOT_SLC_TRIM_gtrim w k) (e k 1 1) (setF (PLOT_SLC_TRIM_otrim w k) (e k 0 1) t)) s1
           with slcLoaded := amSet (fun _ => false) s1.slcLoaded w true }
  else if ((otrimTile w).map (fun k => decide (k ≤ i))).getD false then
    let k := (otrimTile w).getD i
    forEach (List.range (entriesIn (winPockels w) 960 (i - k))) (fun x t =>
      setF (PLOT_DRL_CFG_otrim w (pockelsChan w (960 * (i - k) + x))) (tRead t a c (0x10 + x) 1) t) s
  else
    { s with bias := memBytes s.bias (w * 2048 + 960 * (i - biasTile w)) (payload s a c 0 (entriesIn (winElectrodes w) 960 (i - biasTile w))) }
/-- The bank tiles a window's load reads, in bank order. -/
def loadTiles (w : Nat) : List Nat := 0 :: (List.range (winTiles w)).map (fun i => winFirst w + i)
/-- Load tile by tile, until one returns none (R309): the answer says whether every tile loaded. -/
def loadRun (s0 : State) (w : Nat) : List Nat → State → Bool × State
  | [], s => (true, s)
  | n :: l, s =>
    let a := bankBase (f s CAL_STAT_active) + 1024 * n
    match checkTile s a with
    | .ok c => loadRun s0 w l (loadTile s0 w n a c (dmaCount 4 (checkedNote a s)))
    | _ => (false, raiseTile 16 (copyDetail a 0) (dmaCount 4 (checkedNote a s)))
/-- Show a window's generation, in its working set and in CAL_WIN_GEN. -/
def putGen (w g : Nat) (s : State) : State := setF (CAL_WIN_GEN_generation w) g (sramWrite w 0x4000 4 g s)
/-- A pair's load ends (R307 to R309). -/
def workingLoad (w : Nat) (s : State) : State :=
  let s1 := { s with wsLoad := amSet (fun _ => false) s.wsLoad w false }
  let r := loadRun s1 w (loadTiles w) s1
  reloadNote (if r.1 then
      onlyIf (siteValid r.2 (snsSite r.2 w)) (swapHalf w) (putGen w (f s CAL_ACTIVE_GEN_generation) r.2)
    else putGen w 0xFFFFFFFF r.2)
/-- R302 to R309; a held window loads once its pair is reclaimed (R320). -/
def execWorkingSetLoad (dt w : Nat) (s : State) : Host.Outcome State Fault Refusal :=
  run s dt (fun t =>
    if amGet (fun _ => false) t.wsLoad w && domOn t (winDomain w) && calActive t && !winHeld t w then workingLoad w t else t)
/-- R306: the interpolation asked for by a new sample has finished, and a window boundary is reached. -/
def execSensorHalfSwap (dt w : Nat) (s : State) : Host.Outcome State Fault Refusal :=
  run s dt (fun t =>
    if amGet (fun _ => false) t.snsSwap w && domOn t (winDomain w) then
      swapHalf w { t with snsSwap := amSet (fun _ => false) t.snsSwap w false }
    else t)
/-- A new sample of a site reaches the windows whose electrode values use it (R306). -/
def siteSampled (i : Nat) (s : State) : State :=
  forEach ((List.range 18).filter (fun w => domOn s (winDomain w) && wsGen s w != 0 && snsSite s w == i))
    (fun w t => { t with snsSwap := amSet (fun _ => false) t.snsSwap w true }) s

/-! ### Marks -/

/-- Does an element serve a circuit (Table 9-8, BOUND)? -/
def servesCircuit (s : State) (w sl : Nat) : Bool :=
  let ms := [s.present, s.projected]
  if w < 16 then ms.any (fun m => (boundCells m).getLsbD (slotCell w sl))
  else if w = 16 then ms.any (fun m => (onIn m (slotPort w sl)).isSome)
  else ms.any (fun m => (onOut m (slotPort w sl)).isSome)
/-- The first applicable condition of Table 9-8; 0 accepts. -/
def markCode (s : State) (w sl : Nat) (force : Bool) : Nat :=
  if inSafe s then 7
  else if 18 ≤ w ∨ domOn s w = false ∨ (f s GOV_DOM_FALLOW_fallow).testBit w = true then 4
  else if winLoops w ≤ sl then 6
  else if wsGen s w = 0 then 5
  else if 16 ≤ (marksIn s w).length then 2
  else if !force && servesCircuit s w sl then 1
  else 0
/-- Report an op on marks. -/
def elemResult (w code : Nat) (s : State) : State :=
  setF CAL_ELEM_RESULT_marks (marksIn s w).length (setF CAL_ELEM_RESULT_code code s)
/-- An accepted mark (R310); its effects begin at the element's first update slot that follows (R311, `staleNow`). -/
def putMark (w sl : Nat) (s : State) : State :=
  { s with calMarks := amSet (fun _ => none) s.calMarks (wKey w sl) (some { at_ := s.clk.now }) }
/-- A calibration ends: counts and stamps (R315). -/
def calCount (w : Nat) (s : State) : State :=
  let t := tbNow s 0
  setF (CAL_WIN_LAST_SH_sec_high w) (tSec t / 2 ^ 32) (setF (CAL_WIN_LAST_SL_sec_low w) (tSec t)
    (setF (CAL_WIN_LAST_NS_ns w) (tNs t) (inc (CAL_WIN_CNT_count w)
      (setF CAL_DEV_LAST_SH_sec_high (tSec t / 2 ^ 32) (setF CAL_DEV_LAST_SL_sec_low (tSec t)
        (setF CAL_DEV_LAST_NS_ns (tNs t) (inc CAL_DEV_CNT_count s)))))))
/-- Run an op on an element's mark (R310 to R312). -/
def elemRun (w sl op : Nat) (force : Bool) (s : State) : State :=
  match op with
  | 1 =>
    let c := markCode s w sl force
    elemResult w c (if c = 0 ∧ (markOf s w sl).isNone then putMark w sl s else s)
  | 2 => if (markOf s w sl).isSome then elemResult w 0 (calCount w (endMark w sl s)) else elemResult w 3 s
  | 3 => if (markOf s w sl).isSome then elemResult w 0 (abandonMark w sl s) else elemResult w 3 s
  | _ => s
/-- A write of CAL_ELEM_CMD. -/
def elemCmdWrite (v : Nat) (s : State) : State :=
  let s1 := setF CAL_ELEM_CMD_force (v / 2 ^ 19) (setF CAL_ELEM_CMD_op (v / 2 ^ 17) (setF CAL_ELEM_CMD_window (v / 2 ^ 12)
    (setF CAL_ELEM_CMD_slot v s)))
  if v / 2 ^ 31 % 2 = 1 then elemRun (v / 2 ^ 12 % 32) (v % 4096) (v / 2 ^ 17 % 4) (v / 2 ^ 19 % 2 == 1) s1 else s1
/-- CAL_ELEM_CMD with `go` and an op, by a master. -/
def elemMaster (m w sl op : Nat) (force : Bool) : State → State :=
  regCmd m CAL_ELEM_CMD_op.off (elemCmdWrite (2 ^ 31 + 2 ^ 19 * force.toNat + 2 ^ 17 * op + 2 ^ 12 * (w % 32) + sl % 4096))
/-- R310, R311. -/
def execCalMark (dt m w sl : Nat) (force : Bool) (s : State) : Host.Outcome State Fault Refusal :=
  run s dt (elemMaster m w sl 1 force)
/-- R312, R315. -/
def execCalEnd (dt m w sl : Nat) (s : State) : Host.Outcome State Fault Refusal := run s dt (elemMaster m w sl 2 false)
/-- R312. -/
def execCalAbandon (dt m w sl : Nat) (s : State) : Host.Outcome State Fault Refusal := run s dt (elemMaster m w sl 3 false)
/-- A mark has stood for `stale_limit_ms` (R314). -/
def staleLimit (w sl : Nat) (s : State) : State :=
  match markOf s w sl with
  | some k =>
    if k.long then s
    else
      let u := elapseTo s (k.at_ + f s CAL_CTRL_stale_limit_ms * ms)
      raise 5 (winDetail w sl 0) { u with calMarks := amSet (fun _ => none) u.calMarks (wKey w sl) (some { k with long := true }) }
  | none => s
/-- R314. -/
def execCalStaleLimit (dt w sl : Nat) (s : State) : Host.Outcome State Fault Refusal := run s dt (staleLimit w sl)

end Sys2Proof.Machine
end

