-- ==== Sys2Proof/Machine/Drill.lean ====
section
/-! DEFINITION. The drill's commands (R239 to R265): code ticks, the deglitcher, the slew limiter, software pushes, range
and segment changes, monitors, test plays and the seed command. -/
namespace Sys2Proof.Machine
open Sys2Proof.Config

/-! ### Code ticks -/

/-- Channels that take codes of their own: every channel but segment 1 (R234). -/
def chOwn (w ch : Nat) : Bool := decide (ch < winChans w) && !chSeg1 w ch
/-- Period of a channel's code ticks (R239). -/
def tickOf (w ch : Nat) : Nat := if chPockels w ch then tickPeriod else us
/-- Instant of a channel's next code tick: ticks lie on the grid of CK_TICK or of the frame boundaries, each is one. -/
def nextTick (s : State) (w ch : Nat) : Nat :=
  (max s.clk.now (chanOf s w ch).tickAt + (tickOf w ch - 1)) / tickOf w ch * tickOf w ch
/-- One step of the limiter (R255). -/
def limitStep (step : Nat) (r t : Int) : Int := if r < t then min t (r + step) else max t (r - step)
/-- What the head of the queue leaves at instant `t`, once it can be popped: the popped code becomes the target (R239, R240, R255). -/
def popChan (t : Nat) (c : Chan) : Chan :=
  match c.queue with
  | [] => c
  | v :: q => if c.qAt.headD 0 ≤ t then { c with queue := q, qAt := c.qAt.drop 1, target := v, seed := c.seed - 1 } else c
/-- A channel takes its offset trim at its code tick (R304). -/
def trimTick (w ch : Nat) (s : State) : State :=
  if chPockels w ch then chanPut w ch { chanOf s w ch with otr := fInt s (PLOT_DRL_CFG_otrim w ch) } s else s
/-- The code the modulator takes outside a waveform: the target, or the running code of the limiter (R255). A channel of
a fallow cell holds code 0 (R67). -/
def feedChan (s : State) (w ch : Nat) (c : Chan) : Chan :=
  if chFallow s w ch then { c with fed := 0, target := 0 }
  else if fb s (PLOT_DRL_CFG_slew_en w ch) then
    if f s (PLOT_DRL_SLEW_period w ch) ≤ c.ticks + 1 then
      { c with ticks := 0, fed := limitStep (f s (PLOT_DRL_SLEW_step w ch)) c.fed c.target }
    else { c with ticks := c.ticks + 1 }
  else { c with fed := c.target }
/-- Start or extend a deglitch hold of a channel whose output stood at `old` (R249, R251). -/
def holdStart (w ch : Nat) (old : Int) (s : State) : State :=
  let c := chanOf s w ch
  if c.hold.isSome then s
  else inc (PLOT_DRL_CNT_DG_count w) (chanPut w ch { c with hold := some s.clk.now, held := old } s)
/-- The deglitcher judges the step of one modulator from its code in `s0` (R249). -/
def judge (s0 : State) (w ch : Nat) (s : State) : State :=
  let a := fedCode s0 w ch
  let b := fedCode s w ch
  if chPockels w ch && decide (0x1000 ≤ (b - a).natAbs) then holdStart w ch a s else s
/-- The segment mode a written `seg` asks for takes effect, without the deglitcher (R260). -/
def segApply (w ch : Nat) (s : State) : State :=
  let c := chanOf s w ch
  let want := f s (PLOT_DRL_CFG_seg w ch) % 3
  if chRt w ch && c.seg != want then
    let x : Fld := ⟨(PLOT_DRL_SEG_MAP_solo w (ch / 3 / 32)).off, ch / 3 % 32, 1⟩
    onlyIf (want == 0) (setF x 0) (chanPut w ch { c with seg := want, bothBad := c.bothBad && want != 0 } s)
  else s
/-- Does a seed code still wait in a channel of a window? -/
def seedsWait (s : State) (w : Nat) : Bool := (winKeys w s.chans).any (fun ch => (chanOf s w ch).seed != 0)
/-- The pair is seeded (R264). -/
def seedDone (w : Nat) (s : State) : State := setF (PLOT_DRL_SEED_STAT_seeded w) 1 (setF (PLOT_DRL_SEED_STAT_busy w) 0 s)
/-- A seed code was taken: the settling interval counts from the last (R264). -/
def seedTaken (w : Nat) (s : State) : State :=
  let s1 := { s with seedLast := amSet (fun _ => none) s.seedLast w (some s.clk.now) }
  if fb s1 (PLOT_DRL_SEED_STAT_busy w) && f s1 (PLOT_DRL_SEED_settle_us w) == 0 && !seedsWait s1 w then seedDone w s1 else s1
/-- The channel's code tick (R239, R246, R255, R260, R304). -/
def codeTick (w ch : Nat) (s : State) : State :=
  let t := elapseTo s (nextTick s w ch)
  let s0 := onlyIf (chRt w ch) (trimTick w (seg1Of ch)) (trimTick w ch t)
  let c := chanOf s0 w ch
  match c.wave with
  | p :: l =>
    let s1 := chanPut w ch { c with fed := p, target := p, wave := l, wcut := c.wcut && !l.isEmpty, tickAt := s0.clk.now + 1 } s0
    if l.isEmpty && c.wcut then { s1 with playing := amSet (fun _ => none) s1.playing w none } else s1
  | [] =>
    let s1 := segApply w ch s0
    let c0 := popChan s1.clk.now (chanOf s1 w ch)
    let c1 := { feedChan s1 w ch c0 with tickAt := s1.clk.now + 1 }
    let s2 := chanPut w ch c1 s1
    let s3 := judge s1 w ch s2
    let s4 := if chRt w ch then judge s1 w (seg1Of ch) s3 else s3
    if c.seed = 1 && c0.seed == 0 then seedTaken w s4 else s4
/-- R239 to R241, R246, R249, R255, R260. -/
def execCodeTick (dt w ch : Nat) (s : State) : Host.Outcome State Fault Refusal :=
  run s dt (fun t => if domOn t (winDomain w) && chOwn w ch then codeTick w ch t else t)
/-- R255: the code tick at which the limiter steps. -/
def execSlewLimiterStep (dt w ch : Nat) (s : State) : Host.Outcome State Fault Refusal :=
  run s dt (fun t =>
    let c := chanOf t w ch
    if domOn t (winDomain w) && chOwn w ch && c.wave.isEmpty && fb t (PLOT_DRL_CFG_slew_en w ch) &&
        decide (f t (PLOT_DRL_SLEW_period w ch) ≤ c.ticks + 1) then codeTick w ch t else t)

/-- A deglitch hold ends (R250): at a settle report, or after 400 ns. -/
def dgRelease (w ch : Nat) (settled : Bool) (s : State) : State :=
  let c := chanOf s w ch
  match c.hold with
  | none => s
  | some h =>
    let edge := tickAtOrAfter s.clk.now * tickPeriod
    let free (t : State) : State := chanPut w ch { chanOf t w ch with hold := none } t
    if settled && decide (edge ≤ h + 4000) then free (elapseTo s edge)
    else setF (PLOT_DRL_STAT_dg_timeout w ch) 1 (free (elapseTo s (h + 4000)))
/-- R250, R251. -/
def execDeglitchRelease (dt w ch : Nat) (settled : Bool) (s : State) : Host.Outcome State Fault Refusal :=
  run s dt (dgRelease w ch settled)

/-! ### Pushes, ranges, segments -/

/-- May software drive a channel (R242): the pair does not run, the element's loop is off, or it is being calibrated? -/
def swMay (s : State) (w ch : Nat) : Bool :=
  !fb s (PLOT_ENG_CTRL_run w) || !fb s (PLOT_LOOP_CFG_enable w (chSlot w ch)) || fb s (PLOT_LOOP_STAT_stale w (chSlot w ch))
/-- A write of PLOT_DRL_CODE (R234, R240, R242): the entry can be popped from one CK_LOOP cycle later. -/
def swPush (w ch v : Nat) (s : State) : State :=
  if !chOwn w ch then s
  else if swMay s w ch then pushAt (s.clk.now + 25) w ch (s16 v) s else inc (PLOT_DRL_CNT_SWREJ_count w) s
/-- R242. -/
def execSwCodePush (dt m w ch v : Nat) (s : State) : Host.Outcome State Fault Refusal :=
  run s dt (regCmd m (PLOT_DRL_CODE_code w ch).off (swPush w ch v))

/-- A write of PLOT_DRL_CFG: fields of the channel's kind alone; a range change is pending until it is applied (R252),
`seg` is taken as R260 says, and enabling the limiter takes the code in force (R255). -/
def drlCfgWrite (w ch v : Nat) (s : State) : State :=
  let keep (ok : Bool) (x : Fld) (t : State) : State := if ok then setF x (v / 2 ^ x.lsb) t else t
  let seg := v / 4 % 4 % 3
  let segOk := chRt w ch && !(seg == 0 && fb s (PLOT_DRL_STAT_seg_fail w ch))
  let rise := chOwn w ch && !fb s (PLOT_DRL_CFG_slew_en w ch) && v / 2 % 2 == 1
  let s1 := keep (chGate w ch) (PLOT_DRL_CFG_range w ch) (keep (chOwn w ch) (PLOT_DRL_CFG_slew_en w ch)
    (keep (!chPockels w ch) (PLOT_DRL_CFG_vcomp w ch) (keep true (PLOT_DRL_CFG_mon_en w ch)
      (keep (chPockels w ch) (PLOT_DRL_CFG_otrim w ch) s))))
  let s2 := onlyIf segOk (setF (PLOT_DRL_CFG_seg w ch) seg) s1
  let c := chanOf s2 w ch
  if rise then chanPut w ch { c with ticks := 0, target := c.fed } s2 else s2
/-- Is a range change pending (R252)? -/
def rangePend (s : State) (w ch : Nat) : Bool := chGate w ch && fb s (PLOT_DRL_CFG_range w ch) != (chanOf s w ch).rangeL
/-- R252: a write of PLOT_DRL_CFG. -/
def execRangeWrite (dt m w ch v : Nat) (s : State) : Host.Outcome State Fault Refusal :=
  run s dt (regCmd m (PLOT_DRL_CFG_range w ch).off (drlCfgWrite w ch v))
/-- R260: a write of PLOT_DRL_CFG. -/
def execSegWrite (dt m w ch v : Nat) (s : State) : Host.Outcome State Fault Refusal :=
  run s dt (regCmd m (PLOT_DRL_CFG_seg w ch).off (drlCfgWrite w ch v))
/-- A code rescaled to the other range, rounded as R246 rounds and held within the code range (log 42). -/
def rescale (toL : Bool) (c : Int) : Int := satInt 16 (if toL then 2 * c else (c + 1) / 2)
/-- A pending range change is applied at a free code tick (R252). -/
def rangeApply (w ch : Nat) (s : State) : State :=
  let c := chanOf s w ch
  if rangePend s w ch && c.wave.isEmpty && c.hold.isNone && s.closed.isNone && domOn s (winDomain w) then
    let u := elapseTo s (tickAtOrAfter s.clk.now * tickPeriod)
    let toL := fb u (PLOT_DRL_CFG_range w ch)
    inc (PLOT_DRL_CNT_DG_count w) (chanPut w ch { c with
      rangeL := toL, fed := rescale toL c.fed, target := rescale toL c.target, hold := some u.clk.now, held := c.fed } u)
  else s
/-- R252, R249. -/
def execRangeApply (dt w ch : Nat) (s : State) : Host.Outcome State Fault Refusal := run s dt (rangeApply w ch)

/-! ### Monitors -/

/-- Record a drill fault (Table 7-13) and raise its source. -/
def drillFault (src kind detKind w ch : Nat) (s : State) : State :=
  raise src (winDetail w ch detKind) (setF (PLOT_DRL_FAULT_kind w) kind (setF (PLOT_DRL_FAULT_chan w) ch s))
/-- The segment of an RT element that a channel drives. -/
def segIdx (w ch : Nat) : Nat := if chSeg1 w ch then 1 else 0
/-- Is a segment driven under a segment mode (R257)? -/
def segDriven (mode i : Nat) : Bool := mode == 0 || mode == i + 1
/-- A segment fails (R258, R259): the survivor takes the element; when the last driven segment fails, both clamps close
(log 43). -/
def segFail (w ch : Nat) (s : State) : State :=
  let z := chSlot w ch
  let i := segIdx w ch
  let c := chanOf s w z
  if !segDriven c.seg i || c.bothBad then s
  else
    let u := elapseTo s (tickAtOrAfter (s.clk.now + 1) * tickPeriod)
    let c' : Chan := if c.seg = 0 then { c with seg := 2 - i } else { c with bothBad := true }
    let u1 := setF (PLOT_DRL_STAT_seg_which w z) i (setF (PLOT_DRL_STAT_seg_fail w z) 1 (chanPut w z c' u))
    drillFault 0 1 i w ch (setF ⟨(PLOT_DRL_SEG_MAP_solo w (z / 3 / 32)).off, z / 3 % 32, 1⟩ 1
      (setF (PLOT_DRL_CFG_seg w z) c'.seg u1))
/-- Is a Pockels channel watched: its domain on and its monitor enabled (R258)? -/
def monOn (s : State) (w ch : Nat) : Bool :=
  domOn s (winDomain w) && chPockels w ch && decide (ch < winChans w) && fb s (PLOT_DRL_CFG_mon_en w ch)
/-- Does the monitor judge a channel now: code ticks within a deglitch hold do not count (R258)? -/
def monJudges (s : State) (w ch : Nat) : Bool := monOn s w ch && (chanOf s w ch).hold.isNone && !wakeHold s w ch
/-- R258, R259: the monitor of a segment finds four departing ticks. -/
def execSegmentTakeover (dt w ch : Nat) (s : State) : Host.Outcome State Fault Refusal :=
  run s dt (fun t => if monJudges t w ch && decide (w < 16) then segFail w ch t else t)
/-- R258, R261. -/
def execGateMonitorFail (dt w ch : Nat) (s : State) : Host.Outcome State Fault Refusal :=
  run s dt (fun t => if monJudges t w ch && chGate w ch then
    drillFault 0 2 2 w ch (setF (PLOT_DRL_STAT_mon_fail w ch) 1 t) else t)
/-- Is a heater's current sensed (R262)? -/
def htrSensed (s : State) (w ch : Nat) : Bool :=
  domOn s (winDomain w) && !chPockels w ch && decide (ch < winChans w) && fb s (PLOT_DRL_CFG_mon_en w ch)
/-- R262: 1,000 on-states below the open threshold. -/
def execHeaterOpen (dt w ch : Nat) (s : State) : Host.Outcome State Fault Refusal :=
  run s dt (fun t => if htrSensed t w ch then drillFault 2 3 0 w ch (setF (PLOT_DRL_STAT_htr_open w ch) 1 t) else t)
/-- R262: a current above the short threshold; the switch stays open until `htr_short` is cleared. -/
def execHeaterShort (dt w ch : Nat) (s : State) : Host.Outcome State Fault Refusal :=
  run s dt (fun t => if htrSensed t w ch then drillFault 2 4 1 w ch (setF (PLOT_DRL_STAT_htr_short w ch) 1 t) else t)
/-- R262: software clears `htr_short`. -/
def execHtrShortClear (dt m w ch : Nat) (s : State) : Host.Outcome State Fault Refusal :=
  run s dt (regCmd m (PLOT_DRL_STAT_htr_short w ch).off (clearBits (PLOT_DRL_STAT_htr_short w ch) 1))

/-! ### Test plays and seeding -/

/-- A write of PLOT_DRL_PLAY (R248). -/
def playWrite (w v : Nat) (s : State) : State :=
  let s1 := setF (PLOT_DRL_PLAY_len w) (v / 2 ^ 20) (setF (PLOT_DRL_PLAY_wave w) (v / 2 ^ 12) (setF (PLOT_DRL_PLAY_chan w) v s))
  if v / 2 ^ 31 % 2 = 0 then s1
  else
    let ch := v % 4096
    let busy := (amGet (fun _ => none) s.playing w).isSome
    if chOwn w ch && chPockels w ch && swMay s w ch && !winHeld s w && s.closed.isNone && s.commit.isNone && !busy then
      let c := chanOf s1 w ch
      let u := swing (modelVpi s1 w (chSlot w ch)) (fullScale c.rangeL)
      let n := v / 2 ^ 20 % 64
      let codes := (List.range (if n = 0 then 64 else n)).map (fun i => c.fed + pointCode (libPoint s1 w (v / 2 ^ 12 % 256) i) u)
      { startWave w ch codes true s1 with playing := amSet (fun _ => none) s1.playing w (some ch) }
    else setF (PLOT_DRL_PLAY_STAT_refused w) 1 s1
/-- R248. -/
def execTestPlay (dt m w ch wave len : Nat) (s : State) : Host.Outcome State Fault Refusal :=
  run s dt (regCmd m (PLOT_DRL_PLAY_go w).off (playWrite w (ch % 4096 + 2 ^ 12 * (wave % 256) + 2 ^ 20 * (len % 64) + 2 ^ 31)))

/-- Has a site that a pair's loop records name never been sampled (R205)? -/
def siteMissing (s : State) (w : Nat) : Bool := (List.range (winLoops w)).any (fun sl => !siteValid s (slotSite s w sl))
/-- `no_temp` of a pair returns to 0 once every site that its records name has been sampled (R205). -/
def noTempNote (w : Nat) (s : State) : State :=
  onlyIf (fb s (PLOT_ENG_STAT_no_temp w) && !siteMissing s w) (setF (PLOT_ENG_STAT_no_temp w) 0) s
/-- Is a VOA of an input the population mode does not use: held at its greatest attenuation (R68)? -/
def voaUnused (s : State) (w sl : Nat) : Bool := w == 16 && !modePort s.popMode (sl % 256)
/-- Seed code of an element (R264); an unused VOA takes its highest code (R68; log 44). -/
def seedCode (s : State) (w sl : Nat) : Int := if voaUnused s w sl then clampOut s w sl 32767 else modelCode s w sl false
/-- Push one seed code. -/
def seedOne (w ch : Nat) (s : State) : State :=
  if chFallow s w ch || heaterParked s w ch then s
  else
    let n := (chanOf s w ch).queue.length
    let s1 := pushCode w ch (seedCode s w ch) s
    let c := chanOf s1 w ch
    if c.queue.length = n + 1 then chanPut w ch { c with seed := n + 1 } s1 else s1
/-- Is no calibration working set loaded in a pair: none was, or no set is active any more (R264, R319)? -/
def calMissing (s : State) (w : Nat) : Bool := decide (f s (CAL_WIN_GEN_generation w) = 0) || !calActive s
/-- The seed command (R264): refused, it says every case that holds. -/
def seedGo (w : Nat) (s : State) : State :=
  let cal := calMissing s w
  let temp := siteMissing s w
  let order := w != 17 && !fb s (PLOT_DRL_SEED_STAT_seeded 17)
  if fb s (PLOT_ENG_CTRL_run w) || fb s (PLOT_DRL_SEED_STAT_busy w) then s
  else if cal || temp || order then
    onlyIf order (setF (PLOT_DRL_SEED_STAT_err_order w) 1) (onlyIf temp (setF (PLOT_DRL_SEED_STAT_err_temp w) 1)
      (onlyIf cal (setF (PLOT_DRL_SEED_STAT_err_cal w) 1) s))
  else forEach ((List.range (winChans w)).filter (chOwn w)) (seedOne w)
    (setF (PLOT_DRL_SEED_STAT_busy w) 1 { s with seedLast := amSet (fun _ => none) s.seedLast w none })
/-- A write of PLOT_DRL_SEED. -/
def seedWrite (w v : Nat) (s : State) : State :=
  let s1 := setF (PLOT_DRL_SEED_settle_us w) (v / 2 ^ 16) s
  if v % 2 = 1 then seedGo w s1 else s1
/-- R264. -/
def execSeedGo (dt m w settle : Nat) (s : State) : Host.Outcome State Fault Refusal :=
  run s dt (regCmd m (PLOT_DRL_SEED_go w).off (seedWrite w (1 + 2 ^ 16 * settle)))
/-- R264, R61: `settle_us` after the last seed code was taken. -/
def execSeedSettled (dt w : Nat) (s : State) : Host.Outcome State Fault Refusal :=
  run s dt (fun t =>
    match amGet (fun _ => none) t.seedLast w with
    | some x =>
      if fb t (PLOT_DRL_SEED_STAT_busy w) && !seedsWait t w && domOn t (winDomain w) then
        seedDone w (elapseTo t (x + f t (PLOT_DRL_SEED_settle_us w) * us))
      else t
    | none => t)

end Sys2Proof.Machine
end

