-- ==== Sys2Proof/Machine/Loops.lean ====
section
/-! DEFINITION. Element loops: the template laws (R198 to R217), updates and their checks (R219 to R222), frames, quarters
and the quick grid (R192 to R197, R208, R215, R216), engine pairs and the drive lease (R222 to R227), traces (R228,
R229). -/
namespace Sys2Proof.Machine
open Sys2Proof.Config

/-! ### Arithmetic -/

/-- A saturating addition of Q9.31 values, and whether it saturated (R198). -/
def accAdd (a b : Int) : Int × Bool := (satInt 40 (a + b), satInt 40 (a + b) != a + b)
/-- A coefficient product shifted by g, Q9.31 (R198). -/
def gainProd (k e g : Int) : Int :=
  if g < 0 then openDivInt (2 * k * e) (2 ^ (-g).toNat) else satInt 40 (2 * k * e * 2 ^ g.toNat)
/-- Ratio of two readings, Q1.15, saturating (R216). -/
def ratioOf (now : Nat) (num den : Int) : Int :=
  if den = 0 then satInt 16 (zeroRatio now) else satInt 16 (openDivInt (num * 32768) den.toNat)

/-! ### The laws -/

/-- What a law computes: the centre in Q9.31, or none to keep the previous centre; the integrator; the gradient or error
where one was computed; the mean ratio; and whether an accumulator saturated or the drift bound was reached. -/
structure Law where
  raw   : Option Int
  integ : Int
  err   : Option Int := none
  mean  : Int := 0
  acc   : Bool := false
  bound : Bool := false
  deriving DecidableEq, Repr

/-- The samples of an update: readings of inputs a and b, and the pattern's signs in their quarters. -/
structure Smp where
  a  : List Int
  b  : List Int
  sg : List Int
  deriving DecidableEq, Repr

/-- Ratios y of R216. -/
def ysOf (now : Nat) (x : Smp) : List Int := List.zipWith (fun a b => ratioOf now (a - b) (a + b)) x.a x.b
/-- Gradient of R216 for a loop that seeks an extremum of |y|. -/
def gradOf (minimise : Bool) (ys sg : List Int) : Int :=
  let mean := openDivInt ys.sum 4
  let sign : Int := if decide (0 ≤ mean) != minimise then 1 else -1
  openDivInt (sign * (List.zipWith (· * ·) sg ys).sum) 4
/-- EXTREMUM (R216). -/
def extremum (s : State) (w sl n : Nat) (x : Smp) : Law :=
  let ys := ysOf s.clk.now x
  let mean := openDivInt ys.sum 4
  let i0 := integOf s w sl
  if (mean.natAbs : Int) < coefU s w sl n 8 then { raw := none, integ := i0, mean := mean }
  else
    let g := gradOf (fb s (PLOT_LOOP_CFG_minimise w sl)) ys x.sg
    let i1 := accAdd i0 (gainProd (coefS s w sl n 2) g (coefG s w sl n))
    let c := accAdd i1.1 (gainProd (coefS s w sl n 0) g (coefG s w sl n))
    { raw := some c.1, integ := i1.1, err := some g, mean := mean, acc := i1.2 || c.2 }
/-- DRIFT (R216, R217): the integrator is the drift offset, held within the drift bound. -/
def drift (s : State) (w sl n : Nat) (m : Int) (x : Smp) : Law :=
  let ys := ysOf s.clk.now x
  let mean := openDivInt ys.sum 4
  let i0 := integOf s w sl
  if (mean.natAbs : Int) < coefU s w sl n 8 then
    let b0 := coefU s w sl n 0xC * 65536
    { raw := some (m * 65536 + i0), integ := i0, mean := mean, bound := decide (i0 = b0) || decide (i0 = -b0) }
  else
    let g := gradOf (fb s (PLOT_LOOP_CFG_minimise w sl)) ys x.sg
    let i1 := accAdd i0 (gainProd (coefS s w sl n 2) g (coefG s w sl n))
    let bd := coefU s w sl n 0xC * 65536
    let i2 := max (-bd) (min bd i1.1)
    let c := accAdd (m * 65536) i2
    { raw := some c.1, integ := i2, err := some g, mean := mean, acc := i1.2 || c.2, bound := decide (i2 = bd) || decide (i2 = -bd) }
/-- SETPOINT (R216). -/
def setpoint (s : State) (w sl n : Nat) (x : Smp) : Law :=
  let y := if f s (PLOT_LOOP_BIND_input_b w sl) = 0xFFF then openDivInt x.a.sum 4
    else openDivInt (List.zipWith (fun a b => ratioOf s.clk.now a (a + b)) x.a x.b).sum 4
  let e := satInt 16 (fInt s (PLOT_LOOP_SET_setpoint w sl) - y)
  let i1 := accAdd (integOf s w sl) (gainProd (coefS s w sl n 2) e (coefG s w sl n))
  let c := accAdd i1.1 (gainProd (coefS s w sl n 0) e (coefG s w sl n))
  { raw := some c.1, integ := i1.1, err := some e, mean := y, acc := i1.2 || c.2 }

/-! ### One update -/

/-- What an update decides before its law: light, band, state, mode and region (R203 to R207). -/
structure Dec where
  lit   : Bool
  model : Bool                -- mode MODEL
  enter : Bool                -- leaves MODEL (R210)
  st    : Bool
  acq   : Nat
  mode  : Nat
  key   : Nat
  reg   : Nat
  deriving DecidableEq, Repr

/-- The lit decision (R203). -/
def litDecision (s : State) (w sl : Nat) (sum : Int) : Bool :=
  let thr := f s (PLOT_LOOP_CFG_lit_thr w sl) + 26
  if f s (PLOT_LOOP_BIND_input_a w sl) = 0xFFF ∧ f s (PLOT_LOOP_BIND_input_b w sl) = 0xFFF then false
  else if atDb sum 4 thr then true
  else if !atDb sum 4 (thr + f s (PLOT_LOOP_CFG_lit_hyst w sl)) then false
  else fb s (PLOT_LOOP_STAT_lit w sl)
/-- Is a loop held in MODEL by the collector (Table 12-2)? -/
def heldModel (s : State) (w sl : Nat) : Bool :=
  let l := loopOf s w sl
  (l.heldR && fb s (PLOT_LOOP_STAT_range w sl)) ||
    (l.heldS && (fb s (PLOT_LOOP_STAT_sat_acc w sl) || fb s (PLOT_LOOP_STAT_sat_out w sl)))
/-- Decide an update (Table 6-4). -/
def decideUpd (s : State) (w sl : Nat) (quick : Bool) (x : Smp) : Dec :=
  let sum := x.a.sum + x.b.sum
  let lit := litDecision s w sl sum
  let l := loopOf s w sl
  let model := !lit || tmplOf s w sl == 3 || codesHeld s || fb s (PLOT_ENG_STAT_park w) || l.restart || heldModel s w sl
  let enter := !model && f s (PLOT_LOOP_STAT_mode w sl) == 3
  let acq := if enter then f s (PLOT_LOOP_CFG_acq_updates w sl) else f s (PLOT_LOOP_STAT_acq_left w sl)
  let mode := if model then 3 else if quick then 1 else if 0 < acq then 2 else 0
  let st := stateBit s w sl
  let key := regionKey s w sl mode (lightBand s w sum 4) st
  { lit := lit, model := model, enter := enter, st := st, acq := if model || enter then acq else acq - 1, mode := mode, key := key
    reg := regionOf s w sl key }
/-- The centre an update starts from: the centre in force, or the code the channel holds after a start (R211). -/
def prevCentre (s : State) (w sl : Nat) : Int := if (loopOf s w sl).restart then (chanOf s w sl).fed else (loopOf s w sl).c
/-- The model-hold offset of an update in MODEL (R209, R211). -/
def offsetOf (s : State) (w sl : Nat) (d : Dec) (m : Int) : Int :=
  if (loopOf s w sl).restart then satInt 16 (prevCentre s w sl - m)
  else if f s (PLOT_LOOP_STAT_mode w sl) ≠ 3 then satInt 16 (roundQ (2 * coefU s w sl d.reg 0xE * (prevCentre s w sl - m)))
  else fInt s (PLOT_LOOP_MODEL_offset w sl)
/-- The law an update applies; the first closed-loop update keeps the model-hold centre (R210; log 47). -/
def lawOf (s : State) (w sl : Nat) (d : Dec) (m off : Int) (x : Smp) : Law :=
  if d.model then { raw := some ((m + off) * 65536), integ := integOf s w sl }
  else if d.enter then
    { raw := none, integ := (if tmplOf s w sl = 2 then fInt s (PLOT_LOOP_MODEL_offset w sl) else prevCentre s w sl) * 65536 }
  else match tmplOf s w sl with
    | 0 => extremum s w sl d.reg x
    | 1 => setpoint s w sl d.reg x
    | _ => drift s w sl d.reg m x
/-- Clamp to the loop's limits (R200). -/
def limClamp (s : State) (w sl : Nat) (v : Int) : Int :=
  max (fInt s (PLOT_LOOP_LIM_out_min w sl)) (min (fInt s (PLOT_LOOP_LIM_out_max w sl)) v)
/-- The centre's change held within ±step_max; 0 means no limit (R216). -/
def stepLimit (step prev c : Int) : Int := if step = 0 then c else max (prev - step) (min (prev + step) c)
/-- Set one bit of a map of loops. -/
def mapBit (base sl : Nat) : Fld := ⟨base + sl / 32 * 4, sl % 32, 1⟩
/-! ### Traces -/

/-- Base of engine `k`'s trace buffer (R230). -/
def trcBuf (w k : Nat) : Nat := winBase w + (if w < 16 then 0x40000 else 0x50000) + 0x10000 * k
/-- Does the trace write entries now (R229)? -/
def trcWrites (s : State) (w : Nat) : Bool :=
  fb s (PLOT_TRC_CTRL_en w) && (!fb s (PLOT_TRC_CTRL_one_shot w) ||
    (!fb s (PLOT_TRC_STAT_stopped w) && ((fb s (PLOT_TRC_STAT_armed w) && !fb s (PLOT_TRC_STAT_triggered w)) ||
      (fb s (PLOT_TRC_STAT_triggered w) && decide (0 < (trcOf s w).left)))))
/-- Does an engine update (Table 6-11)? -/
def engUpdates (s : State) (w k : Nat) : Bool := engState s w k == 2 || engState s w k == 3
/-- Write one entry into the buffers of the engines that update (Table 6-13). -/
def trcEntry (w v hi : Nat) (s : State) : State :=
  if trcWrites s w then
    let e := f s (PLOT_TRC_STAT_wptr w)
    let x := trcOf s w
    let h := hi + (if x.mark then 32 else 0)
    let s1 := forEach ([0, 1].filter (engUpdates s w)) (fun k t =>
      setRaw (setRaw t (trcBuf w k + 8 * e) (BitVec.ofNat 32 v)) (trcBuf w k + 8 * e + 4) (BitVec.ofNat 32 h)) s
    trcPut w { x with mark := false, left := x.left - 1 } (inc (PLOT_TRC_STAT_wptr w) s1)
  else s
/-- Value of a node (Table 6-13). -/
def trcValue (s : State) (w sl node c0 : Nat) : Nat :=
  match node with
  | 0 => toTwos 32 (fInt s (PLOT_LOOP_ERR_error w sl))
  | 1 => toTwos 40 (integOf s w sl) / 256
  | 2 => f s (PLOT_LOOP_OUT_centre w sl) + 65536 * c0
  | _ => f s (PLOT_LOOP_STAT_region w sl)
/-- Selectors that name a slot. -/
def trcSels (s : State) (w sl : Nat) : List Nat :=
  [0, 1, 2, 3].filter (fun i => f s (PLOT_TRC_SEL_nodes w i) != 0 && f s (PLOT_TRC_SEL_slot w i) == sl)
/-- Trace an update of a selected loop (R228): `c0` is its code of quarter 0, `key` its region key. -/
def trcUpdate (w sl c0 key : Nat) (quick : Bool) (s : State) : State :=
  if (trcSels s w sl).isEmpty || !fb s (PLOT_TRC_CTRL_en w) then s
  else
    let n := (trcOf s w).cnt + 1
    let s1 := trcPut w { trcOf s w with cnt := n } s
    if n % 2 ^ f s (PLOT_TRC_CTRL_decim w) ≠ 0 then s1
    else forEach (trcSels s w sl) (fun i t => forEach [0, 1, 2, 3] (fun k u =>
      if f s (PLOT_TRC_SEL_nodes w i) / 2 ^ k % 2 = 1 then
        trcEntry w (trcValue u w sl k c0 + (if k = 3 then 256 * key else 0))
          (i + 4 * k + 16 * quick.toNat + 65536 * (f u (PLOT_LOOP_CNT_updates w sl) % 65536)) u
      else u) t) s1
/-- Arm a one-shot trace (Table 6-17). -/
def trcArm (w : Nat) (s : State) : State :=
  setF (PLOT_TRC_STAT_stopped w) 0 (setF (PLOT_TRC_STAT_triggered w) 0 (setF (PLOT_TRC_STAT_armed w) 1
    (trcPut w { trcOf s w with left := 0, mark := false } s)))
/-- A write of PLOT_TRC_CTRL. -/
def trcCtrlWrite (w v : Nat) (s : State) : State :=
  let s1 := setF (PLOT_TRC_CTRL_post w) (v / 2 ^ 16) (setF (PLOT_TRC_CTRL_decim w) (v / 256) (setF (PLOT_TRC_CTRL_trig w) (v / 4)
    (setF (PLOT_TRC_CTRL_one_shot w) (v / 2) (setF (PLOT_TRC_CTRL_en w) v s))))
  onlyIf (decide (v / 64 % 2 = 1)) (trcTrigger w) (onlyIf (decide (v / 32 % 2 = 1)) (trcArm w) s1)
/-- A write of one bit of PLOT_TRC_CTRL with the other fields kept. -/
def trcBitWrite (m w bit : Nat) : State → State :=
  regCmd m (PLOT_TRC_CTRL_en w).off (fun t =>
    let v := (rd t (PLOT_TRC_CTRL_en w).off).toNat
    trcCtrlWrite w (v / 256 * 256 + v % 32 + bit) t)
/-- R229. -/
def execTraceArm (dt m w : Nat) (s : State) : Host.Outcome State Fault Refusal := run s dt (trcBitWrite m w 32)
/-- R229. -/
def execTraceForce (dt m w : Nat) (s : State) : Host.Outcome State Fault Refusal := run s dt (trcBitWrite m w 64)
/-- R229: a pulse on the selected TRIGBUS line triggers; the other sources trigger within the commands that bring their events
(`trcEvent`), and with 0, 6 or 7 selected only `force` does. -/
def execTraceTrigger (dt w : Nat) (s : State) : Host.Outcome State Fault Refusal :=
  run s dt (fun t =>
    if domOn t (winDomain w) && (f t (PLOT_TRC_CTRL_trig w) == 4 || f t (PLOT_TRC_CTRL_trig w) == 5) then trcTrigger w t else t)
/-- R229: the entries after the trigger are written; the one-shot trace stops. -/
def execTracePostDone (dt w : Nat) (s : State) : Host.Outcome State Fault Refusal :=
  run s dt (fun t =>
    if fb t (PLOT_TRC_CTRL_one_shot w) && fb t (PLOT_TRC_STAT_triggered w) && (trcOf t w).left == 0 then
      setF (PLOT_TRC_STAT_stopped w) 1 (setF (PLOT_TRC_STAT_armed w) 0 t)
    else t)

/-! ### Carrying out an update -/

/-- The codes an update stages: the centre alone without dither, else one code for each quarter (R216). -/
def codesOf (s : State) (w sl : Nat) (c a : Int) : List Int :=
  if a = 0 then [c] else (List.range 4).map (fun i => limClamp s w sl (satInt 16 (c + a * walshSign (f s (PLOT_LOOP_CFG_walsh w sl)) i)))
/-- The record after an update (Table 6-14). -/
def putRecord (w sl : Nat) (d : Dec) (x : Smp) (m off c integ : Int) (lw : Law) (s : State) : State :=
  let s1 := setF (PLOT_LOOP_STAT_acq_left w sl) d.acq (setB (PLOT_LOOP_STAT_state w sl) d.st (setF (PLOT_LOOP_STAT_region w sl) d.reg
    (setF (PLOT_LOOP_STAT_stale w sl) 0 (setB (PLOT_LOOP_STAT_lit w sl) d.lit (setF (PLOT_LOOP_STAT_mode w sl) d.mode s)))))
  let s2 := setF (PLOT_LOOP_MODEL_offset w sl) (toTwos 16 off) (setF (PLOT_LOOP_MODEL_model w sl) (toTwos 16 m)
    (integPut w sl integ (setF (PLOT_LOOP_OUT_centre w sl) (toTwos 16 c) s1)))
  let s3 := match lw.err with | some e => setF (PLOT_LOOP_ERR_error w sl) (toTwos 16 e) s2 | none => s2
  inc (PLOT_LOOP_CNT_updates w sl) (setF (PLOT_LOOP_PWR_pb w sl) (openDivInt x.b.sum 4).toNat
    (setF (PLOT_LOOP_PWR_pa w sl) (openDivInt x.a.sum 4).toNat (setF (PLOT_LOOP_ERR_mean w sl) (toTwos 16 lw.mean) s3)))
/-- The range check (R220): `lim` when the centre was clamped or the drift bound reached. -/
def rangeCheck (w sl : Nat) (lim : Bool) (s : State) : State :=
  if lim then
    let s1 := incSat (PLOT_LOOP_LIMCNT_at_limit w sl) s
    let n := f s (PLOT_RANGE_CFG_range_updates w)
    if n ≠ 0 ∧ n ≤ f s1 (PLOT_LOOP_LIMCNT_at_limit w sl) then sticky (PLOT_LOOP_STAT_range w sl) 1 w sl s1 else s1
  else setF (PLOT_LOOP_LIMCNT_at_limit w sl) 0 s
/-- One update that stands (R193, R199 to R201, R209 to R211, R216, R217, R219, R220): `last` when it is quick update 3. -/
def updateLoop (w sl : Nat) (quick last : Bool) (x : Smp) (s : State) : State :=
  let d := decideUpd s w sl quick x
  let m := modelCode s w sl d.st
  let off := if d.model then offsetOf s w sl d m else fInt s (PLOT_LOOP_MODEL_offset w sl)
  let lw := lawOf s w sl d m off x
  let prev := prevCentre s w sl
  let r := match lw.raw with | some v => roundQ v | none => prev
  let c0 := limClamp s w sl (satInt 16 r)
  let cut := lw.raw.isSome && c0 != r
  let c := stepLimit (coefU s w sl d.reg 6) prev c0
  let a := if d.model then 0 else ditherAmp s w sl d.reg (if quick then (loopOf s w sl).qd else s.dithFrame)
  let codes := codesOf s w sl c a
  let dcut := a != 0 && (List.range 4).any (fun i => codes.getD i 0 != c + a * walshSign (f s (PLOT_LOOP_CFG_walsh w sl)) i)
  let integ := if cut then integOf s w sl else lw.integ
  let l := loopOf s w sl
  let l' : LoopX := { l with c := c, restart := false, staged := if quick then [] else codes, qa := if quick then a else 0, mdl := d.model }
  let chg := f s (PLOT_LOOP_STAT_mode w sl) != d.mode && !(trcSels s w sl).isEmpty
  let s1 := onlyIf chg (trcEvent 3 w) (putRecord w sl d x m off c integ lw (loopPut w sl l' s))
  let s2 := onlyIf (cut || dcut) (sticky (PLOT_LOOP_STAT_sat_out w sl) 7 w sl) (onlyIf lw.acc (sticky (PLOT_LOOP_STAT_sat_acc w sl) 7 w sl) s1)
  let s3 := rangeCheck w sl (cut || lw.bound) s2
  let far := match lw.err with | some e => decide (coefU s w sl d.reg 0xA < e.natAbs) | none => false
  let s4 := onlyIf (last && !d.model && far && hasHolder s w) (sticky (PLOT_LOOP_STAT_range w sl) 1 w sl) s3
  trcUpdate w sl (toTwos 16 (codes.headD c)) d.key quick s4

/-! ### Lockstep -/

/-- Registers of a window's loop records. -/
def recordRegs (s : State) (w : Nat) : AMap Word :=
  s.regs.filter (fun e => decide (winBase w + 0x10000 ≤ e.1) && decide (e.1 < winBase w + 0x10000 + 64 * winLoops w))
/-- An engine is DIVERGED (R222): engine 0's copy of the records then stays as it is. -/
def diverge (w sl k : Nat) (s : State) : State :=
  let s1 := engSet w k 4 (setF (if k = 0 then PLOT_ENG_DIV_div0 w else PLOT_ENG_DIV_div1 w) 1 s)
  let s2 := if k = 0 then engPut w { engOf s1 w with frozen := some (recordRegs s1 w) } s1 else s1
  pairRaise 8 w (winDetail w sl k) s2
/-- A disagreement is counted. -/
def mismatch (w sl : Nat) (s : State) : State := setF (PLOT_ENG_DIV_slot w) sl (inc (PLOT_ENG_CNT_MIS_count w) s)
/-- An update under the comparison of both engines (R222): `cmp` is 0 when the results agree, 1 when the retry agrees,
2 when it disagrees again; `r0`, `r1` say whose residue check failed. An engine alone is judged by its own check. -/
def compared (w sl cmp : Nat) (r0 r1 : Bool) (g : State → State) (s : State) : State :=
  let u0 := engUpdates s w 0
  let u1 := engUpdates s w 1
  if !u0 && !u1 then s
  else if u0 && u1 then
    if cmp = 0 then onlyIf r1 (diverge w sl 1) (onlyIf r0 (diverge w sl 0) (g s))
    else
      let s1 := mismatch w sl s
      if r0 != r1 then diverge w sl (if r0 then 0 else 1) s1
      else if cmp = 1 then g s1
      else diverge w sl (if engState s w 0 = 2 then 0 else 1) (setF (PLOT_ENG_DIV_undecided w) 1 (mismatch w sl s1))
  else if (u0 && r0) || (u1 && r1) then diverge w sl (if u0 then 0 else 1) s
  else g s
/-- An engine is reset (R224, R225): it resynchronises while its partner updates, else it stays OFF (log 46). -/
def engReset (w k : Nat) (s : State) : State :=
  if engState s w k = 4 then engSet w k (if engUpdates s w (1 - k) then 1 else 0) s else s

/-! ### Updates at their slots -/

/-- Readings of an input over the samples that `get` picks. -/
def inputOf (s : State) (w code : Nat) (get : SnsX → Nat → Nat → Int) : List Int :=
  match inputChan w code with
  | some i => (List.range 4).map (get (snsOf s w i) i)
  | none => [0, 0, 0, 0]
/-- Samples of the previous frame (R193). -/
def normalSmp (s : State) (w sl : Nat) : Smp :=
  let get (x : SnsX) (_ n : Nat) : Int := smpAt x (s.frameAt / 125000 + n - 3)
  { a := inputOf s w (f s (PLOT_LOOP_BIND_input_a w sl)) get, b := inputOf s w (f s (PLOT_LOOP_BIND_input_b w sl)) get
    sg := (List.range 4).map (walshSign (f s (PLOT_LOOP_CFG_walsh w sl))) }
/-- Samples of quick quarters `b` to `b + 3` of the grid of tick `t0` (R208, R216). -/
def quickSmp (s : State) (w sl t0 b : Nat) : Smp :=
  let get (_ : SnsX) (i n : Nat) : Int := quickAtKey s w i (t0 * 16 + b + n)
  { a := inputOf s w (f s (PLOT_LOOP_BIND_input_a w sl)) get, b := inputOf s w (f s (PLOT_LOOP_BIND_input_b w sl)) get
    sg := (List.range 4).map (fun n => walshSign (f s (PLOT_LOOP_CFG_walsh w sl)) (b + n)) }
/-- Does the pair update a loop at all: it runs, the loop is enabled, its cell is in service and not parked, its VOA is
in use, no calibration holds it, and no channel of its inputs changes slice in this frame (R67, R68, R214, R286, R374)? -/
def loopRuns (s : State) (w sl : Nat) : Bool :=
  domOn s (winDomain w) && fb s (PLOT_ENG_CTRL_run w) && fb s (PLOT_LOOP_CFG_enable w sl) && !fb s (PLOT_LOOP_STAT_stale w sl) &&
    !chFallow s w sl && !voaUnused s w sl && !heaterParked s w sl &&
    !(boundChans s w sl).any (fun i => (slcOf s w).blank.contains (sliceOf w i))
/-- Does some engine of a pair update? -/
def pairUpdates (s : State) (w : Nat) : Bool := engUpdates s w 0 || engUpdates s w 1
/-- Is a normal update of the loop due in this frame? -/
def updateDue (s : State) (w sl : Nat) : Bool :=
  loopRuns s w sl && (loopOf s w sl).q0.isNone && (loopOf s w sl).post == 0 && (loopOf s w sl).doneAt != some s.frameAt
/-- An update starts: what was written to the loop's record is in force from here (R231). -/
def updStart (w sl : Nat) (quick : Bool) (s : State) : State :=
  let l := loopOf s w sl
  loopPut w sl { l with
    cfgF := rd s (PLOT_LOOP_CFG_enable w sl).off, bindF := rd s (PLOT_LOOP_BIND_input_a w sl).off
    limF := rd s (PLOT_LOOP_LIM_out_min w sl).off, doneAt := if quick then l.doneAt else some s.frameAt } s
/-- An update has not staged its codes by its deadline (R195): its results are discarded. -/
def lateNote (w sl : Nat) (s : State) : State :=
  sticky (PLOT_LOOP_STAT_late w sl) 6 w sl (incSat (PLOT_LOOP_LIMCNT_lates w sl) (inc (PLOT_ENG_CNT_LATE_count w) s))
/-- The mark of an element takes hold at its first update slot after it (R311). -/
def staleNow (w sl : Nat) (s : State) : State :=
  let l := loopOf s w sl
  if l.doneAt = some s.frameAt then s
  else setF (PLOT_LOOP_STAT_stale w sl) 1
    (loopPut w sl { l with staged := [], active := [], q0 := none, post := 0, doneAt := some s.frameAt } (elapseTo s (slotOpen s sl)))
/-- A loop's normal update; an element under calibration shows stale instead, and one made after its slot window is late (R193 to
R195, R311). -/
def loopUpdate (w sl cmp : Nat) (r0 r1 : Bool) (s : State) : State :=
  if (markOf s w sl).isSome && !fb s (PLOT_LOOP_STAT_stale w sl) && fb s (PLOT_ENG_CTRL_run w) then staleNow w sl s
  else if updateDue s w sl && pairUpdates s w then
    let u := runConv w (elapseTo s (slotOpen s sl))
    let u1 := updStart w sl false u
    if slotOpen s sl + 800 < u.clk.now then lateNote w sl u1
    else compared w sl cmp r0 r1 (updateLoop w sl false false (normalSmp u1 w sl)) u1
  else s
/-- R193, R222. -/
def execLoopUpdate (dt w sl cmp : Nat) (r0 r1 : Bool) (s : State) : Host.Outcome State Fault Refusal :=
  run s dt (loopUpdate w sl cmp r0 r1)

/-! ### The quick grid -/

/-- Loops of a window on the quick grid of a tick. -/
def quickLoops (s : State) (w t0 : Nat) : List Nat := (winKeys w s.loops).filter (fun sl => (loopOf s w sl).q0 == some t0)
/-- The dither code of a quick quarter is pushed (R216), its scaling latched (R373); a late starter takes its amplitude now, and in
PARK no dither is applied (R197). -/
def quickPush (w sl k : Nat) (s : State) : State :=
  let s1 := loopPut w sl { loopOf s w sl with qd := f s GOV_STAT_dither } s
  let l := loopOf s1 w sl
  let a := if l.lateS ∧ k = 1 then quickAmp s1 w sl else if fb s1 (PLOT_ENG_STAT_park w) then 0 else l.qa
  if l.qlate then s1
  else ditherPush w sl l.c (a * walshSign (walshF s1 w sl) k) (loopPut w sl { l with qa := a } s1)
/-- Quick quarter `k` of the grid of tick `t0` begins; 8 ends the last (Table 6-5). -/
def quickQuarter (t0 k : Nat) (l : RawCodes) (s : State) : State :=
  let u := runConvs (elapseTo s (t0 * tickPeriod + 2800 + 25000 * k))
  let u1 := applyReserve u.clk.now u
  let u2 := forEach (onWindows u1) (fun w t =>
    forEach (((quickLoops t w t0).flatMap (boundChans t w)).eraseDups) (fun i => quickSample l w i (t0 * 16 + (k - 1))) t) u1
  if k < 8 then forEach (onWindows u2) (fun w t => forEach (quickLoops t w t0) (fun sl => quickPush w sl k) t) u2 else u2
/-- R208, R278, R373. -/
def execQuickQuarter (dt t0 k : Nat) (l : List (Nat × (Nat × Nat))) (s : State) : Host.Outcome State Fault Refusal :=
  run s dt (quickQuarter t0 k l)
/-- The quick interval of a loop ends (R215). -/
def quickEnd (w sl : Nat) (s : State) : State :=
  let s1 := quickLeave w sl s
  loopPut w sl { loopOf s1 w sl with post := 2 } s1
/-- Instant of quick update `n` (Table 6-5). -/
def quickAt (t0 n : Nat) (late : Bool) : Nat := t0 * tickPeriod + 52800 + 50000 * n + (if late && n == 1 then 25000 else 0)
/-- Quick update `n` has not staged its codes within 1 us (R195, Table 6-5): nothing is pushed for the loop until the next; after
update 3 the interval ends. -/
def quickLate (w sl n : Nat) (s : State) : State :=
  let s1 := lateNote w sl (loopPut w sl { loopOf s w sl with qn := n, qlate := true } s)
  if n = 3 then quickEnd w sl s1 else s1
/-- Quick update `n` of a loop (R208); update 3 ends its quick interval, and its centre is pushed when it stands. -/
def quickUpdate (w sl n cmp : Nat) (r0 r1 : Bool) (s : State) : State :=
  match (loopOf s w sl).q0 with
  | none => s
  | some t0 =>
    let late := (loopOf s w sl).lateS
    let at_ := quickAt t0 n late
    if n ≤ (loopOf s w sl).qn ∨ 3 < n then s
    else
      let u := runConv w (elapseTo s at_)
      let u1 := loopPut w sl { loopOf u w sl with qn := n, qlate := false } u
      if !(loopRuns u1 w sl && pairUpdates u1 w) then (if n = 3 then quickEnd w sl u1 else u1)
      else if at_ + us < u1.clk.now then quickLate w sl n u1
      else
        let b := if late && n == 1 then 1 else 2 * (n - 1)
        let u2 := updStart w sl true u1
        let u3 := compared w sl cmp r0 r1 (updateLoop w sl true (n == 3) (quickSmp u2 w sl t0 b)) u2
        if n = 3 then
          let u4 := quickEnd w sl u3
          if f u3 (PLOT_LOOP_CNT_updates w sl) = f u2 (PLOT_LOOP_CNT_updates w sl) then u4 else loopPush w sl (loopOf u4 w sl).c u4
        else u3
/-- R208, R219. -/
def execQuickUpdate (dt w sl n cmp : Nat) (r0 r1 : Bool) (s : State) : Host.Outcome State Fault Refusal :=
  run s dt (quickUpdate w sl n cmp r0 r1)
/-- A deadline passes (R195): that of the loop's normal update in this frame, or of its next quick update. -/
def deadlineMiss (w sl : Nat) (s : State) : State :=
  if !pairUpdates s w || !loopRuns s w sl then s
  else match (loopOf s w sl).q0 with
    | none => if updateDue s w sl then lateNote w sl (updStart w sl false (elapseTo s (slotOpen s sl + 800))) else s
    | some t0 =>
      let n := (loopOf s w sl).qn + 1
      if n ≤ 3 then quickLate w sl n (elapseTo s (quickAt t0 n (loopOf s w sl).lateS + us)) else s
/-- R195: the update has not staged its codes by the end of its slot window, or of its microsecond on the quick grid. -/
def execLoopDeadlineMiss (dt w sl : Nat) (s : State) : Host.Outcome State Fault Refusal := run s dt (deadlineMiss w sl)

/-! ### Frames and quarters -/

/-- Push a loop's codes of quarter `q` in force, where it has dither codes. -/
def pushQuarter (w sl q : Nat) (s : State) : State :=
  match (loopOf s w sl).active with
  | _ :: _ :: _ => loopPush w sl ((loopOf s w sl).active.getD q 0) s
  | _ => s
/-- The codes with which dither resumes around a loop's centre after a quick interval (R215), under the limits in force; the second
part says whether one was cut (R200). -/
def resumeCodes (s : State) (w sl : Nat) : List Int × Bool :=
  let l := loopOf s w sl
  let p : Nat := f s (PLOT_LOOP_PWR_pa w sl) + f s (PLOT_LOOP_PWR_pb w sl)
  let n := regionOf s w sl (regionKey s w sl 0 (lightBand s w p 1) (stateBit s w sl))
  let a := if mayDither s w sl then ditherAmp s w sl n s.dithFrame else 0
  let raw := (List.range 4).map (fun i => l.c + a * walshSign (walshF s w sl) i)
  if a = 0 then ([l.c], false) else (raw.map (clampOut s w sl), raw.any (fun v => clampOut s w sl v != v))
/-- What a frame boundary does to one loop (R193, R215): staged codes come into force and the first is pushed, in PARK the centre
alone (R197); after a quick interval the dither resumes around the centre. A quick interval whose last update never came ends late. -/
def frameLoop (w sl : Nat) (s : State) : State :=
  let l := loopOf s w sl
  let far := match l.q0 with | some t0 => decide (quickAt t0 3 false + us < s.clk.now) | none => false
  let s0 := if !far then s
    else if loopRuns s w sl && pairUpdates s w then quickLate w sl 3 s else quickEnd w sl s
  let l := loopOf s0 w sl
  let go (cs : List Int) (p : Nat) (t : State) : State :=
    let t1 := loopPut w sl { loopOf t w sl with active := cs, staged := [], post := p } t
    match cs with | c :: _ => loopPush w sl c t1 | [] => t1
  if !l.staged.isEmpty then go (if fb s0 (PLOT_ENG_STAT_park w) then [l.c] else l.staged) 0 s0
  else if l.post = 2 then
    let r := resumeCodes s0 w sl
    go r.1 1 (onlyIf r.2 (sticky (PLOT_LOOP_STAT_sat_out w sl) 7 w sl) s0)
  else if l.post = 1 then go (if fb s0 (PLOT_ENG_STAT_park w) then [] else l.active) 0 s0
  else go [] 0 s0
/-- What a frame boundary does to an engine pair (R223 to R225): a start, the renewal of the lease, repairs. -/
def frameEng (w : Nat) (s : State) : State :=
  let x := engOf s w
  let s1 :=
    if x.start && engState s w 0 == 2 then
      setF (PLOT_ENG_STAT_lease_left w) 3 (setF (PLOT_ENG_STAT_holder w) 0 (engSet w 0 3 (engPut w { x with start := false } s)))
    else
      let t := engPut w { x with start := false } s
      if hasHolder s w then setF (PLOT_ENG_STAT_lease_left w) 3 t
      else setF (PLOT_ENG_STAT_lease_left w) (f s (PLOT_ENG_STAT_lease_left w) - 1) t
  let auto := fb s (PLOT_ENG_CTRL_auto_repair w)
  let s2 := onlyIf (auto || x.rep.testBit 1) (engReset w 1) (onlyIf (auto || x.rep.testBit 0) (engReset w 0) s1)
  inc (PLOT_ENG_FRAME_frames w) (engPut w { engOf s2 w with rep := 0 } s2)
/-- What a frame boundary does to a window. -/
def frameWin (w : Nat) (s : State) : State :=
  let s1 := setB (PLOT_ENG_STAT_park w) (devState s == 2) s
  let s2 := if fb s1 (PLOT_ENG_CTRL_run w) then frameEng w s1 else s1
  forEach (winKeys w s2.loops) (frameLoop w) s2
/-- The next frame boundary. -/
def nextFrame (s : State) : Nat :=
  max (s.frameAt / frameLen s + 1) ((s.clk.now + (frameLen s - 1)) / frameLen s) * frameLen s
/-- A frame boundary (R192, R197, R286, R287, R373 to R375): the slices change hands, sample 3 ends, codes are pushed, cells enter or
leave cold park. -/
def frameBoundary (l : RawCodes) (s : State) : State :=
  let at_ := nextFrame s
  let u := runConvs (elapseTo s at_)
  let u1 := forEach (onWindows u) sliceBoundary { u with frameAt := at_, dithFrame := f u GOV_STAT_dither }
  let u2 := sampleAll l u1
  let u3 := forEach (onWindows u2) frameWin u2
  let u4 := if coldPark u3 then u3 else forEach ((List.range 1920).filter (fun i => u3.parked.getLsbD i)) unparkCell u3
  parkIdle u4
/-- R192. -/
def execFrameBoundary (dt : Nat) (l : List (Nat × (Nat × Nat))) (s : State) : Host.Outcome State Fault Refusal :=
  run s dt (frameBoundary l)
/-- Instant of the next boundary of quarter `q`. -/
def nextQuarter (s : State) (q : Nat) : Nat :=
  s.frameAt + 125000 * q + (s.clk.now - (s.frameAt + 125000 * q) + 499999) / 500000 * 500000
/-- A quarter boundary (R216, R274, R285): the sample of the quarter that ends, dither codes, and after sample 2 the
references of the slices. Quarter 0 is the 50 us boundary within a frame of PARK. -/
def quarterBoundary (q : Nat) (l refs : RawCodes) (s : State) : State :=
  if q = 0 ∧ devState s ≠ 2 then s
  else
    let u := sampleAll l (runConvs (elapseTo s (nextQuarter s q)))
    let u1 := if q = 3 then forEach (onWindows u) (refWin refs) u else u
    if q = 0 then u1
    else forEach (onWindows u1) (fun w t => forEach (winKeys w t.loops) (fun sl => pushQuarter w sl q) t) u1
/-- R216, R274. -/
def execQuarterBoundary (dt q : Nat) (l refs : List (Nat × (Nat × Nat))) (s : State) : Host.Outcome State Fault Refusal :=
  run s dt (quarterBoundary q l refs)

/-! ### The lease and the engines -/

/-- The lease of a pair has run out (R223, R227): a STANDBY engine takes it, and pushes from the next frame boundary on (Table
6-12), or the pair has no holder. -/
def leaseExpire (w : Nat) (s : State) : State :=
  if !fb s (PLOT_ENG_CTRL_run w) || hasHolder s w || f s (PLOT_ENG_STAT_lease_left w) != 0 || (engOf s w).start ||
      fb s (PLOT_ENG_STAT_no_holder w) then s
  else match [0, 1].find? (fun k => engState s w k == 2) with
    | some k =>
      let moved := f s (PLOT_ENG_STAT_holder w) ≠ k
      let s1 := setF (PLOT_ENG_STAT_lease_left w) 3 (setF (PLOT_ENG_STAT_holder w) k (engSet w k 3
        (engPut w { engOf s w with pushAt := nextFrame s } s)))
      onlyIf (decide moved) (fun t => inc (PLOT_ENG_CNT_HAND_count w) (setF (PLOT_ENG_DIV_handover w) 1 t)) s1
    | none => raise 9 w (setF (PLOT_ENG_STAT_no_holder w) 1 s)
/-- R223, R227. -/
def execLeaseExpire (dt w : Nat) (s : State) : Host.Outcome State Fault Refusal :=
  run s dt (fun t => if domOn t (winDomain w) then leaseExpire w t else t)

/-- A pair starts (R211, R224, R484): both engines leave OFF, every loop restarts, a held window is reclaimed. -/
def pairStart (w : Nat) (s : State) : State :=
  let s1 := forEach [0, 1] (fun k t => if engState t w k = 0 then engSet w k 2 t else t) s
  let s2 := setF (PLOT_ENG_FRAME_frames w) 0 (setF (PLOT_ENG_STAT_no_holder w) 0 (setF (PLOT_ENG_STAT_no_temp w) 0
    (setF (PLOT_ENG_STAT_lease_left w) 0 (setF (PLOT_ENG_CTRL_run w) 1 s1))))
  let s3 := setF ⟨BOOT_HOLD_STAT_windows.off, w, 1⟩ 0 (engPut w { start := true } s2)
  forEach (winKeys w s3.loops) (restartLoop w) s3
/-- A pair stops (R227, R484; log 46): no updates, both engines OFF, the channels hold. -/
def pairStop (w : Nat) (s : State) : State :=
  let s1 := setF (PLOT_ENG_STAT_no_holder w) 0 (setF (PLOT_ENG_STAT_lease_left w) 0 (engSet w 1 0 (engSet w 0 0
    (setF (PLOT_ENG_CTRL_run w) 0 s))))
  forEach (winKeys w s1.loops) (fun sl t => loopPut w sl { loopOf t w sl with staged := [], active := [] } t) (engPut w {} s1)
/-- Does a pair still wait for the working-set load that its domain's wake made due (R307)? -/
def firstLoadDue (s : State) (w : Nat) : Bool :=
  amGet (fun _ => false) s.wsLoad w && decide (wsGen s w = 0) && !winHeld s w
/-- A write of PLOT_ENG_CTRL (R205, R211, R224, R227). A pair whose first load is still due does not start: `run` stays 0 (R307;
DESIGN CHOICE, log 82). -/
def engCtrlWrite (w v : Nat) (s : State) : State :=
  let was := fb s (PLOT_ENG_CTRL_run w)
  let s1 := setF (PLOT_ENG_CTRL_quick_en w) (v / 4) (setF (PLOT_ENG_CTRL_auto_repair w) (v / 2) s)
  let s2 :=
    if v % 2 = 1 then (if was || firstLoadDue s1 w then s1 else if siteMissing s1 w then setF (PLOT_ENG_STAT_no_temp w) 1 s1 else pairStart w s1)
    else if was then pairStop w s1 else s1
  onlyIf (decide (v / 512 % 2 = 1)) (engReset w 1) (onlyIf (decide (v / 256 % 2 = 1)) (engReset w 0) s2)
/-- A write of PLOT_ENG_CTRL by a master. -/
def engMaster (m w : Nat) (g : Nat → Nat) : State → State :=
  regCmd m (PLOT_ENG_CTRL_run w).off (fun t => engCtrlWrite w (g ((rd t (PLOT_ENG_CTRL_run w).off).toNat % 8)) t)
/-- R205, R211, R484: 1 is written to `run`, the other fields kept. -/
def execPairRun (dt m w : Nat) (s : State) : Host.Outcome State Fault Refusal := run s dt (engMaster m w (fun v => v / 2 * 2 + 1))
/-- R227: 0 is written to `run`. -/
def execPairStop (dt m w : Nat) (s : State) : Host.Outcome State Fault Refusal := run s dt (engMaster m w (fun v => v / 2 * 2))
/-- R224: 1 is written to `repair0` or `repair1`. -/
def execEngineRepair (dt m w k : Nat) (s : State) : Host.Outcome State Fault Refusal :=
  run s dt (engMaster m w (fun v => v + 256 * 2 ^ k))
/-- R226: a resynchronising engine has copied its partner's records; at the next frame boundary the full compare decides. A
pair without a holder cannot resynchronise (R227). -/
def resyncDone (w k : Nat) (agree : Bool) (s : State) : State :=
  if engState s w k = 1 then
    let u := elapseTo s (nextFrame s)
    if agree && hasHolder u w then engSet w k 2 (if k = 0 then engPut w { engOf u w with frozen := none } u else u)
    else engSet w k 0 u
  else s
/-- R224, R226. -/
def execEngineResyncDone (dt w k : Nat) (agree : Bool) (s : State) : Host.Outcome State Fault Refusal :=
  run s dt (fun t => if domOn t (winDomain w) then resyncDone w k agree t else t)

end Sys2Proof.Machine
end

