-- ==== Sys2Proof/Machine/Governor.lean ====
section
/-! DEFINITION. The governor: temperature on demand (R357 to R362), thresholds and the throttle step (R363 to R367), the
heater budget (R368 to R373), cold park coming into force (R374), the trip and THERM_N (R377, R378). -/
namespace Sys2Proof.Machine
open Sys2Proof.Config

/-! ### The row in force -/

/-- Is a work class (Table 11-6, 3 to 6) withdrawn by the budget? -/
def classOff (s : State) (c : Nat) : Bool := s.withdrawn.contains c
/-- Does the step in force admit a class? -/
def stepAdmits (s : State) (c : Nat) : Bool :=
  let n := f s GOV_STEP_step
  match c with
  | 6 => fb s (GOV_STEP_HTR_harrow_ok n)
  | 5 => fb s (GOV_STEP_HTR_cal_ok n)
  | 4 => !fb s (GOV_STEP_HTR_cold_park n)
  | _ => true
/-- The flags and the dither scaling in force (R370, R372): a class runs while the step admits it and the budget has not
withdrawn it. Idle cells are parked when cold park comes into force (R374). -/
def govFlags (s : State) : State :=
  let cal := stepAdmits s 5 && !classOff s 5
  let w := (classOff s 3).toNat + 2 * (classOff s 4).toNat + 4 * (classOff s 5).toNat + 8 * (classOff s 6).toNat
  let s1 := onlyIf (cal != fb s GOV_STAT_cal_ok) (setF GOV_STAT_cal_chg 1) s
  parkIdle (setF GOV_STAT_withdrawn w (setF GOV_STAT_dither (if classOff s 3 then 3 else f s (GOV_STEP_HTR_dither (f s GOV_STEP_step)))
    (setB GOV_STAT_cold_park (!(stepAdmits s 4 && !classOff s 4)) (setB GOV_STAT_harrow_ok (stepAdmits s 6 && !classOff s 6)
      (setB GOV_STAT_cal_ok cal s1)))))
/-- Apply the row of the step in force (R367). -/
def applyRow (s : State) : State :=
  let n := f s GOV_STEP_step
  govFlags (setF GOV_LIMIT_limit_mw (100 * f s (GOV_STEP_HTR_limit n)) (setRate (f s (GOV_STEP_RATE_rate n)) s))
/-- The throttle step follows the floor and the governed step (R364). -/
def stepNote (s : State) : State :=
  let n := max (f s GOV_STEP_floor) (f s GOV_STEP_governed)
  if n = f s GOV_STEP_step then s else rotThrottle (applyRow (setF GOV_STEP_step n s))
/-- The step rose: `rise`, and its count. -/
def riseNote (s : State) : State := inc GOV_CNT_RISE_count (setF GOV_STAT_rise 1 s)
/-- Bring the start of the interval of R365 up to date. -/
def fallNote (s : State) : State :=
  let g := f s GOV_STEP_governed
  let below := decide (0 < g) && (List.range 48).all (fun i => decide (f s (GOV_SITE_LEVEL_release i) < g))
  { s with fallSince := if below then some (s.fallSince.getD s.clk.now) else none }

/-! ### Demands and conversions -/

/-- A write of GOV_DEMAND_LO or _HI by a master. -/
def demandWrite (m : Nat) (hi : Bool) (v : Nat) (s : State) : State :=
  demandSites (if m = 0 then 1 else 0) (if hi then v % 65536 * 2 ^ 32 else v % 2 ^ 32) s
/-- R358, R359. -/
def execTempDemandWrite (dt m : Nat) (hi : Bool) (v : Nat) (s : State) : Host.Outcome State Fault Refusal :=
  run s dt (regCmd m (if hi then GOV_DEMAND_HI_sites.off else GOV_DEMAND_LO_sites.off) (demandWrite m hi v))
/-- An expiry of the demand timer, which counts its interval on TB0 (Table 11-2). -/
def demandTimer (s : State) : State :=
  demandSites 2 (f s GOV_TMR_SITES_LO_sites + 2 ^ 32 * f s GOV_TMR_SITES_HI_sites)
    (elapseTo s (tb0Multiple s (f s GOV_CTRL_timer * 5000000)))
/-- R358. -/
def execDemandTimer (dt : Nat) (s : State) : Host.Outcome State Fault Refusal := run s dt demandTimer

/-! ### Rates and levels -/

/-- A rate of rise: a difference in 1/256 degree over a span in 2^-40 ns; no span stands for a rate that counts as 0. -/
abbrev Rate := Int × Nat
/-- The rate in 0.01 degree per second reaches a bound: at or above it, or above it when `strict`. -/
def rateReaches (strict : Bool) (r : Rate) (bound : Int) : Bool :=
  let l := r.1 * 100 * secUnit
  let b := bound * 256 * (max 1 r.2 : Nat)
  if strict then decide (b < l) else decide (b ≤ l)
/-- The rate as its register shows it, saturating. -/
def rateCode (r : Rate) : Nat := toTwos 16 (satInt 16 (openDivInt (r.1 * 100 * secUnit) (256 * max 1 r.2)))
/-- The rate from an earlier sample, 0 when there is none or the span is too short (R362). -/
def rateFrom (minDt : Nat) (n : Nat × Int) : Option (Nat × Int) → Rate
  | some e => if e.1 + minDt ≤ n.1 then (n.2 - e.2, n.1 - e.1) else (0, 0)
  | none => (0, 0)
/-- The two rates of the newest of a site's samples (R362): two-point and window. -/
def siteRates (s : State) (l : List (Nat × Int)) : Rate × Rate :=
  let minDt := f s GOV_CTRL_min_dt * 100000 * nsUnit
  match l with
  | [] => ((0, 0), (0, 0))
  | n :: t => (rateFrom minDt n (t.find? (fun e => decide (e.1 + minDt ≤ n.1))), rateFrom minDt n (l[f s GOV_CTRL_window - 1]?))
/-- A level of a site: the highest step among its enabled thresholds that `hit` selects. -/
def siteLevel (s : State) (i : Nat) (hit : Nat → Bool) : Nat :=
  (([0, 1, 2, 3].filter (fun k => fb s (GOV_THR_en i k) && hit k)).map (fun k => f s (GOV_THR_step i k))).foldl max 0
/-- The levels a sample forms (R363). -/
def siteLevels (s : State) (i : Nat) (r : Rate × Rate) : Nat × Nat :=
  let m (k : Nat) : Rate := if fb s (GOV_THR_measure i k) then r.2 else r.1
  (siteLevel s i (fun k => rateReaches false (m k) (f s (GOV_THR_rate i k) : Nat)),
   siteLevel s i (fun k => rateReaches true (m k) ((f s (GOV_THR_rate i k) : Int) - (f s GOV_RECOVER_hyst : Nat))))
/-- THERM_N (R378): driven low at `therm_c`, released 5 degrees below it. -/
def thermNote (s : State) : State :=
  let at_ (d : Int) : Bool := (List.range 48).any (fun i => siteValid s i && decide (((f s GOV_THERM_therm_c : Int) + d) * 256 ≤ fInt s (GOV_SITE_TEMP_temp i)))
  if at_ 0 then setF GOV_STAT_therm 1 s else if at_ (-5) then s else setF GOV_STAT_therm 0 s
/-- A demand level above the governed step raises it (R364). -/
def raiseStep (lvl : Nat) (s : State) : State :=
  if lvl ≤ f s GOV_STEP_governed then s
  else raise 32 0 (stepNote (riseNote { setF GOV_STEP_governed lvl s with stepAt := s.clk.now }))
/-- A sample of site `i` (R360 to R364, R377, R378), `t` in 1/256 degree. -/
def siteSample (i : Nat) (t : Int) (s : State) : State :=
  let v := tbNow s 0
  let l := ((v, t) :: amGet (fun _ => []) s.siteHist i).take 16
  let r := siteRates s l
  let s1 := setF (GOV_SITE_TS_SL_sec_low i) (tSec v) (setF (GOV_SITE_TS_NS_ns i) (tNs v) (setF (GOV_SITE_TEMP_valid i) 1
    (setF (GOV_SITE_TEMP_temp i) (toTwos 16 t) { s with siteHist := amSet (fun _ => []) s.siteHist i l })))
  let lv := siteLevels s1 i r
  let s2 := setF (GOV_SITE_LEVEL_release i) lv.2 (setF (GOV_SITE_LEVEL_demand i) lv.1
    (setF (GOV_SITE_RATE_rw i) (rateCode r.2) (setF (GOV_SITE_RATE_r2 i) (rateCode r.1) s1)))
  let s3 := fallNote (raiseStep lv.1 s2)
  let s4 := onlyIf (decide (105 * 256 ≤ t)) (raise 33 i) (thermNote (siteSampled i s3))
  forEach ((List.range 18).filter (fun w => fb s4 (PLOT_ENG_STAT_no_temp w))) noTempNote s4
/-- The conversion in progress ends with a sample, 20 us after its start (R357, R360); the next pending site begins. -/
def conversionDone (t : Int) (s : State) : State :=
  match s.convSite with
  | some i => convStart (siteSample i t { elapseTo s (s.convAt + 20 * us) with convSite := none })
  | none => s
/-- R357 to R364, R374, R377, R378. -/
def execTempConversionDone (dt : Nat) (t : Int) (s : State) : Host.Outcome State Fault Refusal := run s dt (conversionDone t)
/-- The governed step falls by one (R365). -/
def stepFall (s : State) : State :=
  match s.fallSince with
  | some x =>
    let u := elapseTo s (max x s.stepAt + f s GOV_RECOVER_hold_ms * ms)
    fallNote (stepNote { setF GOV_STEP_governed (f u GOV_STEP_governed - 1) u with stepAt := u.clk.now })
  | none => s
/-- R365, R367. -/
def execStepFall (dt : Nat) (s : State) : Host.Outcome State Fault Refusal := run s dt stepFall
/-- A write of GOV_STEP: a new floor (R364). -/
def floorWrite (v : Nat) (s : State) : State :=
  let s1 := setF GOV_STEP_floor (v / 64) s
  stepNote (onlyIf (decide (f s GOV_STEP_step < max (f s1 GOV_STEP_floor) (f s1 GOV_STEP_governed))) riseNote s1)
/-- R364, R367. -/
def execFloorWrite (dt m n : Nat) (s : State) : Host.Outcome State Fault Refusal :=
  run s dt (regCmd m GOV_STEP_floor.off (floorWrite (64 * n)))

/-! ### The step table -/

/-- Is the step table monotone (R366)? -/
def tableOk (s : State) : Bool :=
  (List.range 7).all (fun n =>
    decide (f s (GOV_STEP_HTR_limit (n + 1)) ≤ f s (GOV_STEP_HTR_limit n)) &&
    decide (f s (GOV_STEP_RATE_rate (n + 1)) ≤ f s (GOV_STEP_RATE_rate n)) &&
    decide (f s (GOV_STEP_HTR_dither n) ≤ f s (GOV_STEP_HTR_dither (n + 1))) &&
    decide (f s (GOV_STEP_HTR_cold_park n) ≤ f s (GOV_STEP_HTR_cold_park (n + 1))) &&
    decide (f s (GOV_STEP_HTR_cal_ok (n + 1)) ≤ f s (GOV_STEP_HTR_cal_ok n)) &&
    decide (f s (GOV_STEP_HTR_harrow_ok (n + 1)) ≤ f s (GOV_STEP_HTR_harrow_ok n)))
/-- Store one word of row `n`; a limit above 45.0 W is set to 45.0 W. -/
def putRow (n : Nat) (isRate : Bool) (v : Nat) (s : State) : State :=
  if isRate then setF (GOV_STEP_RATE_rate n) v s
  else setF (GOV_STEP_HTR_harrow_ok n) (v / 2 ^ 13) (setF (GOV_STEP_HTR_cal_ok n) (v / 2 ^ 12) (setF (GOV_STEP_HTR_cold_park n) (v / 2 ^ 11)
    (setF (GOV_STEP_HTR_dither n) (v / 2 ^ 9) (setF (GOV_STEP_HTR_limit n) (min 450 (v % 512)) s))))
/-- A write of the step table (R366, R367). -/
def stepTableWrite (n : Nat) (isRate : Bool) (v : Nat) (s : State) : State :=
  let s1 := putRow n isRate v s
  if tableOk s1 then (if f s GOV_STEP_step = n then applyRow s1 else s1) else setF GOV_STAT_tbl_err 1 s
/-- R366, R367. -/
def execStepTableWrite (dt m n : Nat) (isRate : Bool) (v : Nat) (s : State) : Host.Outcome State Fault Refusal :=
  run s dt (regCmd m (if isRate then (GOV_STEP_RATE_rate n).off else (GOV_STEP_HTR_limit n).off) (stepTableWrite n isRate v))

/-! ### The heater budget -/

/-- Reports of a pair within the last 100 us. -/
def recentRep (s : State) (w : Nat) : List (Nat × Nat × Nat) :=
  (amGet (fun _ => []) s.hrep w).filter (fun e => decide (s.clk.now < e.1 + 100 * us))
/-- Running mean of a pair's reports of a part of the power, mW. -/
def repMean (l : List (Nat × Nat × Nat)) (g : Nat × Nat × Nat → Nat) : Nat := openDiv (l.map g).sum (max 1 l.length)
/-- P_total and P_serve (R369). -/
def powerNote (s : State) : State :=
  let ls := (List.range 18).map (recentRep s)
  setF GOV_HPWR_SERVE_serve_mw (ls.map (fun l => repMean l (fun e => e.2.1))).sum
    (setF GOV_HPWR_total_mw (ls.map (fun l => repMean l (fun e => e.2.1 + e.2.2))).sum s)
/-- Is a heater element serving (R369): BT or CT of a cell bound in either map, VOA of an input in a circuit, a gate heater? -/
def heaterServes (s : State) (w sl : Nat) : Bool :=
  match elemKind w sl with
  | .gateH => true
  | .rt => false
  | _ => servesCircuit s w sl
/-- Power in mW of those of the listed heaters that `p` selects, each taking its duty's part of its power when on in uW
(R237); its rounding is open (log 7). -/
def heaterPower (s : State) (w : Nat) (p : Nat → Bool) (pw : List (Nat × Nat)) : Nat :=
  openDiv ((pw.filter (fun e => p e.1)).map (fun e => e.2 * heaterDuty s w e.1)).sum (32768 * 1000)
/-- A pair measures V_HTR and reports its serving and its other heater power (R237, R369): `pw` lists its heaters with the
power in uW each takes while its switch is on. A heater not listed takes none (DESIGN CHOICE, log 83). -/
def heaterReport (w mv : Nat) (pw : List (Nat × Nat)) (s : State) : State :=
  let s1 := setF (PLOT_DRL_VHTR_v_htr_mv w) mv s
  let serve := heaterPower s1 w (heaterServes s1 w) pw
  let other := heaterPower s1 w (fun sl => !slotPockels w sl && !heaterServes s1 w sl) pw
  let s2 := setF (PLOT_DRL_HPWR_power_mw w) (serve + other) s1
  powerNote { s2 with hrep := amSet (fun _ => []) s2.hrep w ((s2.clk.now, serve, other) :: recentRep s2 w) }
/-- R237, R369. -/
def execHeaterPowerReport (dt w mv : Nat) (slots pw : List Nat) (s : State) : Host.Outcome State Fault Refusal :=
  run s dt (fun t => if domOn t (winDomain w) then heaterReport w mv (slots.zip pw) t else t)
/-- Is a class admitted now (R370)? -/
def admitted (s : State) (c : Nat) : Bool := stepAdmits s c && !classOff s c
/-- P_total against the limit (R370). -/
def budgetTotal (s : State) : State :=
  let p := f s GOV_HPWR_total_mw
  let lim := f s GOV_LIMIT_limit_mw
  if lim < p then
    match [6, 5, 4, 3].find? (admitted s) with
    | some c => govFlags { s with withdrawn := c :: s.withdrawn, lowSince := none }
    | none => { s with lowSince := none }
  else if 10 * p ≤ 9 * lim then
    let x := s.lowSince.getD s.clk.now
    let s1 := { s with lowSince := some x }
    if x + f s GOV_RECOVER_hold_ms * ms ≤ s.clk.now then govFlags { s1 with withdrawn := s.withdrawn.drop 1 } else s1
  else { s with lowSince := none }
/-- P_serve against the limit (R371). -/
def budgetServe (s : State) : State :=
  if f s GOV_LIMIT_limit_mw < f s GOV_HPWR_SERVE_serve_mw then
    let s1 := setF GOV_STAT_htr_budget 1 { s with serveOk := none, serveHot := true }
    if s.serveHot then s1 else raise 34 63 s1
  else
    let x := s.serveOk.getD s.clk.now
    { s with serveOk := some x, serveHot := s.serveHot && !decide (x + f s GOV_RECOVER_hold_ms * ms ≤ s.clk.now) }
/-- An evaluation, on the 100 us grid (R370, R371). -/
def budgetEval (s : State) : State :=
  budgetServe (budgetTotal (powerNote (elapseTo s ((s.clk.now + (100 * us - 1)) / (100 * us) * (100 * us)))))
/-- R370 to R372. -/
def execHeaterBudgetEval (dt : Nat) (s : State) : Host.Outcome State Fault Refusal := run s dt budgetEval

end Sys2Proof.Machine
end

