-- ==== Sys2Proof/Machine/Faults.lean ====
section
/-! DEFINITION. The fault collector's commands: escalation and acknowledgement (R398 to R400), the safe state (R402 to
R405), the lock (R401), faults inside the collector (R406), ALIVE and `serve` (R407), watched supplies (R396, R526). -/
namespace Sys2Proof.Machine
open Sys2Proof.Config

/-! ### Boot state -/

/-- Move to a boot state (Table 14-1); each change sends a message of vector 10 (R495). -/
def bootGo (n : Nat) (s : State) : State := if bootState s = n then s else sendMsix 10 (setF BOOT_STAT_state n s)

/-! ### Escalation and acknowledgement -/

/-- A running timer expires: the source is escalated (R399). -/
def escalate (n : Nat) (s : State) : State :=
  let s1 := { s with escAt := atPut s.escAt n none }
  let s2 := logRecord n 3 true (!inSafe s1) (amGet (fun _ => 0) s1.escDet n) (setF (escdBit n) 1 s1)
  safeEnter 2 n (fb s2 FLT_CTRL_dark) s2
/-- R399. -/
def escExpiry (n : Nat) (s : State) : State :=
  match atOf s.escAt n with
  | some t => escalate n (elapseTo s t)
  | none => s
/-- R399, R402. -/
def execEscalationExpiry (dt n : Nat) (s : State) : Host.Outcome State Fault Refusal := run s dt (escExpiry n)
/-- Writing 1 to a pending bit (R399); an expiry in the same CK_AON cycle prevails. A raise in that cycle prevails too
(R14): the bit ends set, and an escalation timer runs from that raise. -/
def ackOne (n : Nat) (s : State) : State :=
  let s1 := match atOf s.escAt n with
    | some t => if t ≤ s.clk.now then escalate n s else s
    | none => s
  let s2 := clearBits (pendBit n) 1 s1
  let t2 : State := { s2 with escAt := atPut s2.escAt n none }
  match (atOf s1.escAt n).isSome && fb s2 (pendBit n), atOf s1.fltRaised n with
  | true, some t => { s2 with escAt := atPut s2.escAt n (some (timerEnd s2 n t)) }
  | _, _ => t2
/-- Sources whose bits a write of a 48-bit pair names. -/
def srcBits (hi : Bool) (v : Nat) : List Nat :=
  ((List.range (if hi then 16 else 32)).filter (fun b => v.testBit b)).map (fun b => if hi then 32 + b else b)
/-- A write of FLT_PEND_LO or _HI. -/
def pendWrite (hi : Bool) (v : Nat) : State → State := forEach (srcBits hi v) ackOne
/-- R399, R400. -/
def execFaultAck (dt m n : Nat) (s : State) : Host.Outcome State Fault Refusal :=
  run s dt (regCmd m (pendBit n).off (pendWrite (decide (32 ≤ n)) (2 ^ (n % 32))))
/-- Writing 1 to an escalated bit clears it and the pending bit (R400). -/
def escdClear (n : Nat) (s : State) : State := clearBits (escdBit n) 1 (ackOne n s)
/-- A write of FLT_ESCD_LO or _HI. -/
def escdWrite (hi : Bool) (v : Nat) : State → State := forEach (srcBits hi v) escdClear
/-- R400. -/
def execEscalatedClear (dt m n : Nat) (s : State) : Host.Outcome State Fault Refusal :=
  run s dt (regCmd m (escdBit n).off (escdWrite (decide (32 ≤ n)) (2 ^ (n % 32))))

/-! ### FLT_CTRL -/

/-- May the safe state be left (R405)? -/
def mayRelease (s : State) : Bool :=
  !fb s FLT_STAT_self_fault &&
  (List.range 48).all (fun n => !fb s (escdBit n) && !(sevOf s n == 4 && (fb s (pendBit n) || fltActive s n)))
/-- A write of 1 to `release` (R405). -/
def safeRelease (s : State) : State :=
  if !inSafe s then s
  else if mayRelease s then setF FLT_STAT_dark_active 0 (setF FLT_STAT_safe 0 s)
  else setF FLT_STAT_release_refused 1 s
/-- `serve` as written: set for the first time in APPLY, it moves the boot state to READY (Table 14-1). -/
def serveSet (b : Bool) (s : State) : State :=
  let s1 := setB FLT_CTRL_serve b s
  if b && bootState s1 == 5 then bootGo 6 (setF BOOT_T_READY_us (min ((s1.clk.now - s1.resetEnd) / us) (2 ^ 32 - 1)) s1) else s1
/-- A write of FLT_CTRL (Table 12-10): the configuration bits, the lock, a release, an entry. -/
def fltCtrlWrite (v : Nat) (s : State) : State :=
  let s1 := setF FLT_CTRL_intn_en (v / 4) (serveSet (v % 2 == 1) s)
  let s2 := if fb s1 FLT_STAT_locked then s1 else setF FLT_CTRL_dark (v / 2) s1
  let s3 := onlyIf (v / 8 % 2 == 1) (fun t => setF FLT_CTRL_lock 1 (setF FLT_STAT_locked 1 t)) s2
  let s4 := onlyIf (v / 512 % 2 == 1) safeRelease s3
  onlyIf (v / 256 % 2 == 1) (fun t => safeEnter 4 0 (fb t FLT_CTRL_dark) t) s4
/-- A write of FLT_CTRL by a master that sets the bits of `v` and keeps the others. -/
def fltCtrlSet (m v : Nat) : State → State :=
  regCmd m FLT_CTRL_serve.off (fun s => fltCtrlWrite (v ||| (rd s FLT_CTRL_serve.off).toNat % 16) s)
/-- R402 to R404. -/
def execSafeEnterCmd (dt m : Nat) (s : State) : Host.Outcome State Fault Refusal := run s dt (fltCtrlSet m 256)
/-- R405. -/
def execSafeRelease (dt m : Nat) (s : State) : Host.Outcome State Fault Refusal := run s dt (fltCtrlSet m 512)
/-- R401. -/
def execFltLock (dt m : Nat) (s : State) : Host.Outcome State Fault Refusal := run s dt (fltCtrlSet m 8)
/-- R407, R458. -/
def execServeSet (dt m : Nat) (s : State) : Host.Outcome State Fault Refusal := run s dt (fltCtrlSet m 1)

/-! ### The collector itself -/

/-- The form a fault inside the collector uses (R406): of each copy of `dark`, whether it passes parity and its value. -/
def selfDark (p0 v0 p1 v1 : Bool) : Bool := (p0 || p1) && (!p0 || v0) && (!p1 || v1)
/-- A register of the collector fails (R406). -/
def selfFault (p0 v0 p1 v1 : Bool) (s : State) : State :=
  raise 45 0 (safeEnter 3 0 (selfDark p0 v0 p1 v1) (incSat FLT_SELF_errors (setF FLT_STAT_self_fault 1 s)))
/-- R406. -/
def execCollectorSelfFault (dt : Nat) (p0 v0 p1 v1 : Bool) (s : State) : Host.Outcome State Fault Refusal :=
  run s dt (selfFault p0 v0 p1 v1)

/-! ### ALIVE -/

/-- Is ALIVE toggling (R407)? -/
def aliveOn (s : State) : Bool :=
  fb s FLT_CTRL_serve && !inSafe s && (devState s == 0 || devState s == 1) && !s.porOn
/-- FAULT_N is driven low (R408): under POR, in the safe state, or with `self_fault`. -/
def faultNLow (s : State) : Bool := s.porOn || inSafe s || fb s FLT_STAT_self_fault
/-- ALIVE changes level 50 us after its last edge. -/
def aliveToggle (s : State) : State :=
  if aliveOn s then
    let u := elapseTo s (s.aliveAt + 50 * us)
    { u with aliveLvl := !u.aliveLvl, aliveAt := u.clk.now }
  else s
/-- R407. -/
def execAliveToggle (dt : Nat) (s : State) : Host.Outcome State Fault Refusal := run s dt aliveToggle

/-! ### Supplies -/

/-- A watched supply (35 VHTR_A, 36 VHTR_B, 37 VPK) has stayed outside its range for 10 us (R396): raised again only after
1 ms inside. -/
def supplyOutside (n : Nat) (s : State) : State :=
  if !s.supplyArmed || (atOf s.supplyOut n).isSome then s
  else
    let s1 := { s with supplyOut := atPut s.supplyOut n (some s.clk.now) }
    match atOf s.supplyIn n with
    | some t => if t + ms + 10 * us ≤ s.clk.now then raise n 0 { s1 with supplyIn := atPut s1.supplyIn n none } else s1
    | none => raise n 0 s1
/-- R396. -/
def execSupplyOutOfRange (dt n : Nat) (s : State) : Host.Outcome State Fault Refusal := run s dt (supplyOutside n)
/-- A watched supply returns inside its range (R396). -/
def supplyInside (n : Nat) (s : State) : State :=
  if (atOf s.supplyOut n).isSome then
    { s with supplyOut := atPut s.supplyOut n none, supplyIn := atPut s.supplyIn n (some s.clk.now) }
  else s
/-- R396. -/
def execSupplyBackInRange (dt n : Nat) (s : State) : Host.Outcome State Fault Refusal := run s dt (supplyInside n)
/-- The supply checks are armed 50 ms after PD_EN rose (R526). -/
def supplyArm (s : State) : State := if s.pdEn then { elapseTo s (s.pdEnAt + 50 * ms) with supplyArmed := true } else s
/-- R526. -/
def execSupplyCheckArm (dt : Nat) (s : State) : Host.Outcome State Fault Refusal := run s dt supplyArm
/-- PD_EN rises or falls; the supply checks are disarmed while it is low (R526). -/
def pdEnGo (b : Bool) (s : State) : State :=
  if b = s.pdEn then s
  else if b then { s with pdEn := true, pdEnAt := s.clk.now }
  else { s with pdEn := false, supplyArmed := false, supplyOut := [], supplyIn := [] }
/-- VPK falls below its power-good level, or rises above it: every Pockels clamp follows (R522). -/
def execVpkBelowPowerGood (dt : Nat) (below : Bool) (s : State) : Host.Outcome State Fault Refusal :=
  run s dt (fun t => { t with vpkBad := below })
/-- A VHTR feed (0 A, 1 B) falls below its power-good level or rises above it (R522). -/
def execVhtrBelowPowerGood (dt n : Nat) (below : Bool) (s : State) : Host.Outcome State Fault Refusal :=
  run s dt (fun t => { t with
    vhtrBad := if below then t.vhtrBad ||| BitVec.ofNat 2 (2 ^ n) else t.vhtrBad &&& ~~~(BitVec.ofNat 2 (2 ^ n)) })

end Sys2Proof.Machine
end

