-- ==== Sys2Proof/Machine/Supervisors.lean ====
section
/-! DEFINITION. The supervisor pair: compares and divergence (R409), the lease (R410, R412), repair and resynchronisation
(R411). -/
namespace Sys2Proof.Machine
open Sys2Proof.Config

/-- Does a core execute in lockstep: HOLDER or STANDBY (Table 12-5)? -/
def supRuns (s : State) (k : Nat) : Bool := supState s k == 2 || supState s k == 3
/-- A core goes DIVERGED: FS_SUP_DIVERGE, and its reset at once under `auto_repair` (R409, R411). -/
def supDiverge (k : Nat) (s : State) : State :=
  if supRuns s k then
    let s1 := raise 10 k (supPut k 4 s)
    if fb s1 FLT_SUP_CTRL_auto_repair then supReset k s1 else s1
  else s
/-- A compare finds the copies disagreeing, or a core's checks failed (R409). -/
def supCompare (disagree f0 f1 : Bool) (s : State) : State :=
  if disagree && supRuns s 0 && supRuns s 1 then
    let s1 := inc FLT_SUP_CNT_MIS_count s
    match f0, f1 with
    | true, false => supDiverge 0 s1
    | false, true => supDiverge 1 s1
    | _, _ => supDiverge (if supState s 0 = 2 then 0 else 1) (setF FLT_SUP_STAT_undecided 1 s1)
  else onlyIf f1 (supDiverge 1) (onlyIf f0 (supDiverge 0) s)
/-- R409. -/
def execSupDiverge (dt : Nat) (disagree f0 f1 : Bool) (s : State) : Host.Outcome State Fault Refusal :=
  run s dt (supCompare disagree f0 f1)
/-- The lease is renewed every 25 us for a holder (R410). -/
def leaseRenew (s : State) : State :=
  if supHeld s then
    let u := elapseTo s (s.supLease + 25 * us)
    { u with supLease := u.clk.now }
  else s
/-- R410. -/
def execSupLeaseRenew (dt : Nat) (s : State) : Host.Outcome State Fault Refusal := run s dt leaseRenew
/-- R410, R412. -/
def execSupLeaseExpire (dt : Nat) (s : State) : Host.Outcome State Fault Refusal := run s dt supLeaseExpire
/-- A write of FLT_SUP_CTRL (R411): a diverged core is reset by its repair bit, or at once while `auto_repair` is 1. -/
def supCtrlWrite (v : Nat) (s : State) : State :=
  let s1 := setF FLT_SUP_CTRL_auto_repair v s
  let auto := v % 2 == 1
  onlyIf (auto || v / 4 % 2 == 1) (supReset 1) (onlyIf (auto || v / 2 % 2 == 1) (supReset 0) s1)
/-- R411: `repair_a` or `repair_b`. -/
def execSupCoreRepair (dt m : Nat) (a b : Bool) (s : State) : Host.Outcome State Fault Refusal :=
  run s dt (regCmd m FLT_SUP_CTRL_auto_repair.off (fun t =>
    supCtrlWrite (f t FLT_SUP_CTRL_auto_repair + 2 * a.toNat + 4 * b.toNat) t))
/-- The final compare of a resynchronisation (R411, Table 12-5). -/
def supResyncDone (k : Nat) (agree : Bool) (s : State) : State :=
  if supState s k = 1 then supPut k (if agree then 2 else 0) s else s
/-- R411. -/
def execSupResyncDone (dt k : Nat) (agree : Bool) (s : State) : Host.Outcome State Fault Refusal :=
  run s dt (supResyncDone k agree)
/-- The pair starts at an entry (R470, R487): SUP-A holds the lease, SUP-B joins by resynchronisation. -/
def supStart (s : State) : State :=
  setF FLT_SUP_STAT_no_holder 0 (setF FLT_SUP_STAT_holder 0 (supPut 1 1 (supPut 0 3 { s with supLease := s.clk.now })))

end Sys2Proof.Machine
end

