-- ==== Sys2Proof/Machine/Time.lean ====
section
/-! DEFINITION. The time bases, 1PPS and the transmit timestamp queues (R147 to R168, R189). -/
namespace Sys2Proof.Machine
open Sys2Proof.Config

/-! ### Enabling and states -/

/-- Does anything of R151 name base `b`? -/
def baseNamed (s : State) (b : Nat) : Bool :=
  let names (sh : Sheaf) : Bool := match sh.at_ with | some a => a.tb == b | none => false
  rotNames s b || s.sched.any names || s.accepted.any (fun a => names a.sheaf) ||
    (fb s TIME_PPS_CTRL_out_en && f s TIME_PPS_CTRL_out_tb == b)

/-- Source of a base: 0 none, 1 PTP, 2 1PPS; 3 is treated as 0 (Table 5-10). -/
def tbSource (s : State) (b : Nat) : Nat := f s (TIME_TB_CTRL_source b) % 3

/-- Would a TIME_TB_CTRL value leave two enabled bases with 1PPS, or two PTP bases with one domain and sdoId (R160)? -/
def ctrlClash (s : State) (b v : Nat) : Bool :=
  v % 2 == 1 && [1, 2, 3].any (fun o => o != b && tbEnabled s o &&
    ((v / 2 % 4 == 2 && tbSource s o == 2) ||
     (v / 2 % 4 == 1 && tbSource s o == 1 && f s (TIME_TB_CTRL_domain o) == v / 16 % 256 &&
      f s (TIME_TB_CTRL_sdo_id o) == v / 4096 % 4096)))

/-- Leave HOLDOVER, if the base is in it. -/
def leaveHold (b : Nat) (s : State) : State :=
  let t := tbGet s.clk b
  if t.st = .holdover then setTb b { t with holdEnd := s.clk.now } s else s

/-- A base is enabled: it takes the value of TB0, F = 0 and state FREE at the CK_TB edge (R150). -/
def tbEnable (b : Nat) (s : State) : State :=
  setF (CMT_TICK_PHASE_valid b) 0 (setF (TIME_TB_FREQ_freq b) 0
    (setTb b { tbGet s.clk b with val := (tbGet s.clk 0).val, st := .free, slewRem := 0 } (leaveHold b s)))

/-- A base is disabled: the registers that report its time read zero (R150), and a slew on it ends. Its state stays as it is, and
the watchdog, the loss of 1PPS and the limit of HOLDOVER still act on it (DESIGN CHOICE, log 79). -/
def tbDisable (b : Nat) (s : State) : State :=
  setF (CMT_TICK_PHASE_valid b) 0
    (putTime (TIME_TB_SNAP_F_frac_ns b) (TIME_TB_SNAP_NS_ns b) (TIME_TB_SNAP_SL_sec_low b) (TIME_TB_SNAP_SH_sec_high b) 0
      (setTb b { tbGet s.clk b with slewRem := 0 } s))

/-- Enter FREE. -/
def tbFree (b : Nat) (s : State) : State :=
  let t := leaveHold b s
  setTb b { tbGet t.clk b with st := .free } t

/-- Apply a permitted TIME_TB_CTRL value to one of TB1 to TB3. -/
def tbCtrlApply (b v : Nat) (s : State) : State :=
  let was := tbEnabled s b
  let old := tbSource s b
  let s1 := setRaw s (TIME_TB_CTRL_enable b).off (BitVec.ofNat 32 (v % 2 ^ 24))
  let s2 := if v % 2 = 1 then (if was then s1 else tbEnable b s1) else if was then tbDisable b s1 else s1
  let t := tbGet s2.clk b
  let s3 := if tbSource s2 b = old then s2 else setTb b { t with servoAt := s2.clk.now, ppsAt := s2.clk.now } s2
  if tbSource s3 b = 0 then tbFree b s3 else s3

/-- A write of TIME_TB_CTRL (R149 to R151, R160): at a CK_TB edge. -/
def tbCtrlWrite (b v : Nat) (s : State) : State :=
  if b = 0 ∨ 4 ≤ b then s
  else
    let t := toTbEdge s
    if (tbEnabled t b && v % 2 == 0 && baseNamed t b) || ctrlClash t b v then t else tbCtrlApply b v t

/-- R150, R151, R160. -/
def execTbCtrlWrite (dt m b v : Nat) (s : State) : Host.Outcome State Fault Refusal :=
  run s dt (regCmd m (TIME_TB_CTRL_enable b).off (tbCtrlWrite b v))

/-- Copy all four bases into their snapshot registers at one CK_TB edge (R152). -/
def tbSnap (s : State) : State :=
  forEach [0, 1, 2, 3] (fun b t =>
    putTime (TIME_TB_SNAP_F_frac_ns b) (TIME_TB_SNAP_NS_ns b) (TIME_TB_SNAP_SL_sec_low b) (TIME_TB_SNAP_SH_sec_high b)
      (tbNow t b) t) (toTbEdge s)

/-- R152. -/
def execTbSnap (dt m : Nat) (s : State) : Host.Outcome State Fault Refusal :=
  run s dt (regCmd m TIME_CTRL_snap.off tbSnap)

/-! ### Frequency and offset -/

/-- Is a base in HOLDOVER? -/
def inHold (s : State) (b : Nat) : Bool := (tbGet s.clk b).st == .holdover

/-- A write of the frequency word: ignored by TB0 (R149), discarded in HOLDOVER (R157). -/
def tbFreqWrite (b v : Nat) (s : State) : State :=
  if b = 0 ∨ inHold s b then s
  else setTb b { tbGet s.clk b with servoAt := s.clk.now } (setF (TIME_TB_FREQ_freq b) v s)

/-- R148, R149, R157. -/
def execTbFreqWrite (dt m b v : Nat) (s : State) : Host.Outcome State Fault Refusal :=
  run s dt (regCmd m (TIME_TB_FREQ_freq b).off (tbFreqWrite b v))

/-- The offset of TIME_TB_ADJ and `frac`, in 2^-40 ns. -/
def adjOffset (s : State) (b frac : Nat) : Int := fInt s (TIME_TB_ADJ_offset_ns b) * nsUnit + (frac % 65536 * 2 ^ 24 : Nat)

/-- The base jumps by an offset; below zero it is set to zero (R153). A rotation on the base re-phases (R180). -/
def tbStep (b : Nat) (d : Int) (s : State) : State :=
  let t := tbGet s.clk b
  rotResync b (setTb b { t with val := ((t.val : Int) + d).toNat % tbWrap, slewRem := 0 } s)

/-- A write of TIME_TB_ADJ_CMD (R153, R157). -/
def tbAdjCmd (b v : Nat) (s : State) : State :=
  if b = 0 ∨ inHold s b then s
  else
    let s1 := setF (TIME_TB_ADJ_CMD_mode b) (v / 65536) (setF (TIME_TB_ADJ_CMD_offset_frac b) v
      (setTb b { tbGet s.clk b with servoAt := s.clk.now } s))
    if v / 2 ^ 31 % 2 = 0 then s1
    else if v / 65536 % 2 = 1 ∧ fb s (TIME_TB_CTRL_allow_step b) then
      (if tbEnabled s1 b then tbStep b (adjOffset s1 b v) (toTbEdge s1) else s1)
    else setTb b { tbGet s1.clk b with slewRem := if tbEnabled s1 b then adjOffset s1 b v else 0 } s1

/-- R153: a step, carried out as a slew where `allow_step` is 0 (R159). -/
def execTbAdjStep (dt m b frac : Nat) (s : State) : Host.Outcome State Fault Refusal :=
  run s dt (regCmd m (TIME_TB_ADJ_CMD_go b).off (tbAdjCmd b (frac % 65536 + 65536 + 2 ^ 31)))

/-- R153: a slew. -/
def execTbAdjSlew (dt m b frac : Nat) (s : State) : Host.Outcome State Fault Refusal :=
  run s dt (regCmd m (TIME_TB_ADJ_CMD_go b).off (tbAdjCmd b (frac % 65536 + 2 ^ 31)))

/-- CK_TB cycles until base `b` has absorbed its offset; none while the clamp leaves no slew. -/
def slewCycles (s : State) (b : Nat) : Option Nat :=
  let rem := (tbGet s.clk b).slewRem
  let st := slewStep (tbFreq s b) (f s (TIME_TB_SLEW_slew_ppm b)) rem
  if rem = 0 ∨ st = 0 then none else some ((rem.natAbs + (st - 1)) / st)

/-- Let time pass until a slew has absorbed its offset. -/
def slewEnd (b : Nat) (s : State) : State :=
  match slewCycles s b with
  | some n => if tbEnabled s b then elapseTo s ((s.clk.now / tbPeriod + n) * tbPeriod) else s
  | none => s

/-- R153, R157: the offset is absorbed and the base returns to F. -/
def execSlewEnd (dt b : Nat) (s : State) : Host.Outcome State Fault Refusal := run s dt (slewEnd b)

/-! ### Disciplining -/

/-- Enter HOLDOVER for a cause: from LOCKED, FS_PTP_LOSS is raised (R158). -/
def enterHold (b cause : Nat) (s : State) : State :=
  let t := tbGet s.clk b
  let s1 := setTb b { t with st := .holdover, cause := cause, holdStart := s.clk.now, longDone := false } s
  if t.st = .locked then raise 26 b s1 else s1

/-- Enter ACQUIRE or LOCKED; watching starts when the base was not watched before. -/
def enterWatch (b : Nat) (st : TbState) (s : State) : State :=
  let t := tbGet s.clk b
  let watched := t.st = .acquire ∨ t.st = .locked
  let u := leaveHold b s
  setTb b { tbGet u.clk b with
    st := st, servoAt := if watched then t.servoAt else s.clk.now, ppsAt := if st = .locked ∧ t.st ≠ .locked then s.clk.now else t.ppsAt } u

/-- A write of TIME_TB_CMD: a request that Table 5-1 does not allow is ignored. `free` prevails over a request in the same write
(DESIGN CHOICE, log 79). -/
def tbCmdWrite (b v : Nat) (s : State) : State :=
  if b = 0 ∨ 4 ≤ b then s
  else if v / 4 % 2 = 1 then tbFree b s
  else
    let st := (tbGet s.clk b).st
    match v % 4 with
    | 1 => if (st = .free ∨ st = .holdover) ∧ tbSource s b ≠ 0 then enterWatch b .acquire s else s
    | 2 => if st = .acquire ∨ st = .holdover then enterWatch b .locked s else s
    | 3 => if st = .acquire ∨ st = .locked then enterHold b 1 s else s
    | _ => s

/-- R154, Table 5-1. -/
def execTbCmdAcquire (dt m b : Nat) (s : State) : Host.Outcome State Fault Refusal :=
  run s dt (regCmd m (TIME_TB_CMD_request b).off (tbCmdWrite b 1))
/-- R154, Table 5-1. -/
def execTbCmdLocked (dt m b : Nat) (s : State) : Host.Outcome State Fault Refusal :=
  run s dt (regCmd m (TIME_TB_CMD_request b).off (tbCmdWrite b 2))
/-- R154, R157, R158. -/
def execTbCmdHoldover (dt m b : Nat) (s : State) : Host.Outcome State Fault Refusal :=
  run s dt (regCmd m (TIME_TB_CMD_request b).off (tbCmdWrite b 3))
/-- R154, R159. -/
def execTbCmdFree (dt m b : Nat) (s : State) : Host.Outcome State Fault Refusal :=
  run s dt (regCmd m (TIME_TB_CMD_request b).off (tbCmdWrite b 4))

/-- The servo watchdog of a base (R155): time passes to its expiry when it is watched, a disabled base too (DESIGN CHOICE, log 79). -/
def servoWatchdog (b : Nat) (s : State) : State :=
  let t := tbGet s.clk b
  if b ≠ 0 ∧ (t.st = .locked ∨ t.st = .acquire) ∧ tbSource s b = 1 ∧ f s (TIME_TB_WDOG_wdog_ms b) ≠ 0 then
    enterHold b 2 (elapseTo s (t.servoAt + f s (TIME_TB_WDOG_wdog_ms b) * ms))
  else s
/-- R155. -/
def execTbServoWatchdog (dt b : Nat) (s : State) : Host.Outcome State Fault Refusal := run s dt (servoWatchdog b)

/-- Loss of 1PPS on a LOCKED base (R156): 1.5 s after the last accepted edge. -/
def ppsMissing (b : Nat) (s : State) : State :=
  let t := tbGet s.clk b
  if b ≠ 0 ∧ t.st = .locked ∧ tbSource s b = 2 then enterHold b 3 (elapseTo s (t.ppsAt + 1500 * ms)) else s
/-- R156. -/
def execPpsMissing (dt b : Nat) (s : State) : Host.Outcome State Fault Refusal := run s dt (ppsMissing b)

/-- HOLDOVER reaches `limit_s`: FS_HOLDOVER_LONG, once (R158). -/
def holdoverLimit (b : Nat) (s : State) : State :=
  let t := tbGet s.clk b
  if b ≠ 0 ∧ t.st = .holdover ∧ t.longDone = false then
    let u := elapseTo s (t.holdStart + f s (TIME_TB_HOLD_limit_s b) * (1000 * ms))
    raise 27 b (setTb b { tbGet u.clk b with longDone := true } u)
  else s
/-- R158. -/
def execHoldoverLimit (dt b : Nat) (s : State) : Host.Outcome State Fault Refusal := run s dt (holdoverLimit b)

/-! ### 1PPS -/

/-- The enabled base with source 1PPS, or TB0 (Table 5-11). -/
def ppsBase (s : State) : Nat := ([1, 2, 3].find? (fun b => tbEnabled s b && tbSource s b == 2)).getD 0

/-- Base `b` at the present instant, between its CK_TB edges. -/
def tbFine (s : State) (b : Nat) : Nat := tbNow s b + s.clk.now % tbPeriod * (nsUnit / 10)

/-- Distance of a time from the nearest whole second. -/
def secDist (v : Nat) : Nat := min (v % secUnit) (secUnit - v % secUnit)

/-- A rising edge of 1PPS_IN (R156, Table 5-3): its stamp lies within 1 ns of the base; `delay_ps` is subtracted. -/
def ppsInEdge (s : State) : State :=
  let b := ppsBase s
  let (e, s1) := drawFree (2 * nsUnit + 1) s
  let v := ((tbFine s1 b : Int) + e - nsUnit - fInt s1 TIME_PPS_IN_DELAY_delay_ps * nsUnit / 1000).toNat % tbWrap
  if (tbGet s1.clk b).st = .locked ∧ b ≠ 0 ∧ f s1 TIME_PPS_CTRL_in_window_us * (1000 * nsUnit) < secDist v then
    inc TIME_PPS_CNT_rejected s1
  else
    putTime TIME_PPS_TS_F_frac_ns TIME_PPS_TS_NS_ns TIME_PPS_TS_SL_sec_low TIME_PPS_TS_SH_sec_high v
      (inc TIME_PPS_CNT_accepted (setTb b { tbGet s1.clk b with ppsAt := s1.clk.now } s1))
/-- R156. -/
def execPpsInEdge (dt : Nat) (s : State) : Host.Outcome State Fault Refusal := run s dt ppsInEdge

/-- CK_TB cycles until base `b` gains `need` units, its slew counted. -/
def cyclesTo (s : State) (b need : Nat) : Nat :=
  let fw := tbFreq s b
  let rem := (tbGet s.clk b).slewRem
  cyclesUntil need (4 * (nsUnit : Int) + fw).toNat (slewStep fw (f s (TIME_TB_SLEW_slew_ppm b)) rem) rem

/-- Instant at which a base next stands at a whole second less the advance (R168). -/
def ppsDue (s : State) (b : Nat) : Nat :=
  let adv := fInt s TIME_PPS_OUT_DELAY_advance_ps * nsUnit / 1000
  let v : Int := tbNow s b
  let need := ((v + adv) / secUnit + 1) * secUnit - adv - v
  (s.clk.now / tbPeriod + cyclesTo s b need.toNat) * tbPeriod

/-- The next rising edge of 1PPS_OUT (R168): of the base in force, or of the base newly selected, whichever comes
first; none while the selected base is disabled. The edge lies within 2 ns of its base (Table 5-3). -/
def ppsOutPulse (s : State) : State :=
  let sel := f s TIME_PPS_CTRL_out_tb
  let cand := (if tbEnabled s s.ppsTb then [s.ppsTb] else []) ++ (if sel ≠ s.ppsTb then [sel] else [])
  if fb s TIME_PPS_CTRL_out_en && tbEnabled s sel then
    match cand with
    | [] => s
    | a :: t =>
      let b := t.foldl (fun x y => if ppsDue s y ≤ ppsDue s x then y else x) a
      let s1 := elapseTo s (ppsDue s b)
      let (e, s2) := drawFree 41 s1
      { s2 with ppsTb := b, ppsHighUntil := s2.clk.now + f s TIME_PPS_CTRL_out_width_us * us + e - 20 }
  else s
/-- A new TIME_PPS_CTRL: a base selected while the output is off, or a disabled one, is in force at once; else the base in force
drives the output up to the next whole second of the new one (R168). -/
def ppsSelect (s0 s : State) : State :=
  let sel := f s TIME_PPS_CTRL_out_tb
  if fb s0 TIME_PPS_CTRL_out_en && tbEnabled s sel then s else { s with ppsTb := sel }
/-- R168. -/
def execPpsOutPulse (dt : Nat) (s : State) : Host.Outcome State Fault Refusal := run s dt ppsOutPulse

/-- The level of 1PPS_OUT. -/
def ppsOutHigh (s : State) : Bool :=
  fb s TIME_PPS_CTRL_out_en && tbEnabled s (f s TIME_PPS_CTRL_out_tb) && tbEnabled s s.ppsTb && decide (s.clk.now < s.ppsHighUntil)

/-! ### The transmit timestamp queue -/

/-- Queue of a port. -/
def tsqOf (s : State) (n : Nat) : List TsEntry := amGet (fun _ => []) s.tsq n
/-- Replace a port's queue; `depth` follows. -/
def tsqPut (n : Nat) (q : List TsEntry) (s : State) : State :=
  setF (TIME_TSQ_STAT_depth n) q.length { s with tsq := amSet (fun _ => []) s.tsq n q }
/-- A stamp enters a port's queue, or is dropped when it holds 64 (R164, R165). -/
def tsqPush (n : Nat) (e : TsEntry) (s : State) : State :=
  if (tsqOf s n).length < 64 then tsqPut n (tsqOf s n ++ [e]) s
  else raise 28 0 (incSat (TIME_TSQ_STAT_ovf n) s)
/-- Empty a port's queue (R167). -/
def tsqFlush (n : Nat) (s : State) : State := tsqPut n [] s

/-- The read of TIME_TSQ_HEAD by a master (R166): a supervisor's pops the oldest entry and latches its time. -/
def tsqPop (m n : Nat) (s : State) : State :=
  match tsqOf s n with
  | e :: t =>
    if m = 0 then
      putTime (TIME_TSQ_F_frac_ns n) (TIME_TSQ_NS_ns n) (TIME_TSQ_SL_sec_low n) (TIME_TSQ_SH_sec_high n) e.val
        { tsqPut n t s with resp := ⟨e.id % 65536 + 65536 * (e.tb % 4) + 2 ^ 31, 0⟩ }
    else { s with resp := ⟨0, 0⟩ }
  | [] => { s with resp := ⟨0, 0⟩ }
/-- R166. -/
def execTsqPop (dt m n : Nat) (s : State) : Host.Outcome State Fault Refusal :=
  run s dt (onIssue m (fun t =>
    if regOpen t m (TIME_TSQ_HEAD_id n).off false then tsqPop m n t else countUnassigned { t with resp := ⟨0, 0⟩ }))

end Sys2Proof.Machine
end

