-- ==== Sys2Proof/Machine/Domains.lean ====
section
/-! DEFINITION. Power domains: what a domain holds, sleeping, waking, failing (R379 to R383), the drain of reset masters
(R428, R454), and the device states (R384 to R389). -/
namespace Sys2Proof.Machine
open Sys2Proof.Config

/-! ### What a domain holds -/

/-- BAR0 ranges of the registers of a switched domain (Table 1-10), with each master's copies of the BPM windows. -/
def domRanges (d : Nat) : List (Nat × Nat) :=
  if d < 18 then [(winBase d, winBase d + 0x100000)]
  else match d with
    | 20 => [(0x60000, 0x80000)]
    | 21 => [(0x50000, 0x60000)]
    | 22 => [(0xD0000, 0xD8000)]
    | 23 => [(0xD8000, 0xE0000)]
    | 24 => [(0xE0000, 0xF0000)]
    | 25 => [(0xA0000, 0xC0000)] ++ (List.range 8).map (fun m => (0x80A0000 + 0x8000000 * m, 0x80B0000 + 0x8000000 * m))
    | 28 => [(0x80000, 0x90000)]
    | 29 => [(0xF0000, 0x100000)]
    | _ => []
/-- Registers in BAR0 ranges return to their reset values. -/
def clearRegs (l : List (Nat × Nat)) (s : State) : State :=
  { s with regs := l.foldl (fun r x => amClear x.1 x.2 r) s.regs }
/-- Forget the entries of a window in a map keyed by window and index. -/
def amWin {α : Type} (w : Nat) (m : AMap α) : AMap α := amClear (wKey w 0) (wKey (w + 1) 0) m
/-- What a plot or headland window holds beside its registers: channels, loops, sensors, slices, engines, SRAM. -/
def clearWindow (w : Nat) (s : State) : State :=
  let one {α : Type} (m : AMap α) : AMap α := amClear w (w + 1) m
  { s with
    loops := amWin w s.loops, chans := amWin w s.chans, sns := amWin w s.sns, rsvPend := amWin w s.rsvPend
    calMarks := amWin w s.calMarks, trc := one s.trc, eng := one s.eng, playing := one s.playing, seedLast := one s.seedLast
    slcs := one s.slcs, wsLoad := one s.wsLoad, snsSwap := one s.snsSwap, slcLoaded := one s.slcLoaded, hrep := one s.hrep
    sram := amClear (sramAddr w 0) (sramAddr (w + 1) 0) s.sram
    dgWake := one s.dgWake, convs := amClear (w * 32) (w * 32 + 32) s.convs
    elec := s.elec.filter (fun c => decide (c.1 < elecAddr w 0) || decide (elecAddr (w + 1) 0 ≤ c.1))
    bias := s.bias.filter (fun c => decide (c.1 < w * 2048) || decide ((w + 1) * 2048 ≤ c.1))
    parked := (List.range 1920).foldl (fun v i => if cellPlot i = w then setCell v i false else v) s.parked }
/-- Every input port starts DARK, with no evaluation counted; inputs and outputs whose state changes are reported (R56, R59).
After a reset R56 says so; where PD16 loses power outside a reset the spec is silent on LIT and OVER, and the model makes
them DARK and not OVER too (DESIGN CHOICE, log 16). -/
def portsDark (s : State) : State :=
  let t : State := { s with lit := 0, overIn := 0, hiRun := [], loRun := [] }
  forEach ((List.range 256).filter (fun n => s.lit.getLsbD n || s.overIn.getLsbD n)) reportIn (reportOuts s t)
/-- What the input headland's port evaluation holds (R55). -/
def clearLight (s : State) : State := { portsDark s with litThr := [], litHyst := [] }
/-- What PD20 holds: maps, lists, commits, the shaper and the rotations. -/
def clearSwitch (s : State) : State :=
  { s with
    present := {}, projected := {}, sched := [], ready := [], solving := none, accepted := [], closed := none, commit := none
    lastT0 := none, unseen := [], shLevel := 10000000000, shStamp := s.clk.now, captureWait := none, rotArmed := 0
    rotMarked := 0, rotReady := 0, rot := none, rotLoader := [], popMode := defaultMode s, ownIn := [], ownOut := [] }
/-- What PD21 holds: keys, windows, meters, queues and messages. -/
def clearReq (s : State) : State :=
  { s with
    keys := [], txSeq := [], telemSeq := [], telemQ := [], telemLost := [], replay := [], tokC := [], tokP := [], tokAt := []
    queues := [], vtime := 0, lastFin := [], queryCnt := [], tagFails := 0, tagSec := 0, tagBurst := false, urpIn := [], txWait := [] }
/-- What an Ethernet port holds: its timestamp queue (R167) and the frames waiting on it. -/
def clearPort (n : Nat) (s : State) : State :=
  tsqFlush n (forEach ((txWaiting s n).map (·.handle)) releaseHandle
    { s with txWait := amSet (fun _ => []) s.txWait n [], txRing := amSet (fun _ => false) s.txRing n false })
/-- What PD25 holds: DRAM, the pools, the dies' records; both calibration banks become invalid (R319). -/
def clearDram (s : State) : State :=
  calLost { s with dram := [], bpmBuf := [], bpmCache := [], bpmRing := [], bpmTurn := [], bpmCycle := 0, bpmReq := 0, bpmFreed := [], dieBad := [], dieCrc := [], dieSec := 0 }
/-- Is a scratchpad byte in banks 8 to 15 (R430)? -/
def spmHigh (a : Nat) : Bool := a / 64 % 2 == 1
/-- Scratchpad banks of one domain cleared. -/
def clearSpm (high : Bool) (s : State) : State := { s with spm := s.spm.filter (fun c => spmHigh c.1 != high) }
/-- A domain's registers and memories return to their reset contents. -/
def domClear (d : Nat) (s : State) : State :=
  let s1 := clearRegs (domRanges d) s
  if d < 18 then
    let t := clearWindow d s1
    let t1 := setF (PLOT_SLC_STAT_role d (spareOf d)) 2 (setF (CAL_WIN_GEN_generation d) 0 t)
    if d = 16 then clearLight t1 else if d = 17 then { t1 with gateOpen := 0 } else t1
  else match d with
    | 18 => supPut 0 0 s1
    | 19 => supPut 1 0 s1
    | 20 => clearSwitch s1
    | 21 => clearReq s1
    | 22 => clearPort 0 s1
    | 23 => clearPort 1 s1
    | 24 => { s1 with msixDue := { s1.msixDue with ev := s1.msixDue.ev &&& s1.msixDue.owed } }
    | 25 => clearDram s1
    | 26 => clearSpm false s1
    | 27 => clearSpm true s1
    | 28 => { s1 with gln := [], trigOut := [], trigBus := [] }
    | 29 => { s1 with attOpen := none }
    | _ => s1

/-! ### Masters -/

/-- The masters of a domain (Table 13-1). -/
def domMasters (s : State) (d : Nat) : List Nat :=
  match d with
  | 18 => if domOn s 19 then [] else [0]
  | 19 => if domOn s 18 then [] else [0]
  | 20 => [1] | 21 => [2] | 24 => [5, 6] | 25 => [3] | 28 => [4]
  | _ => []
/-- A master is reset with `n` bursts outstanding, which the matrix drains (R428); the BPM frees its buffers (R454). DMA, which
reads the tiles of a verify (Table 13-1), abandons it (Table 9-10). -/
def masterDrain (m n : Nat) (s : State) : State :=
  let s0 := onlyIf (m == 5) verifyAbandon s
  let s1 := { s0 with barriers := s0.barriers.filter (· != m), hostFence := s0.hostFence && m != 6 }
  bpmReclaim m (if n = 0 then s1
    else raise 24 (reqId m 0) (setF BUS_ABANDON_LAST_requester (reqId m 0) (incBy BUS_CNT_ABANDON_count n s1)))
/-- The masters of a domain are reset; the first has `n` bursts outstanding. -/
def drainAll (ms : List Nat) (n : Nat) (s : State) : State :=
  forEach (ms.zip (n :: List.replicate 8 0)) (fun e => masterDrain e.1 e.2) s

/-! ### Sleeping and waking -/

/-- Set one bit of a domain mask. -/
def putDom (x : Fld) (d : Nat) (b : Bool) (s : State) : State :=
  setB ⟨x.off, x.lsb + d, 1⟩ b s
/-- Is a domain fallow (R379)? -/
def domFallow (s : State) (d : Nat) : Bool := (f s GOV_DOM_FALLOW_fallow).testBit d
/-- A domain has failed and was not retried (R382). -/
def domFailed (s : State) (d : Nat) : Bool := (f s GOV_DOM_FAIL_fail).testBit d
/-- The order in which domains wake together (R380, R459). -/
def wakeOrder : List Nat := [24, 25, 26, 27, 18, 19, 29, 20, 21, 22, 23, 28, 17, 16] ++ List.range 16
/-- Domains powered from ROM on (R459). -/
def romDomains : List Nat := [24, 25, 26, 27, 18, 19, 29]
/-- Does the device state have a domain on (Table 11-9)? -/
def stateOn (s : State) (d : Nat) : Bool :=
  match devState s with
  | 2 => d != 21 && d != 28
  | 3 => d == 24
  | 4 => d == 24
  | _ => true
/-- Would the device state and the boot state have a domain on (Tables 11-9 and 14-1)? -/
def shouldOn (s : State) (d : Nat) : Bool := stateOn s d && (decide (5 ≤ bootState s) || romDomains.contains d)
/-- Longest wake of a domain (Table 11-9). -/
def wakeTime (d : Nat) : Nat := if d < 18 then 300 * us else if d = 25 then 150 * ms else if d = 26 ∨ d = 27 then 2 * ms else 100 * us
/-- The domain at the front of those that wake begins its wake now: they wake one at a time (R380). -/
def wakeNext (s0 s : State) : State := if s.wakeQ.head? = s0.wakeQ.head? then s else { s with wakeAt := s.clk.now }
/-- Domains are to wake, those that are off or going to sleep, not failed and not waking, in the order given and after those
that wake already (R380). One that is going to sleep sleeps first (DESIGN CHOICE, log 84). -/
def wakeReq (ds : List Nat) (s : State) : State :=
  let l := ds.filter (fun d => (!domOn s d || s.sleepQ.contains d) && !domFailed s d && !s.wakeQ.contains d)
  wakeNext s { s with wakeQ := s.wakeQ ++ l }
/-- Domains are to sleep, in the reverse of the order of waking, which the list given follows (R381); one that was to wake does
not. -/
def sleepReq (ds : List Nat) (s : State) : State :=
  wakeNext s { s with
    sleepQ := s.sleepQ ++ ds.filter (fun d => domOn s d && !s.sleepQ.contains d)
    wakeQ := s.wakeQ.filter (fun d => !ds.contains d) }
/-- A domain goes off: its masters are drained, what is outstanding to it completes (R429), and what it holds is lost.
`n` bursts of its master and `k` transactions to it are outstanding. -/
def domOff (d n k : Nat) (s : State) : State :=
  let s2 := if d < 18 then glnSrcOff d (abandonWindow d s) else s
  let s3 := drainAll (domMasters s2 d) n (incBy BUS_CNT_UNASSIGNED_count k s2)
  reloadNote (domClear d (putDom GOV_DOM_STAT_on d false s3))
/-- Before a plot or headland domain that holds seeded channels goes to sleep, the gates are driven dark (R381, R62, R265). -/
def darkFirst (d : Nat) (s : State) : State :=
  onlyIf (decide (d < 18) && domOn s 17 && fb s (PLOT_DRL_SEED_STAT_seeded d)) gatesDark s
/-- A domain sleeps: it leaves the sleep queue; where it is to wake next, its wake begins (log 84). -/
def sleepDone (d n k : Nat) (s : State) : State :=
  let t := domOff d n k (darkFirst d s)
  let u : State := { t with sleepQ := t.sleepQ.filter (· != d) }
  if u.wakeQ.head? = some d then { u with wakeAt := u.clk.now } else u
/-- Is every plot and headland domain off? -/
def windowsOff (s : State) : Bool := (List.range 18).all (fun w => !domOn s w)
/-- The domain whose turn it is to sleep isolates and switches off (R381). In STANDBY_PEND a commit in progress completes first
(R387), and PD_EN falls with the last window (R526). -/
def domSleep (d n k : Nat) (s : State) : State :=
  if s.sleepQ.head? == some d && domOn s d && s.commit.isNone then
    let s1 := sleepDone d n k s
    if devState s1 == 3 && windowsOff s1 then pdEnGo false s1 else s1
  else s
/-- R381, R428, R429. -/
def execDomainSleep (dt d n k : Nat) (s : State) : Host.Outcome State Fault Refusal := run s dt (domSleep d n k)
/-- The clamps of a window's Pockels channels open under a deglitch hold (Table 7-8; DEDUCED, log 90). -/
def wakeHolds (w : Nat) (s : State) : State :=
  let n := ((List.range (winChans w)).filter (fun ch => chPockels w ch && !clampClosed s w ch)).length
  incBy (PLOT_DRL_CNT_DG_count w) n { s with dgWake := amSet (fun _ => none) s.dgWake w (some s.clk.now) }
/-- What waking brings beside the reset values: a working set is loaded (R307), the governor's rate is applied (R367), the
boot ROM starts on SUP-A (R459; after STANDBY only once every domain has woken, R388), the public key is derived. -/
def wakeExtra (d : Nat) (s : State) : State :=
  if d < 18 then (if calActive s then loadDue d (wakeHolds d s) else wakeHolds d s)
  else match d with
    | 18 => if bootState s = 1 ∧ devState s ≠ 5 then setF FLT_SUP_STAT_holder 0 (supPut 0 3 { s with supLease := s.clk.now }) else s
    | 20 => setRate (f s (GOV_STEP_RATE_rate (f s GOV_STEP_step))) s
    | 29 => { s with pubReady := true }
    | _ => s
/-- A domain has no power-good within twice its wake time, or loses power-good while it is on (R382): it stays off, its wake or
sleep ends, and the next in the queue begins its wake. -/
def domFails (d n k : Nat) (s : State) : State :=
  let t := domOff d n k s
  wakeNext s (raise 38 d (setF GOV_STAT_dom_evt 1 (putDom GOV_DOM_FAIL_fail d true
    { t with sleepQ := t.sleepQ.filter (· != d), wakeQ := t.wakeQ.filter (· != d) })))
/-- The latest instant of power-good of the domain that wakes (R382). -/
def wakeLimit (d : Nat) (s : State) : Nat := s.wakeAt + 2 * wakeTime d
/-- The domain whose turn it is completes its wake: memories cleared, reset and isolation released (R380). One that comes
later than twice its wake time has failed (R382). -/
def domWake (d : Nat) (s : State) : State :=
  if s.wakeQ.head? == some d && !domOn s d then
    if wakeLimit d s < s.clk.now then domFails d 0 0 s
    else
      let s1 := domClear d { s with wakeQ := s.wakeQ.filter (· != d), wakeAt := s.clk.now }
      reloadNote (wakeExtra d (setF GOV_STAT_dom_evt 1 (putDom GOV_DOM_WAKE_woke d true (putDom GOV_DOM_STAT_on d true s1))))
  else s
/-- R380, R307, R382. -/
def execDomainWake (dt d : Nat) (s : State) : Host.Outcome State Fault Refusal := run s dt (domWake d)
/-- The failure of the domain that wakes is declared at its limit; that of a domain that is on, at once (R382). -/
def domFail (d n k : Nat) (s : State) : State :=
  if domOn s d then domFails d n k s
  else if s.wakeQ.head? = some d then domFails d n k (elapseTo s (wakeLimit d s))
  else s
/-- R382. -/
def execDomainFail (dt d n k : Nat) (s : State) : Host.Outcome State Fault Refusal := run s dt (domFail d n k)
/-- Writing 1 to a bit of GOV_DOM_FAIL retries the wake (R382), unless the device state has the domain off or it is fallow
(R379); PD29 is powered through ROM, LOAD and VERIFY whatever its fallow bit says (R383). -/
def domRetry (d : Nat) (s : State) : State :=
  if domFailed s d then
    let s1 := clearBits ⟨GOV_DOM_FAIL_fail.off, d, 1⟩ 1 s
    if stateOn s1 d && (!domFallow s1 d || d == 29 && decide (bootState s1 ≤ 3)) then wakeReq [d] s1 else s1
  else s
/-- Bits of a mask below 30. -/
def maskDomains (v : Nat) : List Nat := (List.range 30).filter (fun d => v.testBit d)
/-- A write of GOV_DOM_FAIL. -/
def domFailWrite (v : Nat) : State → State := forEach (maskDomains v) domRetry
/-- R382. -/
def execDomainRetry (dt m d : Nat) (s : State) : Host.Outcome State Fault Refusal :=
  run s dt (regCmd m GOV_DOM_FAIL_fail.off (domFailWrite (2 ^ d)))
/-- One domain becomes fallow or is released (R383). PD29 stays powered through ROM, LOAD and VERIFY. -/
def fallowOne (d : Nat) (b : Bool) (s : State) : State :=
  let s1 := putDom GOV_DOM_FALLOW_fallow d b s
  if b then (if d = 29 ∧ bootState s1 ≤ 3 then s1 else sleepReq [d] s1)
  else if shouldOn s1 d then wakeReq [d] s1 else s1
/-- A write of GOV_DOM_FALLOW (R383), each way in its order (R380, R381). -/
def fallowWrite (v : Nat) (s : State) : State :=
  if v.testBit 22 && v.testBit 23 then s
  else forEach ([29, 22, 23, 28].filter (fun d => !v.testBit d && domFallow s d)) (fallowOne · false)
    (forEach ([28, 23, 22, 29].filter (fun d => v.testBit d && !domFallow s d)) (fallowOne · true) s)
/-- R383. -/
def execFallowWrite (dt m v : Nat) (s : State) : Host.Outcome State Fault Refusal :=
  run s dt (regCmd m GOV_DOM_FALLOW_fallow.off (fallowWrite v))

/-! ### Device states -/

/-- A request that Table 11-10 does not grant. -/
def devRefuse (s : State) : State := setF GOV_DEV_STAT_refused 1 s
/-- FLT control, severities, pending, escalated, the safe state, `serve` and `self_fault`, with BUS_MODE at START and
BUS_REMAP at 0, return to their defaults (Table 14-12). -/
def fltDefaults (s : State) : State :=
  { setF BUS_REMAP_remap 0 (setF BUS_MODE_mode 1 (clearRegs [(0x20000, 0x20040), (0x20100, 0x20200), (0x20300, 0x20308)] s)) with
    escAt := [], escDet := [], remapPend := none, modePend := none }
/-- CAL bank control and generations return to their defaults (Table 14-12). -/
def calDefaults : State → State := clearRegs [(0xC0000, 0xC0020), (0xC0040, 0xC0048)]
/-- The AON registers that a wake from STANDBY returns to their defaults (Table 14-12). -/
def standbyDefaults (s : State) : State := calDefaults (fltDefaults s)
/-- Leave STANDBY (R388, R526): the plan is no longer applied (log 58). -/
def standbyWake (s : State) : State :=
  let s1 := setF BOOT_STAT_plan 0 { standbyDefaults s with bootBusy := 0, planAt := none }
  wakeReq (wakeOrder.filter (fun d => d == 29 || !domFallow s d)) (bootGo 1 (pdEnGo true (devGo 5 s1)))
/-- Begin STANDBY (R387): the rotation stops with hold, gates go dark, every domain but PD24 sleeps. -/
def standbyPend (s : State) : State :=
  let s1 := stopHold (devGo 3 s)
  sleepReq (wakeOrder.reverse.filter (· != 24)) (if s1.commit.isNone then gatesDark s1 else s1)
/-- A device-state request (Table 11-10): 1 RUN, 2 PARK, 3 STANDBY. -/
def devReq (r : Nat) (s : State) : State :=
  match r, devState s with
  | 1, 1 => devGo 0 s
  | 1, 2 => rotThrottle (wakeReq ([21, 28].filter (fun d => !domFallow s d)) (devGo 0 s))
  | 1, 4 => standbyWake s
  | 2, 0 => if inSafe s then devRefuse s else { devGo 1 s with parkAt := s.clk.now }
  | 3, 0 => if inSafe s then standbyPend s else devRefuse s
  | 3, 2 => standbyPend s
  | 0, _ => s
  | _, _ => devRefuse s
/-- A write of GOV_DEV_CMD. -/
def devCmdWrite (v : Nat) (s : State) : State :=
  let s1 := setF GOV_DEV_CMD_req v s
  if v / 2 ^ 31 % 2 = 1 then devReq (v % 4) s1 else s1
/-- GOV_DEV_CMD with `go` and a request, by a master. -/
def devMaster (m r : Nat) : State → State := regCmd m GOV_DEV_CMD_req.off (devCmdWrite (2 ^ 31 + r))
/-- R384, R386, R388. -/
def execDevReqRun (dt m : Nat) (s : State) : Host.Outcome State Fault Refusal := run s dt (devMaster m 1)
/-- R384. -/
def execDevReqPark (dt m : Nat) (s : State) : Host.Outcome State Fault Refusal := run s dt (devMaster m 2)
/-- R384, R387. -/
def execDevReqStandby (dt m : Nat) (s : State) : Host.Outcome State Fault Refusal := run s dt (devMaster m 3)
/-- Is nothing left to serve (R385)? A sheaf that is ready, solving or closed for its commit counts as in one of the lists
(DEDUCED, log 85). -/
def listsEmpty (s : State) : Bool :=
  s.queues.isEmpty && s.sched.isEmpty && s.ready.isEmpty && s.solving.isNone && s.accepted.isEmpty && s.closed.isNone && s.commit.isNone
/-- Entry to PARK (R385): PD21 and PD28 sleep; a running rotation is suspended at its next slot-0 boundary (R185, as R183:
`boundaryZero`; DEDUCED, log 85). -/
def parkEnter (s : State) : State :=
  if devState s = 1 ∧ listsEmpty s = true then sleepReq [28, 21] (devGo 2 s) else s
/-- R385. -/
def execParkEnter (dt : Nat) (s : State) : Host.Outcome State Fault Refusal := run s dt parkEnter
/-- `park_wait_ms` elapses in PARK_PEND (R384). -/
def parkTimeout (s : State) : State :=
  if devState s = 1 then
    setF GOV_DEV_STAT_park_timeout 1 (devGo 0 (elapseTo s (s.parkAt + f s GOV_DEV_CFG_park_wait_ms * ms)))
  else s
/-- R384. -/
def execParkWaitTimeout (dt : Nat) (s : State) : Host.Outcome State Fault Refusal := run s dt parkTimeout
/-- STANDBY is reached once every domain but PD24 is asleep (R387). -/
def standbyEnter (s : State) : State :=
  if devState s = 3 ∧ (List.range 30).all (fun d => d == 24 || !domOn s d) = true then pdEnGo false (devGo 4 s) else s
/-- R387. -/
def execStandbyEnter (dt : Nat) (s : State) : Host.Outcome State Fault Refusal := run s dt standbyEnter
/-- The domains of WAKING are awake: SUP-A starts at the boot ROM, and the boot goes on from the download (R388). -/
def wakeComplete (s : State) : State :=
  if devState s = 5 ∧ s.wakeQ = [] then
    bootGo 2 (onlyIf (domOn s 18) (fun t => setF FLT_SUP_STAT_holder 0 (supPut 0 3 { t with supLease := t.clk.now }))
      { devGo 0 s with resetEnd := s.clk.now })
  else s
/-- R388. -/
def execWakeComplete (dt : Nat) (s : State) : Host.Outcome State Fault Refusal := run s dt wakeComplete

end Sys2Proof.Machine
end

