-- ==== Sys2Proof/Machine/Bus.lean ====
section
/-! DEFINITION. The bus matrix and the memories behind it: supervisor space (R42 to R44), the scratchpad with its
conflicts, parity and atomics (R430 to R436), harrow and the repair fuses (R437 to R440), DRAM and its dies (R441 to
R447), barriers and the host fence (R425, R426), the remap (R427). -/
namespace Sys2Proof.Machine
open Sys2Proof.Config

/-! ### Supervisor space -/

/-- What a supervisor address reaches (Table 1-13). -/
inductive Target where
  | rom (a : Nat) | spm (a : Nat) | reg (off : Nat) | dram (a : Nat) | nothing
  deriving DecidableEq, Repr

/-- The target of a supervisor address under a remap value (R42). -/
def targetAt (remap : Bool) (a : Nat) : Target :=
  if a < 0x10000 then (if remap then .spm a else .rom a)
  else if a < 0x10000000 then .nothing
  else if a < 0x10010000 then (if remap then .rom (a - 0x10000000) else .spm (a - 0x10000000))
  else if a < 0x10800000 then .spm (a - 0x10000000)
  else if a < 0x40000000 then .nothing
  else if a < 0x44000000 then .reg (a - 0x40000000)
  else if a < 0x80000000 then .nothing
  else if a < 0x100000000 then .dram a
  else .nothing
/-- The target of a supervisor address now. -/
def targetOf (s : State) (a : Nat) : Target := targetAt (fb s BUS_REMAP_remap) a

/-- Address in the pair SRAM store of a BAR0 byte offset in a window's SRAM (Tables 1-11, 1-12). -/
def sramAt (off : Nat) : Option Nat :=
  match offWin off with
  | some w =>
    let o := off - winBase w
    if 0x80000 ≤ o ∧ o < 0xC0000 then some (sramAddr w (o - 0x80000)) else none
  | none => none

/-- An access's answer: an ERR is an access fault to SUP and a success to PCIE (R423). -/
def respond (m data code : Nat) (s : State) : State :=
  { s with resp := ⟨data, if code = 2 then (match m with | 0 => 3 | 6 => 0 | _ => 2) else code⟩ }
/-- An ERR response (R423). -/
def errResp (m data : Nat) (s : State) : State := respond m data 2 (inc BUS_CNT_ERR_count s)
/-- An access that reaches nothing: a read returns 0, and it is counted (R39, R420). -/
def noTarget (s : State) : State := countUnassigned { s with resp := ⟨0, 0⟩ }

/-- Does a master have a path to the scratchpad (Table 13-1)? HRW alone is no master of commands. -/
def reachSpm (m : Nat) : Bool := m == 0 || m == 5 || m == 6
/-- A path to DRAM. -/
def reachDram (m : Nat) : Bool := decide (m ≤ 6)

/-- What BAR2 reaches in the boot state (Table 14-1): everything from START on; in LOAD the container region, the
calibration banks, and the upper half of the scratchpad. -/
def bar2Open (s : State) (t : Target) : Bool :=
  if 4 ≤ bootState s then true
  else bootState s == 2 &&
    (match t with
     | .spm a => decide (0x400000 ≤ a)
     | .dram a =>
       let x := a % 0x40000000
       decide (0x1000000 ≤ x) && decide (x < 0x8800000)
     | _ => false)

/-! ### The scratchpad -/

/-- The domain of a scratchpad byte's bank (R430). -/
def spmDom (a : Nat) : Nat := if spmHigh a then 27 else 26
/-- One scratchpad byte; 0 while its domain is off. -/
def spmByte (s : State) (a : Nat) : Nat := if domOn s (spmDom a) then (memGet s.spm a).toNat else 0
/-- `n` scratchpad bytes. -/
def spmList (s : State) (a n : Nat) : List Nat := (List.range n).map (fun i => spmByte s (a + i))
/-- Bytes as a little-endian number. -/
def ofBytes (l : List Nat) : Nat := l.foldr (fun b n => b + 256 * n) 0
/-- `n` scratchpad bytes as a number. -/
def spmRead (s : State) (a n : Nat) : Nat := ofBytes (spmList s a n)
/-- Store scratchpad bytes where their banks are on. -/
def spmPut (a : Nat) (l : List Nat) (s : State) : State :=
  forEach (l.zipIdx a) (fun e t => if domOn t (spmDom e.2) then { t with spm := memSet t.spm e.2 (BitVec.ofNat 8 e.1) } else t) s

/-- BUSY responses and conflicts count against `conf_rate` in a millisecond of TB0 (R432). -/
def confNote (n : Nat) (s : State) : State :=
  let now := tNs (tbNow s 0) / 1000000 + 1000 * tSec (tbNow s 0)
  let s1 := if s.confMs = now then s else { s with confMs := now, confCount := 0, confDone := false }
  let s2 := { s1 with confCount := s1.confCount + n }
  if f s2 BUS_CONF_CFG_conf_rate ≠ 0 ∧ f s2 BUS_CONF_CFG_conf_rate ≤ s2.confCount ∧ s2.confDone = false then
    raise 19 0 { s2 with confDone := true }
  else s2

/-- A word's stored data fails parity (R433). -/
def parityFail (word : Nat) (s : State) : State :=
  raise 18 word (setF BUS_SPM_PAR_word word (inc BUS_CNT_PAR_count (inc BUS_CNT_ERR_count s)))

/-- The words that the bytes of an access lie in. -/
def wordsOf (a size : Nat) : List Nat := if (a + size - 1) / 8 = a / 8 then [a / 8] else [a / 8, a / 8 + 1]
/-- Does an access cover a whole word? -/
def coversWord (a size w : Nat) : Bool := decide (a ≤ 8 * w) && decide (8 * w + 8 ≤ a + size)
/-- Words of an access whose domain is on and whose stored data fails parity: bit k of `par` for its k-th word. -/
def badWords (s : State) (a size par : Nat) : List Nat :=
  ((wordsOf a size).zipIdx.filter (fun e => par.testBit e.2 && domOn s (spmDom (8 * e.1)))).map (·.1)

/-! ### Harrow -/

/-- The region harrow borrows or will borrow next. -/
def hrwRegion (s : State) : Nat := f s BUS_HRW_STAT_region
/-- May a pass start (R437)? -/
def hrwMay (s : State) : Bool :=
  fb s BUS_HRW_CTRL_hrw_en && f s BUS_MODE_mode == 0 && fb s GOV_STAT_harrow_ok && domOn s 26 && domOn s 27
/-- A pass starts `gap_us` after the last one (R437). -/
def hrwStart (s : State) : State :=
  if hrwMay s && !fb s BUS_HRW_STAT_active then
    let t := elapseTo s (s.hrwAt + max 2 (f s BUS_HRW_CTRL_gap_us) * us)
    setF BUS_HRW_STAT_active 1 { t with hrwAt := t.clk.now }
  else s
/-- R437. -/
def execHarrowPass (dt : Nat) (s : State) : Host.Outcome State Fault Refusal := run s dt hrwStart
/-- A pass ends without completing (Table 13-4): its region is borrowed again at the next pass. -/
def hrwAbort (s : State) : State := inc BUS_HRW_CNT_ABORT_count (setF BUS_HRW_STAT_active 0 s)
/-- The log entry of a failing column, if it stands in the log. -/
def hrwFind (s : State) (b c : Nat) : Option Nat :=
  (List.range 16).find? (fun i => fb s (BUS_HRW_LOG_valid i) && f s (BUS_HRW_LOG_bank i) == b && f s (BUS_HRW_LOG_column i) == c)
/-- The march found a failing bit (R439). -/
def hrwFail (b c : Nat) (s : State) : State :=
  let s1 := setF BUS_HRW_STAT_fail 1 s
  match hrwFind s1 b c with
  | some i => incSat (BUS_HRW_LOG_hits i) s1
  | none =>
    let s2 := match (List.range 16).find? (fun i => !fb s1 (BUS_HRW_LOG_valid i)) with
      | some i => setF (BUS_HRW_LOG_hits i) 1 (setF (BUS_HRW_LOG_valid i) 1 (setF (BUS_HRW_LOG_column i) c (setF (BUS_HRW_LOG_bank i) b s1)))
      | none => setF BUS_HRW_STAT_log_full 1 s1
    raise 20 (b + 16 * c) s2
/-- The march and the restore complete; the march found the failing (bank, column) pairs of `fails` (R438, R439). -/
def hrwDone (fails : List (Nat × Nat)) (s : State) : State :=
  if fb s BUS_HRW_STAT_active then
    let s1 := forEach fails.eraseDups (fun e => hrwFail e.1 e.2) s
    let r := hrwRegion s1
    let s2 := setF BUS_HRW_STAT_region (if r = 32767 then 0 else r + 1) (inc BUS_HRW_CNT_PASS_count (setF BUS_HRW_STAT_active 0 s1))
    if r = 32767 then inc BUS_HRW_CNT_SWEEP_count s2 else s2
  else s
/-- R438, R439. -/
def execHarrowPassDone (dt : Nat) (fails : List (Nat × Nat)) (s : State) : Host.Outcome State Fault Refusal :=
  run s dt (hrwDone fails)
/-- An access meets the borrowed region (Table 13-4): one of QoS 12 or more ends the pass, in its restore the restore
completes; another waits until the pass has ended. -/
def hrwMeet (m a size : Nat) (s : State) : State :=
  if fb s BUS_HRW_STAT_active && (a / 256 == hrwRegion s || (a + size - 1) / 256 == hrwRegion s) then
    if 12 ≤ f s (BUS_QOS_qos m) ∧ s.clk.now < s.hrwAt + 14200 then hrwAbort s
    else hrwDone [] (elapseTo s (s.hrwAt + 16000))
  else s

/-! ### Scratchpad accesses -/

/-- Is an access one that the mode refuses for its alignment (R434)? -/
def unalignedErr (s : State) (a size : Nat) : Bool := decide (a % size ≠ 0) && f s BUS_MODE_mode != 0
/-- What every scratchpad access does first: it meets harrow, waits for ports, and its words' domains are looked up. -/
def spmArrive (m a size waits : Nat) (s : State) : State :=
  let s1 := hrwMeet m a size s
  let s2 := if waits = 0 then s1 else confNote waits (incBy (BUS_CNT_CONFLICT_count m) waits s1)
  forEach (wordsOf a size) (fun w t => if domOn t (spmDom (8 * w)) then t else countUnassigned t) s2
/-- A BUSY response (R431). -/
def spmBusy (m : Nat) (s : State) : State := confNote 1 (inc (BUS_CNT_BUSY_count m) s)
/-- A read of `size` bytes at scratchpad byte `a` by a master. `waits` bank conflicts, `same`: on port 1 of the cycle in
which another access wrote the same word, `par`: words whose stored data fails parity. -/
def spmReadBy (m a size waits : Nat) (same : Bool) (par : Nat) (s : State) : State :=
  if unalignedErr s a size then errResp m 0 s
  else
    let s1 := spmArrive m a size waits s
    if same then
      let (v, s2) := drawFree (256 ^ size) s1
      respond m v 1 (spmBusy m s2)
    else
      let bad := badWords s1 a size par
      respond m (spmRead s1 a size) (if bad.isEmpty then 0 else 2) (forEach bad parityFail s1)
/-- A write of the same kind. -/
def spmWriteBy (m a size v waits : Nat) (same : Bool) (par : Nat) (s : State) : State :=
  if unalignedErr s a size then errResp m 0 s
  else
    let s1 := spmArrive m a size waits s
    let bad := (badWords s1 a size par).filter (fun w => !coversWord a size w)
    let s2 := spmPut a ((List.range size).map (fun i => v / 256 ^ i % 256)) s1
    let s3 := if same then spmBusy m s2 else s2
    respond m 0 (if !bad.isEmpty then 2 else if same then 1 else 0) (forEach bad parityFail s3)
/-- Where a master's scratchpad accesses are open: PCIE under the boot state. -/
def spmOpen (s : State) (m a : Nat) : Bool := reachSpm m && (m != 6 || bar2Open s (.spm a))
/-- One scratchpad access of a master. -/
def spmAccess (m a size : Nat) (w : Option Nat) (waits : Nat) (same : Bool) (par : Nat) : State → State :=
  onIssue m (fun s =>
    if spmOpen s m a then
      (match w with
       | some v => spmWriteBy m a size v waits same par s
       | none => spmReadBy m a size waits same par s)
    else noTarget s)
/-- R430 to R434. -/
def execScratchpadAccess (dt m a size : Nat) (w : Option Nat) (waits : Nat) (same : Bool) (par : Nat) (s : State) :
    Host.Outcome State Fault Refusal :=
  run s dt (spmAccess m a size w waits same par)

/-- An atomic at the bank: op 0 add, 1 swap, any other answers ERR (R435). It returns the old value. -/
def atomicBy (m a op size v : Nat) (s : State) : State :=
  if f s BUS_MODE_mode = 0 ∨ 2 ≤ op ∨ a % size ≠ 0 then errResp m 0 s
  else
    let s1 := spmArrive m a size 0 s
    let old := spmRead s1 a size
    let new := if op = 0 then (old + v) % 256 ^ size else v % 256 ^ size
    respond m old 0 (spmPut a ((List.range size).map (fun i => new / 256 ^ i % 256)) s1)
/-- R435. -/
def execAtomicOp (dt m a op size v : Nat) (s : State) : Host.Outcome State Fault Refusal :=
  run s dt (onIssue m (fun t => if spmOpen t m a then atomicBy m a op size v t else noTarget t))

/-- The next millisecond of TB0 begins: the count starts again (R432). -/
def confWindow (s : State) : State :=
  let t := elapseTo s (tb0Instant s ((tbNow s 0 / (1000000 * nsUnit) + 1) * (1000000 * nsUnit)))
  { t with confMs := tNs (tbNow t 0) / 1000000 + 1000 * tSec (tbNow t 0), confCount := 0, confDone := false }
/-- R432. -/
def execConflictRateWindow (dt : Nat) (s : State) : Host.Outcome State Fault Refusal := run s dt confWindow

/-! ### DRAM -/

/-- Die of a DRAM address (R441). -/
def dieOf (a : Nat) : Nat := if a < 0xC0000000 then 0 else 1
/-- Is an address in a duplicated region (Table 13-5)? -/
def inDuplicated (a : Nat) : Bool :=
  let x := a % 0x40000000
  decide (x < 0x800000) || (decide (0x1000000 ≤ x) && decide (x < 0x8800000))
/-- Is a tile address a copy-0 address of a duplicated region? -/
def isCopy0 (a : Nat) : Bool := decide (0x80000000 ≤ a) && decide (a < 0xC0000000) && decide (a % 1024 = 0) && inDuplicated a

/-- Store bytes in DRAM for a master, from an address within one die: the active calibration bank and the free rings
take none (R316, R442). PD25 is on and the die online. -/
def dramPut (m a : Nat) (l : List Nat) (s : State) : State :=
  forEach (l.zipIdx a) (fun e t =>
    if inFreeRing e.2 && m != 3 then t
    else
      let t1 := calWriteNote e.2 t
      if calBlocked t e.2 then t1 else { t1 with dram := memSet t1.dram e.2 (BitVec.ofNat 8 e.1) }) s
/-- A read of `n` bytes of DRAM with its answer (R447). -/
def dramReadBy (m a n : Nat) (s : State) : State :=
  if !domOn s 25 then noTarget s
  else if dieOff s (dieOf a) then errResp m 0 s
  else respond m (dramVal s a n) 0 s
/-- A write of DRAM bytes with its answer (R447, R442, R316). -/
def dramWriteBy (m a : Nat) (l : List Nat) (s : State) : State :=
  if !domOn s 25 then noTarget s
  else if dieOff s (dieOf a) then errResp m 0 s
  else respond m 0 0 (dramPut m a l (if inFreeRing a && m != 3 then countUnassigned s else s))
/-- A plain DRAM access of a master. -/
def dramAccess (m a size : Nat) (w : Option Nat) : State → State :=
  onIssue m (fun s =>
    if reachDram m && (m != 6 || bar2Open s (.dram a)) then
      (match w with
       | some v => dramWriteBy m a ((List.range size).map (fun i => v / 256 ^ i % 256)) s
       | none => dramReadBy m a size s)
    else noTarget s)
/-- R441, R442, R447. -/
def execDramAccess (dt m a size : Nat) (w : Option Nat) (s : State) : Host.Outcome State Fault Refusal :=
  run s dt (dramAccess m a size w)

/-- A checked read with its answer: code 0 and the tile, 4 GEN_CONFLICT, 5 NO_COPY (Table 13-6). -/
def checkedBy (a : Nat) (s : State) : State :=
  if !domOn s 25 then noTarget s
  else
    let r : Resp := match checkTile s a with
      | .ok c => ⟨memRead s.dram (copyAddr a c) 1024, 0⟩
      | .genConflict => ⟨0, 4⟩
      | .noCopy => ⟨0, 5⟩
    { checkedNote a s with resp := r }
/-- A checked read of a master: RTE and DMA issue them (R444); HRW has no path to DRAM (R420), and the others issue none. -/
def checkedFrom (m a : Nat) : State → State :=
  onIssue m (fun t => if m = 1 ∨ m = 5 then checkedBy a t else if reachDram m then t else noTarget t)
/-- R444 to R446. -/
def execCheckedRead (dt m a : Nat) (s : State) : Host.Outcome State Fault Refusal :=
  run s dt (checkedFrom m a)

/-- A die's training-row check (R447): the second failure in succession fails the die. -/
def dieCheck (d : Nat) (bad : Bool) (s : State) : State :=
  if dieOff s d then s
  else
    let n := if bad then amGet (fun _ => 0) s.dieBad d + 1 else 0
    let s1 := { s with dieBad := amSet (fun _ => 0) s.dieBad d n }
    if 2 ≤ n then dieFail d s1 else s1
/-- R447: both dies are checked at the next multiple of `chk_ms`. -/
def execDieCheck (dt : Nat) (bad0 bad1 : Bool) (s : State) : Host.Outcome State Fault Refusal :=
  run s dt (fun t =>
    if domOn t 25 then
      let p := max 1 (f t DRC_CTRL_chk_ms) * ms
      dieCheck 1 bad1 (dieCheck 0 bad0 (elapseTo t ((t.clk.now + (p - 1)) / p * p)))
    else t)
/-- R447: a read of a die by a master does not complete within 2 us; one that finds no DRAM (R420, R39) or a die offline already ends
as any such read. -/
def execDramReadTimeout (dt m d : Nat) (s : State) : Host.Outcome State Fault Refusal :=
  run s dt (onIssue m (fun t =>
    if !reachDram m || !domOn t 25 then noTarget t
    else if dieOff t d then errResp m 0 t
    else errResp m 0 (dieFail d t)))

/-! ### Fences, barriers, the remap and the mode -/

/-- The host's read of BUS_HOST_FENCE is held (R426). -/
def fenceRead (s : State) : State := { s with hostFence := true }
/-- R426. -/
def execHostFence (dt : Nat) (s : State) : Host.Outcome State Fault Refusal :=
  run s dt (fun t =>
    if masterLive t 6 then
      (if regOpen t 6 BUS_HOST_FENCE_fences.off false then fenceRead t else noTarget t)
    else t)
/-- The held read returns the count of fences completed, this one included (R426). -/
def fenceDone (s : State) : State :=
  if s.hostFence then
    let s1 := inc BUS_HOST_FENCE_fences { s with hostFence := false }
    { s1 with resp := ⟨f s1 BUS_HOST_FENCE_fences, 0⟩ }
  else s
/-- R426. -/
def execHostFenceComplete (dt : Nat) (s : State) : Host.Outcome State Fault Refusal := run s dt fenceDone
/-- A master issues a barrier (R425): SUP at a FENCE instruction, DMA at a fence flag. -/
def execBarrier (dt m : Nat) (s : State) : Host.Outcome State Fault Refusal :=
  run s dt (onIssue m (fun t => { t with barriers := t.barriers ++ [m] }))
/-- R425. -/
def execBarrierComplete (dt m : Nat) (s : State) : Host.Outcome State Fault Refusal :=
  run s dt (fun t => { t with barriers := t.barriers.filter (· != m) })

/-- A write of BUS_REMAP: honoured in START alone (R427). -/
def remapWrite (v : Nat) (s : State) : State := if f s BUS_MODE_mode = 1 then { s with remapPend := some (v % 2) } else s
/-- R427. -/
def execRemapWrite (dt m v : Nat) (s : State) : Host.Outcome State Fault Refusal :=
  run s dt (regCmd m BUS_REMAP_remap.off (remapWrite v))
/-- The remap takes effect (R427). -/
def remapApply (s : State) : State :=
  match s.remapPend with
  | some v => setF BUS_REMAP_remap v { s with remapPend := none }
  | none => s
/-- R427. -/
def execRemapApply (dt : Nat) (s : State) : Host.Outcome State Fault Refusal := run s dt remapApply
/-- A write of BUS_MODE (R436); with BOOT_MODE 0b10 the mode stays TEST (Table 14-2). -/
def modeWrite (v : Nat) (s : State) : State :=
  if f s BOOT_STAT_boot_mode = 2 then s else { s with modePend := some (v % 4) }
/-- R436. -/
def execBusModeWrite (dt m v : Nat) (s : State) : Host.Outcome State Fault Refusal :=
  run s dt (regCmd m BUS_MODE_mode.off (modeWrite v))
/-- The mode takes effect (R436). -/
def modeApply (s : State) : State :=
  match s.modePend with
  | some v => setF BUS_MODE_mode v { s with modePend := none }
  | none => s
/-- R436. -/
def execBusModeApply (dt : Nat) (s : State) : Host.Outcome State Fault Refusal := run s dt modeApply

/-! ### Repair fuses -/

/-- The fields of repair entry `e` of bank `b` in a register pair at `base`: column and valid. -/
def repairFld (base b e : Nat) : Fld × Fld :=
  let o := base + 8 * b + 4 * (e / 2)
  (⟨o, 16 * (e % 2), 9⟩, ⟨o, 16 * (e % 2) + 9, 1⟩)
/-- Show a repair entry, held as column + 1 with 0 for unblown. -/
def repairShow (base b e v : Nat) (s : State) : State :=
  setB (repairFld base b e).2 (decide (v ≠ 0)) (setF (repairFld base b e).1 (v - 1) s)
/-- A repair entry as blown. -/
def repairOf (s : State) (b e : Nat) : Nat := amGet (fun _ => 0) s.repairFuse (4 * b + e)
/-- A write of BUS_REPAIR_CMD (R440). -/
def repairCmd (v : Nat) (s : State) : State :=
  let b := v % 16
  let e := v / 16 % 4
  let c := v / 64 % 512
  let s1 := setF BUS_REPAIR_CMD_column c (setF BUS_REPAIR_CMD_entry e (setF BUS_REPAIR_CMD_bank b s))
  if v / 2 ^ 31 % 2 = 0 ∨ fb s BUS_REPAIR_STAT_busy then s1
  else if f s BUS_MODE_mode ≠ 2 then setF BUS_REPAIR_STAT_result 1 s1
  else if repairOf s b e ≠ 0 ∨ 259 < c then setF BUS_REPAIR_STAT_result 2 s1
  else setF BUS_REPAIR_STAT_busy 1 { s1 with repairBusy := some (b, e, c) }
/-- R440. -/
def execRepairFuseBlow (dt m b e c : Nat) (s : State) : Host.Outcome State Fault Refusal :=
  run s dt (regCmd m BUS_REPAIR_CMD_go.off (repairCmd (2 ^ 31 + b % 16 + 16 * (e % 4) + 64 * (c % 512))))
/-- A blow completes within 2 ms (R440): `got` is what the fuses read back, column + 1. -/
def repairDone (got : Nat) (s : State) : State :=
  match s.repairBusy with
  | some (b, e, c) =>
    let s1 := { s with repairBusy := none, repairFuse := amSet (fun _ => 0) s.repairFuse (4 * b + e) got }
    setF BUS_REPAIR_STAT_busy 0 (setF BUS_REPAIR_STAT_result (if got = c + 1 then 0 else 3) (repairShow 0x90280 b e got s1))
  | none => s
/-- R440. -/
def execRepairBlowComplete (dt got : Nat) (s : State) : Host.Outcome State Fault Refusal := run s dt (repairDone got)

end Sys2Proof.Machine
end

