-- ==== Sys2Proof/Machine/Hss.lean ====
section
/-! DEFINITION. The HSS signature of R464: two levels of LMS_SHA256_M32_H10 with LMOTS_SHA256_N32_W8, verified as RFC 8554
says (log 52). -/
namespace Sys2Proof.Machine

/-- `n` bytes of a list from `o`. -/
def cut (l : List Nat) (o n : Nat) : List Nat := (l.drop o).take n
/-- A big-endian 32-bit word at `o`. -/
def be32 (l : List Nat) (o : Nat) : Nat := ofBe (cut l o 4)

/-- `n` steps of a hash chain from step `j` (RFC 8554, section 4.6). -/
def otsChain (pre : List Nat) : Nat → Nat → List Nat → List Nat
  | 0, _, x => x
  | n + 1, j, x => otsChain pre n (j + 1) (sha256 (pre ++ [j] ++ x))
/-- The candidate LM-OTS public key of a signature: type, C and 34 values. -/
def otsKey (ident : List Nat) (q : Nat) (sig msg : List Nat) : List Nat :=
  let id := ident ++ beBytes 4 q
  let h := sha256 (id ++ [0x81, 0x81] ++ cut sig 4 32 ++ msg)
  let ck := (h.map (fun b => 255 - b)).sum
  let digits := h ++ beBytes 2 ck
  let z := digits.zipIdx.flatMap (fun e => otsChain (id ++ beBytes 2 e.2) (255 - e.1) e.1 (cut sig (36 + 32 * e.2) 32))
  sha256 (id ++ [0x80, 0x80] ++ z)
/-- Up a tree of height `n` from node `r` (RFC 8554, section 5.4.2). -/
def lmsRoot (ident : List Nat) : Nat → Nat → List Nat → List Nat → List Nat
  | 0, _, _, t => t
  | n + 1, r, path, t =>
    let pair := if r % 2 = 1 then path.take 32 ++ t else t ++ path.take 32
    lmsRoot ident n (r / 2) (path.drop 32) (sha256 (ident ++ beBytes 4 (r / 2) ++ [0x83, 0x83] ++ pair))
/-- Bytes of an LMS signature of these parameters. -/
def lmsLen : Nat := 1452
/-- Do an LMS public key (56 bytes) and signature verify a message? -/
def lmsVerify (key sig msg : List Nat) : Bool :=
  let ident := cut key 8 16
  let q := be32 sig 0
  let r := 1024 + q
  let leaf := sha256 (ident ++ beBytes 4 r ++ [0x82, 0x82] ++ otsKey ident q (cut sig 4 1124) msg)
  decide (q < 1024) && lmsRoot ident 10 r (cut sig 1132 320) leaf == cut key 24 32
/-- Do an LMS public key's types agree with R464? -/
def keyTypes (key : List Nat) : Bool := be32 key 0 == 6 && be32 key 4 == 4
/-- Do an LMS signature's types agree? -/
def sigTypes (sig : List Nat) : Bool := be32 sig 4 == 4 && be32 sig 1128 == 6
/-- The public key and every level of the signature carry the types of R464 (check 6 of Table 14-6). -/
def hssParams (key sig : List Nat) : Bool :=
  be32 key 0 == 2 && keyTypes (key.drop 4) && be32 sig 0 == 1 && sigTypes (cut sig 4 lmsLen) && keyTypes (cut sig 1456 56) &&
    sigTypes (cut sig 1512 lmsLen)
/-- The HSS signature verifies (check 7): the top level signs the key of the bottom level, which signs the message. -/
def hssVerify (key sig msg : List Nat) : Bool :=
  let low := cut sig 1456 56
  lmsVerify (key.drop 4) (cut sig 4 lmsLen) low && lmsVerify low (cut sig 1512 lmsLen) msg

end Sys2Proof.Machine
end

