-- ==== Sys2Proof/Machine/Messages.lean ====
section
/-! DEFINITION. The bytes of what the module sends (R330 to R335, R342, R356): bodies (Tables 10-9 to 10-13), the header
(Table 10-5), the tag, and the UDP datagram in its Ethernet frame. What the spec leaves open of a frame's headers is free. -/
namespace Sys2Proof.Machine
open Sys2Proof.Config

/-- Sum of the 16-bit words of a list. -/
def sum16 : List Nat → Nat
  | [] => 0
  | [a] => a * 256
  | a :: b :: t => a * 256 + b + sum16 t
/-- A port's MAC address. -/
def portMac (s : State) (p : Nat) : Nat := f s (ETH_MAC_HI_mac p) * 2 ^ 32 + f s (ETH_MAC_LO_mac p)
/-- A port's IPv6 address. -/
def portV6 (s : State) (p : Nat) : Nat := ofBe ((List.range 4).flatMap (fun i => beBytes 4 (f s (ETH_IPV6_addr p i))))

/-! ### Bodies -/

/-- A time in the format of commit_time (Table 10-9). -/
def timeBytes (v : Nat) : List Nat := beBytes 6 (tSec v) ++ beBytes 4 (tNs v) ++ beBytes 2 (tFrac v)
/-- A moved record (R336). -/
def movedBytes (m : Moved) : List Nat := [m.inp, m.out, m.old, m.new]
/-- A verify record (R336). -/
def verifyBytes (v : VerRec) : List Nat :=
  [v.out, match v.verdict with | .pass => 0 | .unseen => 1 | .fail => 2, v.outA, v.outB]
/-- A TELEM record (Table 10-11). -/
def telemBytes (r : TelemRec) : List Nat := [r.code, r.port, r.a, r.b] ++ timeBytes r.time
/-- A message's type (Table 10-6). -/
def bodyType : MsgBody → Nat
  | .sheafRsp .. => 2 | .queryRsp .. => 4 | .telem .. => 5 | .rotRsp .. => 7 | .heartbeat .. => 8
/-- A message's body, big-endian (R331; Tables 10-9 to 10-13). -/
def bodyBytes : MsgBody → List Nat
  | .sheafRsp reason index part parts committed late deferLate fw moved verify time cseq =>
    [reason, part % 16 + 16 * (parts % 16)] ++ beBytes 2 index ++
      [committed.toNat + 2 * late.toNat + 4 * deferLate.toNat + 8 * fw.toNat, 0] ++ beBytes 2 moved.length ++
      beBytes 2 verify.length ++ [0, 0] ++ timeBytes time ++ beBytes 4 cseq ++ moved.flatMap movedBytes ++ verify.flatMap verifyBytes
  | .queryRsp reason part parts kind stateSeq records =>
    [reason, part % 16 + 16 * (parts % 16), kind, records.length % 256] ++ beBytes 4 stateSeq ++ records.flatMap id
  | .telem tseq lost records => beBytes 4 tseq ++ beBytes 2 records.length ++ beBytes 2 lost ++ records.flatMap telemBytes
  | .rotRsp code table slot mapResult start late => [code, table, slot, mapResult] ++ timeBytes start ++ [late.toNat, 0, 0, 0]
  | .heartbeat state step tbs rot tb0 cseq depth =>
    [state, step, tbs, rot] ++ timeBytes tb0 ++ beBytes 4 cseq ++ beBytes 2 depth ++ [0, 0]

/-! ### The datagram -/

/-- The bytes of a tenant's key in a slot. -/
def keyBytes (s : State) (tenant slot : Nat) : Option (List Nat) :=
  (amGet (fun _ => none) s.keys (2 * tenant + slot)).map (beBytes 32)
/-- The header of a message (Table 10-5), with `pre` in its pre_colour bits, which the spec gives a meaning only in requests. -/
def urpHeader (s : State) (m : Msg) (pre : Nat) : List Nat :=
  beBytes 2 0x5552 ++ [1, bodyType m.body, m.tenant + 64 * pre, m.slot] ++ beBytes 2 (bodyBytes m.body).length ++
    beBytes 4 (ctr s.txSeq m.tenant) ++ beBytes 4 m.refSeq ++ beBytes 4 (f s REQ_INSTANCE_instance) ++ List.replicate 12 0
/-- Header, body and tag (R330, R342). -/
def urpBytes (s : State) (m : Msg) (pre : Nat) : List Nat :=
  let b := urpHeader s m pre ++ bodyBytes m.body
  b ++ (hmac256 ((keyBytes s m.tenant m.slot).getD []) b).take 16
/-- The report address of a tenant (Table 10-20): MAC, IP address, UDP port. -/
def reportAddr (s : State) (t : Nat) : List Nat × List Nat × List Nat :=
  let w (j : Nat) : Nat := f s (REQ_RPT_word t j)
  (beBytes 6 (w 5 % 2 ^ 16 * 2 ^ 32 + w 4),
   if fb s (REQ_T_CFG_rpt_v6 t) then (List.range 4).flatMap (fun j => beBytes 4 (w j)) else beBytes 4 (w 3), beBytes 2 (w 5 / 2 ^ 16))
/-- Where a message goes (R332, R333): MAC, IP address, UDP port. -/
def msgTo (s : State) (m : Msg) : List Nat × List Nat × List Nat :=
  match m.peer with
  | none => reportAddr s m.tenant
  | some (a, v6) =>
    let l := beBytes (if v6 then 24 else 12) a
    (l.take 6, (l.drop 6).take (if v6 then 16 else 4), l.drop (if v6 then 22 else 10))
/-- The Internet checksum of words that sum to `x` (RFC 1071). -/
def inetSum (x : Nat) : Nat := 65535 - (if x % 65535 = 0 then 65535 else x % 65535)
/-- A UDP datagram with its checksum over the pseudo-header. PRESUMED (log 86): it is always computed. -/
def udpBytes (src dst : List Nat) (sport : Nat) (dport pay : List Nat) : List Nat :=
  let n := 8 + pay.length
  let c := inetSum (sum16 src + sum16 dst + 17 + n + sport + sum16 dport + n + sum16 pay)
  beBytes 2 sport ++ dport ++ beBytes 2 n ++ beBytes 2 (if c = 0 then 65535 else c) ++ pay
/-- The IPv4 header before a payload of `n` bytes. -/
def ip4Header (tos id df ttl n : Nat) (src dst : List Nat) : List Nat :=
  let a := [0x45, tos] ++ beBytes 2 (20 + n) ++ beBytes 2 id ++ beBytes 2 (0x4000 * df) ++ [ttl, 17]
  a ++ beBytes 2 (inetSum (sum16 a + sum16 src + sum16 dst)) ++ src ++ dst
/-- The IPv6 header before a payload of `n` bytes. -/
def ip6Header (tos flow ttl n : Nat) (src dst : List Nat) : List Nat :=
  beBytes 4 (6 * 2 ^ 28 + tos * 2 ^ 20 + flow) ++ beBytes 2 n ++ [17, ttl] ++ src ++ dst
/-- A message's Ethernet frame from the destination MAC to before the FCS (R330, R332, R333, R356): from the port's addresses and
`udp_port`, tagged under `vlan_en` (R322). `r` carries what the spec leaves open: identification, do-not-fragment flag, ECN, flow
label, tag priority and pre_colour (log 86). -/
def msgFrame (s : State) (m : Msg) (r : Nat) : List Nat :=
  let p := m.port
  let (mac, ip, port) := msgTo s m
  let v6 := decide (ip.length = 16)
  let src := if v6 then beBytes 16 (portV6 s p) else beBytes 4 (f s (ETH_IPV4_addr p))
  let tos := f s (ETH_TX_CFG_dscp p) * 4 + r / 2 ^ 17 % 4
  let ttl := f s (ETH_TX_CFG_ttl p)
  let udp := udpBytes src ip (f s REQ_CTRL_udp_port) port (urpBytes s m (r / 2 ^ 43 % 4))
  let tag := if fb s (ETH_CTRL_vlan_en p) then beBytes 2 0x8100 ++ beBytes 2 (f s (ETH_CTRL_vid p) + 4096 * (r / 2 ^ 39 % 16)) else []
  mac ++ beBytes 6 (portMac s p) ++ tag ++
    (if v6 then beBytes 2 0x86DD ++ ip6Header tos (r / 2 ^ 19 % 2 ^ 20) ttl udp.length src ip
     else beBytes 2 0x0800 ++ ip4Header tos (r % 2 ^ 16) (r / 2 ^ 16 % 2) ttl udp.length src ip) ++ udp

/-! ### Sending -/

/-- A message of REQ leaves its port (R329, R334): numbered, tagged and counted; the buffer of a sheaf that it answers is freed
(R347). -/
def reqSend (m : Msg) (s : State) : State :=
  let (r, s1) := drawFree (2 ^ 45) s
  let s2 : State := { s1 with
    sent := s1.sent ++ [⟨m.port, msgFrame s m r⟩]
    txSeq := ctrPut s1.txSeq m.tenant ((ctr s1.txSeq m.tenant + 1) % 2 ^ 32)
    txRing := amSet (fun _ => false) s1.txRing m.port false }
  let s3 := inc (ETH_CNT_TX_FRAMES_count m.port) s2
  releaseHandle m.handle (if bodyType m.body = 5 then inc REQ_CNT_TELEM_count s3 else s3)
/-- Messages at the front of those waiting at a port whose slot no longer holds a key are not sent (R343). -/
def dropKeyless (p : Nat) : Nat → State → State
  | 0, s => s
  | n + 1, s =>
    match txWaiting s p with
    | m :: l =>
      if keyLoaded s m.tenant m.slot then s
      else dropKeyless p n (releaseHandle m.handle (unsent { s with txWait := amSet (fun _ => []) s.txWait p l }))
    | [] => s

end Sys2Proof.Machine
end

