-- ==== Sys2Proof/Machine/Ethernet.lean ====
section
/-! DEFINITION. The Ethernet ports: links (R324), the classes of received frames (R325, R326), the firmware rings (R327
to R329, R162 to R164), the checks of URP messages (R342 to R346), and transmission. -/
namespace Sys2Proof.Machine
open Sys2Proof.Config

/-! ### Links -/

/-- The domain of a port. -/
def portDom (p : Nat) : Nat := 22 + p
/-- A link comes up (R324). -/
def linkUp (p : Nat) (s : State) : State :=
  if domOn s (portDom p) && !fb s (ETH_STAT_link p) then
    setF (ETH_STAT_link_change p) 1 (setF (ETH_STAT_hi_ber p) 0 (setB (ETH_STAT_fec_lock p) (fb s (ETH_CTRL_fec_en p)) (setF (ETH_STAT_link p) 1 s)))
  else s
/-- R324. -/
def execLinkUp (dt p : Nat) (s : State) : Host.Outcome State Fault Refusal := run s dt (linkUp p)

/-- Entries of a ring (Table 10-21): the stored number, a power of two from 16 to 1,024. -/
def ringSize (s : State) (x : Fld) : Nat := max 1 (f s x)
/-- Bytes at a supervisor address as the DMA engine reads them (Table 13-1): in the scratchpad, in DRAM, in a window's SRAM; zeros
where it reaches nothing. A ring or a report in other registers of a window or of SEC is read as zeros and takes no write (DESIGN
CHOICE, log 81). -/
def busGet (s : State) (a n : Nat) : List Nat :=
  match targetOf s a with
  | .spm x => spmList s x n
  | .dram x => if domOn s 25 && !dieOff s (dieOf x) then dramList s x n else List.replicate n 0
  | .reg x => match sramAt x with
    | some p => if blockOn s x then memList s.sram p n else List.replicate n 0
    | none => List.replicate n 0
  | _ => List.replicate n 0
/-- What an access at a supervisor address counts (R39, R420, R423): nothing where it reaches its bytes. -/
def busNote (a : Nat) (s : State) : State :=
  match targetOf s a with
  | .spm x => if domOn s (spmDom x) then s else countUnassigned s
  | .dram x => if !domOn s 25 then countUnassigned s else if dieOff s (dieOf x) then hwErr s else s
  | .reg x => if (sramAt x).isSome && blockOn s x then s else countUnassigned s
  | _ => countUnassigned s
/-- Store bytes at a supervisor address as master DMA (R442: the free rings take none). -/
def busPut (a : Nat) (l : List Nat) (s : State) : State :=
  match targetOf s a with
  | .spm x => spmPut x l (busNote a s)
  | .dram x =>
    if !domOn s 25 || dieOff s (dieOf x) then busNote a s
    else if inFreeRing x then countUnassigned s else dramPut 5 x l s
  | .reg x => match sramAt x with
    | some p => if blockOn s x then { s with sram := memBytes s.sram p l } else busNote a s
    | none => busNote a s
  | _ => busNote a s

/-- Complete the transmit descriptor at the head and advance it (R329). -/
def txDone (p : Nat) (s : State) : State :=
  let h := f s (ETH_TXR_HEAD_head p)
  let a := f s (ETH_TXR_BASE_addr p) + 16 * h + 6
  let s1 := busPut a [(busGet s a 1).headD 0 ||| 8] s
  dmaCount (2 * p + 1) (setF (ETH_STAT_tx_event p) 1 (setF (ETH_TXR_HEAD_head p) ((h + 1) % ringSize s (ETH_TXR_CFG_entries p)) s1))
/-- Does the transmit ring hold a frame? -/
def txPosted (s : State) (p : Nat) : Bool := f s (ETH_TXR_HEAD_head p) != f s (ETH_TXR_TAIL_tail p)
/-- Every frame that waits on a port is discarded (R324): REQ's, and those of its ring, whose descriptors complete. -/
def txDiscard (p : Nat) : Nat → State → State
  | 0, s => forEach ((txWaiting s p).map (·.handle)) releaseHandle { s with txWait := amSet (fun _ => []) s.txWait p [] }
  | n + 1, s => txDiscard p n (if txPosted s p then txDone p s else s)
/-- A link goes down (R324, R167); `ber`: for a high bit-error rate. -/
def linkDown (p : Nat) (ber : Bool) (s : State) : State :=
  if fb s (ETH_STAT_link p) then
    let s1 := setF (ETH_STAT_link_change p) 1 (setF (ETH_STAT_link_lost p) 1 (setF (ETH_STAT_fec_lock p) 0
      (setB (ETH_STAT_hi_ber p) ber (setF (ETH_STAT_link p) 0 s))))
    raise (29 + p) 0 (tsqFlush p (txDiscard p 1024 s1))
  else s
/-- R324, R167. -/
def execLinkDown (dt p : Nat) (ber : Bool) (s : State) : Host.Outcome State Fault Refusal := run s dt (linkDown p ber)

/-! ### Frames -/

/-- A byte of a frame. -/
def byteAt (l : List Nat) (i : Nat) : Nat := l.getD i 0 % 256
/-- A big-endian number of a frame. -/
def beAt (l : List Nat) (i n : Nat) : Nat := ofBe ((List.range n).map (fun k => byteAt l (i + k)))
/-- Is an Ethertype that of a VLAN tag? -/
def isTag (t : Nat) : Bool := t == 0x8100 || t == 0x88A8
/-- Does a frame's tagging meet R322? -/
def vlanOk (s : State) (p : Nat) (l : List Nat) : Bool :=
  if fb s (ETH_CTRL_vlan_en p) then
    beAt l 12 2 == 0x8100 && beAt l 14 2 % 4096 == f s (ETH_CTRL_vid p) && !isTag (beAt l 16 2)
  else !isTag (beAt l 12 2)
/-- The broadcast address. -/
def macAll : Nat := 0xFFFFFFFFFFFF
/-- Does a port accept a destination MAC address other than broadcast (R326)? -/
def macOk (s : State) (p d : Nat) : Bool :=
  d == portMac s p ||
  [0x011B19000000, 0x0180C200000E, 0x01005E000181, 0x01005E00006B, 0x333300000181, 0x33330000006B, 0x333300000001].contains d ||
  d == 0x3333FF000000 + portV6 s p % 2 ^ 24
/-- Does a port accept an IPv4 destination? -/
def v4Ok (s : State) (p d : Nat) : Bool := d == f s (ETH_IPV4_addr p) || d == 0xE0000181 || d == 0xE000006B
/-- Does a port accept an IPv6 destination? -/
def v6Ok (s : State) (p d : Nat) : Bool :=
  d == portV6 s p || d == 0xFF0E * 2 ^ 112 + 0x181 || d == 0xFF02 * 2 ^ 112 + 0x6B || d == 0xFF02 * 2 ^ 112 + 1 ||
    d == 0xFF02 * 2 ^ 112 + 0x1FF000000 + portV6 s p % 2 ^ 24

/-- A received frame, taken apart. -/
structure RxFrame where
  data  : List Nat
  etype : Nat          -- Ethertype after a tag
  off   : Nat          -- first byte after the Ethertype
  deriving DecidableEq, Repr

/-- Take a frame apart. -/
def rxFrame (l : List Nat) : RxFrame :=
  let o := if isTag (beAt l 12 2) then 18 else 14
  ⟨l, beAt l (o - 2) 2, o⟩
/-- Is it IPv4? -/
def RxFrame.is4 (r : RxFrame) : Bool := r.etype == 0x0800
/-- Is it IPv6? -/
def RxFrame.is6 (r : RxFrame) : Bool := r.etype == 0x86DD
/-- Its destination IP address. -/
def RxFrame.dst (r : RxFrame) : Nat := if r.is4 then beAt r.data (r.off + 16) 4 else beAt r.data (r.off + 24) 16
/-- Bytes of its source IP address. -/
def RxFrame.srcBytes (r : RxFrame) : List Nat :=
  if r.is4 then (r.data.drop (r.off + 12)).take 4 else (r.data.drop (r.off + 8)).take 16
/-- Its IP protocol or next header. -/
def RxFrame.proto (r : RxFrame) : Nat := if r.is4 then byteAt r.data (r.off + 9) else byteAt r.data (r.off + 6)
/-- First byte of its IP payload. -/
def RxFrame.pay (r : RxFrame) : Nat := if r.is4 then r.off + 20 else r.off + 40
/-- Bytes of its IP payload. -/
def RxFrame.payLen (r : RxFrame) : Nat := if r.is4 then beAt r.data (r.off + 2) 2 - 20 else beAt r.data (r.off + 4) 2
/-- Is it a UDP datagram? -/
def RxFrame.udp (r : RxFrame) : Bool := (r.is4 || r.is6) && r.proto == 17
/-- Its UDP destination port. -/
def RxFrame.dport (r : RxFrame) : Nat := beAt r.data (r.pay + 2) 2
/-- Its UDP length. -/
def RxFrame.ulen (r : RxFrame) : Nat := beAt r.data (r.pay + 4) 2
/-- Does the UDP checksum verify over the pseudo-header and the datagram? -/
def RxFrame.udpSum (r : RxFrame) : Bool :=
  let addrs := if r.is4 then (r.data.drop (r.off + 12)).take 8 else (r.data.drop (r.off + 8)).take 32
  (sum16 addrs + 17 + r.ulen + sum16 ((r.data.drop r.pay).take r.ulen)) % 65535 == 0
/-- Does a UDP datagram fit its packet and pass its checksum (Table 10-1)? -/
def RxFrame.udpOk (r : RxFrame) : Bool :=
  decide (8 ≤ r.ulen) && decide (r.ulen ≤ r.payLen) &&
    (if beAt r.data (r.pay + 6) 2 = 0 then r.is4 else r.udpSum)
/-- Next headers that are extension headers. -/
def extHeaders : List Nat := [0, 43, 44, 50, 51, 60, 135, 139, 140]
/-- Does an IP frame keep the limits of Table 10-1 and pass its checksums? -/
def RxFrame.ipOk (r : RxFrame) : Bool :=
  (if r.is4 then
    byteAt r.data r.off == 0x45 && beAt r.data (r.off + 6) 2 % 0x4000 == 0 && decide (20 ≤ beAt r.data (r.off + 2) 2) &&
      decide (r.off + beAt r.data (r.off + 2) 2 ≤ r.data.length) && sum16 ((r.data.drop r.off).take 20) % 65535 == 0
  else
    byteAt r.data r.off / 16 == 6 && decide (r.off + 40 + r.payLen ≤ r.data.length) && !extHeaders.contains r.proto) &&
  (!r.udp || r.udpOk)

/-- The first row of Table 10-2 that matches a received frame. -/
def rxRow (s : State) (p : Nat) (l : List Nat) (fcsOk : Bool) : Nat :=
  let r := rxFrame l
  let d := beAt l 0 6
  let ip := r.is4 || r.is6
  let own := if r.is4 then r.dst == f s (ETH_IPV4_addr p) else r.dst == portV6 s p
  if !fcsOk || decide (l.length + 4 < 64) || decide (9216 < l.length + 4) then 1
  else if !vlanOk s p l then 2
  else if d == macAll then (if r.etype = 0x0806 then 9 else 12)
  else if !macOk s p d || (r.is4 && !v4Ok s p r.dst) || (r.is6 && !v6Ok s p r.dst) then 3
  else if r.etype = 0x8808 then 4
  else if ip && !r.ipOk then 5
  else if r.udp && own && r.dport == f s REQ_CTRL_udp_port then 6
  else if (r.etype == 0x88F7 && decide (byteAt l r.off % 16 < 4)) || (r.udp && r.dport == 319) then 7
  else if r.etype == 0x88F7 || (r.udp && r.dport == 320) then 8
  else if r.etype = 0x0806 then 9
  else if r.is4 && r.proto == 1 && own then 10
  else if r.is6 && r.proto == 58 then 11
  else 12

/-- A stamp of a frame on base `b` (R162, R163): within 3 ns of the base, 5 ns with RS-FEC (Table 5-3), `ps` added. -/
def frameStamp (p b : Nat) (ps : Int) (s : State) : Nat × State :=
  if tbEnabled s b then
    let bound := (if fb s (ETH_CTRL_fec_en p) then 5 else 3) * nsUnit
    let (e, s1) := drawFree (2 * bound + 1) s
    (((tbFine s1 b : Int) + e - bound + ps * nsUnit / 1000).toNat % tbWrap, s1)
  else (0, s)
/-- The bytes of a stamp in a receive descriptor (Table 10-3). -/
def stampBytes (v : Nat) : List Nat := leBytes 2 (tFrac v) ++ leBytes 4 (tNs v) ++ leBytes 6 (tSec v)
/-- The stamps of a received frame on every base. -/
def rxStamps (p : Nat) (s : State) : List Nat × State :=
  [0, 1, 2, 3].foldl (fun a b =>
    let (v, t) := frameStamp p b (-(fInt a.2 (TIME_ETH_RXLAT_rx_ps p))) a.2
    (a.1 ++ [v], t)) ([], s)

/-- Do the supervisors own the buffer a handle names (R328)? -/
def supOwns (s : State) (h : Nat) : Bool :=
  hValid h && domOn s 25 &&
    (let b := bufGet s (hPool h) (hIndex h)
     b.alloc && b.tag == hTag h && b.owner / 32 == 0)
/-- A frame of class 1 to 5 goes to the receive ring, or is dropped for it (R327, R328). -/
def rxRing (p cls : Nat) (l : List Nat) (s : State) : State :=
  let h := f s (ETH_RXR_HEAD_head p)
  let a := f s (ETH_RXR_BASE_addr p) + 64 * h
  let hd := ofBytes (busGet s a 4)
  if h = f s (ETH_RXR_TAIL_tail p) ∨ !pd24Up s then inc (ETH_CNT_RX_RING_count p) s
  else if !supOwns s hd then inc (ETH_CNT_RX_RING_count p) (busNote a s)
  else
    let size := poolSize (hPool hd)
    let (st, s1) := rxStamps p (busNote a s)
    let flags := 1 + 2 * (decide (size < l.length)).toNat + 4 * (isTag (beAt l 12 2)).toNat +
      16 * (([0, 1, 2, 3].filter (fun b => tbEnabled s b)).map (fun b => 2 ^ b)).sum
    let s2 := busPut (hAddr hd) (l.take size) s1
    let s3 := busPut (a + 4) (leBytes 2 l.length ++ [cls, flags] ++ st.flatMap stampBytes) s2
    dmaCount (2 * p) (inc (ETH_CNT_RX_FW_count p) (setF (ETH_STAT_rx_event p) 1
      (setF (ETH_RXR_HEAD_head p) ((h + 1) % ringSize s (ETH_RXR_CFG_entries p)) s3)))

/-! ### URP checks -/

/-- The operation that four bytes of a SHEAF_REQ encode (Table 10-8), none where R336 finds it malformed. -/
def opOf (a b c d : Nat) : Option SheafOp :=
  match a with
  | 1 => if d = 0 then some (.connect b c) else none
  | 2 => if b = 0 ∧ d = 0 then some (.release c) else none
  | 3 => if c = d then none else some (.move b c d)
  | _ => none
/-- The operations of a SHEAF_REQ body, as far as it reaches. -/
def bodyOps (l : List Nat) : List (Option SheafOp) :=
  let n := min (beAt l 0x10 2) ((l.length - 20) / 4)
  (List.range n).map (fun i => opOf (byteAt l (20 + 4 * i)) (byteAt l (21 + 4 * i)) (byteAt l (22 + 4 * i)) (byteAt l (23 + 4 * i)))
/-- Is a SHEAF_REQ malformed, and at which index (R336)? -/
def sheafBad (l : List Nat) : Option Nat :=
  match (bodyOps l).findIdx? (·.isNone) with
  | some i => some i
  | none =>
    if l.length ≠ 20 + 4 * beAt l 0x10 2 ∨ 256 < beAt l 0x10 2 ∨
      (byteAt l 0x12 % 2 = 1 ∧ 999999999 < beAt l 6 4) then some 0 else none
/-- Is a QUERY malformed (R338)? -/
def queryBad (l : List Nat) : Bool :=
  l.length != 4 || !(decide (1 ≤ byteAt l 0) && decide (byteAt l 0 ≤ 3)) ||
    (byteAt l 0 != 3 && decide (byteAt l 3 < byteAt l 2))
/-- Is a ROT_LOAD malformed (Table 10-12)? -/
def rotLoadBad (l : List Nat) : Bool :=
  l.length != (if byteAt l 1 = 6 then 516 else 4) || decide (15 < byteAt l 0) || byteAt l 1 == 0 || decide (6 < byteAt l 1)
/-- Check 5 of Table 10-14: the index a malformed body is answered with. -/
def bodyBad (type : Nat) (l : List Nat) : Option Nat :=
  match type with
  | 1 => sheafBad l
  | 3 => if queryBad l then some 0 else none
  | 6 => if rotLoadBad l then some 0 else none
  | _ => if l.isEmpty then none else some 0

/-- A tenant's replay window after a seq, none where the seq fails (R345). -/
def replayNext (w : Option (Nat × Nat)) (seq : Nat) : Option (Nat × Nat) :=
  match w with
  | none => some (seq, 1)
  | some (h, m) =>
    let d := (seq + 2 ^ 32 - h) % 2 ^ 32
    let back := (h + 2 ^ 32 - seq) % 2 ^ 32
    if 0 < d ∧ d < 2 ^ 31 then some (seq, if d < 64 then (m * 2 ^ d + 1) % 2 ^ 64 else 1)
    else if back < 64 ∧ m.testBit back = false then some (h, m + 2 ^ back)
    else none

/-- A tag failure (R346). -/
def tagFailed (s : State) : State :=
  let sec := tSec (tbNow s 0)
  let s1 := if s.tagSec = sec then s else { s with tagSec := sec, tagFails := 0, tagBurst := false }
  let s2 := inc REQ_CNT_TAG_count { s1 with tagFails := s1.tagFails + 1 }
  if f s REQ_AUTH_CFG_auth_rate ≠ 0 ∧ f s REQ_AUTH_CFG_auth_rate ≤ s2.tagFails ∧ s2.tagBurst = false then
    setF REQ_INT_STAT_auth_burst 1 (raise 31 0 { s2 with tagBurst := true })
  else s2

/-- Answer a message (R332, R342). -/
def answer (u : Urp) (b : MsgBody) : State → State :=
  deliver { port := u.port, tenant := u.tenant, slot := u.slot, peer := some (u.peer, u.v6), refSeq := u.seq, body := b }
/-- Answer a message with a reason before it is processed; a HEARTBEAT gets no answer (R341). -/
def urpAnswer (u : Urp) (reason index : Nat) (s : State) : State :=
  let out (b : MsgBody) : State := answer u b s
  match u.type with
  | 1 => out (.sheafRsp reason index 0 1 false false false false [] [] 0 0)
  | 3 => out (.queryRsp reason 0 1 (byteAt u.body 0) (f s CMT_LAST_SEQ_seq) [])
  | 6 => out (.rotRsp reason (byteAt u.body 0) 0 0 0 false)
  | _ => s
/-- Checks 3 to 5 of Table 10-14 on a message whose tag verified; one that passes goes to the request engine. -/
def urpAccept (u : Urp) (inst : Nat) (s : State) : State :=
  let auth : State := urpAnswer u 0x01 0 (inc (REQ_T_CNT_count u.tenant 7) (inc REQ_CNT_AUTH_count s))
  let mine := f s REQ_INSTANCE_instance
  if u.type ≠ 8 ∧ (inst ≠ mine ∨ mine = 0) then auth
  else match replayNext (amGet (fun _ => none) s.replay u.tenant) u.seq with
    | none => auth
    | some w =>
      let s1 := { s with replay := amSet (fun _ => none) s.replay u.tenant (some w) }
      match bodyBad u.type u.body with
      | some i => urpAnswer u 0x0C i (inc REQ_CNT_MALFORMED_count s1)
      | none => { s1 with urpIn := s1.urpIn ++ [u] }
/-- A URP datagram's payload `l` from `peer` (R344). -/
def urpReceive (p peer : Nat) (v6 : Bool) (l : List Nat) (s : State) : State :=
  let type := byteAt l 3
  let n := beAt l 6 2
  if beAt l 0 2 ≠ 0x5552 ∨ byteAt l 2 ≠ 1 ∨ [1, 3, 6, 8].contains type = false ∨ l.length ≠ 48 + n then inc REQ_CNT_HDR_count s
  else
    let tenant := byteAt l 4 % 64
    let slot := byteAt l 5 % 2
    let good := match keyBytes s tenant slot with
      | some k => (hmac256 k (l.take (32 + n))).take 16 == l.drop (32 + n)
      | none => false
    if good then
      urpAccept { port := p, peer := peer, v6 := v6, type := type, tenant := tenant, pre := byteAt l 4 / 64, slot := slot,
                  seq := beAt l 8 4, body := (l.drop 32).take n, arrival := s.clk.now
                  times := [tbNow s 0, tbNow s 1, tbNow s 2, tbNow s 3] } (beAt l 0x10 4) s
    else tagFailed s

/-- A frame arrives at a port: its bytes from the destination MAC to before the FCS, and whether the FCS is right. -/
def frameReceive (p : Nat) (l : List Nat) (fcsOk : Bool) (s : State) : State :=
  if !(domOn s (portDom p) && fb s (ETH_CTRL_enable p) && fb s (ETH_STAT_link p)) then s
  else
    let s1 := inc (ETH_CNT_RX_FRAMES_count p) s
    let r := rxFrame l
    match rxRow s p l fcsOk with
    | 1 => inc (ETH_CNT_RX_ERR_count p) s1
    | 2 => inc (ETH_CNT_RX_ADDR_count p) s1
    | 3 => inc (ETH_CNT_RX_ADDR_count p) s1
    | 4 => inc (ETH_CNT_RX_PAUSE_count p) s1
    | 5 => inc (ETH_CNT_RX_IP_count p) s1
    | 6 =>
      if fb s (ETH_CTRL_urp_en p) && fb s REQ_CTRL_urp_en && domOn s 21 then
        urpReceive p (ofBe ((l.drop 6).take 6 ++ r.srcBytes ++ (l.drop r.pay).take 2)) r.is6
          ((l.drop (r.pay + 8)).take (r.ulen - 8)) (inc (ETH_CNT_RX_URP_count p) s1)
      else inc (ETH_CNT_RX_DROP_count p) s1
    | 12 => inc (ETH_CNT_RX_DROP_count p) s1
    | k => rxRing p (k - 6) l s1
/-- R325 to R328, R344. -/
def execFrameReceive (dt p : Nat) (l : List Nat) (fcsOk : Bool) (s : State) : Host.Outcome State Fault Refusal :=
  run s dt (frameReceive p l fcsOk)

/-! ### Transmission -/

/-- The frame at the transmit ring's head is sent, or refused for its length (R329, R164). A timestamp request that names a
disabled base gets none (R150). -/
def txRingFrame (p : Nat) (s0 : State) : State :=
  let a := f s0 (ETH_TXR_BASE_addr p) + 16 * f s0 (ETH_TXR_HEAD_head p)
  let s := busNote a s0
  let d := busGet s a 16
  let len := ofBytes ((d.drop 4).take 2)
  if len < 60 ∨ 9212 < len then txDone p (inc (ETH_CNT_TX_ERR_count p) s)
  else
    let s1 := inc (ETH_CNT_TX_FRAMES_count p) { s with
      sent := s.sent ++ [⟨p, dramList s (hAddr (ofBytes (d.take 4))) len⟩], txRing := amSet (fun _ => false) s.txRing p true }
    let b := byteAt d 6 / 2 % 4
    let s2 := if byteAt d 6 % 2 = 1 ∧ tbEnabled s1 b = true then
        let (v, t) := frameStamp p b (fInt s1 (TIME_ETH_TXLAT_tx_ps p)) s1
        tsqPush p { id := ofBytes ((d.drop 8).take 2), tb := b, val := v } t
      else s1
    txDone p s2
/-- A port sends its next frame, in alternation from its ring and from REQ (R329). -/
def frameTransmit (p : Nat) (s0 : State) : State :=
  if domOn s0 (portDom p) && fb s0 (ETH_CTRL_enable p) && fb s0 (ETH_STAT_link p) then
    let s := dropKeyless p (txWaiting s0 p).length s0
    match txWaiting s p with
    | m :: t =>
      if txPosted s p && pd24Up s && !amGet (fun _ => false) s.txRing p then txRingFrame p s
      else reqSend m { s with txWait := amSet (fun _ => []) s.txWait p t }
    | [] => if txPosted s p && pd24Up s then txRingFrame p s else s
  else s0
/-- R329, R164. -/
def execFrameTransmit (dt p : Nat) (s : State) : Host.Outcome State Fault Refusal := run s dt (frameTransmit p)

end Sys2Proof.Machine
end

