-- ==== Sys2Proof/Machine/Request.lean ====
section
/-! DEFINITION. The request engine: admission, metering and queueing of sheaves (R347 to R351), QUERY (R338), HEARTBEAT
(R341), TELEM (R339), ROT_LOAD (R340), keys and the instance (R343, R345), weights (R350), and queue samples (R353). -/
namespace Sys2Proof.Machine
open Sys2Proof.Config

/-! ### Meters -/

/-- A refill of `rate` operations per second over `dt` units of 100 ps, in CK_BUS cycles of 2 ns, 2^-16 operation. -/
def refill (rate dt : Nat) : Nat := rate * (dt / 20) * 65536 / 500000000
/-- The buckets are full as the field plan's application sets them (R349). -/
def fillBuckets (s : State) : State :=
  forEach (List.range 64) (fun t u => { u with
    tokC := ctrPut u.tokC t (f s (REQ_T_BURST_cbs t) * 65536), tokP := ctrPut u.tokP t (f s (REQ_T_BURST_pbs t) * 65536)
    tokAt := ctrPut u.tokAt t s.clk.now }) s
/-- The colours of a meter. -/
inductive Colour where
  | green | yellow | red
  deriving DecidableEq, Repr
/-- Colour a sheaf of cost `b` with pre-colour `pre` (R349): the colour and the buckets after it. -/
def meterStep (single aware : Bool) (tc tp b pre : Nat) : Colour × Nat × Nat :=
  let isRed := aware && pre == 2
  let isYel := aware && pre == 1
  if !single then
    if isRed || decide (tp < b) then (.red, tc, tp)
    else if isYel || decide (tc < b) then (.yellow, tc, tp - b)
    else (.green, tc - b, tp - b)
  else if isRed then (.red, tc, tp)
  else if !isYel && decide (b ≤ tc) then (.green, tc - b, tp)
  else if b ≤ tp then (.yellow, tc, tp - b)
  else (.red, tc, tp)
/-- A tenant's buckets refilled to now: Tc, and Tp or Te (RFC 2698, RFC 2697). -/
def buckets (s : State) (t : Nat) : Nat × Nat :=
  let cbs := f s (REQ_T_BURST_cbs t) * 65536
  let pbs := f s (REQ_T_BURST_pbs t) * 65536
  -- the cycle counter of CK_BUS: edges since the last update
  let dt := (s.clk.now / 20 - ctr s.tokAt t / 20) * 20
  let c := ctr s.tokC t
  let p := ctr s.tokP t
  let add := refill (f s (REQ_T_CIR_cir t)) dt
  if fb s (REQ_T_MCFG_single_rate t) then
    (min cbs (c + add), min pbs (p + (c + add - cbs)))
  else (min cbs (c + add), min pbs (p + refill (f s (REQ_T_PIR_pir t)) dt))
/-- Meter a sheaf of `n` operations of a tenant (R349). -/
def meter (t n pre : Nat) (s : State) : Colour × State :=
  let (c, p) := buckets s t
  let (col, c', p') := meterStep (fb s (REQ_T_MCFG_single_rate t)) (fb s (REQ_T_MCFG_colour_aware t)) c p (max 1 n * 65536) pre
  let s1 := { s with
    tokC := ctrPut s.tokC t c', tokP := ctrPut s.tokP t p'
    tokAt := ctrPut s.tokAt t s.clk.now }
  (col, inc (REQ_T_CNT_count t (match col with | .green => 1 | .yellow => 2 | .red => 3)) s1)

/-! ### Admission and queueing -/

/-- Ports that an operation names: inputs and outputs. -/
def opNames : SheafOp → List Nat × List Nat
  | .connect i o => ([i], [o])
  | .release o => ([], [o])
  | .move i a b => ([i], [a, b])
/-- Does a port lie in the population mode and variant (R4, R70)? -/
def portIn (s : State) (p : Nat) : Bool := modePort s.popMode p && (!fb s ID_PART_variant || decide (p < 128))
/-- The refusal of admission, 0 none (Table 10-15). -/
def admitReason (s : State) (t : Nat) (ops : List SheafOp) : Nat :=
  let ins := ops.flatMap (fun o => (opNames o).1)
  let outs := ops.flatMap (fun o => (opNames o).2)
  if inSafe s then 0x0B
  else if !(ins ++ outs).all (portIn s) then 0x0D
  else if !(ins.all (ownsIn s t) && outs.all (ownsOut s t)) then 0x03
  else 0
/-- The sheaf of an accepted message (Table 10-7). -/
def sheafOf (u : Urp) (uid : Nat) : Sheaf :=
  let flags := byteAt u.body 0x12
  let tb := flags / 16 % 4
  { uid := uid, tenant := u.tenant, port := u.port, peer := u.peer, seq := u.seq, slot := u.slot
    ops := (bodyOps u.body).filterMap id
    at_ := if flags % 2 = 1 then some { tb := tb, inst := beAt u.body 0 6 * secUnit + beAt u.body 6 4 * nsUnit + beAt u.body 10 2 * 2 ^ 24 } else none
    allowMove := flags / 2 % 2 == 1, fence := flags / 4 % 2 == 1, strict := flags / 8 % 2 == 1
    maxDefer := beAt u.body 0x0C 4, arrival := u.arrival, v6 := u.v6, arrTb := u.times.getD tb 0 }

/-- Number of yellow sheaves in a queue. -/
def yellows (q : List Sheaf) : Nat := (q.filter (fun x => !x.green)).length
/-- The most recently arrived yellow sheaf of a queue. -/
def lastYellow (q : List Sheaf) : Option Sheaf := q.reverse.find? (fun x => !x.green)
/-- Discard the most recently arrived yellow sheaf of a tenant's queue (R351). -/
def dropYellow (t : Nat) (s : State) : State :=
  match lastYellow (queueOf s t) with
  | some y =>
    refuseSheaf 0x08 0 false y (inc (REQ_T_CNT_count t 4) (queueSet t ((queueOf s t).filter (fun x => x.uid != y.uid)) s))
  | none => s
/-- While the queue holds more than `y_thresh` sheaves and a yellow one, the last yellow one is discarded (R351). -/
def trimYellow (t : Nat) : Nat → State → State
  | 0, s => s
  | n + 1, s =>
    if f s (REQ_T_MCFG_y_thresh t) < (queueOf s t).length ∧ 0 < yellows (queueOf s t) then trimYellow t n (dropYellow t s) else s
/-- A sheaf enters its queue. -/
def enterQueue (sh : Sheaf) (s : State) : State :=
  let t := sh.tenant
  let s1 := inc (REQ_T_CNT_count t 0) (queueSet t (queueOf s t ++ [{ sh with headAt := s.clk.now }]) s)
  trimYellow t (queueOf s1 t).length s1
/-- The queueing stage (R350, R351). -/
def queueStage (sh : Sheaf) (s : State) : State :=
  let t := sh.tenant
  if f s (REQ_T_CFG_weight t) = 0 then refuseSheaf 0x08 0 false sh s
  else if (queueOf s t).length < max 1 (f s (REQ_T_CFG_q_depth t)) then enterQueue sh s
  else if sh.green && decide (0 < yellows (queueOf s t)) then enterQueue sh (dropYellow t s)
  else refuseSheaf 0x08 0 false sh s
/-- Buffer, then queue (Table 10-15, stages 5 and 6). -/
def bufferStage (sh : Sheaf) (s : State) : State :=
  match bpmAlloc (reqId 2 0) (32 + 4 * sh.ops.length) s with
  | (h, 0, s1) => queueStage { sh with handle := some h } s1
  | (_, _, s1) => refuseSheaf 0x09 0 false sh (inc (REQ_T_CNT_count sh.tenant 6) s1)
/-- The stages of a SHEAF_REQ before the solver (R347). -/
def sheafReq (u : Urp) (s : State) : State :=
  let sh := sheafOf u s.uidNext
  let s1 := { s with uidNext := s.uidNext + 1 }
  let r := admitReason s u.tenant sh.ops
  if r ≠ 0 then refuseSheaf r 0 false sh s1
  else
    let (col, s2) := meter u.tenant sh.ops.length u.pre s1
    match col with
    | .red => refuseSheaf 0x02 0 false sh s2
    | .green => bufferStage { sh with green := true } s2
    | .yellow => bufferStage { sh with green := false } s2

/-- The request engine takes the message at the front when `take` finds it its own (R347). -/
def takeUrp (mine : Urp → Bool) (g : Urp → State → State) (s : State) : State :=
  match s.urpIn with
  | u :: l => if mine u && domOn s 21 then g u { s with urpIn := l } else s
  | [] => s
/-- R347 to R351, R4, R70, R80. -/
def execSheafReq (dt : Nat) (s : State) : Host.Outcome State Fault Refusal :=
  run s dt (takeUrp (fun u => u.type == 1) sheafReq)

/-! ### QUERY -/

/-- Record of an output for a tenant (Table 10-10, kind 1). -/
def outRecord (s : State) (t o : Nat) : List Nat :=
  if ownsOut s t o then
    match onOut s.present o with
    | some c => [o, 3 + 4 * outState s o + 16 * c.byRot.toNat, c.inp, c.mid, c.holder, 0, 0, 0]
    | none => [o, 1 + 4 * outState s o, 0, 0, 0, 0, 0, 0]
  else [o, 0, 0, 0, 0, 0, 0, 0]
/-- Record of an input (kind 2). -/
def inRecord (s : State) (t i : Nat) : List Nat :=
  if ownsIn s t i then
    let b := 1 + 2 * (s.lit.getLsbD i).toNat + 4 * (s.overIn.getLsbD i).toNat
    match onIn s.present i with
    | some c => [i, b + 8, c.out, 0, 0, 0, 0, 0]
    | none => [i, b, 0, 0, 0, 0, 0, 0]
  else [i, 0, 0, 0, 0, 0, 0, 0]
/-- The delay of a tenant's head sheaf, 100 ps (R353). -/
def holDelay (s : State) (t : Nat) : Nat := match queueOf s t with | h :: _ => s.clk.now - h.headAt | [] => 0
/-- A tenant's stored tokens, in operations. -/
def wholeTokens (s : State) (t : Nat) : Nat × Nat :=
  (ctr s.tokC t / 65536, ctr s.tokP t / 65536)
/-- Record of a tenant (kind 3). -/
def tenantRecord (s : State) (t : Nat) : List Nat :=
  let (c, p) := wholeTokens s t
  beBytes 2 (queueOf s t).length ++ beBytes 2 c ++ beBytes 2 p ++ beBytes 2 (min 65535 (holDelay s t / 10000))
/-- The records a QUERY asks for. -/
def queryRecords (s : State) (t : Nat) (l : List Nat) : List (List Nat) :=
  let first := byteAt l 2
  let ports := (List.range (byteAt l 3 + 1 - first)).map (fun i => first + i)
  match byteAt l 0 with
  | 1 => ports.map (outRecord s t)
  | 2 => ports.map (inRecord s t)
  | _ => [tenantRecord s t]
/-- A QUERY is answered (R338, R335); a tenant's ninth and later one of a sampling interval is refused. -/
def queryReq (u : Urp) (s : State) : State :=
  let n := ctr s.queryCnt u.tenant + 1
  let s1 := { s with queryCnt := ctrPut s.queryCnt u.tenant n }
  let out (r part parts : Nat) (recs : List (List Nat)) : State → State :=
    answer u (.queryRsp r part parts (byteAt u.body 0) (f s CMT_LAST_SEQ_seq) recs)
  if 8 < n then out 0x08 0 1 [] s1
  else
    let recs := queryRecords s u.tenant u.body
    let per := recsPerPart s u.v6 8 8
    let parts := partsOf recs.length per
    forEach (List.range parts) (fun k => out 0 k parts ((recs.drop (k * per)).take per)) s1
/-- R338: the state is read between two commits; while one is in progress the QUERY waits. -/
def execQuery (dt : Nat) (s : State) : Host.Outcome State Fault Refusal :=
  run s dt (fun t => if t.commit.isNone then takeUrp (fun u => u.type == 3) queryReq t else t)

/-! ### HEARTBEAT and TELEM -/

/-- State number of a time base (Table 5-1). -/
def tbStNum : TbState → Nat
  | .free => 0 | .acquire => 1 | .locked => 2 | .holdover => 3
/-- The module's HEARTBEAT for a tenant (Table 10-13). -/
def heartbeatBody (s : State) (t : Nat) : MsgBody :=
  let st (b : Nat) : Nat := if tbEnabled s b then tbStNum (tbGet s.clk b).st else 0
  .heartbeat (if inSafe s then (if fb s FLT_STAT_dark_active then 2 else 1) else 0) (f s GOV_STEP_step)
    (st 1 + 4 * st 2 + 16 * st 3) (f s ROT_STAT_table + 16 * f s ROT_STAT_state) (tbNow s 0) (f s CMT_LAST_SEQ_seq)
    (queueOf s t).length
/-- A tenant's HEARTBEAT is answered (R341, R332). -/
def heartbeatReq (u : Urp) (s : State) : State :=
  answer u (heartbeatBody s u.tenant) s
/-- R341. -/
def execHeartbeat (dt : Nat) (s : State) : Host.Outcome State Fault Refusal :=
  run s dt (takeUrp (fun u => u.type == 8) heartbeatReq)
/-- Has a tenant a report address (REQ_RPT)? -/
def hasReport (s : State) (t : Nat) : Bool := [0, 1, 2, 3].any (fun j => f s (REQ_RPT_word t j) != 0)
/-- The periodic HEARTBEAT, `hb_period_ms` after the last one (R341). -/
def heartbeatAll (s : State) : State :=
  if domOn s 21 then
    let s1 := elapseTo s (s.hbAt + max 1 (f s REQ_CFG_hb_period_ms) * ms)
    forEach ((List.range 64).filter (hasReport s1)) (fun t u => notify t (heartbeatBody u t) u) { s1 with hbAt := s1.clk.now }
  else s
/-- R341, R333. -/
def execHeartbeatPeriodic (dt : Nat) (s : State) : Host.Outcome State Fault Refusal := run s dt heartbeatAll
/-- A tenant's waiting records leave in a TELEM: at once with 64 waiting, else `telem_hold` after the oldest (R339). -/
def telemSend (t : Nat) (s : State) : State :=
  match telemOf s t with
  | [] => s
  | r :: _ =>
    if domOn s 21 then
      let hold := f s REQ_CFG_telem_hold
      let n := if hold = 0 then 1 else 64
      let s1 := if 64 ≤ (telemOf s t).length then s else elapseTo s (r.at_ + hold * (10 * us))
      let q := telemOf s1 t
      let s2 := { s1 with
        telemQ := amSet (fun _ => []) s1.telemQ t (q.drop n)
        telemSeq := ctrPut s1.telemSeq t ((ctr s1.telemSeq t + 1) % 2 ^ 32), telemLost := ctrPut s1.telemLost t 0 }
      notify t (.telem (ctr s1.telemSeq t) (ctr s1.telemLost t) (q.take n)) s2
    else s
/-- R339, R333. -/
def execTelemSend (dt t : Nat) (s : State) : Host.Outcome State Fault Refusal := run s dt (telemSend t)

/-! ### ROT_LOAD -/

/-- Answer a ROT_LOAD (Table 10-12). -/
def rotAnswer (u : Urp) (r : RotRes) (start : Nat) (late : Bool) : State → State :=
  answer u (.rotRsp r.code (byteAt u.body 0) r.slot r.map start late)
/-- May the tenant of a ROT_LOAD act on bank `b` of its table (R340)? -/
def rotMine (s : State) (u : Urp) (b : Nat) : Bool :=
  fb s (REQ_T_CFG_rot_ctl u.tenant) && loaderOf s (byteAt u.body 0) b == some u.tenant
/-- Run an op of the ROT block for a tenant that wrote bank `b`, with answer `r` (R340). -/
def rotAct (b : Nat) (r : State → Nat → RotRes) (op : Nat) (u : Urp) (s : State) : State :=
  let t := byteAt u.body 0
  if rotMine s u b then
    let res := r s t
    let st := if op = 2 ∧ res.code = 0 then startInst s t else none
    rotAnswer u res ((st.map (·.1)).getD 0) ((st.map (·.2)).getD false) (rotRun t op s)
  else rotAnswer u { code := 0x03 } 0 false s
/-- Op 1 of a ROT_LOAD. -/
def rotLoadArm : Urp → State → State := rotAct 1 (fun s t => armCheck s t (loaderOf s t 1)) 1
/-- Op 2. -/
def rotLoadStart : Urp → State → State := rotAct 0 (fun s t => { code := startCode s t }) 2
/-- Op 3 with hold, 4 dark. -/
def rotLoadStop (dark : Bool) : Urp → State → State := rotAct 0 (fun s t => { code := stopCode s t }) (if dark then 4 else 3)
/-- Op 5. -/
def rotLoadDiscard : Urp → State → State := rotAct 1 (fun s t => { code := discardCode s t }) 5
/-- Write a bank image into a table's pending bank, for a tenant (Table 5-4). -/
def writeBank (t : Nat) (who : Option Nat) (img : List Nat) (s : State) : State :=
  { forEach (List.range 128) (fun i => putRw (0x71200 + 0x400 * t + 4 * i) (ofBytes ((img.drop (4 * i)).take 4))) s with
    rotLoader := amSet (fun _ => none) s.rotLoader (2 * t + 1) who }
/-- Op 6: write the pending bank and arm it (R340). -/
def rotLoadWrite (u : Urp) (s : State) : State :=
  let t := byteAt u.body 0
  if !fb s (REQ_T_CFG_rot_ctl u.tenant) then rotAnswer u { code := 0x03 } 0 false s
  else if armedOf s t || markedOf s t then rotAnswer u { code := 0x04 } 0 false s
  else
    let s1 := writeBank t (some u.tenant) (u.body.drop 4) s
    rotAnswer u (armCheck s1 t (some u.tenant)) 0 false (rotRun t 1 s1)
/-- Is a message a ROT_LOAD with an op? -/
def isRotLoad (op : Nat) (u : Urp) : Bool := u.type == 6 && byteAt u.body 1 == op
/-- R340, R171. -/
def execRotLoadArm (dt : Nat) (s : State) : Host.Outcome State Fault Refusal := run s dt (takeUrp (isRotLoad 1) rotLoadArm)
/-- R340, R175. -/
def execRotLoadStart (dt : Nat) (s : State) : Host.Outcome State Fault Refusal := run s dt (takeUrp (isRotLoad 2) rotLoadStart)
/-- R340, R186. -/
def execRotLoadStopHold (dt : Nat) (s : State) : Host.Outcome State Fault Refusal :=
  run s dt (takeUrp (isRotLoad 3) (rotLoadStop false))
/-- R340, R186. -/
def execRotLoadStopDark (dt : Nat) (s : State) : Host.Outcome State Fault Refusal :=
  run s dt (takeUrp (isRotLoad 4) (rotLoadStop true))
/-- R340, R182. -/
def execRotLoadDiscard (dt : Nat) (s : State) : Host.Outcome State Fault Refusal := run s dt (takeUrp (isRotLoad 5) rotLoadDiscard)
/-- R340, R171. -/
def execRotLoadWriteArm (dt : Nat) (s : State) : Host.Outcome State Fault Refusal := run s dt (takeUrp (isRotLoad 6) rotLoadWrite)

/-! ### Keys, the instance, weights -/

/-- A write of REQ_KEY_CMD (R343, Table 10-19). -/
def keyCmd (v : Nat) (s : State) : State :=
  let k := 2 * (v % 64) + v / 64 % 2
  let s1 := setF REQ_KEY_CMD_op (v / 128) (setF REQ_KEY_CMD_slot (v / 64) (setF REQ_KEY_CMD_tenant v s))
  if v / 2 ^ 31 % 2 = 0 then s1
  else match v / 128 % 4 with
    | 1 =>
      let key := ofBe ((List.range 8).flatMap (fun i => beBytes 4 (f s (REQ_KEY_DATA_key i))))
      setF REQ_INT_STAT_key_done 1 (forEach (List.range 8) (fun i => setF (REQ_KEY_DATA_key i) 0)
        { s1 with keys := amSet (fun _ => none) s1.keys k (some key) })
    | 2 => setF REQ_INT_STAT_key_done 1 { s1 with keys := amSet (fun _ => none) s1.keys k none }
    | _ => s1
/-- R343. -/
def execKeyLoad (dt m t slot : Nat) (s : State) : Host.Outcome State Fault Refusal :=
  run s dt (regCmd m REQ_KEY_CMD_op.off (keyCmd (t % 64 + 64 * (slot % 2) + 128 + 2 ^ 31)))
/-- R343. -/
def execKeyErase (dt m t slot : Nat) (s : State) : Host.Outcome State Fault Refusal :=
  run s dt (regCmd m REQ_KEY_CMD_op.off (keyCmd (t % 64 + 64 * (slot % 2) + 256 + 2 ^ 31)))
/-- A write of REQ_INSTANCE empties every replay window (R345). -/
def instanceWrite (v : Nat) (s : State) : State := { setF REQ_INSTANCE_instance v s with replay := [] }
/-- R345. -/
def execInstanceWrite (dt m v : Nat) (s : State) : Host.Outcome State Fault Refusal :=
  run s dt (regCmd m REQ_INSTANCE_instance.off (instanceWrite v))
/-- A write of REQ_T_CFG: a q_depth of 0 is set to 1, of more than 256 to 256; a weight of 0 refuses the tenant's queued
sheaves with QUEUE_FULL, in queue order (R350). -/
def tCfgWrite (t v : Nat) (s : State) : State :=
  let s1 := setF (REQ_T_CFG_q_depth t) (clampN 1 256 (v / 65536 % 512)) (putRw (REQ_T_CFG_weight t).off v s)
  if v % 256 = 0 then
    forEach (queueOf s1 t) (fun sh u => refuseSheaf 0x08 0 false sh u) (queuePut t [] s1)
  else s1
/-- R350: the weight alone is written as 0. -/
def execTenantWeightZero (dt m t : Nat) (s : State) : Host.Outcome State Fault Refusal :=
  run s dt (regCmd m (REQ_T_CFG_weight t).off (fun u => tCfgWrite t ((rd u (REQ_T_CFG_weight t).off).toNat / 256 * 256) u))

/-! ### Samples -/

/-- The histogram bin of a delay in 100 ps (R353). -/
def histBin (d : Nat) : Nat := if d < 10000 then 0 else min 15 (Nat.log2 (d / 10000) + 1)
/-- Sample one tenant's queue as sample `k` (R353, Table 10-17). -/
def sampleTenant (k t : Nat) (s : State) : State :=
  let d := holDelay s t
  let fw := match queueOf s t with | h :: _ => fenceWait s h | [] => false
  let hol := min 0xFFFFFF (d / 1000)
  let e := k % 64
  incSat (REQ_HIST_count t (histBin d))
    (setF (REQ_RING_word t (2 * e + 1)) (hol / 65536 + 256 * (k % 2 ^ 24))
      (setF (REQ_RING_word t (2 * e)) ((queueOf s t).length + 512 * fw.toNat + 65536 * hol) s))
/-- Take sample `k` of every queue (R353). -/
def takeSample (k : Nat) (s : State) : State :=
  let base := s.planAt.getD 0
  let s1 := setF REQ_SAMPLE_BASE_SH_sec_high (tSec base / 2 ^ 32) (setF REQ_SAMPLE_BASE_SL_sec_low (tSec base)
    (setF REQ_SAMPLE_BASE_NS_ns (tNs base) (setF REQ_SAMPLE_NUM_k k s)))
  forEach (List.range 64) (sampleTenant k) { s1 with queryCnt := [] }
/-- The next sample: the first after the last one whose time on TB0 has not passed (R353). -/
def queueSample (s : State) : State :=
  match s.planAt with
  | some b =>
    if domOn s 21 then
      let per := 100000 * nsUnit
      let k := max (f s REQ_SAMPLE_NUM_k + 1) ((tbNow s 0 - b + (per - 1)) / per)
      takeSample k (elapseTo s (tb0Instant s (b + per * k)))
    else s
  | none => s
/-- R353. -/
def execQueueSample (dt : Nat) (s : State) : Host.Outcome State Fault Refusal := run s dt queueSample
/-- Writing 1 to `hist_clr` clears every histogram bin (R353). -/
def histClear (s : State) : State := { s with regs := amClear 0x52000 0x53000 s.regs }
/-- R353. -/
def execHistClear (dt m : Nat) (s : State) : Host.Outcome State Fault Refusal :=
  run s dt (regCmd m REQ_STAT_hist_clr.off histClear)

end Sys2Proof.Machine
end

