-- ==== Sys2Proof/Machine/RegRead.lean ====
section
/-! DEFINITION. What a register read returns: the stored value with WO fields as 0 and the fields that show other state
(the registers' tables), the side effects of reads (R166, R426, R449, R511, R542), and reads of the windows' SRAM. -/
namespace Sys2Proof.Machine
open Sys2Proof.Config

/-! ### Where a register stands -/

/-- Where a master's own copy of a BPM register is stored (R457). -/
def ownOff (m off : Nat) : Nat :=
  if off = 0xA0040 ∨ off = 0xA0044 ∨ (0xA1000 ≤ off ∧ off < 0xA1400) then off + 0x8000000 * (m + 1) else off
/-- Is a BAR0 offset one word of a trace buffer (R230)? -/
def inTrace (off : Nat) : Bool :=
  match offWin off with
  | some w =>
    let o := off - winBase w
    let b := if w < 16 then 0x40000 else 0x50000
    (decide (b ≤ o) && decide (o < b + 0x8000)) || (decide (b + 0x10000 ≤ o) && decide (o < b + 0x18000))
  | none => false
/-- Is a BAR0 offset assigned (R39)? -/
def assigned (off : Nat) : Bool := (sramAt off).isSome || inTrace off || (rowFor (off / 4 * 4)).isSome

/-! ### Views -/

/-- Put fields into a register value. -/
def viewPut (l : List (Fld × Nat)) (w : Word) : Word := l.foldl (fun v p => fldPut v p.1 p.2) w
/-- The WO fields of a register value read as 0 (Table 0-5). -/
def hideWo (off : Nat) (w : Word) : Word :=
  match rowFor off with
  | some r => viewPut ((r.flds.filter (fun x => x.acc == .wo)).map (fun x => (⟨off, x.lsb, x.wid⟩, 0))) w
  | none => w
/-- A Bool as a field value. -/
def bit (b : Bool) : Nat := b.toNat
/-- A 32-bit map word: bit b for index 32 x + b. -/
def mapWord (x n : Nat) (p : Nat → Bool) : Nat :=
  ((List.range 32).map (fun b => if decide (32 * x + b < n) && p (32 * x + b) then 2 ^ b else 0)).sum
/-- Word `i` of a 256-bit value kept as bytes, byte 4i in [31:24]. -/
def beWord (v i : Nat) : Nat := v / 2 ^ (32 * (7 - i)) % 2 ^ 32

/-- The shaper's level as CMT_EBKT_LEVEL shows it: at the last tick, or since, when rate, burst or a commit changed it (Table 4-8;
DEDUCED, log 90). -/
def shAtTick (s : State) : Int := shNow { s with clk := { s.clk with now := max s.shStamp (s.clk.now / tickPeriod * tickPeriod) } }
/-- CMT (Tables 3-13 to 3-23, 4-8 to 4-15). -/
def viewCmt (s : State) (off : Nat) : List (Fld × Nat) :=
  if off = 0x60004 then
    [(CMT_SOLVE_STAT_busy, bit s.solving.isSome),
     (CMT_SOLVE_STAT_sw_active, match s.solving with | some v => bit v.fw | none => 0)]
  else if off = 0x6000C then [(CMT_SCHED_STAT_occupancy, s.sched.length)]
  else if off = 0x60024 then
    [(CMT_MAP_COUNT_present, s.present.circs.length), (CMT_MAP_COUNT_projected, s.projected.circs.length)]
  else if off = 0x61004 then
    [(CMT_STAT_accepted, s.accepted.length), (CMT_STAT_in_commit, bit s.commit.isSome),
     (CMT_STAT_closed, bit s.closed.isSome),
     (CMT_STAT_deferred, match s.closed with | some p => bit (decide (p.tick * tickPeriod < s.clk.now)) | none => 0),
     (CMT_STAT_frozen, bit (inSafe s))]
  else if off = 0x61108 then [(CMT_EBKT_LEVEL_level, toTwos 32 (satInt 32 (shAtTick s / 10000)))]
  else if 0x60400 ≤ off ∧ off < 0x60800 then
    let o := (off - 0x60400) / 4
    let st := (CMT_CIRCUIT_out_state o, outState s o)
    match onOut s.present o with
    | some c => [st, (CMT_CIRCUIT_input o, c.inp), (CMT_CIRCUIT_middle o, c.mid), (CMT_CIRCUIT_valid o, 1),
                 (CMT_CIRCUIT_tenant o, c.holder), (CMT_CIRCUIT_by_rotation o, bit c.byRot)]
    | none => [st]
  else if 0x60800 ≤ off ∧ off < 0x608F0 then
    let x := (off - 0x60800) / 4
    [(CMT_CELL_state x, mapWord x 1920 (cellAt s.present))]
  else []
/-- TIME (Table 5-10). -/
def viewTime (s : State) (off : Nat) : List (Fld × Nat) :=
  if 0x40100 ≤ off ∧ off < 0x40200 then
    let b := (off - 0x40100) / 64
    let t := tbGet s.clk b
    let r := off % 64
    if r = 0 then (if b = 0 then [(TIME_TB_CTRL_enable 0, 1)] else [])
    else if r = 4 then
      [(TIME_TB_STAT_state b, tbStNum t.st), (TIME_TB_STAT_cause b, t.cause), (TIME_TB_STAT_slewing b, bit (t.slewRem != 0))]
    else if r = 0x20 then
      [(TIME_TB_HOLD_elapsed_s b, min 65535 (((if t.st = .holdover then s.clk.now else t.holdEnd) - t.holdStart) / 10000000000))]
    else []
  else []
/-- REQ (Tables 10-19, 10-20). -/
def viewReq (s : State) (off : Nat) : List (Fld × Nat) :=
  if off = 0x50018 then
    [(REQ_STAT_queued, ((List.range 64).map (fun t => (queueOf s t).length)).sum), (REQ_STAT_safe, bit (inSafe s))]
  else if 0x50080 ≤ off ∧ off < 0x50090 then
    let w := (off - 0x50080) / 4
    [(REQ_KEY_STAT_loaded w, mapWord w 128 (fun k => keyLoaded s (k / 2) (k % 2)))]
  else if 0x50400 ≤ off ∧ off < 0x50C00 then
    let t := (off - 0x50400) / 32
    if off % 32 = 0x14 then
      [(REQ_T_STAT_depth t, (queueOf s t).length),
       (REQ_T_STAT_fence_wait t, match queueOf s t with | h :: _ => bit (fenceWait s h) | [] => 0)]
    else if off % 32 = 0x18 then
      let (c, p) := wholeTokens s t
      [(REQ_T_TOKENS_tc t, c), (REQ_T_TOKENS_tp t, p)]
    else []
  else []
/-- FLT (Tables 12-10 and 12-12). -/
def viewFlt (s : State) (off : Nat) : List (Fld × Nat) :=
  let pair (lo hi : Fld) (p : Nat → Bool) : List (Fld × Nat) := [(lo, mapWord 0 48 p), (hi, mapWord 1 48 p)]
  if off = 0x20004 then [(FLT_STAT_alive, bit (aliveOn s)), (FLT_STAT_fault_n, bit (faultNLow s))]
  else if off = 0x20018 then (pair FLT_ACTIVE_LO_active FLT_ACTIVE_HI_active (fltActive s)).take 1
  else if off = 0x2001C then (pair FLT_ACTIVE_LO_active FLT_ACTIVE_HI_active (fltActive s)).drop 1
  else if off = 0x20020 then (pair FLT_ESC_LO_running FLT_ESC_HI_running (fun n => (atOf s.escAt n).isSome)).take 1
  else if off = 0x20024 then (pair FLT_ESC_LO_running FLT_ESC_HI_running (fun n => (atOf s.escAt n).isSome)).drop 1
  else if off = 0x20304 then
    [(FLT_SUP_STAT_lease_left_us, if supHeld s || supState s 0 == 4 || supState s 1 == 4 || supState s 0 == 2 || supState s 1 == 2 then min 100 (openDiv (s.supLease + 100 * us - s.clk.now) us) else 0)]
  else []
/-- Epochs left (R481). -/
def epochsLeft (s : State) : Nat := ((List.range 4096).filter (fun i => !s.useEpoch.getLsbD i)).length
/-- Words of the public key: L = 2, the type of the top level, that of its one-time signatures, then what the seed gives
(R464, R479). -/
def publicKey (i : Nat) : Nat :=
  match i with | 0 => 2 | 1 => 7 | 2 => 4 | _ => pubKeyWord i % 2 ^ 32
/-- ID, BOOT and SEC (Tables 14-14 to 14-16). -/
def viewBoot (s : State) (off : Nat) : List (Fld × Nat) :=
  if 0x20 ≤ off ∧ off < 0x5C then
    let i := (off - 0x20) / 4
    [(ID_PUBKEY_key i, if s.pubReady then publicKey i else 0)]
  else if off = 0x60 then [(ID_EPOCHS_remaining, epochsLeft s)]
  else if off = 0x10000 then
    [(BOOT_STAT_held, bit (f s BOOT_HOLD_STAT_windows != 0)), (BOOT_STAT_busy, bit (s.bootBusy != 0))]
  else if off = 0x10024 then
    [(BOOT_HOLD_LEFT_left_ms, if f s BOOT_HOLD_STAT_windows = 0 then 0 else min 65535 (openDiv (s.holdAt - s.clk.now) ms))]
  else if off = 0xF0004 then [(SEC_FUSE_STAT_busy, bit s.fuBusy.isSome)]
  else if 0xF0040 ≤ off ∧ off < 0xF00C0 then
    let k := (off - 0xF0040) / 32
    let i := (off - 0xF0040) % 32 / 4
    [(SEC_OWNER_hash k i, if s.fuProg.testBit k then beWord (amGet (fun _ => 0) s.fuHash k) i else 0)]
  else if off = 0xF0104 then
    [(SEC_ATT_STAT_open, bit s.attOpen.isSome), (SEC_ATT_STAT_left, match s.attOpen with | some e => 1024 - e.2 | none => 0)]
  else if off = 0xF0200 then [(SEC_DBG_CTRL_sealed, f s ID_FUSE_STAT_seal)]
  else if off = 0xF010C then [(SEC_ATT_EPOCH_epoch, match s.attOpen with | some e => e.1 | none => 0)]
  else []
/-- Plot and headland windows: engine maps (Table 6-16), loop records, drill (Tables 7-9 to 7-12), sensing (Tables 8-7 and
8-9). `o` is the offset within window `w`. -/
def viewWin (s : State) (w o : Nat) : List (Fld × Nat) :=
  let n := winLoops w
  let d := o - drlBase w
  let q := o - snsBase w
  if 0x100 ≤ o ∧ o < 0x200 then
    let x := (o - 0x100) / 4
    [(PLOT_LATE_MAP_late w x, mapWord x n (fun sl => fb s (PLOT_LOOP_STAT_late w sl)))]
  else if 0x200 ≤ o ∧ o < 0x300 then
    let x := (o - 0x200) / 4
    [(PLOT_MODEL_MAP_model w x, mapWord x n (fun sl => (loopOf s w sl).mdl))]
  else if 0x300 ≤ o ∧ o < 0x400 then
    let x := (o - 0x300) / 4
    [(PLOT_SAT_MAP_sat w x, mapWord x n (fun sl => fb s (PLOT_LOOP_STAT_sat_acc w sl) || fb s (PLOT_LOOP_STAT_sat_out w sl)))]
  else if 0x10000 ≤ o ∧ o < 0x10000 + 64 * n then
    let sl := (o - 0x10000) / 64
    if o % 64 = 8 then [(PLOT_LOOP_STAT_wave w sl, bit (!(chanOf s w sl).wave.isEmpty))] else []
  else if drlBase w ≤ o ∧ d < 16 * winChans w then
    let ch := d / 16
    let c := chanOf s w ch
    if d % 16 = 0 then
      (if chPockels w ch then [(PLOT_DRL_CFG_vcomp w ch, 0)] else [])
    else if d % 16 = 4 then
      [(PLOT_DRL_STAT_depth w ch, c.queue.length), (PLOT_DRL_STAT_wave w ch, bit (!(chanOf s w (chSlot w ch)).wave.isEmpty)),
       (PLOT_DRL_STAT_dg_hold w ch, bit (c.hold.isSome || wakeHold s w ch)), (PLOT_DRL_STAT_pend_range w ch, bit (rangePend s w ch)),
       (PLOT_DRL_STAT_code w ch, toTwos 16 (fedCode s w ch))]
    else if d % 16 = 8 then
      (if chOwn w ch then [] else [(PLOT_DRL_SLEW_step w ch, 0), (PLOT_DRL_SLEW_period w ch, 0)])
    else []
  else if d = 0x800C then [(PLOT_DRL_PLAY_STAT_busy w, bit (amGet (fun _ => none) s.playing w).isSome)]
  else if snsBase w ≤ o ∧ q < 16 * winSensors w ∧ q % 16 = 8 then
    [(PLOT_SNS_STAT_quick w (q / 16), bit (chanQuick s w (q / 16))), (PLOT_SNS_STAT_out_now w (q / 16), bit (outNow s w (q / 16)))]
  else if q = 0xC004 then
    [(PLOT_SNS_STAT_quick_used w, ((List.range (winSensors w)).filter (chanQuick s w)).length)]
  else if 0xC100 ≤ q ∧ q < 0xC180 then
    let x := (q - 0xC100) / 4
    [(PLOT_SNS_WIN_MAP_out w x, mapWord x (winSensors w) (fun i => fb s (PLOT_SNS_STAT_win_out w i)))]
  else []
/-- BPM_PEEK_RES and the hardware channels of DMA (R457, R493). -/
def viewMem (s : State) (m off : Nat) : List (Fld × Nat) :=
  if off = 0xA0044 then [(⟨0xA0044, 0, 32⟩, bpmPeek s m)]
  else if 0xE0100 ≤ off ∧ off < 0xE01C0 ∧ off % 32 < 0x14 then [(⟨off, 0, 32⟩, 0)]
  else []

/-- The record a loop register shows: engine 0's copy while it stays as it was (R222). -/
def storedWord (s : State) (m off : Nat) : Word :=
  match offWin off with
  | some w =>
    let o := off - winBase w
    match decide (0x10000 ≤ o) && decide (o < 0x10000 + 64 * winLoops w) && !hasHolder s w, (engOf s w).frozen with
    | true, some r => amGet regReset r off
    | _, _ => rd s off
  | none => rd s (ownOff m off)
/-- The fields of a register that show other state. -/
def viewsAt (s : State) (m off : Nat) : List (Fld × Nat) :=
  match offWin off with
  | some w => viewWin s w (off - winBase w)
  | none =>
    match off / 0x10000 with
    | 0 => viewBoot s off | 1 => viewBoot s off | 15 => viewBoot s off
    | 2 => viewFlt s off | 4 => viewTime s off | 5 => viewReq s off | 6 => viewCmt s off
    | 10 => viewMem s m off | 14 => viewMem s m off
    | _ => []
/-- The value a master reads at a register offset, a multiple of 4 (Table 0-5). -/
def regValue (s : State) (m off : Nat) : Nat :=
  (viewPut (viewsAt s m off) (hideWo off (storedWord s m off))).toNat

/-! ### Reads -/

/-- The RC fields of a register restart at 0 (R542); one that the hardware set in this cycle ends set (R14). -/
def clearRc (off : Nat) (s : State) : State :=
  match rowFor off with
  | some r => forEach (r.flds.filter (fun x => x.acc == .rc && decide (heldBits s off / 2 ^ x.lsb % 2 ^ x.wid = 0)))
      (fun x => setF ⟨off, x.lsb, x.wid⟩ 0) s
  | none => s
/-- What a read of a register does beside returning its value (R542): watermarks restart from the quantity's present
value, other RC fields from 0. -/
def readEffect (off : Nat) (s : State) : State :=
  if off = CMT_SCHED_STAT_high_water.off then setF CMT_SCHED_STAT_high_water s.sched.length s
  else if 0xA0100 ≤ off ∧ off < 0xA0140 ∧ off % 16 = 0 then
    setF (BPM_POOL_FREE_low_water ((off - 0xA0100) / 16)) (f s (BPM_POOL_FREE_free ((off - 0xA0100) / 16))) s
  else clearRc off s
/-- The port whose timestamp queue a register belongs to (Table 5-12). -/
def tsqPort (off : Nat) : Option Nat :=
  if 0x40300 ≤ off ∧ off < 0x40340 then some ((off - 0x40300) / 32) else none
/-- The capture channel whose done queue a register pops (R511). -/
def glnDone (off : Nat) : Option Nat :=
  if 0x80100 ≤ off ∧ off < 0x80300 ∧ off % 64 = 0x18 then some ((off - 0x80100) / 64) else none
/-- A read of one register, its whole value in `resp`. -/
def readWord (m off : Nat) (s : State) : State :=
  match tsqPort off, glnDone off with
  | some n, _ =>
    if off % 32 = 0 then tsqPop m n s
    else if m = 0 then readEffect off { s with resp := ⟨regValue s m off, 0⟩ }
    else { s with resp := ⟨0, 0⟩ }
  | _, some n => glnPop n s
  | _, _ =>
    if 0xA1000 ≤ off ∧ off < 0xA1400 ∧ off % 32 = 4 then bpmReadAlloc m ((off - 0xA1000) / 32) s
    else if off = 0x90008 ∧ m = 6 then fenceRead s
    else readEffect off { s with resp := ⟨regValue s m off, 0⟩ }
/-- The byte of a register space at an offset after its word was read: those of `resp`. -/
def narrow (a size : Nat) (s : State) : State :=
  { s with resp := { s.resp with data := s.resp.data / 256 ^ (a % 4) % 256 ^ size } }
/-- A read of at most 4 bytes within one word of BAR0 space (R12, R39): SRAM and trace buffers are memory. -/
def readPart (m a size : Nat) (s : State) : State :=
  match sramAt a with
  | some p => { s with resp := ⟨memRead s.sram p size, 0⟩ }
  | none =>
    if inTrace a then { s with resp := ⟨(rd s (a / 4 * 4)).toNat / 256 ^ (a % 4) % 256 ^ size, 0⟩ }
    else if assigned a then narrow a size (readWord m (a / 4 * 4) s)
    else noTarget s
/-- Conversions that have ended leave their values before a window's sensing registers are read (R275, R276). -/
def senseUp (a : Nat) (s : State) : State :=
  match offWin a with
  | some w => onlyIf (decide (winBase w + snsBase w ≤ a)) (runConv w) s
  | none => s
/-- A read of BAR0 space by a master, of 1, 2, 4 or 8 bytes, aligned (R38, R39): 8 bytes are two words in order of
address. -/
def regRead (m a size : Nat) : State → State :=
  onIssue m (fun s0 =>
    let s := senseUp a s0
    if !regOpen s m a false then noTarget s
    else if size = 8 then
      let s1 := readPart m a 4 s
      let s2 := readPart m (a + 4) 4 s1
      { s2 with resp := ⟨s1.resp.data + 2 ^ 32 * s2.resp.data, 0⟩ }
    else readPart m a size s)

/-- R542, R12: a read by SUP or PCIE of a register, RC fields among them. -/
def execRcRead (dt m a size : Nat) (s : State) : Host.Outcome State Fault Refusal := run s dt (regRead m a size)

end Sys2Proof.Machine
end

