-- ==== Sys2Proof/Machine/Fuse.lean ====
section
/-! DEFINITION. Fuses (R477, R478, R440), the owner slots (R468, R469), attestation (R479 to R481), the SEAL and the IEEE
1149.1 port (R482), and the ROM's start (R458, R459). -/
namespace Sys2Proof.Machine
open Sys2Proof.Config

/-! ### Fuse commands -/

/-- The owner slots that would stay usable without slot `sl`, as burned (R468). -/
def usableWithout (s : State) (sl : Nat) : Bool :=
  (List.range 4).any (fun k => k != sl && s.fuProg.testBit k && !s.fuRev.testBit k)
/-- The hash that stands in SEC_FUSE_DATA, byte 0 first. -/
def fuseData (s : State) : Nat := ofBe ((List.range 8).flatMap (fun i => beBytes 4 (f s (SEC_FUSE_DATA_hash i))))
/-- May a master give fuse commands (R478)? -/
def fuseMay (s : State) (m : Nat) : Bool := (m == 6 && bootState s == 2) || (m == 0 && f s BOOT_STAT_boot_mode == 2)
/-- The result of a fuse command that blows nothing (Table 14-16), 0 when it blows. -/
def fuseResult (s : State) (m op sl : Nat) : Nat :=
  if !fuseMay s m then 1
  else match op with
    | 1 => if s.fuProg.testBit sl then 2 else 0
    | 2 => if !s.fuProg.testBit sl then 4 else if !usableWithout s sl then 3 else 0
    | _ => 0
/-- A write of SEC_FUSE_CMD (R478). -/
def fuseCmd (m v : Nat) (s : State) : State :=
  let op := v % 16
  let sl := v / 16 % 4
  let s1 := setF SEC_FUSE_CMD_slot sl (setF SEC_FUSE_CMD_op op s)
  if v / 2 ^ 31 % 2 = 0 ∨ s.fuBusy.isSome ∨ op = 0 ∨ 3 < op then s1
  else if fuseResult s m op sl ≠ 0 then setF SEC_FUSE_STAT_result (fuseResult s m op sl) s1
  else { s1 with fuBusy := some (op, sl, fuseData s) }
/-- SEC_FUSE_CMD with `go` by a master. -/
def fuseMaster (m op sl : Nat) : State → State := regCmd m SEC_FUSE_CMD_op.off (fuseCmd m (2 ^ 31 + op + 16 * (sl % 4)))
/-- R469, R478. -/
def execFuseProgramSlot (dt m sl : Nat) (s : State) : Host.Outcome State Fault Refusal := run s dt (fuseMaster m 1 sl)
/-- R469, R478. -/
def execFuseRevokeSlot (dt m sl : Nat) (s : State) : Host.Outcome State Fault Refusal := run s dt (fuseMaster m 2 sl)
/-- R478, R482. -/
def execFuseBlowSeal (dt m : Nat) (s : State) : Host.Outcome State Fault Refusal := run s dt (fuseMaster m 3 0)
/-- A blow completes within 2 ms: `got` is what the fuses read back (R478). -/
def fuseDone (got : Nat) (s : State) : State :=
  match s.fuBusy with
  | some (op, sl, h) =>
    let s1 := { s with fuBusy := none }
    match op with
    | 1 =>
      setF SEC_FUSE_STAT_result (if got = h then 0 else 5)
        { s1 with fuProg := s.fuProg ||| 2 ^ sl, fuHash := amSet (fun _ => 0) s.fuHash sl got }
    | 2 => if got = 0 then setF SEC_FUSE_STAT_result 5 s1 else setF SEC_FUSE_STAT_result 0 { s1 with fuRev := s.fuRev ||| 2 ^ sl }
    | _ => if got = 0 then setF SEC_FUSE_STAT_result 5 s1 else setF SEC_FUSE_STAT_result 0 { s1 with fuSeal := true }
  | none => s
/-- R478. -/
def execFuseCommandComplete (dt got : Nat) (s : State) : Host.Outcome State Fault Refusal := run s dt (fuseDone got)

/-! ### Sensing -/

/-- Bits of the epoch words that read as wholly burned (R477; log 51). -/
def badEpochs (bad : List Nat) : BitVec 4096 :=
  (bad.filter (fun c => decide (16 ≤ c) && decide (c < 144))).foldl
    (fun v c => v ||| (BitVec.ofNat 4096 0xFFFFFFFF <<< (32 * (c - 16)))) 0
/-- The identity registers as sensed: `bad` names the words with two bits in error. -/
def senseId (fixed : Nat) (bad : List Nat) (s : State) : State :=
  let (u, s1) := if bad.contains 6 then drawFree (2 ^ 64) s else (s.fuUnit, s)
  let (j, s2) := if bad.contains 7 then drawFree (2 ^ 32) s1 else (s.fuJtag, s1)
  let rev := (List.range 4).foldl (fun n k => if bad.contains k then n ||| 2 ^ k else n) s.fuRev
  let id := setB ID_FUSE_STAT_ecc_bad (!bad.isEmpty) (setB ID_FUSE_STAT_ecc_fixed (decide (fixed ≠ 0)) (setF ID_FUSE_STAT_slot_rev rev
    (setF ID_FUSE_STAT_slot_prog s.fuProg (setB ID_FUSE_STAT_seal (s.fuSeal || bad.contains 4) (setF ID_FUSE_STAT_sensed 1
      (setF ID_UNIT_HI_unit (u / 2 ^ 32) (setF ID_UNIT_LO_unit u (setF ID_JTAG_idcode j
        (setF ID_PART_variant (if bad.contains 5 then 1 else s.fuVariant) s2)))))))))
  { id with popMode := defaultMode id }
/-- The repair entries as sensed, and as blown (R440, R477). -/
def senseRepair (bad : List Nat) (s : State) : State :=
  forEach (List.range 64) (fun i t =>
    let v := repairOf t (i / 4) (i % 4)
    repairShow 0x90280 (i / 4) (i % 4) v (repairShow 0x90200 (i / 4) (i % 4) (if bad.contains (256 + i) then 0 else v) t)) s
/-- FS_ATTEST_LOW when fewer than 64 epochs are left (R481). -/
def epochsNote (s : State) : State := if epochsLeft s < 64 then raise 42 0 s else s
/-- The ROM begins: PD24 wakes first, then the others of R459; with BOOT_MODE 0b10 the mode is TEST (Table 14-2). -/
def romBegin (s : State) : State :=
  let s1 := wakeReq romDomains (pdEnGo true (bootGo 1 s))
  if f s1 BOOT_STAT_boot_mode = 2 then setF BUS_MODE_mode 2 s1 else s1
/-- The fuses are sensed, once at each POR (R477). -/
def fuseSense (fixed : Nat) (bad : List Nat) (s : State) : State :=
  if bootState s ≠ 0 ∨ fb s ID_FUSE_STAT_sensed then s
  else
    let s1 := senseRepair bad (senseId fixed bad { s with useHash := s.fuHash, useEpoch := s.fuEpoch ||| badEpochs bad })
    romBegin (epochsNote (onlyIf (decide (fixed ≠ 0) || !bad.isEmpty) (raise 43 0) s1))
/-- R440, R458, R459, R477, R481, R525. -/
def execFuseSense (dt fixed : Nat) (bad : List Nat) (s : State) : Host.Outcome State Fault Refusal := run s dt (fuseSense fixed bad)
/-- The domains of R459 are awake: LOAD (Table 14-1). -/
def romReady (s : State) : State := if bootState s = 1 ∧ romDomains.all (domOn s) = true then bootGo 2 s else s
/-- R458, R459. -/
def execRomReady (dt : Nat) (s : State) : Host.Outcome State Fault Refusal := run s dt romReady

/-! ### Attestation -/

/-- The single-copy regions of a die (Table 13-5), as offsets within it. -/
def singleRegions : List (Nat × Nat) :=
  [(0x800000, 0x1000000), (0x8800000, 0x8900000), (0x8900000, 0x9000000), (0x9000000, 0x9E00000), (0x9E00000, 0x40000000)]
/-- Do `n` bytes from a supervisor address lie within one single-copy region? -/
def inSingle (a n : Nat) : Bool :=
  decide (0x80000000 ≤ a) && decide (a < 0x100000000) &&
    singleRegions.any (fun r => decide (r.1 ≤ a % 0x40000000) && decide (a % 0x40000000 + n ≤ r.2))
/-- The epoch that an opening would burn (R479). -/
def nextEpoch (s : State) : Option Nat := (List.range 4096).find? (fun i => !s.useEpoch.getLsbD i)
/-- The result an attest command is refused with (R481, Table 14-16), 0 when it runs. -/
def attResult (s : State) : Nat :=
  if bootState s < 4 ∨ domFallow s 29 = true then 1
  else match s.attOpen with
    | some e => if 1024 ≤ e.2 then 3 else if inSingle (f s SEC_ATT_ADDR_addr) 3168 then 0 else 4
    | none => if (nextEpoch s).isNone then 2 else if inSingle (f s SEC_ATT_ADDR_addr) 3168 then 0 else 4
/-- An epoch opens unless one is open (R479). -/
def epochOpen (s : State) : State :=
  match s.attOpen, nextEpoch s with
  | none, some e =>
    let b := BitVec.ofNat 4096 1 <<< e
    epochsNote { s with attOpen := some (e, 0), fuEpoch := s.fuEpoch ||| b, useEpoch := s.useEpoch ||| b }
  | _, _ => s
/-- A write of SEC_ATT_CMD (R479 to R481). -/
def attCmd (v : Nat) (s : State) : State :=
  if v % 2 = 0 ∨ fb s SEC_ATT_STAT_busy then s
  else if attResult s ≠ 0 then setF SEC_ATT_STAT_result (attResult s) s
  else setF SEC_ATT_STAT_busy 1 (epochOpen s)
/-- R479 to R481. -/
def execAttest (dt m : Nat) (s : State) : Host.Outcome State Fault Refusal := run s dt (regCmd m SEC_ATT_CMD_go.off (attCmd 1))
/-- The bytes of eight registers that hold a byte string, byte 4i in [31:24]. -/
def beRegs (s : State) (x : Nat → Fld) : List Nat := (List.range 8).flatMap (fun i => beBytes 4 (f s (x i)))
/-- The attestation report of Table 14-10. -/
def attReport (s : State) (e q : Nat) : List Nat :=
  let t := tbNow s 0
  leBytes 4 0x41540001 ++ leBytes 4 (rd s 4).toNat ++ leBytes 4 (rd s 8).toNat ++ leBytes 8 (unitId s) ++
    leBytes 4 (rd s ID_FUSE_STAT_sensed.off).toNat ++ leBytes 2 e ++ leBytes 2 q ++ leBytes 6 (tSec t) ++ leBytes 4 (tNs t) ++
    leBytes 2 (tFrac t) ++ leBytes 4 (f s CAL_ACTIVE_GEN_generation) ++ beRegs s BOOT_FW_DIGEST_digest ++
    (if fb s BOOT_STAT_plan then beRegs s BOOT_PLAN_DIGEST_digest else List.replicate 32 0) ++ beRegs s SEC_ATT_NONCE_nonce
/-- The report and its signature are written (R480); the signature's bytes are free values (log 51). -/
def attDone (s : State) : State :=
  match s.attOpen with
  | some (e, q) =>
    if fb s SEC_ATT_STAT_busy then
      let out := attReport s e q ++ (List.range 3028).map (fun i => attestByte e q i % 256)
      let s1 := busPut (f s SEC_ATT_ADDR_addr) out { s with attOpen := some (e, q + 1) }
      dmaCount 5 (setF SEC_ATT_STAT_result 0 (setF SEC_ATT_STAT_busy 0 s1))
    else s
  | none => s
/-- R480. -/
def execAttestDone (dt : Nat) (s : State) : Host.Outcome State Fault Refusal := run s dt attDone

/-! ### The SEAL and the 1149.1 port -/

/-- Is the SEAL in effect (R482)? -/
def sealed (s : State) : Bool := fb s ID_FUSE_STAT_seal
/-- An attempt at a vendor debug instruction or a scan access (R482): refused and counted under the SEAL. -/
def debugTry (s : State) : State :=
  if sealed s then onlyIf (domOn s 29) (incSat SEC_CNT_DBG_count) (raise 44 0 s) else s
/-- R482. -/
def execDebugAttempt (dt : Nat) (s : State) : Host.Outcome State Fault Refusal := run s dt debugTry
/-- An instruction of the 1149.1 port (R482). A vendor or scan instruction that is not permitted selects BYPASS; SAMPLE and
EXTEST return the boundary cells, which the spec does not give. -/
def tapGo (k : Nat) (s : State) : State :=
  match k with
  | 0 => { s with tapIr := 0, resp := ⟨0, 0⟩ }
  | 1 => { s with tapIr := 1, resp := ⟨f s ID_JTAG_idcode, 0⟩ }
  | 2 => { (drawFree (2 ^ 32) s).2 with tapIr := 2, resp := ⟨(drawFree (2 ^ 32) s).1, 0⟩ }
  | 3 => { (drawFree (2 ^ 32) s).2 with tapIr := 3, resp := ⟨(drawFree (2 ^ 32) s).1, 0⟩ }
  | _ => { debugTry s with tapIr := 0 }
/-- Is a vendor debug or scan instruction permitted (R482)? -/
def debugMay (s : State) : Bool := !s.porOn && !sealed s && fb s SEC_DBG_CTRL_dbg_en
/-- R482. The spec gives no effect of a vendor debug instruction while it is permitted. -/
def execTapInstruction (dt k : Nat) (s : State) : Host.Outcome State Fault Refusal :=
  if decide (4 ≤ k) && debugMay s then .refused .vendorDebug else run s dt (tapGo k)

end Sys2Proof.Machine
end

