-- ==== Sys2Proof/Machine/Resets.lean ====
section
/-! DEFINITION. Resets (R483 to R488): domain resets, the supervisor reset, PERST_N and the function level reset, the warm
reset with and without hold, the hold timer, and POR with the release of the AON reset (R525 to R527). -/
namespace Sys2Proof.Machine
open Sys2Proof.Config

/-! ### Resets of one domain and of the supervisors -/

/-- A domain's registers and masters are reset, `n` bursts of its master being outstanding (Table 14-11). -/
def domainReset (d n : Nat) (s : State) : State :=
  if [21, 22, 23, 28, 29].contains d && domOn s d then domClear d (drainAll (domMasters s d) n s) else s
/-- A write of BOOT_DOM_RST. -/
def domRstWrite (n v : Nat) : State → State := forEach (maskDomains v) (fun d => domainReset d n)
/-- R428, R454, R483, R488, R513. -/
def execDomainReset (dt m d n : Nat) (s : State) : Host.Outcome State Fault Refusal :=
  run s dt (regCmd m BOOT_DOM_RST_reset.off (domRstWrite n (2 ^ d)))
/-- Both cores restart at BOOT_ENTRY (R487); with BOOT_MODE 0b10 the mode stays TEST (Table 14-2). -/
def pairReset (s : State) : State :=
  supStart { setF BUS_REMAP_remap 1 (if f s BOOT_STAT_boot_mode = 2 then s else setF BUS_MODE_mode 3 s) with
    remapPend := none, modePend := none }
/-- R487, R488: from SUP the write is ignored. -/
def execSupReset (dt m : Nat) (s : State) : Host.Outcome State Fault Refusal :=
  run s dt (regCmd m BOOT_RST_sup_reset.off (fun t => if m = 6 then pairReset t else t))
/-- PD24 is reset: PCIE and DMA are drained with `n` and `k` bursts outstanding, the function, BOOT_APT and DMA return to
their defaults (R486, Table 14-12), and the host's fences are counted afresh (R426). -/
def pd24Reset (n k : Nat) (s : State) : State :=
  setF BUS_HOST_FENCE_fences 0 (setF BOOT_APT_region 8 (clearRegs (domRanges 24) (masterDrain 5 k (masterDrain 6 n s))))
/-- R428, R454, R486. -/
def execPerst (dt n k : Nat) (s : State) : Host.Outcome State Fault Refusal :=
  run s dt (fun t => if t.perstLow then t else { pd24Reset n k t with perstLow := true })
/-- R486. -/
def execPerstNRelease (dt : Nat) (s : State) : Host.Outcome State Fault Refusal := run s dt (fun t => { t with perstLow := false })
/-- R428, R490. -/
def execFunctionLevelReset (dt n k : Nat) (s : State) : Host.Outcome State Fault Refusal :=
  run s dt (fun t => if pd24Up t then pd24Reset n k t else t)

/-! ### The warm reset -/

/-- Bursts of a domain's master and transactions to it that are outstanding at a reset. -/
abbrev Drains := List (Nat × Nat × Nat)
/-- A domain's entry. -/
def drainOf (ab : Drains) (d : Nat) : Nat × Nat := ((ab.find? (fun e => e.1 == d)).map (·.2)).getD (0, 0)
/-- Domains that a warm reset with hold leaves powered (R484). -/
def heldDomain (d : Nat) : Bool := decide (d < 18) || d == 20 || d == 25
/-- Domains switch off in the reverse of the order of waking (R381); what was to wake or to sleep begins afresh. -/
def domainsOff (ab : Drains) (keep : Nat → Bool) (s : State) : State :=
  forEach wakeOrder.reverse (fun d t =>
    if domOn t d && !keep d then domOff d (drainOf ab d).1 (drainOf ab d).2 (darkFirst d t) else t)
    { s with wakeQ := s.wakeQ.filter keep, sleepQ := s.sleepQ.filter keep }
/-- Is a window held (R484)? -/
def anyHeld (s : State) : Bool := decide (f s BOOT_HOLD_STAT_windows ≠ 0)
/-- Does a warm reset hold (R483, R460, R485)? A hold in progress stays. -/
def holdTaken (noHold : Bool) (s : State) : Bool :=
  !noHold && (anyHeld s || (fb s BOOT_HOLD_hold && fb s (PLOT_DRL_SEED_STAT_seeded 17)))
/-- A channel keeps its code, range and settings; its queue is flushed and no waveform plays (R266), whatever commit is in
progress. -/
def holdChannel (c : Chan) : Chan := { c with queue := [], qAt := [], wave := [], wcut := false, seed := 0 }
/-- The windows that are on, as a mask. -/
def windowMask (s : State) : Nat := ((List.range 18).filter (domOn s)).foldl (fun n w => n + 2 ^ w) 0
/-- What a warm reset with hold does to the domains that stay powered (R484, R266, Table 9-10). -/
def holdWindows (s : State) : State :=
  let s1 := stopHold (forEach ((List.range 18).filter (domOn s)) pairStop s)
  let s2 : State := { s1 with chans := s1.chans.map (fun e => (e.1, holdChannel e.2)) |>.filter (fun e => decide (e.2 ≠ {})), playing := [] }
  let s3 := { s2 with sched := [], ready := [], solving := none, accepted := [], closed := none, projected := settledMap s2 }
  let s4 := verifyAbandon s3
  setF BOOT_HOLD_STAT_windows (windowMask s)
    (if anyHeld s then s4 else { s4 with holdAt := s.clk.now + f s BOOT_HOLD_hold_ds * (100 * ms) })
/-- GOV configuration, the step table and the governed step return to their defaults, and row 0 applies (Table 14-12). -/
def govDefaults (s : State) : State :=
  fallNote (applyRow (thermNote (clearRegs [(0x30000, 0x30020), (0x30034, 0x30038), (0x30044, 0x30048), (0x30100, 0x30140),
    (0x30208, 0x3020C), (0x30214, 0x30218), (0x30800, 0x30C00)] s)))
/-- A warm reset begins (R483, R484, R488); every input port starts DARK after it (R56). -/
def warmBegin (hold : Bool) (ab : Drains) (s : State) : State :=
  let s1 := if hold then holdWindows s else setF BOOT_HOLD_STAT_windows 0 (if domOn s 17 then gatesDark s else s)
  let s2 := domainsOff ab (fun d => hold && heldDomain d) (onlyIf (fb s1 BUS_HRW_STAT_active) hrwAbort (portsDark s1))
  let s3 := setF BUS_HOST_FENCE_fences 0 (setF BOOT_APT_region 8 (fltDefaults s2))
  let s4 := if hold then s3 else govDefaults (calDefaults s3)
  { setF BOOT_STAT_plan 0 (pdEnGo true (devGo 0 s4)) with bootBusy := 0, planAt := none }
/-- The reset is released: BOOT_MODE is sampled and the ROM begins (R458 to R460). -/
def warmEnd (bm : Nat) (s : State) : State := romBegin (setF BOOT_STAT_boot_mode bm { s with resetEnd := s.clk.now })
/-- RST_N falls (R483): what BOOT_MODE says of the hold is sampled when it rises. -/
def rstFall (ab : Drains) (s : State) : State :=
  if s.rstLow ∨ bootState s = 0 then s else { warmBegin (holdTaken false s) ab s with rstLow := true }
/-- BOOT_RST.warm is written (R483). -/
def rstWrite (bm : Nat) (ab : Drains) (s : State) : State := warmEnd bm (warmBegin (holdTaken (bm == 1) s) ab s)
/-- R483 to R488. -/
def execWarmReset (dt : Nat) (pin : Bool) (m bm : Nat) (ab : List (Nat × Nat × Nat)) (s : State) : Host.Outcome State Fault Refusal :=
  run s dt (if pin then rstFall ab else regCmd m BOOT_RST_warm.off (rstWrite bm ab))
/-- RST_N rises: with BOOT_MODE 0b01 a hold is dropped (R460). -/
def rstRise (bm : Nat) (s : State) : State :=
  if s.rstLow then
    let s1 := { s with rstLow := false }
    warmEnd bm (if bm = 1 ∧ anyHeld s1 = true then warmBegin false [] s1 else s1)
  else s
/-- R460. -/
def execRstNRelease (dt bm : Nat) (s : State) : Host.Outcome State Fault Refusal := run s dt (rstRise bm)
/-- The hold timer expires (R485, R265). -/
def holdExpire (s : State) : State :=
  if anyHeld s then
    let u := elapseTo s s.holdAt
    sendMsix 10 (gatesDark (setF BOOT_HOLD_STAT_windows 0 (setF BOOT_HOLD_STAT_expired 1 (raise 39 0 u))))
  else s
/-- R485. -/
def execHoldExpire (dt : Nat) (s : State) : Host.Outcome State Fault Refusal := run s dt holdExpire

/-! ### POR -/

/-- What a loss of power during a blow leaves in a fuse: a value the spec does not state (R478). -/
def blowLost (s : State) : State :=
  let s1 := match s.fuBusy with
    | some (1, sl, _) =>
      let (h, t) := drawFree (2 ^ 256) s
      let (b, u) := drawFree 2 t
      { u with fuProg := if b = 1 then u.fuProg ||| 2 ^ sl else u.fuProg, fuHash := amSet (fun _ => 0) u.fuHash sl h }
    | some (2, sl, _) =>
      let (b, t) := drawFree 2 s
      { t with fuRev := if b = 1 then t.fuRev ||| 2 ^ sl else t.fuRev }
    | some _ =>
      let (b, t) := drawFree 2 s
      { t with fuSeal := t.fuSeal || b == 1 }
    | none => s
  match s1.repairBusy with
  | some (b, e, _) =>
    let (v, t) := drawFree 513 s1
    { t with repairFuse := amSet (fun _ => 0) t.repairFuse (4 * b + e) v }
  | none => s1
/-- POR is asserted (R483, R488, R527): every part of the state returns to its default but the fuses, the levels of the
pins and rails, and the model's own logs and clock. -/
def porBegin (vaon : Bool) (s : State) : State :=
  let t := blowLost s
  { State.reset with
    clk := { now := t.clk.now }, freeCtr := t.freeCtr, sent := t.sent, msix := t.msix, pending := t.pending
    fuVariant := t.fuVariant, fuUnit := t.fuUnit, fuJtag := t.fuJtag, fuProg := t.fuProg, fuRev := t.fuRev
    fuHash := t.fuHash, fuSeal := t.fuSeal, fuEpoch := t.fuEpoch, repairFuse := t.repairFuse, rom := t.rom
    vpkBad := t.vpkBad, vhtrBad := t.vhtrBad, rstLow := t.rstLow, perstLow := t.perstLow
    porOn := true, porEnd := none, vaonBad := vaon || t.vaonBad }
/-- R483, R488, R527. -/
def execPorAssert (dt : Nat) (s : State) : Host.Outcome State Fault Refusal := .next (porBegin false (elapse s dt))
/-- R389, R522, R527: without VAON the module is in OFF. -/
def execVaonLoss (dt : Nat) (s : State) : Host.Outcome State Fault Refusal := .next (porBegin true (elapse s dt))
/-- The last POR condition clears (R389, R527). -/
def porClear (s : State) : State := if s.porOn then { s with porEnd := some s.clk.now, vaonBad := false } else s
/-- R389, R527. -/
def execPorEnd (dt : Nat) (s : State) : Host.Outcome State Fault Refusal := .next (porClear (elapse s dt))
/-- The AON reset is released 2 ms after POR ended (R525): BOOT_MODE is sampled (R460), TB0 counts from zero (R149). -/
def aonRelease (bm : Nat) (s : State) : State :=
  match s.porOn, s.porEnd with
  | true, some t =>
    let u := elapseTo s (t + 2 * ms)
    setF BOOT_STAT_boot_mode bm { u with porOn := false, porEnd := none, resetEnd := u.clk.now, clk := { now := u.clk.now } }
  | _, _ => s
/-- R149, R460, R488, R525. -/
def execAonResetRelease (dt bm : Nat) (s : State) : Host.Outcome State Fault Refusal := .next (aonRelease bm (elapse s dt))

end Sys2Proof.Machine
end

