-- ==== Sys2Proof/Machine/RegWrite.lean ====
section
/-! DEFINITION. What a register write does: the fields by their access codes (Table 0-5), the ranges that the registers'
tables bring a value into, the registers whose writes act, and the windows' SRAM and trace buffers. BOOT_CMD alone stands
with the boot commands. -/
namespace Sys2Proof.Machine
open Sys2Proof.Config

/-! ### Plain registers -/

/-- Store one field of a written value under its access code (Table 0-5): RWL ignores writes under the SEAL (R482). -/
def putFld (off v : Nat) (x : FldSpec) (s : State) : State :=
  let y : Fld := ⟨off, x.lsb, x.wid⟩
  let n := v / 2 ^ x.lsb % 2 ^ x.wid
  match x.acc with
  | .rw => setF y n s
  | .wo => setF y n s
  | .rwl => if sealed s then s else setF y n s
  | .w1c => clearBits y n s
  | .ro => s
  | .rc => s
/-- The fields a value is brought into a range in, with the range (the registers' tables). -/
def clampsAt (off : Nat) : List (Fld × Nat × Nat) :=
  match offWin off with
  | some w =>
    let d := off - winBase w - drlBase w
    if winBase w + drlBase w ≤ off ∧ d < 16 * winChans w ∧ d % 16 = 8 then
      [(⟨off, 0, 16⟩, 1, 65535), (⟨off, 16, 16⟩, 1, 65535)]
    else if off = (PLOT_SNS_CTRL_persist w).off then
      [(PLOT_SNS_CTRL_bg_period_ms w, 1, 255), (PLOT_SNS_CTRL_persist w, 1, 255)]
    else []
  | none =>
    match off with
    | 0x60008 => [(CMT_LEAD_lead_us, 2, 1000)]
    | 0x61030 => [(CMT_VER_CFG_plane_min, 0, 50)]
    | 0x40114 | 0x40154 | 0x40194 | 0x401D4 => [(⟨off, 0, 9⟩, 1, 400)]
    | 0x40200 => [(TIME_PPS_CTRL_out_width_us, 1, 255), (TIME_PPS_CTRL_in_window_us, 1, 1000)]
    | 0x70000 => [(ROT_CTRL_admit_us, 2, 1000)]
    | 0xC0000 => [(CAL_CTRL_stale_limit_ms, 1, 65535)]
    | 0x50004 => [(REQ_CFG_mtu, 1280, 9000), (REQ_CFG_hb_period_ms, 1, 1023)]
    | 0x30000 => [(GOV_CTRL_timer, 1, 200), (GOV_CTRL_window, 2, 16), (GOV_CTRL_min_dt, 1, 255)]
    | 0x30008 => [(GOV_RECOVER_hold_ms, 1, 65535)]
    | 0x30044 => [(GOV_THERM_therm_c, 60, 104)]
    | 0x30208 => [(GOV_DEV_CFG_park_wait_ms, 1, 10000)]
    | 0x9000C => [(BUS_STARVE_starve_ns, 100, 4000)]
    | 0x90100 => [(BUS_HRW_CTRL_gap_us, 2, 65535)]
    | 0xB0000 => [(DRC_CTRL_chk_ms, 1, 255)]
    | 0x10004 => [(BOOT_HOLD_hold_ds, 10, 600)]
    | 0x80010 | 0x80014 | 0x80018 | 0x8001C | 0x80020 | 0x80024 => [(⟨off, 4, 8⟩, 1, 255)]
    | _ => if 0x20100 ≤ off ∧ off < 0x201C0 then [(⟨off, 3, 14⟩, 1, 10000)] else []
/-- A write of a register of which only its fields act. -/
def plainWrite (m off v : Nat) (s : State) : State :=
  match rowFor off with
  | some r =>
    forEach (clampsAt off) (fun c t => setF c.1 (clampN c.2.1 c.2.2 (f t c.1)) t)
      (forEach r.flds (putFld (ownOff m off) v) s)
  | none => s

/-! ### Registers with rules of their own -/

/-- A ring's length: a power of two from 16 to 1,024, else 16 (Tables 10-21 and 14-20). -/
def ringEntries (v : Nat) : Nat := if [16, 32, 64, 128, 256, 512, 1024].contains (v % 2048) then v % 2048 else 16
/-- FLT_SRC_CFG (R401; Table 12-2 fixes the severity of source 45). -/
def srcCfgWrite (off v : Nat) (s : State) : State :=
  if fb s FLT_STAT_locked then s
  else plainWrite 0 off (if off = (FLT_SRC_CFG_severity 45).off then keepFld (FLT_SRC_CFG_severity 45) (rd s off) v else v) s
/-- BPM_POOL_CFG: the threshold is met at once when `free` lies at or below it (R457). -/
def lowThrWrite (p v : Nat) (s : State) : State :=
  let s1 := setF (BPM_POOL_CFG_low_thr p) v s
  if f s1 (BPM_POOL_FREE_free p) ≤ f s1 (BPM_POOL_CFG_low_thr p) then setF ⟨BPM_STAT_low.off, 4 + p, 1⟩ 1 s1 else s1
/-- A word of a rotation bank (R190): a pending bank that is not armed takes writes. -/
def bankWrite (off v : Nat) (s : State) : State :=
  let t := (off - 0x71000) / 0x400
  if (off - 0x71000) / 0x200 % 2 = 0 ∨ armedOf s t = true ∨ markedOf s t = true then s
  else { plainWrite 0 off v s with rotLoader := amSet (fun _ => none) s.rotLoader (2 * t + 1) none }
/-- A drain of a DMA channel's `n` outstanding bursts (R428). -/
def dmaDrain (c n : Nat) (s : State) : State :=
  if n = 0 then s
  else raise 24 (0xA0 + c) (setF BUS_ABANDON_LAST_requester (0xA0 + c) (incBy BUS_CNT_ABANDON_count n s))
/-- A write of DMA_CH_CTRL (R492, R493): a reset drains the channel and empties its ring. -/
def dmaCtrlWrite (c n v : Nat) (s : State) : State :=
  if c < 6 then s
  else if v / 2 % 2 = 1 then
    setF (DMA_CH_STAT_halted c) 0 (setF (DMA_CH_TAIL_tail c) 0 (setF (DMA_CH_HEAD_head c) 0 (dmaDrain c n s)))
  else if v % 2 = 1 then setF (DMA_CH_STAT_halted c) 0 s
  else s
/-- A write of BOOT_RST (R483, R487): BOOT_MODE is taken as it was last sampled. -/
def bootRstWrite (m v : Nat) (s : State) : State :=
  let s1 := if v / 2 % 2 = 1 ∧ m = 6 then pairReset s else s
  if v % 2 = 1 then rstWrite (f s BOOT_STAT_boot_mode) [] s1 else s1

/-- Registers of BOOT, FLT and GOV. -/
def writeLow (m off v : Nat) (s : State) : State :=
  if off = BOOT_RST_warm.off then bootRstWrite m v s
  else if off = BOOT_DOM_RST_reset.off then domRstWrite 0 v s
  else if off = FLT_CTRL_serve.off then fltCtrlWrite v s
  else if off = FLT_PEND_LO_pending.off then pendWrite false v s
  else if off = FLT_PEND_HI_pending.off then pendWrite true v s
  else if off = FLT_ESCD_LO_escalated.off then escdWrite false v s
  else if off = FLT_ESCD_HI_escalated.off then escdWrite true v s
  else if 0x20100 ≤ off ∧ off < 0x201C0 then srcCfgWrite off v s
  else if off = FLT_SUP_CTRL_auto_repair.off then supCtrlWrite v s
  else if off = GOV_STEP_floor.off then floorWrite v s
  else if off = GOV_DEMAND_LO_sites.off then demandWrite m false v s
  else if off = GOV_DEMAND_HI_sites.off then demandWrite m true v s
  else if off = GOV_THERM_therm_c.off then thermNote (plainWrite m off v s)
  else if 0x30100 ≤ off ∧ off < 0x30140 then stepTableWrite ((off - 0x30100) / 8) (decide (off % 8 = 4)) v s
  else if off = GOV_DEV_CMD_req.off then devCmdWrite v s
  else if off = GOV_DOM_FALLOW_fallow.off then fallowWrite v s
  else if off = GOV_DOM_FAIL_fail.off then domFailWrite v s
  else plainWrite m off v s
/-- Registers of TIME, REQ, CMT and ROT. TB0 ignores writes to TIME_TB_ADJ and TIME_TB_SLEW too (R149). -/
def writeMid (m off v : Nat) (s : State) : State :=
  if off = TIME_CTRL_snap.off then (if v % 2 = 1 then tbSnap s else s)
  else if 0x40100 ≤ off ∧ off < 0x40200 ∧ off % 64 = 0 then tbCtrlWrite ((off - 0x40100) / 64) v s
  else if 0x40100 ≤ off ∧ off < 0x40200 ∧ off % 64 = 8 then tbFreqWrite ((off - 0x40100) / 64) v s
  else if 0x40100 ≤ off ∧ off < 0x40200 ∧ off % 64 = 0x10 then tbAdjCmd ((off - 0x40100) / 64) v s
  else if 0x40100 ≤ off ∧ off < 0x40200 ∧ off % 64 = 0x18 then tbCmdWrite ((off - 0x40100) / 64) v s
  else if off = 0x4010C ∨ off = 0x40114 then s
  else if off = TIME_PPS_CTRL_out_en.off then ppsSelect s (plainWrite m off v s)
  else if off = REQ_INSTANCE_instance.off then instanceWrite v s
  else if off = REQ_STAT_hist_clr.off then (if v / 65536 % 2 = 1 then histClear s else s)
  else if off = REQ_KEY_CMD_op.off then keyCmd v s
  else if 0x50400 ≤ off ∧ off < 0x50C00 ∧ off % 32 = 0 then tCfgWrite ((off - 0x50400) / 32) v s
  else if off = CMT_SOLVE_CTRL_hw_en.off then solveCtrlWrite v s
  else if off = CMT_MAP_CMD_op.off then mapCmd v s
  else if off = CMT_EBKT_BURST_burst.off then setBurst v s
  else if off = ROT_CMD_op.off then rotCmd v s
  else if 0x71000 ≤ off ∧ off < 0x75000 then bankWrite off v s
  else plainWrite m off v s
/-- Registers of GLN, BUS, BPM, CAL, ETH, DMA and SEC. -/
def writeHigh (m off v : Nat) (s : State) : State :=
  if 0x80100 ≤ off ∧ off < 0x80300 ∧ off % 64 = 0x10 then glnCmd ((off - 0x80100) / 64) v s
  else if off = BUS_MODE_mode.off then modeWrite v s
  else if off = BUS_REMAP_remap.off then remapWrite v s
  else if off = BUS_REPAIR_CMD_go.off then repairCmd v s
  else if 0xA0100 ≤ off ∧ off < 0xA0140 ∧ off % 16 = 4 then lowThrWrite ((off - 0xA0100) / 16) v s
  else if 0xA1000 ≤ off ∧ off < 0xA1400 ∧ off % 32 = 8 then bpmWriteFree m ((off - 0xA1000) / 32) v s
  else if 0xA1000 ≤ off ∧ off < 0xA1400 ∧ off % 32 = 0x10 then bpmWriteGive m ((off - 0xA1000) / 32) v s
  else if off = CAL_CMD_op.off then calCmdWrite v s
  else if off = CAL_ELEM_CMD_go.off then elemCmdWrite v s
  else if 0xD0000 ≤ off ∧ off < 0xE0000 ∧ (off % 0x8000 = 0x34 ∨ off % 0x8000 = 0x44) then setF ⟨off, 0, 11⟩ (ringEntries v) s
  else if 0xE0100 ≤ off ∧ off < 0xE0300 then
    let c := (off - 0xE0100) / 32
    if off % 32 = 0x10 then dmaCtrlWrite c 0 v s
    else if c < 6 then s
    else if off % 32 = 4 then setF (DMA_CH_CFG_entries c) (ringEntries v) s
    else plainWrite m off v s
  else if off = SEC_FUSE_CMD_op.off then fuseCmd m v s
  else if off = SEC_ATT_CMD_go.off then attCmd v s
  else plainWrite m off v s
/-- A loop that a write enables after its slot window has opened starts with the next frame (R193, R231). -/
def loopEnabled (s0 : State) (w sl : Nat) (s : State) : State :=
  onlyIf (fb s (PLOT_LOOP_CFG_enable w sl) && !fb s0 (PLOT_LOOP_CFG_enable w sl) && decide (slotOpen s sl < s.clk.now))
    (loopPut w sl { loopOf s w sl with doneAt := some s.frameAt }) s
/-- A word of a loop record: engine 0's copy takes the write too while it stands apart (R222). -/
def recordWrite (w off v : Nat) (s : State) : State :=
  let s1 := loopEnabled s w ((off - winBase w - 0x10000) / 64) (noTempNote w (plainWrite 0 off v s))
  match (engOf s w).frozen with
  | some r => engPut w { engOf s w with frozen := some (plainWrite 0 off v { s with regs := r }).regs } s1
  | none => s1
/-- Registers of a plot or headland window (R231, R232, R267, R293). -/
def writeWin (w off v : Nat) (s : State) : State :=
  let o := off - winBase w
  let d := o - drlBase w
  let q := o - snsBase w
  if o = 0 then engCtrlWrite w v s
  else if off = (PLOT_TRC_CTRL_en w).off then trcCtrlWrite w v s
  else if 0x10000 ≤ o ∧ o < 0x10000 + 64 * winLoops w then recordWrite w off v s
  else if drlBase w ≤ o ∧ d < 16 * winChans w then
    (match d % 16 with
     | 0 => drlCfgWrite w (d / 16) v s
     | 8 => if chOwn w (d / 16) then plainWrite 0 off v s else s
     | 12 => swPush w (d / 16) v s
     | _ => plainWrite 0 off v s)
  else if off = (PLOT_DRL_SEED_go w).off then seedWrite w v s
  else if off = (PLOT_DRL_PLAY_go w).off then playWrite w v s
  else if snsBase w ≤ o ∧ q < 16 * winSensors w ∧ q % 16 = 0 then snsCfgWrite w (q / 16) v s
  else plainWrite 0 off v s
/-- A write of one register, BOOT_CMD apart. -/
def writeWord (m off v : Nat) (s : State) : State :=
  match offWin off with
  | some w => writeWin w off v s
  | none =>
    if off < 0x40000 then writeLow m off v s else if off < 0x80000 then writeMid m off v s else writeHigh m off v s

/-! ### Accesses -/

/-- Store bytes in a trace buffer, which is memory (R230). -/
def traceByte (a v : Nat) (s : State) : State := setF ⟨a / 4 * 4, 8 * (a % 4), 8⟩ v s
/-- A write of at most 4 bytes within one word: `g` writes a register; a narrower write of a register is discarded (R12),
SRAM and trace buffers take writes of any size. -/
def writePart (g : Nat → Nat → State → State) (a size v : Nat) (s : State) : State :=
  match sramAt a with
  | some p => { s with sram := memWrite s.sram p size v }
  | none =>
    if inTrace a then forEach (List.range size) (fun i => traceByte (a + i) (v / 256 ^ i)) s
    else if assigned a then (if size = 4 then g a (v % 2 ^ 32) s else s)
    else countUnassigned s
/-- A write of BAR0 space by a master, of 1, 2, 4 or 8 bytes, aligned (R11, R38, R39): 8 bytes are two words in order of
address. -/
def regWriteBy (g : Nat → Nat → State → State) (m a size v : Nat) : State → State :=
  onIssue m (fun s =>
    if !regOpen s m a true then countUnassigned s
    else if size = 8 then writePart g (a + 4) 4 (v / 2 ^ 32) (writePart g a 4 (v % 2 ^ 32) s)
    else writePart g a size v s)
/-- The commands of DMA_CH_CTRL: resume. -/
def execDmaResume (dt m c : Nat) (s : State) : Host.Outcome State Fault Refusal :=
  run s dt (regCmd m (DMA_CH_CTRL_resume c).off (dmaCtrlWrite c 0 1))
/-- R428, R492: reset, with `n` bursts of the channel outstanding. -/
def execDmaChannelReset (dt m c n : Nat) (s : State) : Host.Outcome State Fault Refusal :=
  run s dt (regCmd m (DMA_CH_CTRL_reset c).off (dmaCtrlWrite c n 2))
/-- R35, R36, R116: the sequencer's measurement of the CK_TICK phase against each enabled base, in 2^-10 ns. -/
def tickPhase (s : State) : State :=
  if domOn s 20 then
    let k := tickAtOrAfter s.clk.now
    forEach ([0, 1, 2, 3].filter (tbEnabled s)) (fun b t =>
      setF (CMT_TICK_PHASE_valid b) 1 (setF (CMT_TICK_PHASE_phase b) (tickTime s b k % (20 * nsUnit) / 2 ^ 30) t)) s
  else s
/-- R35, R36. -/
def execTickPhaseMeasurement (dt : Nat) (s : State) : Host.Outcome State Fault Refusal := run s dt tickPhase

end Sys2Proof.Machine
end

