-- ==== Sys2Proof/Machine/Container.lean ====
section
/-! DEFINITION. Containers (R461 to R465): where one lies, its tiles, header and sections, and the checks of Table 14-6 that
firmware and field plans share; the firmware's own checks (R467) and its start (R470). -/
namespace Sys2Proof.Machine
open Sys2Proof.Config

/-! ### Tiles -/

/-- Little-endian field of a tile. -/
def fldAt (l : List Nat) (o n : Nat) : Nat := ofBytes (cut l o n)
/-- Does a container of `n` tiles at a header address fit one of the places of R461? -/
def contFits (a n : Nat) : Bool :=
  decide (a % 1024 = 0) && ((decide (0x81000000 ≤ a) && decide (a + 1024 * n ≤ 0x88000000)) ||
    (decide (0x10400000 ≤ a) && decide (a + 1024 * n ≤ 0x10800000)))
/-- Is a container stored twice? -/
def contTwice (a : Nat) : Bool := decide (0x80000000 ≤ a)
/-- Tile `n` of the container at `a`, as it is read (R461); none for a tile that does not pass. -/
def contTile (s : State) (a n : Nat) : Option (List Nat) :=
  let p := a + 1024 * n
  if contTwice a then
    match checkTile s p with
    | .ok c => some (dramList s (copyAddr p c) 1024)
    | _ => none
  else
    let l := spmList s (p - 0x10000000) 1024
    if crc32c (l.take 1020) = fldAt l 1020 4 then some l else none
/-- What the reading of a tile counts and repairs (R444, R491). -/
def contNote (a n : Nat) (s : State) : State := dmaCount 5 (if contTwice a then checkedNote (a + 1024 * n) s else s)
/-- The tile's bytes, none where it does not pass. -/
def contBytes (s : State) (a n : Nat) : List Nat := (contTile s a n).getD []

/-! ### Header and sections -/

/-- A section entry (Table 14-4). -/
structure Sec where
  ty : Nat
  first : Nat
  len : Nat
  load : Nat
  digest : List Nat
  deriving DecidableEq, Repr

/-- Tiles of the container by its header. -/
def totalTiles (h : List Nat) : Nat := fldAt h 8 4
/-- The section entries of a header. -/
def secsOf (h : List Nat) : List Sec :=
  (List.range (min 16 (fldAt h 0x17 1))).map (fun i =>
    let e := 0xC0 + 48 * i
    ⟨fldAt h e 2, fldAt h (e + 4) 4, fldAt h (e + 8) 4, fldAt h (e + 12) 4, cut h (e + 16) 32⟩)
/-- Tiles of a section: none for a firmware's ZERO. -/
def secTiles (kind : Nat) (x : Sec) : Nat := if kind = 1 ∧ x.ty = 3 then 0 else (x.len + 991) / 992
/-- Sections lie between header and signature in order, without gaps or overlaps (R463). -/
def chainOk (kind sig : Nat) : List Sec → Nat → Bool
  | [], p => p == sig
  | x :: t, p => (secTiles kind x == 0 || x.first == p) && chainOk kind sig t (p + secTiles kind x)
/-- The section that tile `n` belongs to and its place within it. -/
def secAt (kind n : Nat) (l : List Sec) : Option (Nat × Nat) :=
  (l.zipIdx.find? (fun e => decide (e.1.first ≤ n) && decide (n < e.1.first + secTiles kind e.1))).map (fun e => (e.2, n - e.1.first))
/-- The bytes of a section (R463). -/
def secBytes (s : State) (a kind : Nat) (x : Sec) : List Nat :=
  ((List.range (secTiles kind x)).flatMap (fun i => cut (contBytes s a (x.first + i)) 0x10 992)).take x.len
/-- The signature: the payloads of the last three tiles, cut to its length. -/
def contSig (s : State) (a total : Nat) : List Nat :=
  ([3, 2, 1].flatMap (fun i => cut (contBytes s a (total - i)) 0x10 992)).take 2964
/-- The signed message (R464). -/
def signedMsg (h : List Nat) : List Nat := h.take 4 ++ [0, 0, 0, 0] ++ cut h 8 1012

/-! ### Loads -/

/-- Where a load address lies in the BUS_REMAP = 1 view: a scratchpad offset, or a DRAM address. -/
def loadAt (a : Nat) : Option Nat :=
  match targetAt true a with
  | .spm x => some x
  | .dram x => some x
  | _ => none
/-- Does a load range lie where R467 permits? -/
def loadOk (x : Sec) : Bool :=
  x.len == 0 ||
    (match targetAt true x.load with
     | .spm _ => if x.load < 0x10000 then decide (x.load + x.len ≤ 0x10000) else decide (x.load + x.len ≤ 0x10800000)
     | .dram _ => inSingle x.load x.len
     | _ => false)
/-- Do two ranges (start, bytes) overlap? -/
def overlap (p q : Nat × Nat) : Bool := decide (p.1 < q.1 + q.2) && decide (q.1 < p.1 + p.2)
/-- No range of a list overlaps another. -/
def apart : List (Nat × Nat) → Bool
  | [] => true
  | x :: t => t.all (fun y => !overlap x y) && apart t
/-- The firmware's loads and entry obey R467. -/
def fwLoadsOk (a total entry : Nat) (l : List Sec) : Bool :=
  let ls := l.filter (fun x => x.ty != 4)
  let own := if contTwice a then [] else [(a - 0x10000000, 1024 * total)]
  ls.all loadOk && apart (own ++ (ls.filter (fun x => x.len != 0)).map (fun x => ((loadAt x.load).getD 0, x.len))) &&
    l.any (fun x => x.ty == 1 && decide (x.load ≤ entry) && decide (entry < x.load + x.len)) && decide (entry < 0x10000)

/-! ### The checks of Table 14-6 -/

/-- A failed check: code, section (0xFF for none) and tile. -/
structure BootErr where
  code : Nat
  sec : Nat := 0xFF
  tile : Nat := 0
  deriving DecidableEq, Repr

/-- Does tile `n` carry the type, indices and generation of its place (R462, R463)? -/
def tileOk (kind : Nat) (h l : List Nat) (n : Nat) : Bool :=
  fldAt l 4 4 == fldAt h 4 4 &&
    (if n = 0 then fldAt l 0 2 == 0x41
     else if totalTiles h ≤ n + 3 then fldAt l 0 2 == 0x43 && fldAt l 2 2 == 0xFFFF
     else match secAt kind n (secsOf h) with
       | some (i, k) => fldAt l 0 2 == 0x42 && fldAt l 2 2 == i && fldAt l 8 4 == k
       | none => false)
/-- Is a section type permitted for a kind of container (Tables 14-5, 14-7)? -/
def typeOk (kind ty : Nat) : Bool := if kind = 1 then decide (1 ≤ ty) && decide (ty ≤ 4) else decide (0x10 ≤ ty) && decide (ty ≤ 0x1A)
/-- Check 3, FORMAT. -/
def formatErr (s : State) (a kind : Nat) (h : List Nat) : Option BootErr :=
  let n := totalTiles h
  let l := secsOf h
  let head := fldAt h 2 2 == kind && fldAt h 0x10 4 == 0x43483732 && fldAt h 0x14 2 == 1 && decide (1 ≤ fldAt h 0x17 1) &&
    decide (fldAt h 0x17 1 ≤ 16) && fldAt h 0x2C 4 + 3 == n && chainOk kind (fldAt h 0x2C 4) l 1
  if !head then some { code := 3 }
  else match l.zipIdx.find? (fun e => !typeOk kind e.1.ty) with
    | some e => some { code := 3, sec := e.2 }
    | none =>
      if kind = 1 ∧ fwLoadsOk a n (fldAt h 0x28 4) l = false then some { code := 3 }
      else ((List.range n).find? (fun k => !tileOk kind h (contBytes s a k) k)).map (fun k =>
        { code := 3, sec := ((secAt kind k l).map (·.1)).getD 0xFF, tile := k })
/-- Check 4, TARGET. -/
def targetOk (s : State) (h : List Nat) : Bool :=
  let rev := (rd s ID_REV_minor.off).toNat % 65536
  (fldAt h 0x18 4).testBit (f s ID_PART_variant) && decide (fldAt h 0x1C 2 ≤ rev) && decide (rev ≤ fldAt h 0x1E 2) &&
    (fldAt h 0x20 8 == 0 || fldAt h 0x20 8 == unitId s)
/-- Check 5, KEY (R468, R469), by the fuse values in use. -/
def keyOk (s : State) (h : List Nat) : Bool :=
  let k := fldAt h 0x16 1
  decide (k < 4) && (f s ID_FUSE_STAT_slot_prog).testBit k && !(f s ID_FUSE_STAT_slot_rev).testBit k &&
    ofBe (sha256 (cut h 0x30 60)) == amGet (fun _ => 0) s.useHash k
/-- The first section whose digest does not match (check 8): that of ZERO is 0. -/
def digestErr (s : State) (a kind : Nat) (h : List Nat) : Option Nat :=
  ((secsOf h).zipIdx.find? (fun e =>
    (if kind = 1 ∧ e.1.ty = 3 then List.replicate 32 0 else sha256 (secBytes s a kind e.1)) != e.1.digest)).map (·.2)
/-- The first tile of a container of `n` that does not pass (check 2). -/
def tileErr (s : State) (a n : Nat) : Option Nat := (List.range n).find? (fun k => (contTile s a k).isNone)
/-- Checks 3 to 8 on a container whose tiles pass. -/
def innerErr (s : State) (a kind : Nat) (h : List Nat) : Option BootErr :=
  let sig := contSig s a (totalTiles h)
  match formatErr s a kind h with
  | some e => some e
  | none =>
    if !targetOk s h then some { code := 4 }
    else if !keyOk s h then some { code := 5 }
    else if !hssParams (cut h 0x30 60) sig then some { code := 6 }
    else if !hssVerify (cut h 0x30 60) sig (signedMsg h) then some { code := 7 }
    else (digestErr s a kind h).map (fun i => { code := 8, sec := i })
/-- Checks 1 to 8 of Table 14-6, in order: the first that fails. The container's length stands in its header, so a header
that does not pass fails check 2. -/
def contErr (s : State) (a kind : Nat) : Option BootErr :=
  if !contFits a 1 then some { code := 1 }
  else match contTile s a 0 with
    | none => some { code := 2 }
    | some h =>
      let n := totalTiles h
      if n = 0 ∨ contFits a n = false then some { code := 1 }
      else match tileErr s a n with
        | some k => some { code := 2, sec := ((secAt kind k (secsOf h)).map (·.1)).getD 0xFF, tile := k }
        | none => innerErr s a kind h
/-- Tiles that the checks read: up to the first that does not pass. -/
def contReads (s : State) (a : Nat) : Nat :=
  if !contFits a 1 then 0
  else match contTile s a 0 with
    | none => 1
    | some h => if !contFits a (totalTiles h) then 1 else ((tileErr s a (totalTiles h)).map (· + 1)).getD (totalTiles h)
/-- The source a failed check raises (Table 14-6). -/
def bootRaise (code : Nat) (s : State) : State :=
  if code = 2 then raise 41 0 s else if 5 ≤ code ∧ code ≤ 8 then raise 40 0 s else s
/-- Write BOOT_RESULT and complete a BOOT_CMD (R495). -/
def bootDone (e : BootErr) (s : State) : State :=
  sendMsix 10 (bootRaise e.code (setF BOOT_RESULT_tile e.tile (setF BOOT_RESULT_section e.sec (setF BOOT_RESULT_code e.code
    { s with bootBusy := 0 }))))
/-- What the checks read (R444). -/
def contRead (a : Nat) (s : State) : State := forEach (List.range (contReads s a)) (contNote a) s

/-! ### The firmware's start -/

/-- Bytes of zero over a load range (ZERO): the free rings take none (R442). -/
def clearLoad (x : Sec) (s : State) : State :=
  match targetAt true x.load with
  | .spm p => { s with spm := s.spm.filter (fun c => !(decide (p ≤ c.1) && decide (c.1 < p + x.len) && domOn s (spmDom c.1))) }
  | .dram p =>
    if domOn s 25 && !dieOff s (dieOf p) then
      { s with dram := s.dram.filter (fun c => !(decide (p ≤ c.1) && decide (c.1 < p + x.len) && !inFreeRing c.1)) }
    else s
  | _ => s
/-- Load one section (R470, step 1). -/
def loadSec (a : Nat) (src : State) (x : Sec) (s : State) : State :=
  match x.ty with
  | 3 => clearLoad x s
  | 4 => s
  | _ =>
    match targetAt true x.load with
    | .spm p => spmPut p (secBytes src a 1 x) s
    | .dram p => if domOn s 25 && !dieOff s (dieOf p) then dramPut 5 p (secBytes src a 1 x) s else s
    | _ => s
/-- Record a digest in eight registers. -/
def putDigest (x : Nat → Fld) (d : List Nat) (s : State) : State :=
  forEach (List.range 8) (fun i => setF (x i) (be32 d (4 * i))) s
/-- The firmware starts (R470): PD29 sleeps again when it is fallow (R383). -/
def fwStart (a : Nat) (h : List Nat) (s : State) : State :=
  let s1 := forEach (secsOf h) (loadSec a s) s
  let s2 := putDigest BOOT_FW_DIGEST_digest (sha256 (signedMsg h)) (setF BOOT_ENTRY_entry (fldAt h 0x28 4) s1)
  let s3 := supStart { setF BUS_MODE_mode (if f s BOOT_STAT_boot_mode = 2 then 2 else 1) (setF BUS_REMAP_remap 1 s2) with
    remapPend := none, modePend := none }
  bootGo 4 (if domFallow s3 29 then sleepReq [29] s3 else s3)
/-- The verify ends (R465, R470): the firmware starts, or the module returns to LOAD. -/
def fwDone (s : State) : State :=
  if s.bootBusy = 1 then
    let a := f s BOOT_FW_ADDR_addr
    let s1 := contRead a s
    match contErr s a 1 with
    | some e => bootGo 2 (bootDone e s1)
    | none => bootDone { code := 0 } (fwStart a (contBytes s1 a 0) s1)
  else s
/-- R461 to R470. -/
def execFwVerifyDone (dt : Nat) (s : State) : Host.Outcome State Fault Refusal := run s dt fwDone

end Sys2Proof.Machine
end

