-- ==== Sys2Proof/Machine/FieldPlan.lean ====
section
/-! DEFINITION. The field plan (R471 to R475, R485): its records and their permitted targets, the checks of R472 and R473, its
application in the order of R474, re-application; and BOOT_CMD itself. -/
namespace Sys2Proof.Machine
open Sys2Proof.Config

/-! ### Records -/

/-- A record of a section: kind, count, supervisor address, data. -/
structure Rec where
  kind : Nat
  count : Nat
  addr : Nat
  data : List Nat
  deriving DecidableEq, Repr
/-- Bytes of a record's data. -/
def recLen (kind count : Nat) : Nat := if kind = 1 then 4 * count else count
/-- The records of a section's bytes, at most `n`; none where a record is cut short. -/
def parseRecs : Nat → List Nat → Option (List Rec)
  | 0, l => if l = [] then some [] else none
  | n + 1, l =>
    if l = [] then some []
    else
      let k := fldAt l 0 1
      let c := fldAt l 1 3
      let b := recLen k c
      if l.length < 8 + b then none
      else (parseRecs n (l.drop (8 + (b + 3) / 4 * 4))).map (fun t => ⟨k, c, fldAt l 4 4, cut l 8 b⟩ :: t)
/-- Does an interval of offsets lie within a list of intervals? -/
def within (l : List (Nat × Nat)) (lo n : Nat) : Bool := l.any (fun r => decide (r.1 ≤ lo) && decide (lo + n ≤ r.2))
/-- Targets of a section outside the windows, as BAR0 offsets (Table 14-7). -/
def planTargets (ty : Nat) : List (Nat × Nat) :=
  match ty with
  | 0x11 => [(0x50400, 0x50C00), (0x53000, 0x53800)]
  | 0x15 => [(0x30214, 0x30218)]
  | 0x16 => [(0x50000, 0x50008), (0x5000C, 0x50010), (0xD0000, 0xD0028), (0xD8000, 0xD8028), (0x60000, 0x60004),
      (0x60008, 0x6000C), (0x61000, 0x61004), (0x61030, 0x61034)]
  | 0x17 => [(0x20100, 0x201C0), (0x20000, 0x20004)]
  | 0x18 => [(0x30000, 0x30020), (0x30044, 0x30048), (0x30100, 0x30140), (0x30800, 0x30C00), (0x61104, 0x61108), (0x30208, 0x3020C)]
  | 0x19 => [1, 2, 3].flatMap (fun b => [(0x40100 + 64 * b, 0x40104 + 64 * b), (0x40114 + 64 * b, 0x40118 + 64 * b),
      (0x4011C + 64 * b, 0x40124 + 64 * b)]) ++ [(0x40200, 0x4020C), (0x40400, 0x40408), (0x40410, 0x40418)]
  | 0x1A => (0x70000, 0x70004) :: (List.range 16).map (fun t => (0x71200 + 0x400 * t, 0x71400 + 0x400 * t))
  | _ => []
/-- Targets of a section within a window, as offsets in it, for an interval that begins at `o`. -/
def winTargets (ty w o : Nat) : List (Nat × Nat) :=
  match ty with
  | 0x12 => [(0xB8000, 0xC0000), (drlBase w + 0x8040, drlBase w + 0x8060)]
  | 0x13 =>
    let r := o / 64 * 64
    let c := o / 16 * 16
    [(snsBase w + 0xC000, snsBase w + 0xC004)] ++
      (if 0x10000 ≤ o ∧ o < 0x10000 + 64 * winLoops w then [(r, r + 8), (r + 0xC, r + 0x14)] else []) ++
      (if snsBase w ≤ o ∧ o < snsBase w + 16 * winSensors w then [(c, c + 4)] else []) ++
      (if drlBase w ≤ o ∧ o < drlBase w + 16 * winChans w then [(c, c + 4)] else [])
  | 0x14 => [(0x80000, 0x84000), (0, 4), (0x20, 0x30)]
  | _ => []
/-- BAR0 offset of a record. -/
def recOff (r : Rec) : Nat := r.addr - 0x40000000
/-- Does a record name a permitted target of its section (R472)? Kind 3 names none. -/
def recOk (ty : Nat) (r : Rec) : Bool :=
  if r.kind = 3 then true
  else (r.kind == 1 || r.kind == 2) && decide (0x40000000 ≤ r.addr) && (r.kind == 2 || decide (r.addr % 4 = 0)) &&
    (match offWin (recOff r) with
     | some w => within (winTargets ty w (recOff r - winBase w)) (recOff r - winBase w) (recLen r.kind r.count)
     | none => within (planTargets ty) (recOff r) (recLen r.kind r.count))
/-- The record sections of a plan: index, type and records, none where the records cannot be read. -/
def planSecs (s : State) (a : Nat) (h : List Nat) : List (Nat × Nat × Option (List Rec)) :=
  ((secsOf h).zipIdx.filter (fun e => e.1.ty != 0x10)).map (fun e =>
    let b := secBytes s a 2 e.1
    (e.2, e.1.ty, parseRecs (b.length + 1) b))
/-- The records of every section of a type, in order. -/
def recsOf (l : List (Nat × Nat × Option (List Rec))) (ty : Nat) : List Rec :=
  (l.filter (fun e => e.2.1 == ty)).flatMap (fun e => e.2.2.getD [])
/-- Check 9: the first section with a record that names no permitted target. -/
def rangeErr (l : List (Nat × Nat × Option (List Rec))) : Option BootErr :=
  (l.find? (fun e => !(match e.2.2 with | some rs => rs.all (recOk e.2.1) | none => false))).map (fun e => { code := 9, sec := e.1 })

/-! ### PORTMAP -/

/-- A population mode by its number (Table 14-8). -/
def modeOf (n : Nat) : PopMode := match n with | 0 => .full | 1 => .p128 | _ => .p64
/-- Is PORTMAP well-formed for the variant, and of the held mode during a hold (R473, R485)? -/
def portmapOk (s : State) (b : List Nat) : Bool :=
  let mode := fldAt b 0 4
  b.length == 8200 && decide (mode ≤ 2) && !(fb s ID_PART_variant && mode == 0) && (!anyHeld s || modeOf mode == s.popMode) &&
    (List.range 256).all (fun n => decide (fldAt b (16 + 16 * n) 1 ≤ 40) && decide (2 ≤ fldAt b (17 + 16 * n) 1) &&
      decide (fldAt b (17 + 16 * n) 1 ≤ 12))
/-- The PORTMAP sections of a plan, as bytes. -/
def portmaps (s : State) (a : Nat) (h : List Nat) : List (List Nat) :=
  ((secsOf h).filter (fun x => x.ty == 0x10)).map (secBytes s a 2)
/-- The plot domains outside the mode become fallow and sleep (R383, Table 2-6). -/
def plotFallow (mode : Nat) (s : State) : State :=
  let l := (List.range 8).map (· + 8)
  onlyIf (decide (mode = 2)) (sleepReq l.reverse) (forEach l (fun d => putDom GOV_DOM_FALLOW_fallow d (decide (mode = 2))) s)
/-- Masks, thresholds and the mode (Table 14-8). -/
def portmapPut (b : List Nat) (s : State) : State :=
  let l := List.range 256
  { s with
    popMode := modeOf (fldAt b 0 4)
    ownIn := l.foldl (fun m n => amSet (fun _ => 0) m n (BitVec.ofNat 64 (fldAt b (8 + 16 * n) 8))) s.ownIn
    ownOut := l.foldl (fun m n => amSet (fun _ => 0) m n (BitVec.ofNat 64 (fldAt b (0x1008 + 16 * n) 8))) s.ownOut
    litThr := l.foldl (fun m n => amSet (fun _ => 28) m n (fldAt b (16 + 16 * n) 1)) s.litThr
    litHyst := l.foldl (fun m n => amSet (fun _ => 4) m n (fldAt b (17 + 16 * n) 1)) s.litHyst }

/-! ### Values -/

/-- The 32-bit writes of a list of records: offset and value. -/
def wordsOfRecs (l : List Rec) : List (Nat × Nat) :=
  (l.filter (fun r => r.kind == 1)).flatMap (fun r => (List.range r.count).map (fun i => (recOff r + 4 * i, fldAt r.data (4 * i) 4)))
/-- One word of the step table, stored without the check of the table. -/
def putTable (e : Nat × Nat) (s : State) : State :=
  if 0x30100 ≤ e.1 ∧ e.1 < 0x30140 then putRow ((e.1 - 0x30100) / 8) (decide (e.1 % 8 = 4)) e.2 s else s
/-- TIME_TB_CTRL as a plan would leave it. -/
def putCtrl (e : Nat × Nat) (s : State) : State :=
  if 0x40140 ≤ e.1 ∧ e.1 < 0x40200 ∧ e.1 % 64 = 0 then setRaw s e.1 (BitVec.ofNat 32 (e.2 % 2 ^ 24)) else s
/-- Check 10 but for PORTMAP (R473). -/
def valuesErr (s : State) (l : List (Nat × Nat × Option (List Rec))) : Bool :=
  let gov := forEach (wordsOfRecs (recsOf l 0x18)) putTable s
  let time := forEach (wordsOfRecs (recsOf l 0x19)) putCtrl s
  let fal := ((wordsOfRecs (recsOf l 0x15)).getLast?.map (·.2)).getD 0
  !tableOk gov || (fal.testBit 22 && fal.testBit 23) ||
    [1, 2, 3].any (fun b => ctrlClash time b (rd time (TIME_TB_CTRL_enable b).off).toNat)
/-- Checks 9 and 10 of a plan that passed the others. -/
def planErr (s : State) (a : Nat) (h : List Nat) : Option BootErr :=
  let l := planSecs s a h
  match rangeErr l with
  | some e => some e
  | none =>
    match portmaps s a h with
    | [b] => if portmapOk s b && !valuesErr s l then none else some { code := 10 }
    | _ => some { code := 10 }

/-! ### Application -/

/-- Are records at an offset discarded: a window or block that is off or fallow, a held window, CMT and ROT during a hold
(R471, R485)? -/
def recDropped (s : State) (off : Nat) : Bool :=
  !blockOn s off ||
    (match blockDomain off with | some d => domFallow s d | none => false) ||
    (anyHeld s && (match offWin off with
      | some w => (f s BOOT_HOLD_STAT_windows).testBit w
      | none => decide (0x60000 ≤ off) && decide (off < 0x80000)))
/-- One word of a record: `run` and the repair bits, and FLT_CTRL outside [2:1], are masked (R471); the step table was
checked as a whole (R473). -/
def planWord (e : Nat × Nat) (s : State) : State :=
  let off := e.1
  match offWin off with
  | some w =>
    (match sramAt off with
     | some p => { s with sram := memWrite s.sram p 4 e.2 }
     | none => if off = winBase w then engCtrlWrite w (e.2 &&& 6) s else writeWin w off e.2 s)
  | none =>
    if off = FLT_CTRL_serve.off then fltCtrlWrite (e.2 &&& 6) s
    else if 0x30100 ≤ off ∧ off < 0x30140 then putTable e s
    else if 0x40140 ≤ off ∧ off < 0x40200 ∧ off % 64 = 0 then
      (let b := (off - 0x40100) / 64
       if tbEnabled s b && e.2 % 2 == 0 && baseNamed s b then s else tbCtrlApply b e.2 s)
    else writeWord 0 off e.2 s
/-- One byte of a record of kind 2, into SRAM or a pending bank; a register takes none (R12). -/
def planByte (a v : Nat) (s : State) : State :=
  match sramAt a with
  | some p => { s with sram := memWrite s.sram p 1 v }
  | none =>
    if 0x71000 ≤ a ∧ a < 0x75000 then
      bankWrite (a / 4 * 4) (keepFld ⟨a / 4 * 4, 8 * (a % 4), 8⟩ (BitVec.ofNat 32 (v * 2 ^ (8 * (a % 4)))) (rd s (a / 4 * 4)).toNat) s
    else s
/-- Apply one record. -/
def planRec (r : Rec) (s : State) : State :=
  if r.kind = 3 ∨ r.count = 0 then s
  else if recDropped s (recOff r) then countUnassigned s
  else if r.kind = 1 then forEach (wordsOfRecs [r]) planWord s
  else forEach (r.data.zipIdx (recOff r)) (fun e => planByte e.2 e.1) s
/-- Apply every record of a type. -/
def planApply (l : List (Nat × Nat × Option (List Rec))) (ty : Nat) : State → State := forEach (recsOf l ty) planRec
/-- The tables that a plan's records write. -/
def planTables (l : List (Nat × Nat × Option (List Rec))) : List Nat :=
  (List.range 16).filter (fun t => (recsOf l 0x1A).any (fun r =>
    r.kind != 3 && r.count != 0 && decide (0x71200 + 0x400 * t ≤ recOff r) && decide (recOff r < 0x71400 + 0x400 * t)))
/-- The last step: ROTATIONS, every written table marked (R174). -/
def planRotations (l : List (Nat × Nat × Option (List Rec))) (s : State) : State :=
  let s1 := planApply l 0x1A s
  if recDropped s 0x70000 then s1 else { s1 with rotMarked := (planTables l).foldl (fun v t => putT v t true) s1.rotMarked }
/-- The domains made fallow sleep at once (R383). -/
def sleepAll (s : State) : State := forEach s.sleepQ (fun d => sleepDone d 0 0) s
/-- A domain whose turn it is wakes within the application of a plan (log 58). -/
def wakeNow (d : Nat) (s : State) : State := domWake d { s with wakeAt := s.clk.now }
/-- Every domain that is not fallow wakes (R474, step 3): those that APPLY has on (Table 14-1). -/
def wakeAll (s : State) : State :=
  let t := wakeReq (wakeOrder.filter (fun d => !domFallow s d && shouldOn (setF BOOT_STAT_state 5 s) d)) (sleepAll s)
  forEach t.wakeQ wakeNow t
/-- The shaper is filled, the buckets are full, sample 0 is placed (R146, R349, R353). -/
def planEnd (s : State) : State :=
  let s1 := fillBuckets { s with shLevel := burstE s, shStamp := s.clk.now, planAt := some (tbNow s 0) }
  if domOn s1 21 then takeSample 0 s1 else s1
/-- Apply a plan that passed every check, in the order of R474. -/
def planPut (a : Nat) (h : List Nat) (s : State) : State :=
  let l := planSecs s a h
  let b := (portmaps s a h).headD []
  let s1 := planApply l 0x15 (plotFallow (fldAt b 0 4) s)
  let s2 := portmapPut b (wakeAll s1)
  let s3 := planApply l 0x19 (applyRow (planApply l 0x18 (planApply l 0x17 s2)))
  let s4 := planApply l 0x12 (planApply l 0x16 (planApply l 0x11 s3))
  let s5 := planRotations l (planApply l 0x13 (planApply l 0x14 s4))
  setF BOOT_STAT_plan 1 (setF BOOT_STAT_state 5
    (putDigest BOOT_PLAN_DIGEST_digest (sha256 (signedMsg h)) (planEnd { s5 with planBase := a })))
/-- The application ends (R474): everything is checked before anything is written. -/
def planDone (s : State) : State :=
  if s.bootBusy = 2 then
    let a := f s BOOT_PLAN_ADDR_addr
    let s1 := contRead a s
    match contErr s a 2 with
    | some e => bootDone e s1
    | none =>
      let h := contBytes s1 a 0
      match planErr s1 a h with
      | some e => bootDone e s1
      | none => bootDone { code := 0 } (sendMsix 10 (planPut a h s1))
  else s
/-- R3, R146, R174, R353, R465, R471 to R474, R485. -/
def execPlanApplyDone (dt : Nat) (s : State) : Host.Outcome State Fault Refusal := run s dt planDone

/-! ### BOOT_CMD -/

/-- Re-apply the sections of a mask from the applied container, after checks 2 and 9 (R475). TENANTS fills the buckets again
(R349; DEDUCED, log 87). -/
def planAgain (mask : Nat) (s : State) : State :=
  let a := s.planBase
  let s1 := contRead a s
  match contTile s1 a 0 with
  | none => bootDone { code := 2 } s1
  | some h =>
    match tileErr s1 a (if contFits a (totalTiles h) then totalTiles h else 1) with
    | some k => bootDone { code := 2, sec := ((secAt 2 k (secsOf h)).map (·.1)).getD 0xFF, tile := k } s1
    | none =>
      let l := planSecs s1 a h
      match rangeErr l with
      | some e => bootDone e s1
      | none => bootDone { code := 0 } (onlyIf (mask / 2 % 2 == 1) (planApply l 0x16) (onlyIf (mask % 2 == 1) (fun t => fillBuckets (planApply l 0x11 t)) s1))
/-- Does the boot state permit an op from a master (R470, R474, R475, Table 14-2)? -/
def opMay (s : State) (m op : Nat) : Bool :=
  match op with
  | 1 => m == 6 && bootState s == 2
  | 2 => bootState s == 4 && f s BOOT_STAT_boot_mode != 2
  | 3 => bootState s == 5 || bootState s == 6
  | _ => false
/-- A write of BOOT_CMD (R470, R474, R475). -/
def bootCmd (m v : Nat) (s : State) : State :=
  let op := v % 16
  let s1 := setF BOOT_CMD_mask (v / 16) (setF BOOT_CMD_op op s)
  if v / 2 ^ 31 % 2 = 0 ∨ s.bootBusy ≠ 0 ∨ op = 0 ∨ 3 < op then s1
  else if !opMay s m op then bootDone { code := 11 } s1
  else match op with
    | 1 => bootGo 3 { s1 with bootBusy := 1 }
    | 2 => { s1 with bootBusy := 2 }
    | _ => planAgain (v / 16 % 4) s1
/-- BOOT_CMD with `go` by a master. -/
def bootMaster (m op mask : Nat) : State → State := regCmd m BOOT_CMD_op.off (bootCmd m (2 ^ 31 + op + 16 * (mask % 4)))
/-- R458, R461, R470. -/
def execFwVerify (dt m : Nat) (s : State) : Host.Outcome State Fault Refusal := run s dt (bootMaster m 1 0)
/-- R461, R474. -/
def execPlanApply (dt m : Nat) (s : State) : Host.Outcome State Fault Refusal := run s dt (bootMaster m 2 0)
/-- R475. -/
def execPlanReapply (dt m mask : Nat) (s : State) : Host.Outcome State Fault Refusal := run s dt (bootMaster m 3 mask)

end Sys2Proof.Machine
end

