-- ==== Sys2Proof/Machine/Dma.lean ====
section
/-! DEFINITION. The DMA channels' descriptors (R491 to R493), the accesses of BAR0, of BAR2 and of nothing (R38 to R46, R420),
and the SMBus target (R489). -/
namespace Sys2Proof.Machine
open Sys2Proof.Config

/-! ### Register writes and unassigned accesses -/

/-- A write of any register. -/
def topWord (m off v : Nat) (s : State) : State := if off = BOOT_CMD_op.off then bootCmd m v s else writeWord m off v s
/-- A write of BAR0 space by a master. -/
def regWrite (m a size v : Nat) : State → State := regWriteBy (topWord m) m a size v
/-- R11 to R15, R38 to R40, and the register tables of every block. -/
def execRegisterWrite (dt m a size v : Nat) (s : State) : Host.Outcome State Fault Refusal := run s dt (regWrite m a size v)
/-- Does a master's access to a supervisor address reach a target (R39, R42 to R44, R420, R442, Table 14-1)? -/
def hitsTarget (s : State) (m a : Nat) (write : Bool) : Bool :=
  match targetOf s a with
  | .rom _ => m == 0
  | .spm x => spmOpen s m x && domOn s (spmDom x)
  | .dram x => reachDram m && (m != 6 || bar2Open s (.dram x)) && domOn s 25 && !(write && inFreeRing x && m != 3)
  | .reg off => regOpen s m off write && assigned off
  | .nothing => false
/-- An access that reaches nothing: a read returns 0, a write is discarded, and both are counted; SUP takes an access fault
beyond 4 GiB (Table 1-13). SUP alone reaches the boot ROM (Table 13-1): a read returns its bytes, a write is discarded (R43). An access
that reaches another target is none of these and does nothing here. -/
def strayAccess (m a size : Nat) (write : Bool) : State → State :=
  onIssue m (fun s =>
    if 2 ^ 32 ≤ a then (if m = 0 then { s with resp := ⟨0, 3⟩ } else s)
    else if hitsTarget s m a write then
      (match targetOf s a, write with
       | .rom x, false => { s with resp := ⟨ofBytes (memList s.rom x size), 0⟩ }
       | _, _ => s)
    else if write then countUnassigned s else noTarget s)
/-- R39, R43, R44, R419, R420. -/
def execUnassignedAccess (dt m a size : Nat) (write : Bool) (s : State) : Host.Outcome State Fault Refusal :=
  run s dt (strayAccess m a size write)
/-- A BAR2 access that finds its region closed. -/
def bar2Closed (w : Option Nat) (s : State) : State := if w.isSome then countUnassigned s else noTarget s
/-- An access through BAR2 (R45, R46), as master PCIE. -/
def bar2Go (x size : Nat) (w : Option Nat) (s : State) : State :=
  let a := f s BOOT_APT_region * 0x10000000 + x
  if !masterLive s 6 then s
  else match targetOf s a with
    | .spm y => spmAccess 6 y size w 0 false 0 s
    | .dram y => dramAccess 6 y size w s
    | .reg off =>
      if bar2Open s (.reg off) then (match w with | some v => regWrite 6 off size v s | none => regRead 6 off size s)
      else bar2Closed w s
    | _ => bar2Closed w s
/-- R45, R46. -/
def execBar2Access (dt x size : Nat) (w : Option Nat) (s : State) : Host.Outcome State Fault Refusal := run s dt (bar2Go x size w)

/-! ### Descriptors -/

/-- Does master DMA reach every one of `n` bytes from a supervisor address (Table 13-1)? -/
def dmaReach (s : State) (a n : Nat) : Bool :=
  match targetOf s a, targetOf s (a + n - 1) with
  | .spm x, .spm y => y == x + n - 1
  | .dram _, .dram _ => true
  | .reg x, .reg y => ((offWin x).isSome && (offWin y).isSome) ||
      (decide (0xF0000 ≤ x) && decide (y < 0x100000))
  | _, _ => false
/-- How many bytes of a range precede the first on a die that is offline (R447): those are moved before the ERR response. -/
def dmaGood (s : State) (a n : Nat) : Nat :=
  match targetOf s a with
  | .dram x =>
    if !domOn s 25 then n
    else if dieOff s (dieOf x) then 0
    else if dieOf x = 0 && dieOff s 1 then min n (0xC0000000 - x) else n
  | _ => n
/-- A register range in pieces of one word or one byte, aligned: offset and size. -/
def pieces : Nat → Nat → Nat → List (Nat × Nat)
  | 0, _, _ => []
  | k + 1, a, n =>
    if n = 0 then []
    else if a % 4 = 0 ∧ 4 ≤ n then (a, 4) :: pieces k (a + 4) (n - 4)
    else (a, 1) :: pieces k (a + 1) (n - 1)
/-- Read bytes as master DMA. -/
def dmaRead (a n : Nat) (s : State) : List Nat × State :=
  match targetOf s a with
  | .reg off =>
    (pieces n off n).foldl (fun p e =>
      let t := regRead 5 e.1 e.2 p.2
      (p.1 ++ leBytes e.2 t.resp.data, { t with resp := s.resp })) ([], s)
  | _ => (busGet s a n, busNote a s)
/-- Write bytes as master DMA (R442: the free rings take none). -/
def dmaWrite (a : Nat) (l : List Nat) (s : State) : State :=
  match targetOf s a with
  | .reg off => forEach (pieces l.length off l.length) (fun e t => regWrite 5 e.1 e.2 (fldAt l (e.1 - off) e.2) t) s
  | _ => busPut a l s
/-- A descriptor (Table 14-19). -/
structure Desc where
  src : Nat
  dst : Nat
  len : Nat
  flags : Nat
  pattern : Nat
  deriving DecidableEq, Repr
/-- The descriptor whose bytes are given. -/
def descOf (l : List Nat) : Desc := ⟨fldAt l 0 4, fldAt l 4 4, fldAt l 8 4, fldAt l 0xC 2, fldAt l 0x10 4⟩
/-- May a descriptor run (R492)? -/
def descOk (s : State) (d : Desc) : Bool :=
  d.flags.testBit 0 && decide (1 ≤ d.len) && decide (d.len ≤ 16777216) && dmaReach s d.dst d.len &&
    (d.flags.testBit 3 || dmaReach s d.src d.len) && (!d.flags.testBit 2 || (isCopy0 d.src && decide (d.len % 1024 = 0)))
/-- Checked reads tile by tile from tile `i` on (R492): the result, and the offset of the tile that ended it. -/
def dmaTiles (src dst : Nat) : Nat → Nat → State → Nat × Nat × State
  | 0, _, s => (0, 0, s)
  | k + 1, i, s =>
    let a := src + 1024 * i
    let s1 := checkedNote a s
    match checkTile s a with
    | .ok c =>
      if dmaGood s (dst + 1024 * i) 1024 < 1024 then (1, i, hwErr s1)
      else dmaTiles src dst k (i + 1) (dmaWrite (dst + 1024 * i) (dramList s (copyAddr a c) 1024) s1)
    | .noCopy => (2, i, s1)
    | .genConflict => (3, i, s1)
/-- What a descriptor moves (R492): its result, the failing tile, the state. -/
def descRun (d : Desc) (s : State) : Nat × Nat × State :=
  if !descOk s d then (4, 0, s)
  else if d.flags.testBit 2 && !d.flags.testBit 3 then dmaTiles d.src d.dst (d.len / 1024) 0 s
  else
    let n := min (dmaGood s d.dst d.len) (if d.flags.testBit 3 then d.len else dmaGood s d.src d.len)
    let t := if n = 0 then s
      else if d.flags.testBit 3 then dmaWrite d.dst ((List.range n).map (fun i => d.pattern / 256 ^ (i % 4) % 256)) s
      else
        let r := dmaRead d.src n s
        dmaWrite d.dst r.1 r.2
    if n < d.len then (1, 0, hwErr t) else (0, 0, t)
/-- Set a bit of a channel mask. -/
def chanBit (x : Fld) (c : Nat) (s : State) : State := setF x (f s x ||| 2 ^ c) s
/-- Complete the descriptor at a channel's head: status and tile are written, the head moves on (R492). -/
def descDone (c a : Nat) (d : Desc) (r tile : Nat) (s : State) : State :=
  let s1 := busPut (a + 0x14) (leBytes 4 tile) (busPut (a + 0xE) [1 + 2 * r] s)
  let s2 := setF (DMA_CH_HEAD_head c) ((f s (DMA_CH_HEAD_head c) + 1) % max 1 (f s (DMA_CH_CFG_entries c))) (setF (DMA_CH_STAT_result c) r s1)
  let s3 := dmaCount c (if d.flags.testBit 4 then chanBit DMA_DONE_done c s2 else s2)
  if r = 0 then s3 else chanBit DMA_ERR_halted c (setF (DMA_CH_STAT_halted c) 1 s3)
/-- The next descriptor of a channel (R492). -/
def dmaNext (c : Nat) (s : State) : State :=
  if masterLive s 5 && fb s DMA_CTRL_enable && !fb s (DMA_CH_STAT_halted c) && f s (DMA_CH_HEAD_head c) != f s (DMA_CH_TAIL_tail c) then
    let a := f s (DMA_CH_BASE_addr c) + 32 * f s (DMA_CH_HEAD_head c)
    let d := descOf (busGet s a 32)
    let r := descRun d (busNote a s)
    descDone c a d r.1 r.2.1 r.2.2
  else s
/-- R491 to R493. -/
def execDmaDescriptor (dt c : Nat) (s : State) : Host.Outcome State Fault Refusal := run s dt (dmaNext c)

/-! ### SMBus -/

/-- The SMBus target answers from the end of FUSE on (R458, R489); before, and under POR, it NACKs (code 2). -/
def smb (s : State) (dt : Nat) (g : State → State) : Host.Outcome State Fault Refusal :=
  if s.porOn then .next { elapse s dt with resp := ⟨0, 2⟩ }
  else run s dt (fun t => if bootState t = 0 then { t with resp := ⟨0, 2⟩ } else g t)
/-- Command 0x01. -/
def smbId (s : State) : State :=
  { s with resp := ⟨((List.range 5).map (fun i => regValue s 6 ([0, 4, 8, 0x10, 0x14].getD i 0) * 2 ^ (32 * i))).sum, 0⟩ }
/-- R489. -/
def execSmbReadId (dt : Nat) (s : State) : Host.Outcome State Fault Refusal := smb s dt smbId
/-- Command 0x02 (Table 14-13). -/
def smbStatus (s : State) : State :=
  { s with resp := ⟨bootState s + 8 * (inSafe s).toNat + 16 * devState s + 128 * f s GOV_STEP_step + 1024 * f s GOV_STAT_therm +
      2048 * (anyHeld s).toNat, 0⟩ }
/-- R489. -/
def execSmbReadStatus (dt : Nat) (s : State) : Host.Outcome State Fault Refusal := smb s dt smbStatus
/-- R358, R359, R489: a demand of every site, as the host's. -/
def execSmbTempDemand (dt : Nat) (s : State) : Host.Outcome State Fault Refusal :=
  smb s dt (fun t => { demandSites 0 (2 ^ 48 - 1) t with resp := ⟨0, 0⟩ })
/-- R489: 0x8000 for a site never sampled. -/
def execSmbReadSite (dt i : Nat) (s : State) : Host.Outcome State Fault Refusal :=
  smb s dt (fun t => { t with resp := ⟨if siteValid t i then f t (GOV_SITE_TEMP_temp i) else 0x8000, 0⟩ })
/-- SMB_ALERT_N is low while FAULT_N or THERM_N is (R489). -/
def alertLow (s : State) : Bool := faultNLow s || fb s GOV_STAT_therm
/-- R489. -/
def execSmbAlertResponse (dt : Nat) (s : State) : Host.Outcome State Fault Refusal :=
  smb s dt (fun t => { t with resp := if alertLow t then ⟨0x52, 0⟩ else ⟨0, 2⟩ })

end Sys2Proof.Machine
end

