-- ==== Sys2Proof/Machine/LightPorts.lean ====
section
/-! DEFINITION. Input ports: the evaluation of the summed headland power (R55, R56), LIT and DARK, OVER (R53), and the
outputs' changes between LIT and STARVED (R57, R59). Levels are in 0.5 dB below +13 dBm. -/
namespace Sys2Proof.Machine
open Sys2Proof.Config

/-- The summed power of an input's two headland sensors, referred to the fibre (R55; log 77), as a fraction of +13 dBm, Q1.15. -/
def portSum (s : State) (n : Nat) : Int := (fibreRef n (lastReading s 16 n + lastReading s 16 (256 + n)).toNat : Nat)
/-- Lit threshold of an input (R56, Table 14-8): value v for -10 - 0.5 v dBm. -/
def litLevel (s : State) (n : Nat) : Nat := 46 + amGet (fun _ => 28) s.litThr n
/-- Level below which the port counts as dark: the threshold less the hysteresis. -/
def darkLevel (s : State) (n : Nat) : Nat := litLevel s n + amGet (fun _ => 4) s.litHyst n
/-- Consecutive evaluations at or above the threshold, this one included, at most 4. -/
def nextHi (s : State) (n : Nat) : Nat := if atDb (portSum s n) 1 (litLevel s n) then min 4 (ctr s.hiRun n + 1) else 0
/-- Consecutive evaluations below the threshold less the hysteresis, at most 2. -/
def nextLo (s : State) (n : Nat) : Nat := if atDb (portSum s n) 1 (darkLevel s n) then 0 else min 2 (ctr s.loRun n + 1)
/-- The port's state after an evaluation (R55). -/
def nextLit (s : State) (n : Nat) : Bool :=
  if nextHi s n = 4 then true else if nextLo s n = 2 then false else s.lit.getLsbD n
/-- OVER after an evaluation (R53): set above +10.5 dBm, cleared below +10.0 dBm. -/
def nextOver (s : State) (n : Nat) : Bool :=
  if atDb (portSum s n) 1 5 then true else if atDb (portSum s n) 1 6 then s.overIn.getLsbD n else false

/-- One evaluation of input `n` (R55, R53, R59). -/
def portEval (n : Nat) (s : State) : State :=
  let lit' := nextLit s n
  let over' := nextOver s n
  let was := s.overIn.getLsbD n
  let changed := lit' != s.lit.getLsbD n || over' != was
  let t : State := { s with
    hiRun := ctrPut s.hiRun n (nextHi s n), loRun := ctrPut s.loRun n (nextLo s n)
    lit := putBit s.lit n lit', overIn := putBit s.overIn n over' }
  onlyIf (over' && !was) (sendMsix 29) (onlyIf changed (reportIn n) (reportOuts s t))

/-- An evaluation of input `n` that `go` admits, on what its sensors' conversions up to now show, while the input headland is
powered. -/
def portCmd (n : Nat) (go : State → Bool) (s : State) : State :=
  if domOn s 16 then
    let u := runConv 16 s
    if go u then portEval n u else u
  else s
/-- R55, R53: an evaluation. -/
def execPortEvaluation (dt n : Nat) (_ _ _ : Unit) (s : State) : Host.Outcome State Fault Refusal :=
  run s dt (portCmd n (fun _ => true))
/-- R55, R57: the evaluation that makes the port LIT. -/
def execPortLit (dt n : Nat) (_ _ _ : Unit) (s : State) : Host.Outcome State Fault Refusal :=
  run s dt (portCmd n (fun u => !u.lit.getLsbD n && nextLit u n))
/-- R55, R57: the evaluation that makes the port DARK. -/
def execPortDark (dt n : Nat) (_ _ _ : Unit) (s : State) : Host.Outcome State Fault Refusal :=
  run s dt (portCmd n (fun u => u.lit.getLsbD n && !nextLit u n))

end Sys2Proof.Machine
end

