-- ==== Sys2Proof/Machine/Dispatch.lean ====
section
/-! DEFINITION. One arm per command: a direct call of its meaning, or its refusal by name. -/
namespace Sys2Proof.Machine

/-- The effect of a command on everything but the queue. -/
def exec (i : Instr) (s : State) : Host.Outcome State Fault Refusal :=
  match i with
  | .registerWrite dt m a size v => Sys2Proof.Machine.execRegisterWrite dt m a size v s
  | .rcRead dt m a size => Sys2Proof.Machine.execRcRead dt m a size s
  | .unassignedAccess dt m a size write => Sys2Proof.Machine.execUnassignedAccess dt m a size write s
  | .bar2Access dt x size w => Sys2Proof.Machine.execBar2Access dt x size w s
  | .portEvaluation dt n a b sum => Sys2Proof.Machine.execPortEvaluation dt n a b sum s
  | .portLit dt n a b sum => Sys2Proof.Machine.execPortLit dt n a b sum s
  | .portDark dt n a b sum => Sys2Proof.Machine.execPortDark dt n a b sum s
  | .fairQueueSelect dt => Sys2Proof.Machine.execFairQueueSelect dt s
  | .scheduledRelease dt => Sys2Proof.Machine.execScheduledRelease dt s
  | .solveComplete dt fault => Sys2Proof.Machine.execSolveComplete dt fault s
  | .solveWatchdog dt => Sys2Proof.Machine.execSolveWatchdog dt s
  | .fwSolveComplete dt mismatch => Sys2Proof.Machine.execFwSolveComplete dt mismatch s
  | .hwEnWrite dt m v => Sys2Proof.Machine.execHwEnWrite dt m v s
  | .mapCapture dt m n => Sys2Proof.Machine.execMapCapture dt m n s
  | .mapCaptureCopy dt => Sys2Proof.Machine.execMapCaptureCopy dt s
  | .mapValidate dt m n => Sys2Proof.Machine.execMapValidate dt m n s
  | .membershipClose dt => Sys2Proof.Machine.execMembershipClose dt s
  | .commitTick dt => Sys2Proof.Machine.execCommitTick dt s
  | .routingWaveformStart dt => Sys2Proof.Machine.execRoutingWaveformStart dt s
  | .verifyStrobe dt latched urgent => Sys2Proof.Machine.execVerifyStrobe dt latched urgent s
  | .verifyDecision dt => Sys2Proof.Machine.execVerifyDecision dt s
  | .gateOpen dt => Sys2Proof.Machine.execGateOpen dt s
  | .commitComplete dt => Sys2Proof.Machine.execCommitComplete dt s
  | .unseenLateVerify dt out outA outB => Sys2Proof.Machine.execUnseenLateVerify dt out outA outB s
  | .burstWrite dt m v => Sys2Proof.Machine.execBurstWrite dt m v s
  | .tbCtrlWrite dt m b v => Sys2Proof.Machine.execTbCtrlWrite dt m b v s
  | .tbSnap dt m => Sys2Proof.Machine.execTbSnap dt m s
  | .tbFreqWrite dt m b v => Sys2Proof.Machine.execTbFreqWrite dt m b v s
  | .tbAdjStep dt m b frac => Sys2Proof.Machine.execTbAdjStep dt m b frac s
  | .tbAdjSlew dt m b frac => Sys2Proof.Machine.execTbAdjSlew dt m b frac s
  | .slewEnd dt b => Sys2Proof.Machine.execSlewEnd dt b s
  | .tbCmdAcquire dt m b => Sys2Proof.Machine.execTbCmdAcquire dt m b s
  | .tbCmdLocked dt m b => Sys2Proof.Machine.execTbCmdLocked dt m b s
  | .tbCmdHoldover dt m b => Sys2Proof.Machine.execTbCmdHoldover dt m b s
  | .tbCmdFree dt m b => Sys2Proof.Machine.execTbCmdFree dt m b s
  | .tbServoWatchdog dt b => Sys2Proof.Machine.execTbServoWatchdog dt b s
  | .ppsInEdge dt => Sys2Proof.Machine.execPpsInEdge dt s
  | .ppsMissing dt b => Sys2Proof.Machine.execPpsMissing dt b s
  | .holdoverLimit dt b => Sys2Proof.Machine.execHoldoverLimit dt b s
  | .tsqPop dt m n => Sys2Proof.Machine.execTsqPop dt m n s
  | .ppsOutPulse dt => Sys2Proof.Machine.execPpsOutPulse dt s
  | .rotArm dt m t => Sys2Proof.Machine.execRotArm dt m t s
  | .rotStart dt m t => Sys2Proof.Machine.execRotStart dt m t s
  | .rotStopHold dt m t => Sys2Proof.Machine.execRotStopHold dt m t s
  | .rotStopDark dt m t => Sys2Proof.Machine.execRotStopDark dt m t s
  | .rotDiscard dt m t => Sys2Proof.Machine.execRotDiscard dt m t s
  | .rotFirstCommit dt => Sys2Proof.Machine.execRotFirstCommit dt s
  | .rotSlotBoundary dt => Sys2Proof.Machine.execRotSlotBoundary dt s
  | .rotLoadArm dt => Sys2Proof.Machine.execRotLoadArm dt s
  | .rotLoadStart dt => Sys2Proof.Machine.execRotLoadStart dt s
  | .rotLoadStopHold dt => Sys2Proof.Machine.execRotLoadStopHold dt s
  | .rotLoadStopDark dt => Sys2Proof.Machine.execRotLoadStopDark dt s
  | .rotLoadDiscard dt => Sys2Proof.Machine.execRotLoadDiscard dt s
  | .rotLoadWriteArm dt => Sys2Proof.Machine.execRotLoadWriteArm dt s
  | .frameBoundary dt samples => Sys2Proof.Machine.execFrameBoundary dt samples s
  | .leaseExpire dt w => Sys2Proof.Machine.execLeaseExpire dt w s
  | .quarterBoundary dt q samples refs => Sys2Proof.Machine.execQuarterBoundary dt q samples refs s
  | .loopUpdate dt w sl cmp r0 r1 => Sys2Proof.Machine.execLoopUpdate dt w sl cmp r0 r1 s
  | .loopDeadlineMiss dt w sl => Sys2Proof.Machine.execLoopDeadlineMiss dt w sl s
  | .quickQuarter dt t0 k samples => Sys2Proof.Machine.execQuickQuarter dt t0 k samples s
  | .quickUpdate dt w sl n cmp r0 r1 => Sys2Proof.Machine.execQuickUpdate dt w sl n cmp r0 r1 s
  | .engineRepair dt m w k => Sys2Proof.Machine.execEngineRepair dt m w k s
  | .engineResyncDone dt w k agree => Sys2Proof.Machine.execEngineResyncDone dt w k agree s
  | .pairRun dt m w => Sys2Proof.Machine.execPairRun dt m w s
  | .pairStop dt m w => Sys2Proof.Machine.execPairStop dt m w s
  | .traceArm dt m w => Sys2Proof.Machine.execTraceArm dt m w s
  | .traceForce dt m w => Sys2Proof.Machine.execTraceForce dt m w s
  | .traceTrigger dt w => Sys2Proof.Machine.execTraceTrigger dt w s
  | .tracePostDone dt w => Sys2Proof.Machine.execTracePostDone dt w s
  | .codeTick dt w ch => Sys2Proof.Machine.execCodeTick dt w ch s
  | .deglitchRelease dt w ch settled => Sys2Proof.Machine.execDeglitchRelease dt w ch settled s
  | .slewLimiterStep dt w ch => Sys2Proof.Machine.execSlewLimiterStep dt w ch s
  | .swCodePush dt m w ch v => Sys2Proof.Machine.execSwCodePush dt m w ch v s
  | .rangeWrite dt m w ch v => Sys2Proof.Machine.execRangeWrite dt m w ch v s
  | .rangeApply dt w ch => Sys2Proof.Machine.execRangeApply dt w ch s
  | .segWrite dt m w ch v => Sys2Proof.Machine.execSegWrite dt m w ch v s
  | .segmentTakeover dt w ch => Sys2Proof.Machine.execSegmentTakeover dt w ch s
  | .gateMonitorFail dt w ch => Sys2Proof.Machine.execGateMonitorFail dt w ch s
  | .heaterOpen dt w ch => Sys2Proof.Machine.execHeaterOpen dt w ch s
  | .heaterShort dt w ch => Sys2Proof.Machine.execHeaterShort dt w ch s
  | .htrShortClear dt m w ch => Sys2Proof.Machine.execHtrShortClear dt m w ch s
  | .testPlay dt m w ch wave len => Sys2Proof.Machine.execTestPlay dt m w ch wave len s
  | .seedGo dt m w settle => Sys2Proof.Machine.execSeedGo dt m w settle s
  | .seedSettled dt w => Sys2Proof.Machine.execSeedSettled dt w s
  | .sampleMissed dt w ix => Sys2Proof.Machine.execSampleMissed dt w ix s
  | .windowLeave dt w ix stay => Sys2Proof.Machine.execWindowLeave dt w ix stay s
  | .sliceFail dt w k trim => Sys2Proof.Machine.execSliceFail dt w k trim s
  | .bgCalTurn dt w => Sys2Proof.Machine.execBgCalTurn dt w s
  | .bgCalDone dt w trims refs => Sys2Proof.Machine.execBgCalDone dt w trims refs s
  | .electrodeFail dt w ix bias cells => Sys2Proof.Machine.execElectrodeFail dt w ix bias cells s
  | .reserveElectrodeFail dt w e => Sys2Proof.Machine.execReserveElectrodeFail dt w e s
  | .reserveSelect dt m w ix b => Sys2Proof.Machine.execReserveSelect dt m w ix b s
  | .calVerify dt m => Sys2Proof.Machine.execCalVerify dt m s
  | .calVerifyDone dt => Sys2Proof.Machine.execCalVerifyDone dt s
  | .calActivate dt m => Sys2Proof.Machine.execCalActivate dt m s
  | .calInvalidate dt m => Sys2Proof.Machine.execCalInvalidate dt m s
  | .workingSetLoad dt w => Sys2Proof.Machine.execWorkingSetLoad dt w s
  | .sensorHalfSwap dt w => Sys2Proof.Machine.execSensorHalfSwap dt w s
  | .calMark dt m w sl force => Sys2Proof.Machine.execCalMark dt m w sl force s
  | .calEnd dt m w sl => Sys2Proof.Machine.execCalEnd dt m w sl s
  | .calAbandon dt m w sl => Sys2Proof.Machine.execCalAbandon dt m w sl s
  | .calStaleLimit dt w sl => Sys2Proof.Machine.execCalStaleLimit dt w sl s
  | .linkUp dt p => Sys2Proof.Machine.execLinkUp dt p s
  | .linkDown dt p ber => Sys2Proof.Machine.execLinkDown dt p ber s
  | .frameReceive dt p l fcsOk => Sys2Proof.Machine.execFrameReceive dt p l fcsOk s
  | .frameTransmit dt p => Sys2Proof.Machine.execFrameTransmit dt p s
  | .sheafReq dt => Sys2Proof.Machine.execSheafReq dt s
  | .query dt => Sys2Proof.Machine.execQuery dt s
  | .heartbeat dt => Sys2Proof.Machine.execHeartbeat dt s
  | .heartbeatPeriodic dt => Sys2Proof.Machine.execHeartbeatPeriodic dt s
  | .telemSend dt t => Sys2Proof.Machine.execTelemSend dt t s
  | .keyLoad dt m t slot => Sys2Proof.Machine.execKeyLoad dt m t slot s
  | .keyErase dt m t slot => Sys2Proof.Machine.execKeyErase dt m t slot s
  | .instanceWrite dt m v => Sys2Proof.Machine.execInstanceWrite dt m v s
  | .tenantWeightZero dt m t => Sys2Proof.Machine.execTenantWeightZero dt m t s
  | .queueSample dt => Sys2Proof.Machine.execQueueSample dt s
  | .histClear dt m => Sys2Proof.Machine.execHistClear dt m s
  | .tempDemandWrite dt m hi v => Sys2Proof.Machine.execTempDemandWrite dt m hi v s
  | .demandTimer dt => Sys2Proof.Machine.execDemandTimer dt s
  | .tempConversionDone dt t => Sys2Proof.Machine.execTempConversionDone dt t s
  | .stepFall dt => Sys2Proof.Machine.execStepFall dt s
  | .heaterBudgetEval dt => Sys2Proof.Machine.execHeaterBudgetEval dt s
  | .floorWrite dt m n => Sys2Proof.Machine.execFloorWrite dt m n s
  | .stepTableWrite dt m n isRate v => Sys2Proof.Machine.execStepTableWrite dt m n isRate v s
  | .domainWake dt d => Sys2Proof.Machine.execDomainWake dt d s
  | .domainSleep dt d n k => Sys2Proof.Machine.execDomainSleep dt d n k s
  | .domainFail dt d n k => Sys2Proof.Machine.execDomainFail dt d n k s
  | .domainRetry dt m d => Sys2Proof.Machine.execDomainRetry dt m d s
  | .fallowWrite dt m v => Sys2Proof.Machine.execFallowWrite dt m v s
  | .devReqRun dt m => Sys2Proof.Machine.execDevReqRun dt m s
  | .devReqPark dt m => Sys2Proof.Machine.execDevReqPark dt m s
  | .devReqStandby dt m => Sys2Proof.Machine.execDevReqStandby dt m s
  | .parkEnter dt => Sys2Proof.Machine.execParkEnter dt s
  | .parkWaitTimeout dt => Sys2Proof.Machine.execParkWaitTimeout dt s
  | .standbyEnter dt => Sys2Proof.Machine.execStandbyEnter dt s
  | .wakeComplete dt => Sys2Proof.Machine.execWakeComplete dt s
  | .vaonLoss dt => Sys2Proof.Machine.execVaonLoss dt s
  | .escalationExpiry dt n => Sys2Proof.Machine.execEscalationExpiry dt n s
  | .faultAck dt m n => Sys2Proof.Machine.execFaultAck dt m n s
  | .escalatedClear dt m n => Sys2Proof.Machine.execEscalatedClear dt m n s
  | .safeEnterCmd dt m => Sys2Proof.Machine.execSafeEnterCmd dt m s
  | .safeRelease dt m => Sys2Proof.Machine.execSafeRelease dt m s
  | .fltLock dt m => Sys2Proof.Machine.execFltLock dt m s
  | .collectorSelfFault dt p0 v0 p1 v1 => Sys2Proof.Machine.execCollectorSelfFault dt p0 v0 p1 v1 s
  | .aliveToggle dt => Sys2Proof.Machine.execAliveToggle dt s
  | .serveSet dt m => Sys2Proof.Machine.execServeSet dt m s
  | .supplyOutOfRange dt n => Sys2Proof.Machine.execSupplyOutOfRange dt n s
  | .supplyCheckArm dt => Sys2Proof.Machine.execSupplyCheckArm dt s
  | .supDiverge dt disagree f0 f1 => Sys2Proof.Machine.execSupDiverge dt disagree f0 f1 s
  | .supLeaseRenew dt => Sys2Proof.Machine.execSupLeaseRenew dt s
  | .supLeaseExpire dt => Sys2Proof.Machine.execSupLeaseExpire dt s
  | .supCoreRepair dt m a b => Sys2Proof.Machine.execSupCoreRepair dt m a b s
  | .supResyncDone dt k agree => Sys2Proof.Machine.execSupResyncDone dt k agree s
  | .hostFence dt => Sys2Proof.Machine.execHostFence dt s
  | .hostFenceComplete dt => Sys2Proof.Machine.execHostFenceComplete dt s
  | .barrier dt m => Sys2Proof.Machine.execBarrier dt m s
  | .barrierComplete dt m => Sys2Proof.Machine.execBarrierComplete dt m s
  | .remapWrite dt m v => Sys2Proof.Machine.execRemapWrite dt m v s
  | .remapApply dt => Sys2Proof.Machine.execRemapApply dt s
  | .busModeWrite dt m v => Sys2Proof.Machine.execBusModeWrite dt m v s
  | .busModeApply dt => Sys2Proof.Machine.execBusModeApply dt s
  | .scratchpadAccess dt m a size w waits same par => Sys2Proof.Machine.execScratchpadAccess dt m a size w waits same par s
  | .atomicOp dt m a op size v => Sys2Proof.Machine.execAtomicOp dt m a op size v s
  | .conflictRateWindow dt => Sys2Proof.Machine.execConflictRateWindow dt s
  | .harrowPass dt => Sys2Proof.Machine.execHarrowPass dt s
  | .harrowPassDone dt fails => Sys2Proof.Machine.execHarrowPassDone dt fails s
  | .repairFuseBlow dt m b e c => Sys2Proof.Machine.execRepairFuseBlow dt m b e c s
  | .dramAccess dt m a size w => Sys2Proof.Machine.execDramAccess dt m a size w s
  | .checkedRead dt m a => Sys2Proof.Machine.execCheckedRead dt m a s
  | .dieCheck dt bad0 bad1 => Sys2Proof.Machine.execDieCheck dt bad0 bad1 s
  | .bpmAlloc dt m sub size => Sys2Proof.Machine.execBpmAlloc dt m sub size s
  | .bpmFree dt m sub h => Sys2Proof.Machine.execBpmFree dt m sub h s
  | .bpmGive dt m sub h => Sys2Proof.Machine.execBpmGive dt m sub h s
  | .bpmCacheRefill dt p => Sys2Proof.Machine.execBpmCacheRefill dt p s
  | .bpmReady dt => Sys2Proof.Machine.execBpmReady dt s
  | .domainReset dt m d n => Sys2Proof.Machine.execDomainReset dt m d n s
  | .fuseSense dt fixed bad => Sys2Proof.Machine.execFuseSense dt fixed bad s
  | .romReady dt => Sys2Proof.Machine.execRomReady dt s
  | .fwVerify dt m => Sys2Proof.Machine.execFwVerify dt m s
  | .fwVerifyDone dt => Sys2Proof.Machine.execFwVerifyDone dt s
  | .planApply dt m => Sys2Proof.Machine.execPlanApply dt m s
  | .planApplyDone dt => Sys2Proof.Machine.execPlanApplyDone dt s
  | .planReapply dt m mask => Sys2Proof.Machine.execPlanReapply dt m mask s
  | .fuseProgramSlot dt m sl => Sys2Proof.Machine.execFuseProgramSlot dt m sl s
  | .fuseRevokeSlot dt m sl => Sys2Proof.Machine.execFuseRevokeSlot dt m sl s
  | .fuseBlowSeal dt m => Sys2Proof.Machine.execFuseBlowSeal dt m s
  | .attest dt m => Sys2Proof.Machine.execAttest dt m s
  | .attestDone dt => Sys2Proof.Machine.execAttestDone dt s
  | .debugAttempt dt => Sys2Proof.Machine.execDebugAttempt dt s
  | .porAssert dt => Sys2Proof.Machine.execPorAssert dt s
  | .porEnd dt => Sys2Proof.Machine.execPorEnd dt s
  | .aonResetRelease dt bm => Sys2Proof.Machine.execAonResetRelease dt bm s
  | .warmReset dt pin m bm ab => Sys2Proof.Machine.execWarmReset dt pin m bm ab s
  | .holdExpire dt => Sys2Proof.Machine.execHoldExpire dt s
  | .perst dt n k => Sys2Proof.Machine.execPerst dt n k s
  | .functionLevelReset dt n k => Sys2Proof.Machine.execFunctionLevelReset dt n k s
  | .supReset dt m => Sys2Proof.Machine.execSupReset dt m s
  | .smbReadId dt => Sys2Proof.Machine.execSmbReadId dt s
  | .smbReadStatus dt => Sys2Proof.Machine.execSmbReadStatus dt s
  | .smbTempDemand dt => Sys2Proof.Machine.execSmbTempDemand dt s
  | .smbReadSite dt ix => Sys2Proof.Machine.execSmbReadSite dt ix s
  | .smbAlertResponse dt => Sys2Proof.Machine.execSmbAlertResponse dt s
  | .dmaDescriptor dt c => Sys2Proof.Machine.execDmaDescriptor dt c s
  | .dmaResume dt m c => Sys2Proof.Machine.execDmaResume dt m c s
  | .dmaChannelReset dt m c n => Sys2Proof.Machine.execDmaChannelReset dt m c n s
  | .glnArm dt m n => Sys2Proof.Machine.execGlnArm dt m n s
  | .glnStop dt m n => Sys2Proof.Machine.execGlnStop dt m n s
  | .glnForce dt m n => Sys2Proof.Machine.execGlnForce dt m n s
  | .glnMuxSettled dt n => Sys2Proof.Machine.execGlnMuxSettled dt n s
  | .glnPreFilled dt n => Sys2Proof.Machine.execGlnPreFilled dt n s
  | .glnTrigger dt n rising => Sys2Proof.Machine.execGlnTrigger dt n rising s
  | .glnRecordComplete dt n anchor samples => Sys2Proof.Machine.execGlnRecordComplete dt n anchor samples s
  | .glnDonePop dt m n => Sys2Proof.Machine.execGlnDonePop dt m n s
  | .glnSampleLost dt n => Sys2Proof.Machine.execGlnSampleLost dt n s
  | .tickPhaseMeasurement dt => Sys2Proof.Machine.execTickPhaseMeasurement dt s
  | .supplyBackInRange dt n => Sys2Proof.Machine.execSupplyBackInRange dt n s
  | .vpkBelowPowerGood dt below => Sys2Proof.Machine.execVpkBelowPowerGood dt below s
  | .vhtrBelowPowerGood dt n below => Sys2Proof.Machine.execVhtrBelowPowerGood dt n below s
  | .fuseCommandComplete dt got => Sys2Proof.Machine.execFuseCommandComplete dt got s
  | .repairBlowComplete dt got => Sys2Proof.Machine.execRepairBlowComplete dt got s
  | .rstNRelease dt bm => Sys2Proof.Machine.execRstNRelease dt bm s
  | .perstNRelease dt => Sys2Proof.Machine.execPerstNRelease dt s
  | .dramReadTimeout dt m d => Sys2Proof.Machine.execDramReadTimeout dt m d s
  | .heaterPowerReport dt w mv slots pw => Sys2Proof.Machine.execHeaterPowerReport dt w mv slots pw s
  | .tapInstruction dt k => Sys2Proof.Machine.execTapInstruction dt k s

end Sys2Proof.Machine
end

