-- ==== Sys2Proof/Safety.lean ====
section
/-! DEFINITION. The terms in which claims speak of a command's effect: that it completes, what it may change, and what a
safe run is. -/
namespace Sys2Proof.Machine
open Sys2Proof.Config

/-- The command completes in the state, and what it leaves satisfies `P`. -/
def Completes (c : Instr) (s : State) (P : State → Prop) : Prop :=
  ∃ t, exec c s = .next t ∧ P t

/-- Every register outside `but` reads as before; DMA_MSIX_PEND apart, which the vectors' conditions write (R541). -/
def RegsKept (but : List Nat) (s t : State) : Prop :=
  ∀ o, o ∉ but → o ≠ DMA_MSIX_PEND_pending.off → rd t o = rd s o

/-- The same, with the registers of the collector's block FLT, which a raise writes (R391, R392), left out too. -/
def RegsKeptFlt (but : List Nat) (s t : State) : Prop :=
  ∀ o, o ∉ but → o ≠ DMA_MSIX_PEND_pending.off → ¬ (0x20000 ≤ o ∧ o < 0x30000) → rd t o = rd s o

/-- `dt` has passed and nothing else but registers and the vectors' messages, sent and owed, has changed: every buffer, queue,
memory byte and engine state stands as it stood. (`hwSet` notes which of the registers' bits were set in this cycle, R14.) -/
def OnlyRegs (s : State) (dt : Nat) (t : State) : Prop :=
  t = { elapse s dt with regs := t.regs, hwSet := t.hwSet, msix := t.msix, msixDue := t.msixDue }

/-- The same with the access's answer. -/
def OnlyRegsResp (s : State) (dt : Nat) (t : State) : Prop :=
  t = { elapse s dt with regs := t.regs, hwSet := t.hwSet, msix := t.msix, msixDue := t.msixDue, resp := t.resp }

/-- Every memory byte, buffer and transaction state of the memories stands as it stood. -/
def MemKept (s t : State) : Prop := t.toMemPart = s.toMemPart

/-- No message that could leave is owed: while PD24 is up, a vector with its pending bit set is masked (R541). -/
def OwedMasked (s : State) : Prop :=
  pd24Up s = true → ∀ v < 32, (f s DMA_MSIX_PEND_pending).testBit v = true → f s (DMA_MSIX_word v 3) % 2 = 1

/-- Every memory of the module is in canonical form, and so is the register store. -/
def StoresCanonical (s : State) : Prop :=
  amWf regReset s.regs = true ∧ Memory.wf s.dram = true ∧ Memory.wf s.spm = true ∧ Memory.wf s.sram = true ∧
    Memory.wf s.rom = true ∧ Memory.wf s.elec = true ∧ Memory.wf s.bias = true

/-- A safe run, in the terms of the claims: from `s`, no command of the queue stops the machine within `n` steps. -/
def RunsOn : Nat → State → Prop
  | 0, _ => True
  | n + 1, s => ∃ t, step s = .next t ∧ RunsOn n t

/-- The hardware has set none of a field's bits in the present cycle, so software may clear them (R14). -/
def Unheld (s : State) (x : Fld) : Prop := heldBits s x.off / 2 ^ x.lsb % 2 ^ x.wid = 0

/-! ### Terms of single statements -/

/-- The registers the next statement is about: plain registers of ten blocks, none with a rule of its own, with fields
of the codes RW, RO, W1C and RWL. -/
def samplePlain : List Nat :=
  [0x50014, 0x30034, 0x20030, 0x61000, 0x4011C, 0x4015C, 0x60004, 0xE0004, 0xE000C, 0xF0200, 0x80000, 0xD0004]

/-- R53, R55, R56, R57. What each of the three evaluations keeps of the state `u` in which it acts. -/
def LightFrame (n : Nat) (u t : State) : Prop :=
  t = { u with
    regs := t.regs, hwSet := t.hwSet, msix := t.msix, msixDue := t.msixDue, telemQ := t.telemQ, telemLost := t.telemLost, hiRun := t.hiRun, loRun := t.loRun,
    lit := t.lit, overIn := t.overIn } ∧
  RegsKept [] u t ∧ (∀ k, k ≠ n → t.lit.getLsbD k = u.lit.getLsbD k ∧ t.overIn.getLsbD k = u.overIn.getLsbD k)

/-- SUP can command table `k` through ROT_CMD. -/
def SupMayRotate (s : State) (k : Nat) : Prop := s.porOn = false ∧ k < 16 ∧ masterLive s 0 = true ∧ domOn s 20 = true
/-- The state in which SUP's command `op` of table `k` acts. -/
def supRot (s : State) (dt op k : Nat) : State := setF ROT_CMD_op op (setF ROT_CMD_table k (elapse s dt))
/-- The message at the front is a ROT_LOAD with command `op` of table `k`, of a tenant that may act on the bank (R340). -/
def MsgMayRotate (s : State) (op k : Nat) (u : Urp) (l : List Urp) : Prop :=
  s.porOn = false ∧ k < 16 ∧ s.urpIn = u :: l ∧ u.type = 6 ∧ byteAt u.body 0 = k ∧ byteAt u.body 1 = op ∧ domOn s 21 = true ∧
    rotMine s u (if op = 1 ∨ op = 5 then 1 else 0) = true
/-- The state in which that message's command acts. -/
def msgRot (s : State) (dt : Nat) (l : List Urp) : State := { elapse s dt with urpIn := l }

/-- The safe state stands in `t` after an instant that `u` describes: entered there with the cause, source and form given, unless
it stood already (R402 to R404). -/
def EntersSafe (u t : State) (cause src : Nat) (dark : Bool) : Prop :=
  inSafe t = true ∧
  (inSafe u = true → f t FLT_STAT_cause = f u FLT_STAT_cause ∧ f t FLT_STAT_dark_active = f u FLT_STAT_dark_active ∧
    t.present = u.present ∧ t.rot = u.rot ∧ t.accepted = u.accepted) ∧
  (inSafe u = false →
    f t FLT_STAT_cause = cause ∧ f t FLT_STAT_cause_src = src ∧ f t FLT_STAT_dark_active = dark.toNat ∧
    f t FLT_SAFE_NS_ns = tNs (tbNow u 0) ∧ f t FLT_SAFE_SL_sec_low = tSec (tbNow u 0) % 2 ^ 32 ∧
    t.accepted = [] ∧ t.ready = [] ∧ t.sched = [] ∧ t.queues = [] ∧ t.closed = none ∧ t.rot = none ∧ t.commit = u.commit ∧
    devState t = (if devState u = 1 then 0 else devState u) ∧
    (dark = true → u.commit = none → t.present.circs = [] ∧ ∀ o < 256, t.gateOpen.getLsbD o = false) ∧
    (dark = false → t.gateOpen = u.gateOpen ∧
      (u.rot = none → (∀ p, u.closed = some p → p.dark = false) → t.present = u.present)))

/-- What BOOT_RESULT reads (Table 14-20). -/
def ResultIs (t : State) (e : BootErr) : Prop :=
  f t BOOT_RESULT_code = e.code % 256 ∧ f t BOOT_RESULT_section = e.sec % 256 ∧ f t BOOT_RESULT_tile = e.tile % 65536 ∧ t.bootBusy = 0

end Sys2Proof.Machine
end

