-- ==== Sys2Proof/Certificates/Slice0/Obligations.lean ====
section
/-! DEFINITION. The statements for the provers, in the order of the spec's chapters; the first four are about the block
as a whole. Each is a proposition; nothing is proved here. -/
open Sys2Proof Sys2Proof.Machine Sys2Proof.Config

/-- The queue's convention; that an empty queue idles is the model's choice (log 2). -/
def Obligations.TheFrontCommandTakesEffect : Prop :=
  ∀ (c : Instr) (s : State) (rest : List Instr),
    step { s with pending := c :: rest } = exec c { s with pending := rest } ∧
    (s.pending = [] → step s = .next s)

/-- R458, R488, R525 and the registers' tables. The fuses' contents, which the spec leaves to the part, are not stated. -/
def Obligations.ResetLeavesTheStatedValues : Prop :=
  let s := State.reset
  bootState s = 0 ∧ devState s = 0 ∧ inSafe s = false ∧ (∀ d < 30, domOn s d = false) ∧ s.pending = [] ∧
  s.present = {} ∧ s.projected = {} ∧ s.commit = none ∧ s.accepted = [] ∧ s.sched = [] ∧ s.barriers = [] ∧ anyHeld s = false ∧
  (∀ e ∈ [(CMT_SOLVE_CTRL_hw_en.off, 0x51), (CMT_LEAD_lead_us.off, 10), (CMT_CTRL_coalesce.off, 0x71),
      (CMT_EBKT_BURST_burst.off, 1000000), (ROT_CTRL_admit_us.off, 10), (ID_VENDOR_vendor.off, 1095583826),
      ((PLOT_LOOP_LIM_out_min 0 0).off, 0x7FFF8000), ((PLOT_LOOP_STAT_mode 3 1).off, 3), (REQ_CTRL_urp_en.off, 0xC0A90002),
      ((ETH_CTRL_enable 1).off, 8), (GOV_CTRL_timer.off, 0x0A0804), (GOV_DOM_STAT_on.off, 0),
      ((GOV_THR_rate 47 3).off, 0x1E2710), (FLT_CTRL_serve.off, 4), (BUS_MODE_mode.off, 1), (BUS_REMAP_remap.off, 0),
      ((BUS_QOS_qos 1).off, 14), (DRC_CTRL_repair_en.off, 0x101), (DMA_CTRL_enable.off, 1), (BOOT_STAT_state.off, 0),
      (BOOT_HOLD_hold.off, 0x640000), (BOOT_APT_region.off, 8), ((GLN_CH_DEPTH_pre 7).off, 0xC000400)],
    (rd s e.1).toNat = e.2) ∧
  StoresCanonical s ∧ OwedMasked s

/-- R482: the one stop; and that ordinary data never ends a run. -/
def Obligations.EveryCommandCompletesButVendorDebug : Prop :=
  ∀ (c : Instr) (s : State),
    (∀ dt k, c = .tapInstruction dt k → 4 ≤ k → debugMay s = true → exec c s = .refused .vendorDebug) ∧
    ((∀ dt k, c = .tapInstruction dt k → 4 ≤ k → debugMay s = false) →
      ∃ t, exec c s = .next t ∧ t.pending = s.pending ∧ t.fuVariant = s.fuVariant ∧ t.fuUnit = s.fuUnit)

/-- R541, over every command, with a queue of any content. -/
def Obligations.NoUnmaskedMessageIsOwed : Prop :=
  ∀ s t : State, OwedMasked s → step s = .next t → OwedMasked t

/-- R13 and Table 0-5, with R14: a W1C bit that the hardware set in the cycle of the write ends set. -/
def Obligations.RegisterWriteActsByAccessCode : Prop :=
  ∀ (s : State) (dt off v : Nat) (r : Row), s.porOn = false → masterLive s 0 = true → off ∈ samplePlain →
    blockOn s off = true → rowFor off = some r → v < 2 ^ 32 →
    Completes (.registerWrite dt 0 off 4 v) s fun t =>
      OnlyRegs s dt t ∧ RegsKept [off] s t ∧ ∀ x ∈ r.flds,
        let y : Fld := ⟨off, x.lsb, x.wid⟩
        let n := v / 2 ^ x.lsb % 2 ^ x.wid
        f t y = match x.acc with
          | .rw => n
          | .wo => n
          | .rwl => if sealed s then f s y else n
          | .w1c => f s y - (f s y &&& n &&& (2 ^ x.wid - 1 - heldBits (elapse s dt) off / 2 ^ x.lsb % 2 ^ x.wid))
          | .ro => f s y
          | .rc => f s y

/-- R12: the narrow write is discarded and the register keeps its value. R542, R12, for a watermark and for a longest
duration, which keeps what the hardware set in the cycle of the read (R14). -/
def Obligations.NarrowWriteDiscardedAndCountsRestartOnRead : Prop :=
  (∀ (s : State) (dt a size v : Nat), s.porOn = false → masterLive s 0 = true → blockOn s a = true →
    sramAt a = none → inTrace a = false → assigned a = true → size = 1 ∨ size = 2 →
    Completes (.registerWrite dt 0 a size v) s fun t => OnlyRegs s dt t ∧ RegsKept [] s t) ∧
  (∀ (s : State) (dt : Nat), s.porOn = false → masterLive s 0 = true → domOn s 20 = true → s.sched.length ≤ 1024 →
    Completes (.rcRead dt 0 0x6000C 4) s fun t =>
      OnlyRegsResp s dt t ∧ RegsKept [0x6000C] s t ∧
      t.resp.data % 2 ^ 11 = s.sched.length ∧ t.resp.data / 2 ^ 16 % 2 ^ 11 = f s CMT_SCHED_STAT_high_water ∧
      t.resp.code = 0 ∧
      f t CMT_SCHED_STAT_high_water = s.sched.length) ∧
  (∀ (s : State) (dt : Nat), s.porOn = false → masterLive s 0 = true → domOn s 20 = true →
    Completes (.rcRead dt 0 0x60020 4) s fun t =>
      OnlyRegsResp s dt t ∧ RegsKept [0x60020] s t ∧
      t.resp.data % 65536 = f s CMT_SOLVE_TMAX_tmax_ns ∧ t.resp.code = 0 ∧
      f t CMT_SOLVE_TMAX_tmax_ns = if heldBits (elapse s dt) 0x60020 % 65536 = 0 then 0 else f s CMT_SOLVE_TMAX_tmax_ns)

/-- R39. -/
def Obligations.UnassignedAccessCompletesAndCounts : Prop :=
  ∀ (s : State) (dt off size : Nat) (write : Bool), s.porOn = false → masterLive s 0 = true →
    (0x100000 ≤ off ∧ off < 0x1000000) ∨ (off < 0x4000000 ∧ blockOn s off = false) →
    Completes (.unassignedAccess dt 0 (0x40000000 + off) size write) s fun t =>
      OnlyRegsResp s dt t ∧ RegsKept [BUS_CNT_UNASSIGNED_count.off] s t ∧
      f t BUS_CNT_UNASSIGNED_count = (f s BUS_CNT_UNASSIGNED_count + 1) % 2 ^ 32 ∧
      t.resp = if write then s.resp else ⟨0, 0⟩

/-- R45, R46. -/
def Obligations.Bar2AccessReachesTheSelectedRegion : Prop :=
  ∀ (s : State) (dt x size : Nat), s.porOn = false → pd24Up s = true → s.barriers.contains 6 = false → bootState s = 6 →
    domOn s 25 = true → 8 ≤ f s BOOT_APT_region → x + size ≤ 0x10000000 → 0 < size →
    dieOff s (dieOf (f s BOOT_APT_region * 0x10000000 + x)) = false →
    Completes (.bar2Access dt x size none) s (fun t =>
      OnlyRegsResp s dt t ∧ RegsKept [] s t ∧ t.resp = ⟨dramVal s (f s BOOT_APT_region * 0x10000000 + x) size, 0⟩ ∧
      ((∀ i < size, inFreeRing (f s BOOT_APT_region * 0x10000000 + x + i) = false) →
        t.resp.data = memRead s.dram (f s BOOT_APT_region * 0x10000000 + x) size)) ∧
    ∀ v, calActive s = false → (∀ i < size, inFreeRing (f s BOOT_APT_region * 0x10000000 + x + i) = false) →
      Completes (.bar2Access dt x size (some v)) s fun t =>
        (∀ i < size, memGet t.dram (f s BOOT_APT_region * 0x10000000 + x + i) = BitVec.ofNat 8 (v / 256 ^ i)) ∧
        (∀ a, a < f s BOOT_APT_region * 0x10000000 + x ∨ f s BOOT_APT_region * 0x10000000 + x + size ≤ a →
          memGet t.dram a = memGet s.dram a) ∧
        t.spm = s.spm ∧ t.sram = s.sram ∧ t.rom = s.rom

/-- R53, R55, R56, R57. `u` is the state in which the conversions that have ended are carried out; a level `e` stands for
13 - e/2 dBm; what the sum is, referred to the fibre, is a free value (log 77). -/
def Obligations.InputPortLitDarkAndOver : Prop :=
  ∀ (s : State) (dt n : Nat), s.porOn = false → domOn s 16 = true → n < 256 →
    let u := runConv 16 (elapse s dt)
    let atLeast (e : Nat) : Bool := atDb (fibreRef n (lastReading u 16 n + lastReading u 16 (256 + n)).toNat) 1 e
    (s.lit.getLsbD n = false → ctr s.hiRun n = 3 →
      Completes (.portLit dt n () () ()) s fun t => LightFrame n u t ∧ t.lit.getLsbD n = atLeast (litLevel s n) ∧
        (atLeast (litLevel s n) = true → ctr t.hiRun n = 4)) ∧
    (s.lit.getLsbD n = true → ctr s.loRun n = 1 →
      Completes (.portDark dt n () () ()) s fun t => LightFrame n u t ∧ t.lit.getLsbD n = atLeast (darkLevel s n) ∧
        (atLeast (darkLevel s n) = false → ctr t.loRun n = 2)) ∧
    Completes (.portEvaluation dt n () () ()) s fun t => LightFrame n u t ∧
      ctr t.hiRun n = (if atLeast (litLevel s n) then min 4 (ctr s.hiRun n + 1) else 0) ∧
      ctr t.loRun n = (if atLeast (darkLevel s n) then 0 else min 2 (ctr s.loRun n + 1)) ∧
      t.lit.getLsbD n = (if ctr t.hiRun n = 4 then true else if ctr t.loRun n = 2 then false else s.lit.getLsbD n) ∧
      t.overIn.getLsbD n = (atLeast 5 || (atLeast 6 && s.overIn.getLsbD n)) ∧
      (atLeast 5 = true → s.overIn.getLsbD n = false → pd24Up s = true → f s (DMA_MSIX_word 29 3) % 2 = 0 → 29 ∈ t.msix)

/-- R75, of the path of R74 over the wiring of R73. -/
def Obligations.EveryMiddleRowGivesAPathFromInputToOutput : Prop :=
  ∀ i o m : Nat, i < 256 → o < 256 → m < 128 →
    let hs := path i o m
    hs.length = 15 ∧
    (∀ j < 15, ∃ h, hs[j]? = some h ∧ h.col = j ∧ h.inL < 256 ∧ h.outL / 2 = h.inL / 2 ∧
      (j = 0 → h.inL = portLine i) ∧ (j = 7 → h.inL / 2 = m) ∧ (j = 14 → h.outL = portLine o) ∧
      (∀ g, hs[j + 1]? = some g → g.inL = nextLine j h.outL)) ∧
    ∀ m', m' < 128 → m' ≠ m → path i o m' ≠ hs

/-- R73 to R77, R126: the verifier's tracing of the cells agrees with the paths the solver binds. -/
def Obligations.BoundCellsCarryLightToTheOutput : Prop :=
  (∀ (m : MapSt) (i o mid : Nat), i < 256 → o < 256 → mid < 128 →
    (∀ h ∈ path i o mid, cellAt m (hopCell h) = hopCross h) → reaches m i = o) ∧
  (∀ (m : MapSt) (c : Circuit), c.inp < 256 → c.out < 256 → c.mid < 128 →
    reaches (placeCirc c m) c.inp = c.out ∧
    (∀ d ∈ m.circs, d.inp < 256 → d.out < 256 → d.mid < 128 → d.out ≠ c.out →
      (∀ h ∈ circPath d, cellAt m (hopCell h) = hopCross h) → fits (circPath c) [circPath d] = true →
      d ∈ (placeCirc c m).circs ∧ reaches (placeCirc c m) d.inp = d.out) ∧
    ∀ d ∈ (placeCirc c m).circs, d = c ∨ d ∈ m.circs)

/-- R352, R91, R87, R90, R412. -/
def Obligations.FairQueueServesTheLeastFinishTime : Prop :=
  (∀ (s : State) (dt : Nat), s.porOn = false → swStopped s = true →
    Completes (.fairQueueSelect dt) s fun t => RegsKept [] s t ∧ OnlyRegs s dt t) ∧
  (∀ (s : State) (dt : Nat), s.porOn = false → (∃ x ∈ s.sched, schedReady (elapse s dt) x = true) →
    Completes (.fairQueueSelect dt) s fun t => RegsKept [] s t ∧ OnlyRegs s dt t) ∧
  ∀ (s : State) (dt k : Nat) (sh : Sheaf) (rest : List Sheaf), s.porOn = false → s.solving = none → s.ready = [] →
    swStopped s = false → domOn s 20 = true → domOn s 21 = true → amWf (fun _ => []) s.queues = true →
    queueOf s k = sh :: rest → fenceWait s sh = false → (∀ x ∈ s.sched, schedReady (elapse s dt) x = false) →
    (sh.at_ = none → sh.ops ≠ [] →
      (∀ j y l, j ≠ k → queueOf s j = y :: l → fenceWait s y = false →
        let d (x : Sheaf) : Nat := (x.finish + 2 ^ 48 + 2 ^ 47 - s.vtime) % 2 ^ 48
        d sh < d y ∨ (d sh = d y ∧ k < j)) →
      Completes (.fairQueueSelect dt) s fun t =>
        t.solving = some { sheaf := sh, fw := !fb s CMT_SOLVE_CTRL_hw_en, since := s.clk.now + dt, dead := if s.rot.isSome then 4 else 0 } ∧
        t.vtime = sh.finish ∧ ctr t.lastFin k = sh.finish ∧ (queueOf t k).map (·.uid) = rest.map (·.uid) ∧
        (∀ j, j ≠ k → queueOf t j = queueOf s j) ∧ RegsKept [] s t ∧
        t = { elapse s dt with
          regs := t.regs, hwSet := t.hwSet, msix := t.msix, msixDue := t.msixDue, solving := t.solving, vtime := t.vtime, lastFin := t.lastFin, queues := t.queues }) ∧
    (∀ a, sh.at_ = some a → rest = [] → (∀ j, j ≠ k → queueOf s j = []) → s.sched.length < 1024 →
      tbEnabled s a.tb = true → a.inst ≤ sh.arrTb + 2 ^ 32 * nsUnit →
      Completes (.fairQueueSelect dt) s fun t =>
        t.sched = s.sched ++ [sh] ∧ t.solving = none ∧ queueOf t k = [] ∧ t.vtime = sh.finish ∧
        RegsKept [CMT_SCHED_STAT_high_water.off] s t ∧
        t = { elapse s dt with
          regs := t.regs, hwSet := t.hwSet, msix := t.msix, msixDue := t.msixDue, sched := t.sched, vtime := t.vtime, lastFin := t.lastFin, queues := t.queues })

/-- R87. -/
def Obligations.ScheduledSheafLeavesForTheSolver : Prop :=
  ∀ (s : State) (dt : Nat) (sh : Sheaf) (a : AtSpec) (l r : List Sheaf), s.porOn = false → s.solving = none → s.ready = [] →
    swStopped s = false → domOn s 20 = true → s.sched = l ++ sh :: r → sh.at_ = some a → sh.ops ≠ [] → tbEnabled s a.tb = true →
    a.inst ≤ tbNow (elapse s dt) a.tb + f s CMT_LEAD_lead_us * (1000 * nsUnit) →
    (∀ x ∈ l ++ r, x.uid ≠ sh.uid ∧ ∃ b, x.at_ = some b ∧ tbEnabled s b.tb = true ∧
      tbNow (elapse s dt) b.tb + f s CMT_LEAD_lead_us * (1000 * nsUnit) < b.inst) →
    Completes (.scheduledRelease dt) s fun t =>
      t.sched = l ++ r ∧
      t.solving = some { sheaf := sh, fw := !fb s CMT_SOLVE_CTRL_hw_en, since := s.clk.now + dt, dead := if s.rot.isSome then 4 else 0 } ∧
      RegsKept [] s t ∧
      t = { elapse s dt with regs := t.regs, hwSet := t.hwSet, msix := t.msix, msixDue := t.msixDue, sched := t.sched, solving := t.solving }

/-- R84, R90, R98, R101, R121, R122, R138, R177, R348, R412. -/
def Obligations.SolveEndsAcceptedOrRefusedWhole : Prop :=
  ∀ (s : State) (dt : Nat) (v : Solving) (c : Instr), s.porOn = false → domOn s 20 = true → s.ready = [] → s.solving = some v →
    ((v.fw = false ∧ s.clk.now + dt ≤ v.since + 12 * us ∧ c = .solveComplete dt 0) ∨
      (v.fw = true ∧ fb s FLT_SUP_STAT_no_holder = false ∧ c = .fwSolveComplete dt false)) →
    let kept (t : State) : Prop :=
      t.projected = s.projected ∧ t.present = s.present ∧ t.accepted = s.accepted ∧ t.solving = none ∧ t.dram = s.dram ∧ t.spm = s.spm
    (v.dead = 0 → s.rot = none →
      (∀ w moved incs full, solveOf s v.sheaf = .ok w moved incs full →
        let a := acceptedOf (elapse s dt) v.sheaf v.fw w moved
        (acceptReason (elapse s dt) a = 0 →
          Completes c s fun t =>
            t.projected = w.map ∧ t.present = s.present ∧ t.solving = none ∧ MemKept s t ∧ t.accepted = s.accepted ++ [a] ∧
            a.sheaf = v.sheaf ∧ a.fw = v.fw ∧ a.removed = w.removed ∧ a.moved = moved ∧
            a.added = w.map.circs.filter (fun x => w.added.contains x.out) ∧ a.accAt = s.clk.now + dt ∧
            f t CMT_CNT_INC_count = (f s CMT_CNT_INC_count + incs) % 2 ^ 32 ∧
            f t CMT_CNT_MOVED_count = (f s CMT_CNT_MOVED_count + moved.length) % 2 ^ 32) ∧
        (acceptReason (elapse s dt) a ≠ 0 → Completes c s kept)) ∧
      (∀ r k, solveOf s v.sheaf = .refused r k →
        Completes c s fun t => kept t ∧ f t CMT_SOLVE_STAT_last_reason = r % 256)) ∧
    (v.dead ≠ 0 → Completes c s fun t => kept t ∧ f t CMT_SOLVE_STAT_last_reason = v.dead % 256) ∧
    (v.dead = 0 → s.rot.isSome = true → Completes c s fun t => kept t ∧ f t CMT_SOLVE_STAT_last_reason = 4) ∧
    (v.dead = 0 → s.rot = none → v.fw = true →
      Completes (.fwSolveComplete dt true) s fun t => kept t ∧ f t CMT_SOLVE_STAT_last_reason = 0x0A) ∧
    ∀ (r : State) (mismatch : Bool), r.porOn = false → fb r FLT_SUP_STAT_no_holder = true →
      Completes (.fwSolveComplete dt mismatch) r fun t => RegsKept [] r t ∧ OnlyRegs r dt t

/-- R100, R102. -/
def Obligations.HardwareSolverFailureHandsOverToFirmware : Prop :=
  (∀ (s : State) (dt : Nat) (v : Solving), s.porOn = false → domOn s 20 = true → s.solving = some v → v.fw = false →
    sevOf s 13 < 4 →
    let now := s.clk.now + dt
    let limit := v.since + 12 * us
    ∀ p ∈ [(Instr.solveWatchdog dt, CMT_SOLVE_STAT_fail_timeout, max now limit)] ++
        (if now ≤ limit then
          [(Instr.solveComplete dt 1, CMT_SOLVE_STAT_fail_mismatch, now), (Instr.solveComplete dt 2, CMT_SOLVE_STAT_fail_parity, now)]
        else [0, 1, 2].map (fun k => (Instr.solveComplete dt k, CMT_SOLVE_STAT_fail_timeout, now))),
      Completes p.1 s fun t =>
        f t CMT_SOLVE_CTRL_hw_en = 0 ∧ f t CMT_SOLVE_STAT_hw_fail = 1 ∧ f t p.2.1 = 1 ∧
        t.clk.now = p.2.2 ∧ t.solving = some { v with fw := true, since := t.clk.now } ∧
        RegsKeptFlt [CMT_SOLVE_CTRL_hw_en.off, CMT_SOLVE_STAT_hw_fail.off] s t ∧
        t = { s with
          regs := t.regs, hwSet := t.hwSet, msix := t.msix, msixDue := t.msixDue, clk := t.clk, solving := t.solving, toFaultPart := t.toFaultPart }) ∧
  (∀ (s : State) (dt v : Nat), s.porOn = false → masterLive s 0 = true → domOn s 20 = true →
    Completes (.hwEnWrite dt 0 v) s fun t =>
      f t CMT_SOLVE_CTRL_hw_en = v % 2 ∧ f t CMT_SOLVE_CTRL_inc_limit = v / 16 % 16 ∧
      RegsKept [CMT_SOLVE_CTRL_hw_en.off] s t ∧ OnlyRegs s dt t)

/-- R106, R107, R108. -/
def Obligations.MapCommandsCaptureAndValidate : Prop :=
  ∀ (s : State) (dt n : Nat), s.porOn = false → domOn s 20 = true → n < 4096 →
    (masterLive s 0 = true → f s CMT_MAP_STAT_busy = 0 →
      Completes (.mapCapture dt 0 n) s (fun t =>
        f t CMT_MAP_STAT_busy = 1 ∧ f t CMT_MAP_STAT_map = n ∧ f t CMT_MAP_CMD_op = 1 ∧ f t CMT_MAP_CMD_map = n ∧
        t.captureWait = some n ∧ RegsKept [CMT_MAP_CMD_op.off, CMT_MAP_STAT_busy.off] s t ∧
        t = { elapse s dt with regs := t.regs, hwSet := t.hwSet, msix := t.msix, msixDue := t.msixDue, captureWait := t.captureWait }) ∧
      Completes (.mapValidate dt 0 n) s fun t =>
        f t CMT_MAP_STAT_busy = 0 ∧ f t CMT_MAP_STAT_map = n ∧ f t CMT_MAP_CMD_op = 2 ∧ f t CMT_MAP_CMD_map = n ∧
        f t CMT_MAP_STAT_result = (validateMap s n).code % 16 ∧ f t CMT_MAP_GEN_generation = (validateMap s n).gen % 2 ^ 32 ∧
        (checkTile s (mapAddr n 0) = .noCopy → f t CMT_MAP_STAT_result = 1) ∧
        (checkTile s (mapAddr n 0) = .genConflict → checkTile s (mapAddr n 1) ≠ .noCopy → f t CMT_MAP_STAT_result = 2)) ∧
    (s.commit.isSome = true → Completes (.mapCaptureCopy dt) s fun t => RegsKept [] s t ∧ OnlyRegs s dt t) ∧
    (s.commit = none → s.captureWait = some n → sevOf s 16 < 4 → sevOf s 17 < 4 → sevOf s 25 < 4 →
      Completes (.mapCaptureCopy dt) s fun t =>
        f t CMT_MAP_STAT_busy = 0 ∧ f t CMT_MAP_STAT_map = n ∧ t.captureWait = none ∧ t.present = s.present ∧
        f t CMT_MAP_GEN_generation = captureGen s n % 2 ^ 32 ∧
        (domOn s 25 = true → (∀ d < 2, dieOff t d = false) → ∀ c < 2,
          memList t.dram (copyAddr (mapAddr n 0) c) 1024 = (captureTile0 s n (captureGen s n)).map (· % 256) ∧
          memList t.dram (copyAddr (mapAddr n 1) c) 1024 = (captureTile1 s n (captureGen s n)).map (· % 256)) ∧
        (∀ a, (a < mapAddr n 0 ∨ mapAddr n 0 + 2048 ≤ a) → (a < mapAddr n 0 + 0x40000000 ∨ mapAddr n 0 + 0x40000000 + 2048 ≤ a) →
          memGet t.dram a = memGet s.dram a) ∧
        t.spm = s.spm ∧ t.sram = s.sram)

/-- R123, R125, R126, R127. -/
def Obligations.MembershipClosesTwoHundredNanosecondsBefore : Prop :=
  ∀ (s : State) (dt : Nat) (a : Accepted) (l : List Accepted), s.porOn = false → domOn s 20 = true → inSafe s = false →
    s.closed = none → s.commit = none → s.accepted = a :: l → f s CMT_CTRL_coalesce = 0 →
    let tick := match s.lastT0 with | some k => max a.tick (k + 50) | none => a.tick
    let after := applyAll s.present [a]
    let bad (c : Circuit) : Prop := reaches after c.inp ≠ c.out ∨ ownsIn s c.holder c.inp = false ∨ ownsOut s c.holder c.out = false
    ((∀ c ∈ after.circs, ¬ bad c) →
      Completes (.membershipClose dt) s fun t =>
        t.clk.now = max (s.clk.now + dt) (tick * 200 - 2000) ∧ t.present = s.present ∧ t.projected = s.projected ∧
        t.accepted = s.accepted ∧ t.commit = none ∧ MemKept s t ∧
        ∃ p, t.closed = some p ∧ p.tick = tick ∧ p.members = [a] ∧ p.before = s.present ∧ p.after = after ∧
          p.rot = none ∧ p.dark = false) ∧
    ((∃ c ∈ after.circs, bad c) → sevOf s 12 < 4 →
      Completes (.membershipClose dt) s fun t =>
        t.closed = none ∧ t.commit = none ∧ t.accepted = [] ∧ t.projected = s.present ∧ t.present = s.present)

/-- R111, R124, R139. -/
def Obligations.CommitTickFiresWhenTheShaperPermits : Prop :=
  ∀ (s : State) (dt : Nat) (p : CommitPlan), s.porOn = false → domOn s 20 = true → inSafe s = false → s.commit = none →
    s.captureWait = none → s.closed = some p → p.before = s.present → p.dark = false →
    (∀ c ∈ p.after.circs, reaches p.after c.inp = c.out ∧ ownsIn s c.holder c.inp = true ∧ ownsOut s c.holder c.out = true) →
    0 ≤ s.shLevel → s.shStamp ≤ s.clk.now → sevOf s 15 < 4 → sevOf s 46 < 4 → sevOf s 47 < 4 →
    Completes (.commitTick dt) s fun t =>
      let k := max p.tick ((s.clk.now + dt + 199) / 200)
      t.clk.now = k * 200 ∧ t.closed = none ∧ t.lastT0 = some k ∧ t.present = s.present ∧
      t.accepted = s.accepted.drop p.members.length ∧
      t.shLevel = max (-21474836480000) (min ((f s CMT_EBKT_BURST_burst : Int) * 10000)
        (s.shLevel + (f s CMT_EBKT_RATE_rate : Int) * ((k * 200 : Nat) - (s.shStamp : Int))) - p.cost) ∧
      (∀ o < 256, t.gateOpen.getLsbD o = (s.gateOpen.getLsbD o && !p.affected.contains o)) ∧
      ∃ c, t.commit = some c ∧ c.t0 = k ∧ c.phase = .fired ∧ c.plan.after = p.after ∧ c.plan.members = p.members ∧
        c.wasOpen = p.affected.filter (fun o => s.gateOpen.getLsbD o)

/-- R111, R113, R114, R128, R129, R130, R145, Table 4-1. -/
def Obligations.CommitTimelineFromRoutingToCompletion : Prop :=
  ∀ (s : State) (dt : Nat) (c : Commit), s.porOn = false → s.commit = some c →
    let at_ (off : Nat) : Nat := max (s.clk.now + dt) (c.t0 * 200 + off)
    (c.phase = .fired →
      Completes (.routingWaveformStart dt) s fun t =>
        t.clk.now = at_ 800 ∧ t.commit = some { c with phase := .routed } ∧ t.present = s.present ∧ t.gateOpen = s.gateOpen ∧ MemKept s t ∧
        ∀ r e, c.plan.waves.filter (fun x => decide (x.win < 16)) = [r] → r.cEnd = some e → domOn s (winDomain r.win) = true →
          winHeld s r.win = false →
          (chanOf t r.win r.slot).queue = [] ∧ (chanOf t r.win r.slot).wave.length = r.pts.length - 1 + 1 ∧
          (chanOf t r.win r.slot).wave.getLast? = some (satInt 16 e) ∧ (loopOf t r.win r.slot).c = e) ∧
    (c.phase = .routed → ∀ latched urgent,
      Completes (.verifyStrobe dt latched urgent) s fun t =>
        t.clk.now = at_ 2800 ∧ t.present = s.present ∧ t.gateOpen = s.gateOpen ∧ MemKept s t ∧
        ∃ vers, t.commit = some { c with phase := .strobed, vers := vers } ∧ vers.map (·.out) = c.plan.changed.map (·.out) ∧
          vers.map (·.verdict) = (List.range c.plan.changed.length).map
            (fun k => verdictOf c.plan.ver (c.inPow.getD k (0, 0)) (latched.getD k (0, 0)))) ∧
    (c.phase = .strobed → (∀ v ∈ c.vers, v.verdict ≠ .fail) →
      Completes (.verifyDecision dt) s fun t =>
        t.clk.now = at_ 3400 ∧ t.commit = some { c with phase := .decided } ∧ t.present = s.present ∧
        t.projected = s.projected ∧ t.gateOpen = s.gateOpen ∧ RegsKept [CMT_CNT_UNSEEN_count.off] s t) ∧
    (c.phase = .strobed → ∀ x v, c.plan.changed = [x] → c.vers = [v] → v.verdict = .fail → sevOf s 12 < 4 →
      Completes (.verifyDecision dt) s fun t =>
        t.clk.now = at_ 3400 ∧ t.present = s.present ∧ f t CMT_CNT_VFAIL_count = (f s CMT_CNT_VFAIL_count + 1) % 2 ^ 32 ∧
        ∃ d, t.commit = some d ∧ d.phase = .decided ∧ d.plan.after = dropSame x c.plan.after) ∧
    (c.phase = .decided →
      Completes (.gateOpen dt) s fun t =>
        t.clk.now = at_ 3600 ∧ t.commit = some { c with phase := .opened } ∧ t.present = s.present ∧
        ∀ o < 256, t.gateOpen.getLsbD o =
          (s.gateOpen.getLsbD o || c.vers.any (fun v => v.out == o && v.verdict != .fail))) ∧
    (c.phase = .opened → c.plan.rot = none → inSafe s = false →
      Completes (.commitComplete dt) s fun t =>
        t.clk.now = at_ 5000 ∧ t.commit = none ∧ t.present = c.plan.after ∧ t.gateOpen = s.gateOpen ∧
        f t CMT_LAST_SEQ_seq = (f s CMT_LAST_SEQ_seq + 1) % 2 ^ 32 ∧
        f t CMT_CNT_COMMITS_count = (f s CMT_CNT_COMMITS_count + 1) % 2 ^ 32 ∧
        f t CMT_LAST_INFO_changed = c.plan.changed.length % 512)

/-- R131, R141. `u` is the state in which the conversions that have ended are carried out. -/
def Obligations.UnseenCircuitsAreCheckedLate : Prop :=
  (∀ (s : State) (dt o : Nat) (c : Circuit), s.porOn = false → domOn s 20 = true → o < 256 →
    onOut s.present o = some c → s.unseen.contains o = true →
    let u := runConv 17 (runConv 16 (elapse s dt))
    let cfg := rd s CMT_VER_CFG_plane_min.off
    let p := inReadings u c
    let q := (normReading u 17 o, normReading u 17 (256 + o))
    (qualifies cfg p.1 || qualifies cfg p.2) = true →
    (verdictOf cfg p q = .pass →
      Completes (.unseenLateVerify dt o () ()) s fun t =>
        t.unseen.contains o = false ∧ RegsKept [] u t ∧
        t = { u with regs := t.regs, hwSet := t.hwSet, msix := t.msix, msixDue := t.msixDue, unseen := t.unseen }) ∧
    (verdictOf cfg p q ≠ .pass → sevOf s 12 < 4 →
      Completes (.unseenLateVerify dt o () ()) s fun t =>
        t.unseen.contains o = false ∧ t.present = dropSame c s.present ∧ t.gateOpen.getLsbD o = false ∧
        (∀ x < 256, x ≠ o → t.gateOpen.getLsbD x = s.gateOpen.getLsbD x) ∧
        f t CMT_CNT_VFAIL_count = (f s CMT_CNT_VFAIL_count + 1) % 2 ^ 32)) ∧
  (∀ (s : State) (dt v : Nat), s.porOn = false → masterLive s 0 = true → domOn s 20 = true →
    Completes (.burstWrite dt 0 v) s fun t =>
      f t CMT_EBKT_BURST_burst = max 1 (v % 2 ^ 31) ∧
      t.shLevel = min (((max 1 (v % 2 ^ 31) : Nat) : Int) * 10000) (shNow (elapse s dt)) ∧ t.shStamp = s.clk.now + dt ∧
      RegsKept [CMT_EBKT_BURST_burst.off] s t ∧
      t = { elapse s dt with regs := t.regs, hwSet := t.hwSet, msix := t.msix, msixDue := t.msixDue, shLevel := t.shLevel, shStamp := t.shStamp })

/-- R148 to R152, R157, R160. -/
def Obligations.TimeBasesEnableSnapAndFrequency : Prop :=
  ∀ (s : State) (dt b : Nat), s.porOn = false → masterLive s 0 = true → 1 ≤ b → b < 4 →
    let u := toTbEdge (elapse s dt)
    (∀ v, tbEnabled s b = false → v % 2 = 1 → ctrlClash s b v = false →
      Completes (.tbCtrlWrite dt 0 b v) s fun t =>
        tbEnabled t b = true ∧ tbNow t b = tbNow u 0 ∧ (tbGet t.clk b).st = .free ∧
        f t (TIME_TB_FREQ_freq b) = 0 ∧ f t (TIME_TB_CTRL_source b) = v / 2 % 4 ∧ MemKept s t) ∧
    (∀ v, tbEnabled s b = true → v % 2 = 0 →
      Completes (.tbCtrlWrite dt 0 b v) s fun t =>
        tbEnabled t b = baseNamed s b ∧
        (baseNamed s b = false → f t (TIME_TB_SNAP_NS_ns b) = 0 ∧ f t (TIME_TB_SNAP_SL_sec_low b) = 0)) ∧
    (∀ v, Completes (.tbCtrlWrite dt 0 0 v) s fun t => OnlyRegs s dt t ∧ RegsKept [] s t) ∧
    Completes (.tbSnap dt 0) s (fun t =>
      t = { u with regs := t.regs, hwSet := t.hwSet, msix := t.msix, msixDue := t.msixDue } ∧
      ∀ k < 4, f t (TIME_TB_SNAP_F_frac_ns k) = tFrac (tbNow u k) ∧ f t (TIME_TB_SNAP_NS_ns k) = tNs (tbNow u k) ∧
        f t (TIME_TB_SNAP_SL_sec_low k) + 2 ^ 32 * f t (TIME_TB_SNAP_SH_sec_high k) = tSec (tbNow u k)) ∧
    ∀ v, v < 2 ^ 32 → Completes (.tbFreqWrite dt 0 b v) s fun t =>
      if (tbGet s.clk b).st = .holdover then OnlyRegs s dt t ∧ RegsKept [] s t
      else f t (TIME_TB_FREQ_freq b) = v ∧ RegsKept [(TIME_TB_FREQ_freq b).off] s t ∧
        t = { elapse s dt with regs := t.regs, hwSet := t.hwSet, msix := t.msix, msixDue := t.msixDue, clk := t.clk } ∧ (tbGet t.clk b).servoAt = s.clk.now + dt

/-- R153, R159. The offset is in 2^-40 ns. -/
def Obligations.OffsetsStepOrSlewABase : Prop :=
  ∀ (s : State) (dt b frac : Nat), s.porOn = false → masterLive s 0 = true → 1 ≤ b → b < 4 → frac < 65536 →
    tbEnabled s b = true → (tbGet s.clk b).st ≠ .holdover → rotNames s b = false →
    let u := toTbEdge (elapse s dt)
    let off : Int := fInt s (TIME_TB_ADJ_offset_ns b) * 2 ^ 40 + (frac : Int) * 2 ^ 24
    (f s (TIME_TB_CTRL_allow_step b) = 1 →
      Completes (.tbAdjStep dt 0 b frac) s fun t =>
        (tbGet t.clk b).val = ((tbGet u.clk b).val + off).toNat % Config.tbWrap ∧ (tbGet t.clk b).slewRem = 0 ∧
        (∀ k < 4, k ≠ b → tbNow t k = tbNow u k) ∧ RegsKept [(TIME_TB_ADJ_CMD_go b).off] s t ∧ MemKept s t) ∧
    (∀ c ∈ [Instr.tbAdjSlew dt 0 b frac] ++ (if f s (TIME_TB_CTRL_allow_step b) = 0 then [Instr.tbAdjStep dt 0 b frac] else []),
      Completes c s fun t =>
        (tbGet t.clk b).val = (tbGet (elapse s dt).clk b).val ∧ (tbGet t.clk b).slewRem = off ∧
        RegsKept [(TIME_TB_ADJ_CMD_go b).off] s t ∧ t = { elapse s dt with regs := t.regs, hwSet := t.hwSet, msix := t.msix, msixDue := t.msixDue, clk := t.clk }) ∧
    ((tbGet (elapse s dt).clk b).slewRem ≠ 0 →
      slewStep (tbFreq s b) (f s (TIME_TB_SLEW_slew_ppm b)) (tbGet (elapse s dt).clk b).slewRem ≠ 0 →
      Completes (.slewEnd dt b) s fun t =>
        (tbGet t.clk b).slewRem = 0 ∧ s.clk.now + dt ≤ t.clk.now ∧ RegsKept [] s t ∧
        t = { elapse s dt with regs := t.regs, hwSet := t.hwSet, msix := t.msix, msixDue := t.msixDue, clk := t.clk })

/-- R154 to R158, Table 5-1. -/
def Obligations.BaseStatesFollowRequestsAndWatchdogs : Prop :=
  ∀ (s : State) (dt b : Nat), s.porOn = false → masterLive s 0 = true → 1 ≤ b → b < 4 → sevOf s 26 < 4 → sevOf s 27 < 4 →
    let st := (tbGet s.clk b).st
    let frame (t : State) : Prop := RegsKeptFlt [] s t ∧
      t = { s with regs := t.regs, hwSet := t.hwSet, msix := t.msix, msixDue := t.msixDue, clk := t.clk, toFaultPart := t.toFaultPart } ∧
      ∀ k < 4, k ≠ b → (tbGet t.clk k).st = (tbGet s.clk k).st
    let goes (c : Instr) (x : TbState) : Prop := Completes c s fun t => (tbGet t.clk b).st = x ∧ frame t
    (tbSource s b ≠ 0 → st = .free ∨ st = .holdover → goes (.tbCmdAcquire dt 0 b) .acquire) ∧
    (st = .acquire ∨ st = .holdover → goes (.tbCmdLocked dt 0 b) .locked) ∧
    (st = .acquire ∨ st = .locked → Completes (.tbCmdHoldover dt 0 b) s fun t =>
      (tbGet t.clk b).st = .holdover ∧ (tbGet t.clk b).cause = 1 ∧ frame t) ∧
    goes (.tbCmdFree dt 0 b) .free ∧
    (st = .locked → goes (.tbCmdAcquire dt 0 b) .locked ∧ goes (.tbCmdLocked dt 0 b) .locked) ∧
    (st = .free → goes (.tbCmdLocked dt 0 b) .free ∧ goes (.tbCmdHoldover dt 0 b) .free) ∧
    (st = .acquire ∨ st = .locked → tbSource s b = 1 → f s (TIME_TB_WDOG_wdog_ms b) ≠ 0 →
      Completes (.tbServoWatchdog dt b) s fun t =>
        (tbGet t.clk b).st = .holdover ∧ (tbGet t.clk b).cause = 2 ∧ frame t ∧
        t.clk.now = max (s.clk.now + dt) ((tbGet s.clk b).servoAt + f s (TIME_TB_WDOG_wdog_ms b) * 10000000)) ∧
    (st = .locked → tbSource s b = 2 →
      Completes (.ppsMissing dt b) s fun t =>
        (tbGet t.clk b).st = .holdover ∧ (tbGet t.clk b).cause = 3 ∧ frame t ∧
        t.clk.now = max (s.clk.now + dt) ((tbGet s.clk b).ppsAt + 15000000000)) ∧
    (st = .holdover → (tbGet s.clk b).longDone = false →
      Completes (.holdoverLimit dt b) s fun t =>
        (tbGet t.clk b).st = .holdover ∧ (tbGet t.clk b).longDone = true ∧ frame t ∧
        t.clk.now = max (s.clk.now + dt) ((tbGet s.clk b).holdStart + f s (TIME_TB_HOLD_limit_s b) * 10000000000))

/-- R156, R162, R164, R166, R168. The base in a rejected edge is the one the edge's stamp is read on. -/
def Obligations.PulsesAndTimestampsOfThePins : Prop :=
  ∀ (s : State) (dt : Nat), s.porOn = false →
    (ppsBase s = 0 →
      Completes (.ppsInEdge dt) s fun t =>
        f t TIME_PPS_CNT_accepted = (f s TIME_PPS_CNT_accepted + 1) % 2 ^ TIME_PPS_CNT_accepted.wid ∧
        f t TIME_PPS_CNT_rejected = f s TIME_PPS_CNT_rejected ∧ MemKept s t ∧
        ∃ e : Int, -(2 ^ 40) ≤ e ∧ e ≤ 2 ^ 40 ∧
          let v := ((tbFine (elapse s dt) 0 : Int) + e - fInt s TIME_PPS_IN_DELAY_delay_ps * 2 ^ 40 / 1000).toNat % Config.tbWrap
          f t TIME_PPS_TS_NS_ns = tNs v ∧ f t TIME_PPS_TS_F_frac_ns = tFrac v ∧
          f t TIME_PPS_TS_SL_sec_low + 2 ^ 32 * f t TIME_PPS_TS_SH_sec_high = tSec v) ∧
    (∀ b, ppsBase s = b → b ≠ 0 → (tbGet s.clk b).st = .locked → fInt s TIME_PPS_IN_DELAY_delay_ps = 0 →
      2 ^ 40 ≤ tbFine (elapse s dt) b → tbFine (elapse s dt) b + 2 ^ 40 < Config.tbWrap →
      f s TIME_PPS_CTRL_in_window_us * (1000 * 2 ^ 40) + 2 ^ 40 < secDist (tbFine (elapse s dt) b) →
      Completes (.ppsInEdge dt) s fun t =>
        f t TIME_PPS_CNT_rejected = (f s TIME_PPS_CNT_rejected + 1) % 2 ^ TIME_PPS_CNT_rejected.wid ∧
        RegsKept [TIME_PPS_CNT_rejected.off] s t ∧
        t = { elapse s dt with regs := t.regs, hwSet := t.hwSet, msix := t.msix, msixDue := t.msixDue, freeCtr := s.freeCtr + 1 }) ∧
    (f s TIME_PPS_CTRL_out_en = 1 → s.ppsTb = f s TIME_PPS_CTRL_out_tb → tbEnabled s s.ppsTb = true →
      Completes (.ppsOutPulse dt) s fun t =>
        t.ppsTb = s.ppsTb ∧ s.clk.now + dt ≤ t.clk.now ∧
        t.clk.now + f s TIME_PPS_CTRL_out_width_us * 10000 ≤ t.ppsHighUntil + 20 ∧
        t.ppsHighUntil ≤ t.clk.now + f s TIME_PPS_CTRL_out_width_us * 10000 + 20 ∧ RegsKept [] s t ∧
        t = { s with regs := t.regs, hwSet := t.hwSet, msix := t.msix, msixDue := t.msixDue, clk := t.clk, freeCtr := t.freeCtr, ppsHighUntil := t.ppsHighUntil }) ∧
    ∀ n, n < 2 → masterLive s 0 = true →
      (∀ e q, tsqOf s n = e :: q → q.length < 64 →
        Completes (.tsqPop dt 0 n) s fun t =>
          t.resp = ⟨e.id % 65536 + 65536 * (e.tb % 4) + 2 ^ 31, 0⟩ ∧ tsqOf t n = q ∧
          f t (TIME_TSQ_STAT_depth n) = q.length ∧ f t (TIME_TSQ_NS_ns n) = tNs e.val ∧ tsqOf t (1 - n) = tsqOf s (1 - n) ∧
          t = { elapse s dt with regs := t.regs, hwSet := t.hwSet, msix := t.msix, msixDue := t.msixDue, resp := t.resp, tsq := t.tsq }) ∧
      (tsqOf s n = [] → Completes (.tsqPop dt 0 n) s fun t => t.resp = ⟨0, 0⟩ ∧ OnlyRegsResp s dt t ∧ RegsKept [] s t)

/-- R171 to R177, R340. -/
def Obligations.RotationArmsAndStarts : Prop :=
  ∀ (s : State) (dt k : Nat),
    let arms (c : Instr) (w : State) : Prop := armCheck w k (loaderOf w k 1) = {} →
      (s.rot = none → Completes c s fun t =>
        f t ROT_RESULT_code = 0 ∧ (∀ i < 128, rd t (0x71000 + 0x400 * k + 4 * i) = rd s (0x71200 + 0x400 * k + 4 * i)) ∧
        t.rotReady.getLsbD k = true ∧ armedOf t k = false ∧ t.rot = none ∧ t.present = s.present) ∧
      (∀ r, s.rot = some r → r.table = k → Completes c s fun t =>
        f t ROT_RESULT_code = 0 ∧ (∀ i < 128, rd t (0x71000 + 0x400 * k + 4 * i) = rd s (0x71000 + 0x400 * k + 4 * i)) ∧
        armedOf t k = true ∧
        t.rot = some { r with swapAt := some (boundaryFrom r.base (cycleOf s k 0) (tbNow (elapse s dt) (bankTb s k 0) + admitT s)) })
    let starts (c : Instr) : Prop := s.rotReady.getLsbD k = true → tbEnabled s (bankTb s k 0) = true → s.rot = none → inSafe s = false →
      devState s ≠ 2 → tbNow (elapse s dt) (bankTb s k 0) + admitT s ≤ bankBaseT s k 0 →
      Completes c s fun t =>
        f t ROT_RESULT_code = 0 ∧ f t ROT_STAT_state = 1 ∧ f t ROT_STAT_table = k ∧ t.present = s.present ∧
        f t ROT_START_NS_ns = tNs (bankBaseT s k 0) ∧ f t ROT_START_SL_sec_low = tSec (bankBaseT s k 0) % 2 ^ 32 ∧
        t.rot = some { table := k, st := .admitted, base := bankBaseT s k 0, slot := 0, next := bankBaseT s k 0, nextSlot := 0 }
    (sevOf s 16 < 4 → sevOf s 17 < 4 → sevOf s 25 < 4 →
      (SupMayRotate s k → arms (.rotArm dt 0 k) (supRot s dt 1 k)) ∧
      (∀ u l, MsgMayRotate s 1 k u l → arms (.rotLoadArm dt) (msgRot s dt l))) ∧
    (SupMayRotate s k → starts (.rotStart dt 0 k)) ∧ (∀ u l, MsgMayRotate s 2 k u l → starts (.rotLoadStart dt))

/-- R174, R182, R186, R340. -/
def Obligations.RotationStopsAndDiscards : Prop :=
  (∀ (s : State) (dt k : Nat),
    let stops (c : Instr) (dark : Bool) : Prop := ∀ r, s.rot = some r → r.table = k → r.stopAt = none →
      (r.st = .running → Completes c s fun t =>
        f t ROT_RESULT_code = 0 ∧ f t ROT_STAT_state = 4 ∧ t.present = s.present ∧
        t.rot = some { r with stopAt := some (boundaryFrom r.base (cycleOf s k 0) (tbNow (elapse s dt) (bankTb s k 0) + admitT s), dark) }) ∧
      (r.st = .suspended → dark = false → Completes c s fun t =>
        f t ROT_RESULT_code = 0 ∧ f t ROT_STAT_state = 0 ∧ t.rot = none ∧ t.present = clearByRot s.present ∧
        t.projected = clearByRot s.projected)
    let discards (c : Instr) : Prop := s.rot = none → Completes c s fun t =>
      f t ROT_RESULT_code = 0 ∧ armedOf t k = false ∧ markedOf t k = false ∧
      ∀ j < 16, j ≠ k → armedOf t j = armedOf s j ∧ markedOf t j = markedOf s j
    (SupMayRotate s k → stops (.rotStopHold dt 0 k) false ∧ stops (.rotStopDark dt 0 k) true ∧ discards (.rotDiscard dt 0 k)) ∧
    ∀ u l, (MsgMayRotate s 3 k u l → stops (.rotLoadStopHold dt) false) ∧ (MsgMayRotate s 4 k u l → stops (.rotLoadStopDark dt) true) ∧
      (MsgMayRotate s 5 k u l → discards (.rotLoadDiscard dt))) ∧
  (∀ (s : State) (dt k : Nat) (u : Urp) (l : List Urp), s.porOn = false → k < 16 → s.urpIn = u :: l → u.type = 6 →
    byteAt u.body 0 = k → byteAt u.body 1 = 6 → domOn s 21 = true → fb s (REQ_T_CFG_rot_ctl u.tenant) = true →
    armedOf s k = false → markedOf s k = false → s.rot = none → sevOf s 16 < 4 → sevOf s 17 < 4 → sevOf s 25 < 4 →
    let w := writeBank k (some u.tenant) (u.body.drop 4) { elapse s dt with urpIn := l }
    armCheck w k (some u.tenant) = {} →
    Completes (.rotLoadWriteArm dt) s fun t =>
      f t ROT_RESULT_code = 0 ∧ t.urpIn = l ∧ t.rotReady.getLsbD k = true ∧ loaderOf t k 0 = some u.tenant ∧
      ∀ i < 128, rd t (0x71000 + 0x400 * k + 4 * i) = rd w (0x71200 + 0x400 * k + 4 * i))

/-- R178, R179, R183. -/
def Obligations.RotationCommitsItsSlots : Prop :=
  ∀ (s : State) (dt : Nat) (r : RotRun) (c : Instr), s.porOn = false → domOn s 20 = true → s.rot = some r →
    s.commit = none → s.closed = none → s.captureWait = none →
    (∀ n ∈ [12, 14, 16, 17, 25, 46, 47], sevOf s n < 4) → r.table < 16 → r.nextSlot < 64 →
    ((r.st = .admitted ∧ r.nextSlot = 0 ∧ c = .rotFirstCommit dt) ∨ (r.st = .running ∧ c = .rotSlotBoundary dt)) →
    let b := bankTb s r.table 0
    let tick := rotTick (elapse s dt) b r.next
    let sl := r.nextSlot
    let v := validateMap s (slotMap s r.table 0 sl)
    let bigger := decide (bankMax s r.table 0 < f s GOV_STEP_step)
    (sl ≠ 0 ∨ (r.stopAt = none ∧ armedOf s r.table = false ∧ bigger = false ∧ devState s ≠ 2) →
      Completes c s fun t =>
        t.clk.now = max (s.clk.now + dt) (tick * 200) ∧
        t.rot = some { r with st := .running, slot := sl, next := r.next + slotDur s r.table 0 sl,
                              nextSlot := (if sl + 1 < bankSlots s r.table 0 then sl + 1 else 0), fellAt := none, cut := false } ∧
        f t ROT_STAT_slot = sl ∧
        (v.code ≠ 0 → t.commit = none ∧ t.present = s.present ∧
          f t ROT_CNT_SKIP_count = (f s ROT_CNT_SKIP_count + 1) % 2 ^ 32) ∧
        (v.code = 0 → affectedOuts s.present (slotTarget s v) [] ≠ [] → preCheckFail s (slotTarget s v) = none →
          t.present = s.present ∧ ∃ k, t.commit = some k ∧ k.t0 = tick ∧ k.plan.rot = some sl ∧ k.plan.members = [] ∧
            k.plan.after = slotTarget s v)) ∧
    (sl = 0 → r.stopAt = none → bigger = true →
      Completes c s fun t =>
        t.rot = some { r with st := .suspended, fellAt := none } ∧ t.commit = none ∧ t.present = s.present ∧
        f t ROT_STAT_state = 3 ∧ f t ROT_CNT_SUSPEND_count = (f s ROT_CNT_SUSPEND_count + 1) % 2 ^ 32) ∧
    (sl = 0 → r.stopAt = none → bigger = false → devState s = 2 →
      Completes c s fun t =>
        t.rot = some { r with st := .suspended, fellAt := none } ∧ t.commit = none ∧ t.present = s.present ∧
        f t ROT_STAT_state = 3 ∧ f t ROT_CNT_SUSPEND_count = f s ROT_CNT_SUSPEND_count ∧ t.toFaultPart = s.toFaultPart) ∧
    (sl = 0 → bigger = false → devState s ≠ 2 → r.stopAt = none → r.st = .running → armedOf s r.table = false →
      Completes c s fun t =>
        f t ROT_CNT_CYCLES_count = (f s ROT_CNT_CYCLES_count + if r.cut then 0 else 1) % 2 ^ 32)

/-- R205, R211, R224, R227, R484. -/
def Obligations.EnginePairsRunStopAndRepair : Prop :=
  ∀ (s : State) (dt w : Nat), s.porOn = false → masterLive s 0 = true → w < 18 → domOn s w = true →
    (fb s (PLOT_ENG_CTRL_run w) = false → siteMissing s w = false → firstLoadDue s w = false →
      Completes (.pairRun dt 0 w) s fun t =>
        f t (PLOT_ENG_CTRL_run w) = 1 ∧ (∀ k < 2, engState t w k = if engState s w k = 0 then 2 else engState s w k) ∧
        (engOf t w).start = true ∧ f t (PLOT_ENG_FRAME_frames w) = 0 ∧ f t (PLOT_ENG_STAT_lease_left w) = 0 ∧
        f t (PLOT_ENG_STAT_no_holder w) = 0 ∧ f t (PLOT_ENG_STAT_no_temp w) = 0 ∧
        (f t BOOT_HOLD_STAT_windows).testBit w = false ∧ (∀ sl < 4096, (loopOf t w sl).restart = true) ∧
        (∀ v sl, v ≠ w → sl < 4096 → loopOf t v sl = loopOf s v sl) ∧
        RegsKept [(PLOT_ENG_CTRL_run w).off, (PLOT_ENG_STAT_e0_state w).off, (PLOT_ENG_FRAME_frames w).off,
          BOOT_HOLD_STAT_windows.off] s t ∧
        t = { elapse s dt with regs := t.regs, hwSet := t.hwSet, msix := t.msix, msixDue := t.msixDue, eng := t.eng, loops := t.loops }) ∧
    (fb s (PLOT_ENG_CTRL_run w) = false → siteMissing s w = true → firstLoadDue s w = false →
      Completes (.pairRun dt 0 w) s fun t =>
        f t (PLOT_ENG_STAT_no_temp w) = 1 ∧ f t (PLOT_ENG_CTRL_run w) = 0 ∧
        (∀ k < 2, engState t w k = engState s w k) ∧ RegsKept [(PLOT_ENG_STAT_e0_state w).off] s t ∧ OnlyRegs s dt t) ∧
    (fb s (PLOT_ENG_CTRL_run w) = false → firstLoadDue s w = true →
      Completes (.pairRun dt 0 w) s fun t =>
        f t (PLOT_ENG_CTRL_run w) = 0 ∧ (∀ k < 2, engState t w k = engState s w k) ∧ RegsKept [] s t ∧ OnlyRegs s dt t) ∧
    (fb s (PLOT_ENG_CTRL_run w) = true →
      Completes (.pairStop dt 0 w) s fun t =>
        f t (PLOT_ENG_CTRL_run w) = 0 ∧ (∀ k < 2, engState t w k = 0) ∧ (engOf t w).start = false ∧
        f t (PLOT_ENG_STAT_lease_left w) = 0 ∧ f t (PLOT_ENG_STAT_no_holder w) = 0 ∧
        (∀ sl < 4096, (loopOf t w sl).staged = [] ∧ (loopOf t w sl).active = [] ∧ (loopOf t w sl).c = (loopOf s w sl).c) ∧
        (∀ v sl, v ≠ w → sl < 4096 → loopOf t v sl = loopOf s v sl) ∧
        RegsKept [(PLOT_ENG_CTRL_run w).off, (PLOT_ENG_STAT_e0_state w).off] s t ∧
        t = { elapse s dt with regs := t.regs, hwSet := t.hwSet, msix := t.msix, msixDue := t.msixDue, eng := t.eng, loops := t.loops }) ∧
    ∀ k < 2, Completes (.engineRepair dt 0 w k) s fun t =>
      engState t w k = (if engState s w k = 4 then (if engUpdates s w (1 - k) then 1 else 0) else engState s w k) ∧
      engState t w (1 - k) = engState s w (1 - k) ∧ f t (PLOT_ENG_STAT_holder w) = f s (PLOT_ENG_STAT_holder w) ∧
      RegsKept [(PLOT_ENG_STAT_e0_state w).off] s t ∧ OnlyRegs s dt t

/-- R223, R226, R227. -/
def Obligations.LeaseGoesToAStandbyEngine : Prop :=
  ∀ (s : State) (dt w : Nat), s.porOn = false → w < 18 → domOn s w = true →
    (fb s (PLOT_ENG_CTRL_run w) = true → hasHolder s w = false → f s (PLOT_ENG_STAT_lease_left w) = 0 →
      (engOf s w).start = false → fb s (PLOT_ENG_STAT_no_holder w) = false →
      (∀ k < 2, engState s w k = 2 → (k = 1 → engState s w 0 ≠ 2) →
        Completes (.leaseExpire dt w) s fun t =>
          engState t w k = 3 ∧ engState t w (1 - k) = engState s w (1 - k) ∧ f t (PLOT_ENG_STAT_holder w) = k ∧
          f t (PLOT_ENG_STAT_lease_left w) = 3 ∧
          engOf t w = { engOf s w with pushAt := nextFrame (elapse s dt) } ∧ (∀ v, v ≠ w → engOf t v = engOf s v) ∧
          (let moved := f s (PLOT_ENG_STAT_holder w) ≠ k
           f t (PLOT_ENG_CNT_HAND_count w) = (f s (PLOT_ENG_CNT_HAND_count w) + if moved then 1 else 0) % 2 ^ 32 ∧
           f t (PLOT_ENG_DIV_handover w) = if moved then 1 else f s (PLOT_ENG_DIV_handover w)) ∧
          RegsKept [(PLOT_ENG_STAT_e0_state w).off, (PLOT_ENG_DIV_div0 w).off, (PLOT_ENG_CNT_HAND_count w).off] s t ∧
          t = { elapse s dt with regs := t.regs, hwSet := t.hwSet, msix := t.msix, msixDue := t.msixDue, eng := t.eng }) ∧
      (engState s w 0 ≠ 2 → engState s w 1 ≠ 2 → sevOf s 9 < 4 →
        Completes (.leaseExpire dt w) s fun t =>
          f t (PLOT_ENG_STAT_no_holder w) = 1 ∧ (∀ k < 2, engState t w k = engState s w k) ∧
          (sameCycle 9 (elapse s dt) = false →
            f t (FLT_CNT_count 9) = (f s (FLT_CNT_count 9) + 1) % 2 ^ (FLT_CNT_count 9).wid) ∧
          RegsKeptFlt [(PLOT_ENG_STAT_e0_state w).off] s t ∧
          t = { elapse s dt with regs := t.regs, hwSet := t.hwSet, msix := t.msix, msixDue := t.msixDue, toFaultPart := t.toFaultPart })) ∧
    (fb s (PLOT_ENG_CTRL_run w) = false ∨ hasHolder s w = true ∨ f s (PLOT_ENG_STAT_lease_left w) ≠ 0 ∨ (engOf s w).start = true →
      Completes (.leaseExpire dt w) s fun t => RegsKept [] s t ∧ OnlyRegs s dt t) ∧
    ∀ k < 2, ∀ agree : Bool,
      (engState s w k = 1 →
        Completes (.engineResyncDone dt w k agree) s fun t =>
          engState t w k = (if agree && hasHolder s w then 2 else 0) ∧ engState t w (1 - k) = engState s w (1 - k) ∧
          t.clk.now = max (s.clk.now + dt) (nextFrame (elapse s dt)) ∧
          RegsKept [(PLOT_ENG_STAT_e0_state w).off] s t ∧
          t = { s with regs := t.regs, hwSet := t.hwSet, msix := t.msix, msixDue := t.msixDue, clk := t.clk, eng := t.eng }) ∧
      (engState s w k ≠ 1 → Completes (.engineResyncDone dt w k agree) s fun t => RegsKept [] s t ∧ OnlyRegs s dt t)

/-- R192, R195, R197, R208, R215, R216, R223, R224, R373. -/
def Obligations.FramesQuartersAndTheQuickGrid : Prop :=
  ∀ (s : State) (dt : Nat) (l refs : RawCodes), s.porOn = false → (∀ n ∈ [1, 6, 7, 8, 47], sevOf s n < 4) →
    Completes (.frameBoundary dt l) s (fun t =>
      t.frameAt = nextFrame (elapse s dt) ∧ t.clk.now = max (s.clk.now + dt) (nextFrame (elapse s dt)) ∧
      t.dithFrame = f s GOV_STAT_dither ∧ t.toCommitPart = s.toCommitPart ∧ t.toGovPart = s.toGovPart ∧ MemKept s t ∧
      ((∀ w < 18, ∀ sl, (loopOf s w sl).q0 = none ∧ (loopOf s w sl).post ≠ 2) → t.toFaultPart = s.toFaultPart) ∧
      ∀ w < 18, domOn s w = true → fb s (PLOT_ENG_CTRL_run w) = true →
        f t (PLOT_ENG_FRAME_frames w) = (f s (PLOT_ENG_FRAME_frames w) + 1) % 2 ^ 32 ∧ (engOf t w).start = false ∧
        ((engOf s w).start = true → engState s w 0 = 2 → engState t w 0 = 3 ∧ f t (PLOT_ENG_STAT_lease_left w) = 3) ∧
        ((engOf s w).start = false ∨ engState s w 0 ≠ 2 →
          f t (PLOT_ENG_STAT_lease_left w) = if hasHolder s w then 3 else f s (PLOT_ENG_STAT_lease_left w) - 1)) ∧
    (∀ q, 1 ≤ q → q < 4 →
      Completes (.quarterBoundary dt q l refs) s fun t =>
        t.clk.now = max (s.clk.now + dt) (nextQuarter (elapse s dt) q) ∧ t.frameAt = s.frameAt ∧
        t.dithFrame = s.dithFrame ∧ t.toCommitPart = s.toCommitPart ∧ t.loops = s.loops ∧
        t.toGovPart = s.toGovPart ∧ t.toFaultPart = s.toFaultPart ∧ MemKept s t ∧
        ∀ w < 18, ∀ sl < winLoops w, 2 ≤ (loopOf s w sl).active.length → canPush s w sl = true →
          (chanOf s w sl).queue.length < 4 →
          f t (PLOT_LOOP_OUT_code w sl) = toTwos 16 ((loopOf s w sl).active.getD q 0) % 2 ^ 16) ∧
    (∀ t0 k, k ≤ 8 →
      Completes (.quickQuarter dt t0 k l) s fun t =>
        t.clk.now = max (s.clk.now + dt) (t0 * tickPeriod + 2800 + 25000 * k) ∧
        t.dithFrame = s.dithFrame ∧ t.frameAt = s.frameAt ∧ t.toCommitPart = s.toCommitPart ∧ t.toGovPart = s.toGovPart ∧
        MemKept s t ∧
        ((∀ w < 18, ∀ sl, (loopOf s w sl).q0 = some t0 → fb s (PLOT_LOOP_STAT_sat_out w sl) = true) →
          t.toFaultPart = s.toFaultPart) ∧
        ∀ w < 18, ∀ sl < winLoops w, k < 8 → (loopOf s w sl).q0 = some t0 → domOn s w = true →
          (loopOf t w sl).qd = f s GOV_STAT_dither ∧
          ((loopOf s w sl).lateS = false → (loopOf s w sl).qlate = false → canPush s w sl = true →
            (chanOf s w sl).queue.length < 4 →
            let a := if fb s (PLOT_ENG_STAT_park w) then 0 else (loopOf s w sl).qa
            f t (PLOT_LOOP_OUT_code w sl) =
              toTwos 16 (clampOut s w sl ((loopOf s w sl).c + a * walshSign (walshF s w sl) k)) % 2 ^ 16)) ∧
    ∀ w < 18, ∀ sl < winLoops w, ∀ n, 1 ≤ n → n ≤ 3 → ∀ cmp r0 r1,
      ((loopOf s w sl).q0 = none ∨ n ≤ (loopOf s w sl).qn →
        Completes (.quickUpdate dt w sl n cmp r0 r1) s fun t => RegsKept [] s t ∧ OnlyRegs s dt t) ∧
      (∀ t0, (loopOf s w sl).q0 = some t0 → (loopOf s w sl).qn < n →
        Completes (.quickUpdate dt w sl n cmp r0 r1) s fun t =>
          t.clk.now = max (s.clk.now + dt) (quickAt t0 n (loopOf s w sl).lateS) ∧ (loopOf t w sl).qn = n ∧
          (loopOf t w sl).q0 = (if n = 3 then none else some t0) ∧ (n = 3 → (loopOf t w sl).post = 2) ∧
          (quickAt t0 n (loopOf s w sl).lateS + us < s.clk.now + dt → loopRuns s w sl = true → pairUpdates s w = true →
            (loopOf t w sl).qlate = true ∧ (loopOf t w sl).c = (loopOf s w sl).c ∧
            f t (PLOT_LOOP_LIMCNT_lates w sl) = min (f s (PLOT_LOOP_LIMCNT_lates w sl) + 1) 65535) ∧
          t.toCommitPart = s.toCommitPart ∧ t.toGovPart = s.toGovPart ∧ MemKept s t)

/-- R193 to R195, R198 to R200, R209, R216, R222, R311. -/
def Obligations.LoopUpdateUnderComparison : Prop :=
  ∀ (s : State) (dt w sl : Nat), s.porOn = false → w < 18 → sl < winLoops w → (∀ n ∈ [1, 6, 7, 8, 47], sevOf s n < 4) →
    let trc := (PLOT_TRC_STAT_wptr w).off
    let rec_ := trc :: (List.range 16).map (fun i => winBase w + 0x10000 + 64 * sl + 4 * i)
    let opens := max (s.clk.now + dt) (slotOpen s sl)
    let u := updStart w sl false (runConv w (elapseTo (elapse s dt) (slotOpen s sl)))
    let part (v t : State) : Prop := t = { v with
      regs := t.regs, hwSet := t.hwSet, msix := t.msix, msixDue := t.msixDue, loops := t.loops, trc := t.trc, eng := t.eng, toFaultPart := t.toFaultPart }
    let late (t : State) : Prop :=
      f t (PLOT_LOOP_LIMCNT_lates w sl) = min (f s (PLOT_LOOP_LIMCNT_lates w sl) + 1) 65535 ∧
      f t (PLOT_ENG_CNT_LATE_count w) = (f s (PLOT_ENG_CNT_LATE_count w) + 1) % 2 ^ 32 ∧ f t (PLOT_LOOP_STAT_late w sl) = 1 ∧
      (loopOf t w sl).staged = (loopOf s w sl).staged ∧ (loopOf t w sl).c = (loopOf s w sl).c ∧ t.eng = s.eng
    let lateRegs := [trc, (PLOT_LOOP_LIMCNT_lates w sl).off, (PLOT_LOOP_STAT_late w sl).off, (PLOT_ENG_CNT_LATE_count w).off]
    u.clk.now = opens ∧ u = { s with regs := u.regs, hwSet := u.hwSet, clk := u.clk, loops := u.loops, sns := u.sns, slcs := u.slcs, convs := u.convs } ∧
    (updateDue s w sl = true → markOf s w sl = none → engUpdates s w 0 = true → engUpdates s w 1 = true →
      (s.clk.now + dt ≤ slotOpen s sl + 800 →
        (tmplOf s w sl = 3 → f s (PLOT_LOOP_STAT_mode w sl) = 3 → (loopOf s w sl).restart = false → trcSels s w sl = [] →
          Completes (.loopUpdate dt w sl 0 false false) s fun t =>
            let m := modelCode u w sl (stateBit u w sl)
            let off := fInt s (PLOT_LOOP_MODEL_offset w sl)
            let c := stepLimit (coefU u w sl (decideUpd u w sl false (normalSmp u w sl)).reg 6) (loopOf s w sl).c
              (limClamp s w sl (satInt 16 (m + off)))
            f t (PLOT_LOOP_OUT_centre w sl) = toTwos 16 c ∧ f t (PLOT_LOOP_MODEL_model w sl) = toTwos 16 m ∧
            (loopOf t w sl).c = c ∧ (loopOf t w sl).staged = [c] ∧ integOf t w sl = integOf s w sl ∧
            f t (PLOT_LOOP_STAT_mode w sl) = 3 ∧ f t (PLOT_LOOP_STAT_stale w sl) = 0 ∧
            f t (PLOT_LOOP_CNT_updates w sl) = (f s (PLOT_LOOP_CNT_updates w sl) + 1) % 2 ^ 32 ∧
            updateDue t w sl = false ∧ t.eng = s.eng ∧ RegsKeptFlt rec_ u t ∧ part u t) ∧
        (∀ cmp r0 r1, cmp ≠ 0 → r0 ≠ r1 →
          Completes (.loopUpdate dt w sl cmp r0 r1) s fun t =>
            engState t w (if r0 then 0 else 1) = 4 ∧ engState t w (if r0 then 1 else 0) = engState s w (if r0 then 1 else 0) ∧
            f t (PLOT_ENG_CNT_MIS_count w) = (f s (PLOT_ENG_CNT_MIS_count w) + 1) % 2 ^ 32 ∧
            f t (PLOT_ENG_DIV_slot w) = sl ∧ f t (PLOT_ENG_DIV_undecided w) = f s (PLOT_ENG_DIV_undecided w) ∧
            RegsKeptFlt [trc, (PLOT_ENG_STAT_e0_state w).off, (PLOT_ENG_DIV_slot w).off, (PLOT_ENG_CNT_MIS_count w).off] u t ∧
            t.loops = u.loops ∧ part u t) ∧
        (∀ r,
          Completes (.loopUpdate dt w sl 2 r r) s fun t =>
            let k := if engState s w 0 = 2 then 0 else 1
            engState t w k = 4 ∧ engState t w (1 - k) = engState s w (1 - k) ∧ f t (PLOT_ENG_DIV_undecided w) = 1 ∧
            f t (PLOT_ENG_CNT_MIS_count w) = (f s (PLOT_ENG_CNT_MIS_count w) + 2) % 2 ^ 32 ∧
            RegsKeptFlt [trc, (PLOT_ENG_STAT_e0_state w).off, (PLOT_ENG_DIV_slot w).off, (PLOT_ENG_CNT_MIS_count w).off] u t ∧
            t.loops = u.loops ∧ part u t)) ∧
      (slotOpen s sl + 800 < s.clk.now + dt → ∀ cmp r0 r1,
        Completes (.loopUpdate dt w sl cmp r0 r1) s fun t =>
          late t ∧ updateDue t w sl = false ∧ RegsKeptFlt lateRegs u t ∧ part u t) ∧
      Completes (.loopDeadlineMiss dt w sl) s (fun t =>
        late t ∧ updateDue t w sl = false ∧ t.clk.now = max (s.clk.now + dt) (slotOpen s sl + 800) ∧ RegsKeptFlt lateRegs s t ∧
        part { s with clk := t.clk } t)) ∧
    (∀ t0, loopRuns s w sl = true → pairUpdates s w = true → (loopOf s w sl).q0 = some t0 → (loopOf s w sl).qn < 3 →
      Completes (.loopDeadlineMiss dt w sl) s fun t =>
        late t ∧ (loopOf t w sl).qn = (loopOf s w sl).qn + 1 ∧ (loopOf t w sl).qlate = true ∧
        t.clk.now = max (s.clk.now + dt) (quickAt t0 ((loopOf s w sl).qn + 1) (loopOf s w sl).lateS + us) ∧
        RegsKeptFlt lateRegs s t ∧ t.toCommitPart = s.toCommitPart ∧ t.toDrillPart = s.toDrillPart) ∧
    ((markOf s w sl).isSome = true → fb s (PLOT_ENG_CTRL_run w) = true → fb s (PLOT_LOOP_STAT_stale w sl) = false →
      (loopOf s w sl).doneAt ≠ some s.frameAt → ∀ cmp r0 r1,
      Completes (.loopUpdate dt w sl cmp r0 r1) s fun t =>
        f t (PLOT_LOOP_STAT_stale w sl) = 1 ∧ t.clk.now = opens ∧ RegsKept [(PLOT_LOOP_STAT_stale w sl).off] s t ∧
        (loopOf t w sl).staged = [] ∧ (loopOf t w sl).active = [] ∧ (loopOf t w sl).q0 = none ∧
        (loopOf t w sl).c = (loopOf s w sl).c ∧ canPush t w sl = false ∧
        t = { s with regs := t.regs, hwSet := t.hwSet, msix := t.msix, msixDue := t.msixDue, clk := t.clk, loops := t.loops }) ∧
    (updateDue s w sl = false → markOf s w sl = none ∨ fb s (PLOT_LOOP_STAT_stale w sl) = true → ∀ cmp r0 r1,
      Completes (.loopUpdate dt w sl cmp r0 r1) s fun t => RegsKept [] s t ∧ OnlyRegs s dt t)

/-- R229. -/
def Obligations.TraceTriggersAndStops : Prop :=
  ∀ (s : State) (dt w : Nat), s.porOn = false → masterLive s 0 = true → w < 18 → domOn s w = true →
    let st := (PLOT_TRC_STAT_wptr w).off
    let one := fb s (PLOT_TRC_CTRL_one_shot w)
    Completes (.traceArm dt 0 w) s (fun t =>
      f t (PLOT_TRC_STAT_armed w) = 1 ∧ f t (PLOT_TRC_STAT_triggered w) = 0 ∧ f t (PLOT_TRC_STAT_stopped w) = 0 ∧
      f t (PLOT_TRC_STAT_wptr w) = f s (PLOT_TRC_STAT_wptr w) ∧ RegsKept [st] s t ∧
      t = { elapse s dt with regs := t.regs, hwSet := t.hwSet, msix := t.msix, msixDue := t.msixDue, trc := t.trc }) ∧
    (∀ c, c = Instr.traceForce dt 0 w ∨
        (c = .traceTrigger dt w ∧ (f s (PLOT_TRC_CTRL_trig w) = 4 ∨ f s (PLOT_TRC_CTRL_trig w) = 5)) →
      (fb s (PLOT_TRC_CTRL_en w) = true →
        (one = false ∨ (fb s (PLOT_TRC_STAT_armed w) = true ∧ fb s (PLOT_TRC_STAT_triggered w) = false ∧
            fb s (PLOT_TRC_STAT_stopped w) = false) →
          Completes c s fun t =>
            f t (PLOT_TRC_STAT_triggered w) = 1 ∧ f t (PLOT_TRC_STAT_trig_index w) = f s (PLOT_TRC_STAT_wptr w) ∧
            (trcOf t w).mark = true ∧ (trcOf t w).left = f s (PLOT_TRC_CTRL_post w) ∧ RegsKept [st] s t ∧
            t = { elapse s dt with regs := t.regs, hwSet := t.hwSet, msix := t.msix, msixDue := t.msixDue, trc := t.trc }) ∧
        (one = true → fb s (PLOT_TRC_STAT_stopped w) = true → sevOf s 47 < 4 →
          Completes c s fun t =>
            f t (PLOT_TRC_STAT_ovf w) = 1 ∧ f t (PLOT_TRC_STAT_triggered w) = f s (PLOT_TRC_STAT_triggered w) ∧
            RegsKeptFlt [st] s t ∧
            t = { elapse s dt with regs := t.regs, hwSet := t.hwSet, msix := t.msix, msixDue := t.msixDue, toFaultPart := t.toFaultPart })) ∧
      (fb s (PLOT_TRC_CTRL_en w) = false ∨ (one = true ∧ fb s (PLOT_TRC_STAT_stopped w) = false ∧
          (fb s (PLOT_TRC_STAT_armed w) = false ∨ fb s (PLOT_TRC_STAT_triggered w) = true)) →
        Completes c s fun t => RegsKept [] s t ∧ OnlyRegs s dt t)) ∧
    (f s (PLOT_TRC_CTRL_trig w) ≠ 4 → f s (PLOT_TRC_CTRL_trig w) ≠ 5 →
      Completes (.traceTrigger dt w) s fun t => RegsKept [] s t ∧ OnlyRegs s dt t) ∧
    Completes (.tracePostDone dt w) s (fun t =>
      if one = true ∧ fb s (PLOT_TRC_STAT_triggered w) = true ∧ (trcOf s w).left = 0 then
        f t (PLOT_TRC_STAT_stopped w) = 1 ∧ f t (PLOT_TRC_STAT_armed w) = 0 ∧ RegsKept [st] s t ∧ OnlyRegs s dt t
      else RegsKept [] s t ∧ OnlyRegs s dt t)

/-- R67, R239, R240, R246, R249, R250, R255, R304. -/
def Obligations.CodeTickTakesTheNextCode : Prop :=
  ∀ (s : State) (dt w ch : Nat), s.porOn = false → w < 18 → domOn s w = true → chOwn w ch = true →
    let c := chanOf s w ch
    let at_ := max (s.clk.now + dt) (nextTick (elapse s dt) w ch)
    let pops := c.queue ≠ [] ∧ c.qAt.headD 0 ≤ at_
    let tgt := if pops then c.queue.headD 0 else c.target
    let rest := if pops then c.queue.tail else c.queue
    let noSeg := chRt w ch = true → c.seg = f s (PLOT_DRL_CFG_seg w ch) % 3
    let on := fb s (PLOT_DRL_CFG_slew_en w ch)
    let frame (t : State) : Prop := RegsKept [(PLOT_DRL_CNT_DG_count w).off, (PLOT_DRL_SEED_STAT_busy w).off] s t ∧
      t = { s with regs := t.regs, hwSet := t.hwSet, msix := t.msix, msixDue := t.msixDue, clk := t.clk, chans := t.chans, seedLast := t.seedLast }
    (∀ p l, c.wave = p :: l →
      Completes (.codeTick dt w ch) s fun t =>
        (chanOf t w ch).fed = p ∧ (chanOf t w ch).wave = l ∧ (chanOf t w ch).queue = c.queue ∧ t.clk.now = at_ ∧
        (chPockels w ch = true → (chanOf t w ch).otr = fInt s (PLOT_DRL_CFG_otrim w ch)) ∧
        RegsKept [] s t ∧
        t = { s with regs := t.regs, hwSet := t.hwSet, msix := t.msix, msixDue := t.msixDue, clk := t.clk, chans := t.chans, playing := t.playing }) ∧
    (c.wave = [] → noSeg →
      (Completes (.codeTick dt w ch) s fun t =>
        let d := chanOf t w ch
        d.queue = rest ∧ t.clk.now = at_ ∧ frame t ∧
        (chPockels w ch = true → d.otr = fInt s (PLOT_DRL_CFG_otrim w ch)) ∧
        (chFallow s w ch = true → d.fed = 0 ∧ d.target = 0) ∧
        (chFallow s w ch = false → d.target = tgt ∧
          d.fed = if on then
              (if f s (PLOT_DRL_SLEW_period w ch) ≤ c.ticks + 1 then
                (if c.fed < tgt then min tgt (c.fed + f s (PLOT_DRL_SLEW_step w ch))
                  else max tgt (c.fed - f s (PLOT_DRL_SLEW_step w ch)))
              else c.fed)
            else tgt) ∧
        (chGate w ch = true →
          (c.hold = none → 0x1000 ≤ (d.fed - c.fed).natAbs → d.hold = some at_ ∧ d.held = c.fed ∧
            f t (PLOT_DRL_CNT_DG_count w) = (f s (PLOT_DRL_CNT_DG_count w) + 1) % 2 ^ 32) ∧
          (c.hold.isSome = true ∨ (d.fed - c.fed).natAbs < 0x1000 → d.hold = c.hold ∧
            f t (PLOT_DRL_CNT_DG_count w) = f s (PLOT_DRL_CNT_DG_count w)))) ∧
      (on = true → f s (PLOT_DRL_SLEW_period w ch) ≤ c.ticks + 1 → chFallow s w ch = false →
        Completes (.slewLimiterStep dt w ch) s fun t =>
          (chanOf t w ch).fed = (if c.fed < tgt then min tgt (c.fed + f s (PLOT_DRL_SLEW_step w ch))
            else max tgt (c.fed - f s (PLOT_DRL_SLEW_step w ch))) ∧
          (chanOf t w ch).ticks = 0 ∧ (chanOf t w ch).queue = rest ∧ t.clk.now = at_ ∧ frame t)) ∧
    (on = false ∨ c.ticks + 1 < f s (PLOT_DRL_SLEW_period w ch) ∨ c.wave ≠ [] →
      Completes (.slewLimiterStep dt w ch) s fun t => RegsKept [] s t ∧ OnlyRegs s dt t) ∧
    ∀ settled : Bool,
      (c.hold = none → Completes (.deglitchRelease dt w ch settled) s fun t => RegsKept [] s t ∧ OnlyRegs s dt t) ∧
      (∀ h, c.hold = some h →
        Completes (.deglitchRelease dt w ch settled) s fun t =>
          let edge := tickAtOrAfter (s.clk.now + dt) * tickPeriod
          (chanOf t w ch).hold = none ∧ (chanOf t w ch).fed = c.fed ∧ (chanOf t w ch).queue = c.queue ∧
          (if settled = true ∧ edge ≤ h + 4000 then t.clk.now = edge ∧ RegsKept [] s t
            else t.clk.now = max (s.clk.now + dt) (h + 4000) ∧ f t (PLOT_DRL_STAT_dg_timeout w ch) = 1 ∧
              RegsKept [(PLOT_DRL_STAT_dg_timeout w ch).off] s t) ∧
          t = { s with regs := t.regs, hwSet := t.hwSet, msix := t.msix, msixDue := t.msixDue, clk := t.clk, chans := t.chans })

/-- R234, R239, R242, R252, R255, R260. -/
def Obligations.SoftwareCodesRangesAndSegments : Prop :=
  ∀ (s : State) (dt w ch : Nat), s.porOn = false → w < 18 → ch < winChans w → domOn s w = true →
    let c := chanOf s w ch
    (masterLive s 0 = true →
      (∀ v,
        (chOwn w ch = false → Completes (.swCodePush dt 0 w ch v) s fun t => RegsKept [] s t ∧ OnlyRegs s dt t) ∧
        (chOwn w ch = true → swMay s w ch = false →
          Completes (.swCodePush dt 0 w ch v) s fun t =>
            f t (PLOT_DRL_CNT_SWREJ_count w) = (f s (PLOT_DRL_CNT_SWREJ_count w) + 1) % 2 ^ 32 ∧
            RegsKept [(PLOT_DRL_CNT_SWREJ_count w).off] s t ∧ OnlyRegs s dt t) ∧
        (chOwn w ch = true → swMay s w ch = true →
          (c.wave = [] → c.queue.length < 4 →
            Completes (.swCodePush dt 0 w ch v) s fun t =>
              chanOf t w ch = { c with queue := c.queue ++ [s16 v], qAt := c.qAt ++ [s.clk.now + dt + 25] } ∧
              f t (PLOT_LOOP_OUT_code w ch) = toTwos 16 (s16 v) ∧
              f t (PLOT_LOOP_OUT_centre w ch) = f s (PLOT_LOOP_OUT_centre w ch) ∧
              RegsKept [(PLOT_LOOP_OUT_code w ch).off] s t ∧
              t = { elapse s dt with regs := t.regs, hwSet := t.hwSet, msix := t.msix, msixDue := t.msixDue, chans := t.chans }) ∧
          (c.wave = [] → 4 ≤ c.queue.length →
            Completes (.swCodePush dt 0 w ch v) s fun t =>
              f t (PLOT_DRL_STAT_qovf w ch) = 1 ∧ RegsKept [(PLOT_DRL_STAT_qovf w ch).off] s t ∧ OnlyRegs s dt t) ∧
          (c.wave ≠ [] →
            Completes (.swCodePush dt 0 w ch v) s fun t =>
              f t (PLOT_DRL_CNT_FLUSH_count w) = (f s (PLOT_DRL_CNT_FLUSH_count w) + 1) % 2 ^ 32 ∧
              RegsKept [(PLOT_DRL_CNT_FLUSH_count w).off] s t ∧ OnlyRegs s dt t))) ∧
      ∀ v, ∀ i ∈ [Instr.rangeWrite dt 0 w ch v, .segWrite dt 0 w ch v],
        Completes i s fun t =>
          let at_ (ok : Bool) (x : Fld) : Prop := f t x = if ok then v / 2 ^ x.lsb % 2 ^ x.wid else f s x
          at_ true (PLOT_DRL_CFG_mon_en w ch) ∧ at_ (chPockels w ch) (PLOT_DRL_CFG_otrim w ch) ∧
          at_ (!chPockels w ch) (PLOT_DRL_CFG_vcomp w ch) ∧ at_ (chOwn w ch) (PLOT_DRL_CFG_slew_en w ch) ∧
          at_ (chGate w ch) (PLOT_DRL_CFG_range w ch) ∧
          f t (PLOT_DRL_CFG_seg w ch) =
            (if chRt w ch && !(v / 4 % 4 % 3 == 0 && fb s (PLOT_DRL_STAT_seg_fail w ch)) then v / 4 % 4 % 3
              else f s (PLOT_DRL_CFG_seg w ch)) ∧
          (chanOf t w ch).fed = c.fed ∧ (chanOf t w ch).queue = c.queue ∧ (chanOf t w ch).seg = c.seg ∧
          (chanOf t w ch).rangeL = c.rangeL ∧ RegsKept [(PLOT_DRL_CFG_mon_en w ch).off] s t ∧
          t = { elapse s dt with regs := t.regs, hwSet := t.hwSet, msix := t.msix, msixDue := t.msixDue, chans := t.chans }) ∧
    (rangePend s w ch = false ∨ c.wave ≠ [] ∨ c.hold.isSome = true ∨ s.closed.isSome = true →
      Completes (.rangeApply dt w ch) s fun t => RegsKept [] s t ∧ OnlyRegs s dt t) ∧
    (rangePend s w ch = true → c.wave = [] → c.hold = none → s.closed = none →
      Completes (.rangeApply dt w ch) s fun t =>
        let now' := tickAtOrAfter (s.clk.now + dt) * tickPeriod
        let new := fb s (PLOT_DRL_CFG_range w ch)
        t.clk.now = now' ∧ chanOf t w ch = { c with
          rangeL := new, fed := rescale new c.fed, target := rescale new c.target, hold := some now', held := c.fed } ∧
        f t (PLOT_DRL_CNT_DG_count w) = (f s (PLOT_DRL_CNT_DG_count w) + 1) % 2 ^ 32 ∧
        RegsKept [(PLOT_DRL_CNT_DG_count w).off] s t ∧
        t = { s with regs := t.regs, hwSet := t.hwSet, msix := t.msix, msixDue := t.msixDue, clk := t.clk, chans := t.chans })

/-- R257 to R259, R261, R262, R522. -/
def Obligations.DriverMonitorsRaiseAndTakeOver : Prop :=
  (∀ (s : State) (dt w ch : Nat), s.porOn = false → w < 18 → sevOf s 0 < 4 → sevOf s 2 < 4 →
    let st := (PLOT_DRL_STAT_code w ch).off
    let fault (t : State) (kind : Nat) : Prop := f t (PLOT_DRL_FAULT_kind w) = kind ∧ f t (PLOT_DRL_FAULT_chan w) = ch
    let idle (c : Instr) : Prop := Completes c s fun t => RegsKept [] s t ∧ OnlyRegs s dt t
    let plain (t : State) : Prop := RegsKeptFlt [st, (PLOT_DRL_FAULT_kind w).off] s t ∧
      t = { elapse s dt with regs := t.regs, hwSet := t.hwSet, msix := t.msix, msixDue := t.msixDue, toFaultPart := t.toFaultPart }
    (monJudges (elapse s dt) w ch = false → idle (.segmentTakeover dt w ch) ∧ idle (.gateMonitorFail dt w ch)) ∧
    (monOn s w ch = false ∨ (chanOf s w ch).hold.isSome = true → monJudges (elapse s dt) w ch = false) ∧
    (htrSensed s w ch = false → idle (.heaterOpen dt w ch) ∧ idle (.heaterShort dt w ch)) ∧
    (monJudges (elapse s dt) w ch = true → w < 16 →
      let z := chSlot w ch
      let i := segIdx w ch
      let c := chanOf s w z
      let map_ := PLOT_DRL_SEG_MAP_solo w (z / 3 / 32)
      let done (t : State) : Prop :=
        t.clk.now = tickAtOrAfter (s.clk.now + dt + 1) * tickPeriod ∧ fault t 1 ∧ f t (PLOT_DRL_STAT_seg_fail w z) = 1 ∧
        f t (PLOT_DRL_STAT_seg_which w z) = i ∧ (f t map_).testBit (z / 3 % 32) = true ∧
        f t (PLOT_DRL_CFG_seg w z) = (chanOf t w z).seg ∧
        RegsKeptFlt [(PLOT_DRL_STAT_code w z).off, (PLOT_DRL_CFG_seg w z).off, map_.off, (PLOT_DRL_FAULT_kind w).off] s t ∧
        t = { s with regs := t.regs, hwSet := t.hwSet, msix := t.msix, msixDue := t.msixDue, clk := t.clk, chans := t.chans, toFaultPart := t.toFaultPart }
      (c.bothBad = false → c.seg = 0 →
        Completes (.segmentTakeover dt w ch) s fun t => chanOf t w z = { c with seg := 2 - i } ∧ done t) ∧
      (c.bothBad = false → c.seg = i + 1 →
        Completes (.segmentTakeover dt w ch) s fun t =>
          chanOf t w z = { c with bothBad := true } ∧ clampClosed t w z = true ∧ clampClosed t w (seg1Of z) = true ∧ done t) ∧
      (c.bothBad = true ∨ c.seg = 2 - i → idle (.segmentTakeover dt w ch))) ∧
    (monJudges (elapse s dt) w ch = true → w = 17 →
      Completes (.gateMonitorFail dt w ch) s fun t => f t (PLOT_DRL_STAT_mon_fail w ch) = 1 ∧ fault t 2 ∧ plain t) ∧
    (htrSensed s w ch = true →
      Completes (.heaterOpen dt w ch) s (fun t => f t (PLOT_DRL_STAT_htr_open w ch) = 1 ∧ fault t 3 ∧ plain t) ∧
      Completes (.heaterShort dt w ch) s (fun t =>
        f t (PLOT_DRL_STAT_htr_short w ch) = 1 ∧ switchOpen t w ch = true ∧ fault t 4 ∧ plain t)) ∧
    (masterLive s 0 = true → domOn s w = true → ch < winChans w → Unheld (elapse s dt) (PLOT_DRL_STAT_htr_short w ch) →
      Completes (.htrShortClear dt 0 w ch) s fun t =>
        f t (PLOT_DRL_STAT_htr_short w ch) = 0 ∧ (s.vhtrBad ≠ 3 → switchOpen t w ch = false) ∧
        RegsKept [st] s t ∧ OnlyRegs s dt t)) ∧
  ∀ (s : State) (dt n : Nat) (below : Bool), s.porOn = false → n < 2 →
    Completes (.vpkBelowPowerGood dt below) s (fun t =>
      t.vpkBad = below ∧ (below = true → ∀ w ch, clampClosed t w ch = true) ∧ RegsKept [] s t ∧
      t = { elapse s dt with regs := t.regs, hwSet := t.hwSet, msix := t.msix, msixDue := t.msixDue, vpkBad := t.vpkBad }) ∧
    Completes (.vhtrBelowPowerGood dt n below) s (fun t =>
      t.vhtrBad.getLsbD n = below ∧ t.vhtrBad.getLsbD (1 - n) = s.vhtrBad.getLsbD (1 - n) ∧
      (t.vhtrBad = 3 → ∀ w ch, switchOpen t w ch = true) ∧ RegsKept [] s t ∧
      t = { elapse s dt with regs := t.regs, hwSet := t.hwSet, msix := t.msix, msixDue := t.msixDue, vhtrBad := t.vhtrBad })

/-- R248, R264, R61. -/
def Obligations.TestPlaysAndTheSeedCommand : Prop :=
  ∀ (s : State) (dt w : Nat), s.porOn = false → w < 18 → domOn s w = true →
    (masterLive s 0 = true →
      (∀ ch wave len, ch < winChans w →
        let free := chOwn w ch = true ∧ chPockels w ch = true ∧ swMay s w ch = true ∧ winHeld s w = false ∧ s.closed = none ∧
          s.commit = none ∧ amGet (fun _ => none) s.playing w = none
        let c := chanOf s w ch
        (free → Completes (.testPlay dt 0 w ch wave len) s fun t =>
          let u := swing (modelVpi s w (chSlot w ch)) (fullScale c.rangeL)
          (chanOf t w ch).wave = (List.range (if len % 64 = 0 then 64 else len % 64)).map (fun i =>
            satInt 16 (c.fed + pointCode (libPoint s w (wave % 256) i) u)) ∧
          (chanOf t w ch).queue = [] ∧ (chanOf t w ch).hold = none ∧ (chanOf t w ch).fed = c.fed ∧
          amGet (fun _ => none) t.playing w = some ch ∧
          f t (PLOT_DRL_CNT_FLUSH_count w) = (f s (PLOT_DRL_CNT_FLUSH_count w) + c.queue.length) % 2 ^ 32 ∧
          (chRt w ch = true → (chanOf t w (seg1Of ch)).hold = none ∧
            ((chanOf s w (seg1Of ch)).hold.isSome = true → f t (PLOT_DRL_STAT_dg_cut w (seg1Of ch)) = 1)) ∧
          ((chanOf s w ch).hold.isSome = true → f t (PLOT_DRL_STAT_dg_cut w ch) = 1) ∧
          RegsKept ([(PLOT_DRL_PLAY_go w).off, (PLOT_DRL_CNT_FLUSH_count w).off, (PLOT_DRL_STAT_clip w ch).off] ++
            if chRt w ch then [(PLOT_DRL_STAT_clip w (seg1Of ch)).off] else []) s t ∧
          t = { elapse s dt with regs := t.regs, hwSet := t.hwSet, msix := t.msix, msixDue := t.msixDue, chans := t.chans, playing := t.playing }) ∧
        (¬ free → Completes (.testPlay dt 0 w ch wave len) s fun t =>
          f t (PLOT_DRL_PLAY_STAT_refused w) = 1 ∧
          RegsKept [(PLOT_DRL_PLAY_go w).off, (PLOT_DRL_PLAY_STAT_refused w).off] s t ∧ OnlyRegs s dt t)) ∧
      ∀ settle,
        let held := fb s (PLOT_ENG_CTRL_run w) = true ∨ fb s (PLOT_DRL_SEED_STAT_busy w) = true
        let noCal := f s (CAL_WIN_GEN_generation w) = 0 ∨ calActive s = false
        let noTemp := siteMissing s w = true
        let noOrder := w ≠ 17 ∧ fb s (PLOT_DRL_SEED_STAT_seeded 17) = false
        (held → Completes (.seedGo dt 0 w settle) s fun t =>
          f t (PLOT_DRL_SEED_settle_us w) = settle % 65536 ∧ RegsKept [(PLOT_DRL_SEED_go w).off] s t ∧ OnlyRegs s dt t) ∧
        (¬ held → noCal ∨ noTemp ∨ noOrder → Completes (.seedGo dt 0 w settle) s fun t =>
          f t (PLOT_DRL_SEED_settle_us w) = settle % 65536 ∧ fb t (PLOT_DRL_SEED_STAT_busy w) = false ∧
          (∀ e ∈ [(PLOT_DRL_SEED_STAT_err_cal w, noCal), (PLOT_DRL_SEED_STAT_err_temp w, noTemp), (PLOT_DRL_SEED_STAT_err_order w, noOrder)],
            (e.2 → f t e.1 = 1) ∧ (¬ e.2 → f t e.1 = f s e.1)) ∧
          RegsKept [(PLOT_DRL_SEED_go w).off, (PLOT_DRL_SEED_STAT_busy w).off] s t ∧ OnlyRegs s dt t) ∧
        (¬ held → ¬ noCal → ¬ noTemp → ¬ noOrder →
          Completes (.seedGo dt 0 w settle) s fun t =>
            fb t (PLOT_DRL_SEED_STAT_busy w) = true ∧ f t (PLOT_DRL_SEED_settle_us w) = settle % 65536 ∧
            (∀ ch, chOwn w ch = true → chFallow s w ch = false →
              (w < 16 → ch % 3 ≠ 0 → s.parked.getLsbD (slotCell w ch) = false) → (chanOf s w ch).wave = [] →
              (chanOf s w ch).queue.length < 4 →
              (chanOf t w ch).queue = (chanOf s w ch).queue ++ [seedCode s w ch] ∧
              (chanOf t w ch).seed = (chanOf s w ch).queue.length + 1) ∧
            t = { elapse s dt with regs := t.regs, hwSet := t.hwSet, msix := t.msix, msixDue := t.msixDue, chans := t.chans, seedLast := t.seedLast })) ∧
    ∀ x, amGet (fun _ => none) s.seedLast w = some x → fb s (PLOT_DRL_SEED_STAT_busy w) = true → seedsWait s w = false →
      Completes (.seedSettled dt w) s fun t =>
        f t (PLOT_DRL_SEED_STAT_seeded w) = 1 ∧ f t (PLOT_DRL_SEED_STAT_busy w) = 0 ∧
        t.clk.now = max (s.clk.now + dt) (x + f s (PLOT_DRL_SEED_settle_us w) * us) ∧
        RegsKept [(PLOT_DRL_SEED_STAT_seeded w).off] s t ∧ t = { s with regs := t.regs, hwSet := t.hwSet, msix := t.msix, msixDue := t.msixDue, clk := t.clk }

/-- R276, R277, R282 to R284, R290 to R292. -/
def Obligations.SensingChannelsMissLeaveAndFail : Prop :=
  (∀ (c : Conv) (l : List Conv), l.Pairwise (fun a b => convFirst a b = true) →
    (insConv c l).Pairwise (fun a b => convFirst a b = true) ∧ (insConv c l).Perm (c :: l)) ∧
  ∀ (s : State) (dt w i : Nat), s.porOn = false → w < 18 → i < winSensors w → domOn s w = true →
    let st := (PLOT_SNS_STAT_win_out w i).off
    let x := snsOf s w i
    let idle (c : Instr) : Prop := Completes c s fun t => RegsKept [] s t ∧ OnlyRegs s dt t
    let asked (t : State) : Option Nat := amGet (fun _ => none) t.rsvPend (wKey w i)
    let sl := carrierOf s w (sliceOf w i)
    let q := convOf s w sl
    ((∀ c ∈ q.wait, s.clk.now + dt < max q.free c.at_ ∧ s.clk.now + dt < c.due) → idle (.sampleMissed dt w i)) ∧
    (∀ c, q.wait = [c] → c.chan = i → c.cls ≠ 0 →
      (c.due < max q.free c.at_ → c.due < s.clk.now + dt →
        Completes (.sampleMissed dt w i) s fun t =>
          f t (PLOT_SNS_STAT_missed w i) = 1 ∧ f t (PLOT_SNS_CNT_misses w i) = min (f s (PLOT_SNS_CNT_misses w i) + 1) 65535 ∧
          f t (PLOT_SLC_CNT_MISS_count w sl) = (f s (PLOT_SLC_CNT_MISS_count w sl) + 1) % 2 ^ 32 ∧
          convOf t w sl = { q with wait := [] } ∧ snsOf t w i = x ∧
          RegsKept [st, (PLOT_SNS_CNT_misses w i).off, (PLOT_SLC_CNT_MISS_count w sl).off] s t ∧
          t = { elapse s dt with regs := t.regs, hwSet := t.hwSet, msix := t.msix, msixDue := t.msixDue, convs := t.convs }) ∧
      (max q.free c.at_ ≤ c.due → max q.free c.at_ + 800 ≤ s.clk.now + dt →
        Completes (.sampleMissed dt w i) s fun t =>
          let v := if chanDead s w i then 0 else c.val
          f t (PLOT_SNS_VAL_reading w i) = v.toNat % 2 ^ (PLOT_SNS_VAL_reading w i).wid ∧
          f t (PLOT_SNS_CNT_samples w i) = (f s (PLOT_SNS_CNT_samples w i) + 1) % 2 ^ (PLOT_SNS_CNT_samples w i).wid ∧
          f t (PLOT_SLC_CNT_CONV_count w sl) = (f s (PLOT_SLC_CNT_CONV_count w sl) + 1) % 2 ^ 32 ∧
          f t (PLOT_SNS_CNT_misses w i) = f s (PLOT_SNS_CNT_misses w i) ∧
          convOf t w sl = { free := max q.free c.at_ + 800, wait := [] } ∧
          snsOf t w i = (if c.cls = 1 then { x with qs := (c.key, v) :: x.qs } else { x with smp := ((c.key, v) :: x.smp).take 8 }) ∧
          t = { elapse s dt with
            regs := t.regs, hwSet := t.hwSet, msix := t.msix, msixDue := t.msixDue, convs := t.convs, sns := t.sns })) ∧
    (∀ p dur,
      Completes (.windowLeave dt w i (p, dur)) s fun t =>
        let left := fb s (PLOT_SNS_STAT_win_out w i)
        let leaves := verWindow s w i = false ∧ inBand s w i p = false ∧ x.left = false ∧ f s (PLOT_SNS_CTRL_persist w) * 1000 ≤ dur
        outNow t w i = !inBand s w i p ∧
        (leaves → f t (PLOT_SNS_STAT_win_out w i) = 1 ∧ (snsOf t w i).left = true) ∧
        (¬ leaves → fb t (PLOT_SNS_STAT_win_out w i) = left ∧
          (snsOf t w i).left = (if verWindow s w i = false ∧ inBand s w i p = true then false else x.left)) ∧
        (snsOf t w i).smp = x.smp ∧ (∀ v j, (v, j) ≠ (w, i) → j < 4096 → snsOf t v j = snsOf s v j) ∧ RegsKept [st] s t ∧
        t = { elapse s dt with regs := t.regs, hwSet := t.hwSet, msix := t.msix, msixDue := t.msixDue, sns := t.sns }) ∧
    (sevOf s 3 < 4 → ∀ bias cells,
      let kind := electrodeKind bias cells
      let u := runConv w (elapse s dt)
      let fails (v t : State) (pend : Option Nat) : Prop :=
        f t (PLOT_SNS_STAT_failed w i) = 1 ∧ f t (PLOT_SNS_CFG_reserve w i) = 1 ∧ asked t = pend ∧
        f t (PLOT_SNS_FAIL_kind w) = kind ∧ f t (PLOT_SNS_FAIL_chan w) = i ∧
        RegsKeptFlt [st, (PLOT_SNS_CFG_reserve w i).off, (PLOT_SNS_FAIL_kind w).off] v t ∧
        t = { v with regs := t.regs, hwSet := t.hwSet, msix := t.msix, msixDue := t.msixDue, sns := t.sns, convs := t.convs,
                     rsvPend := t.rsvPend, toFaultPart := t.toFaultPart }
      (kind ≠ 0 → fb s (PLOT_SNS_CFG_fdet_en w i) = true → fb s (PLOT_SNS_STAT_failed w i) = false →
        (onReserve s w i = false →
          Completes (.electrodeFail dt w i bias cells) s fun t =>
            fails u t (some (s.clk.now + dt)) ∧
            ∀ a b c d l, (snsOf u w i).smp = a :: b :: c :: d :: l → (∀ y ∈ (convOf u w sl).wait, y.chan ≠ i) →
              (snsOf t w i).smp = (a.1, d.2) :: (b.1, d.2) :: (c.1, d.2) :: d :: l) ∧
        (onReserve s w i = true →
          Completes (.electrodeFail dt w i bias cells) s fun t =>
            fails (elapse s dt) t none ∧ t.sns = s.sns ∧ t.convs = s.convs)) ∧
      (kind = 0 ∨ fb s (PLOT_SNS_CFG_fdet_en w i) = false ∨ fb s (PLOT_SNS_STAT_failed w i) = true →
        idle (.electrodeFail dt w i bias cells)) ∧
      (kind ≠ 0 → fb s (PLOT_SNS_CFG_fdet_en w i) = true → onReserve s w i = true → x.rfail = none →
        Completes (.reserveElectrodeFail dt w (i, bias, cells)) s fun t =>
          f t (PLOT_SNS_STAT_reserve_failed w i) = 1 ∧ snsOf t w i = { x with rfail := some (s.clk.now + dt) } ∧
          (∀ z, s.clk.now + dt ≤ z → reserveOut t w i z = true) ∧ (∀ z, z < s.clk.now + dt → reserveOut t w i z = false) ∧
          f t (PLOT_SNS_FAIL_kind w) = 3 ∧ f t (PLOT_SNS_FAIL_chan w) = i ∧ RegsKeptFlt [st, (PLOT_SNS_FAIL_kind w).off] s t ∧
          t = { elapse s dt with regs := t.regs, hwSet := t.hwSet, msix := t.msix, msixDue := t.msixDue, sns := t.sns, toFaultPart := t.toFaultPart }) ∧
      (kind = 0 ∨ fb s (PLOT_SNS_CFG_fdet_en w i) = false ∨ onReserve s w i = false ∨ x.rfail ≠ none →
        idle (.reserveElectrodeFail dt w (i, bias, cells)))) ∧
    (masterLive s 0 = true → ∀ b : Bool,
      Completes (.reserveSelect dt 0 w i b) s fun t =>
        let new := if b = false ∧ fb s (PLOT_SNS_STAT_failed w i) = true then fb s (PLOT_SNS_CFG_reserve w i) else b
        fb t (PLOT_SNS_CFG_reserve w i) = new ∧ asked t = (if new ≠ onReserve s w i then some (s.clk.now + dt) else none) ∧
        f t (PLOT_SNS_CFG_win_en w i) = f s (PLOT_SNS_CFG_win_en w i) ∧ f t (PLOT_SNS_CFG_rmode w i) = f s (PLOT_SNS_CFG_rmode w i) ∧
        f t (PLOT_SNS_CFG_fdet_en w i) = f s (PLOT_SNS_CFG_fdet_en w i) ∧
        f t (PLOT_SNS_CFG_win_hi w i) = f s (PLOT_SNS_CFG_win_hi w i) ∧ f t (PLOT_SNS_CFG_win_lo w i) = f s (PLOT_SNS_CFG_win_lo w i) ∧
        RegsKept [(PLOT_SNS_CFG_reserve w i).off] s t ∧
        t = { elapse s dt with regs := t.regs, hwSet := t.hwSet, msix := t.msix, msixDue := t.msixDue, rsvPend := t.rsvPend })

/-- R285 to R289, R303. -/
def Obligations.SlicesFailAndCalibrateInTurn : Prop :=
  ∀ (s : State) (dt w : Nat), s.porOn = false → w < 18 → domOn s w = true →
    let x := slcOf s w
    let idle (c : Instr) : Prop := Completes c s fun t => RegsKept [] s t ∧ OnlyRegs s dt t
    (∀ k trim, k < winSlices w → sevOf s 4 < 4 →
      let due := fb s (PLOT_SLC_STAT_failed w k) = false ∧
        (if trim then x.bgOn = some k ∧ x.bgDone = false ∧ trimEnd (f s (PLOT_SLC_TRIM_otrim w k)) (f s (PLOT_SLC_TRIM_gtrim w k)) = true
          else x.two.contains k = true)
      (¬ due → idle (.sliceFail dt w k trim)) ∧
      (due → Completes (.sliceFail dt w k trim) s fun t =>
        f t (PLOT_SLC_STAT_failed w k) = 1 ∧ (trim = true → f t (PLOT_SLC_STAT_trim_limit w k) = 1) ∧
        (k = spareOf w → f t (PLOT_SNS_STAT_no_spare w) = 1 ∧ (slcOf t w).failPend = []) ∧
        (k ≠ spareOf w → spareLost s w = false → x.failPend = [] →
          (slcOf t w).failPend = [k] ∧ (slcOf t w).deadPend = x.deadPend ∧ (x.bgOn.isSome = true → (slcOf t w).bgDone = true)) ∧
        (k ≠ spareOf w → spareLost s w = true ∨ x.failPend ≠ [] →
          (slcOf t w).deadPend = x.deadPend ++ [k] ∧ (slcOf t w).failPend = x.failPend) ∧
        RegsKeptFlt [(PLOT_SLC_STAT_failed w k).off, (PLOT_SNS_STAT_no_spare w).off] s t ∧
        t = { elapse s dt with regs := t.regs, hwSet := t.hwSet, msix := t.msix, msixDue := t.msixDue, slcs := t.slcs, toFaultPart := t.toFaultPart })) ∧
    (let k := bgPick s w
     let sp := spareOf w
     let may := fb s (PLOT_SNS_CTRL_bg_en w) = true ∧ spareLost s w = false ∧ x.bgOn = none ∧ x.failPend = [] ∧
       (k ≠ sp → ∀ i < winSensors w, sliceOf w i = k → chanQuick s w i = false)
     (¬ may → idle (.bgCalTurn dt w)) ∧
     (may → Completes (.bgCalTurn dt w) s fun t =>
       (slcOf t w).bgOn = some k ∧ (slcOf t w).bgDone = false ∧ f t (PLOT_SNS_STAT_bg_active w) = 1 ∧
       f t (PLOT_SNS_STAT_bg_slice w) = k ∧ f t (PLOT_SLC_STAT_role w k) = 1 ∧
       (k ≠ sp → f t (PLOT_SLC_STAT_carries w sp) = k ∧ f t (PLOT_SLC_STAT_role w sp) = 3) ∧
       t.clk.now % frameLen s = 0 ∧ s.clk.now + dt ≤ t.clk.now ∧ x.bgAt + f s (PLOT_SNS_CTRL_bg_period_ms w) * ms ≤ t.clk.now ∧
       RegsKept [(PLOT_SNS_STAT_bg_active w).off, (PLOT_SLC_STAT_role w k).off, (PLOT_SLC_STAT_role w sp).off] s t ∧
       t = { s with regs := t.regs, hwSet := t.hwSet, msix := t.msix, msixDue := t.msixDue, clk := t.clk, slcs := t.slcs })) ∧
    ∀ o g lo hi, lo < 16384 → hi < 16384 → sevOf s 4 < 4 →
      (∀ k, x.bgOn = some k → x.bgDone = false → k < winSlices w →
        let c := x.refCal.getD k (lo, hi)
        let near := ((lo : Int) - c.1).natAbs ≤ 1 ∧ ((hi : Int) - c.2).natAbs ≤ 1
        let trims (t : State) : Prop :=
          f t (PLOT_SLC_TRIM_otrim w k) = o % 256 ∧ f t (PLOT_SLC_TRIM_gtrim w k) = g % 256 ∧
          f t (PLOT_SLC_REF_ref_zero w k) = lo ∧ f t (PLOT_SLC_REF_ref_high w k) = hi ∧
          f t (PLOT_SLC_CNT_CONV_count w k) = (f s (PLOT_SLC_CNT_CONV_count w k) + 2) % 2 ^ 32
        let put := [(PLOT_SLC_TRIM_otrim w k).off, (PLOT_SLC_REF_ref_zero w k).off, (PLOT_SLC_CNT_CONV_count w k).off]
        (s.clk.now + dt ≤ x.bgAt + ms →
          (trimEnd o g = false → near → Completes (.bgCalDone dt w (o, g) (lo, hi)) s fun t =>
            trims t ∧ (slcOf t w).bgDone = true ∧ RegsKept put s t ∧
            t = { elapse s dt with regs := t.regs, hwSet := t.hwSet, msix := t.msix, msixDue := t.msixDue, slcs := t.slcs }) ∧
          (trimEnd o g = true → Completes (.bgCalDone dt w (o, g) (lo, hi)) s fun t =>
            trims t ∧ f t (PLOT_SLC_STAT_failed w k) = 1 ∧ f t (PLOT_SLC_STAT_trim_limit w k) = 1 ∧
            RegsKeptFlt (put ++ [(PLOT_SLC_STAT_failed w k).off, (PLOT_SNS_STAT_no_spare w).off]) s t ∧
            t = { elapse s dt with regs := t.regs, hwSet := t.hwSet, msix := t.msix, msixDue := t.msixDue, slcs := t.slcs, toFaultPart := t.toFaultPart })) ∧
        (x.bgAt + ms < s.clk.now + dt ∨ (trimEnd o g = false ∧ ¬ near) → idle (.bgCalDone dt w (o, g) (lo, hi)))) ∧
      (x.bgOn = none ∨ x.bgDone = true → idle (.bgCalDone dt w (o, g) (lo, hi)))

/-- R316 to R318, Table 9-9. -/
def Obligations.CalibrationBanksVerifyActivateInvalidate : Prop :=
  ∀ (s : State) (dt : Nat), s.porOn = false →
    let cmd := CAL_CMD_op.off
    let res := CAL_RESULT_code.off
    let result (t : State) (code : Nat) : Prop := f t CAL_RESULT_code = code ∧ f t CAL_RESULT_tile = 0 ∧ f t CAL_RESULT_copy = 0
    (masterLive s 0 = true →
      (calIsBusy s = true → ∀ c ∈ [Instr.calVerify dt 0, .calActivate dt 0, .calInvalidate dt 0],
        Completes c s fun t => result t 10 ∧ RegsKept [cmd, res] s t ∧ OnlyRegs s dt t) ∧
      (calIsBusy s = false →
        (domOn s 25 = true → Completes (.calVerify dt 0) s fun t =>
          f t CAL_STAT_busy = 1 ∧ RegsKept [cmd, CAL_STAT_busy.off] s t ∧ OnlyRegs s dt t) ∧
        (domOn s 25 = false → Completes (.calVerify dt 0) s fun t =>
          result t 1 ∧ RegsKept [cmd, res] s t ∧ OnlyRegs s dt t) ∧
        (Completes (.calInvalidate dt 0) s fun t =>
          result t 0 ∧ f t CAL_STAT_inactive_verified = 0 ∧ f t CAL_STAT_active = f s CAL_STAT_active ∧
          f t CAL_STAT_active_valid = f s CAL_STAT_active_valid ∧
          RegsKept [cmd, res, CAL_STAT_busy.off] s t ∧ OnlyRegs s dt t) ∧
        (let code : Nat :=
          (if f s CAL_STAT_inactive_verified = 0 then 8
            else if f s CAL_INACTIVE_GEN_generation ≤ f s CAL_ACTIVE_GEN_generation then 7
            else if f s CAL_CTRL_hold_flip = 1 then 9 else 0)
         (code ≠ 0 → Completes (.calActivate dt 0) s fun t =>
            result t code ∧ RegsKept [cmd, res] s t ∧ OnlyRegs s dt t) ∧
          (code = 0 → Completes (.calActivate dt 0) s fun t =>
            result t 0 ∧ f t CAL_STAT_active = 1 - f s CAL_STAT_active ∧ f t CAL_STAT_active_valid = 1 ∧
            f t CAL_STAT_inactive_verified = 0 ∧ f t CAL_ACTIVE_GEN_generation = f s CAL_INACTIVE_GEN_generation ∧
            f t CAL_DEV_FLIPS_count = (f s CAL_DEV_FLIPS_count + 1) % 2 ^ 32 ∧
            (∀ w < 18, domOn s w = true → amGet (fun _ => false) t.wsLoad w = true) ∧
            (fb t CAL_STAT_reload_pend = true ↔
              ∃ w < 18, domOn s w = true ∧ f s (CAL_WIN_GEN_generation w) ≠ f s CAL_INACTIVE_GEN_generation) ∧
            (s.rotMarked = 0 → t.toCommitPart = s.toCommitPart ∧ MemKept s t))))) ∧
    (fb s CAL_STAT_busy = false → Completes (.calVerifyDone dt) s fun t => RegsKept [] s t ∧ OnlyRegs s dt t) ∧
    (fb s CAL_STAT_busy = true → sevOf s 16 < 4 → sevOf s 17 < 4 → sevOf s 25 < 4 →
      Completes (.calVerifyDone dt) s fun t =>
        let gen := tileGen s (bankBase (inactiveBank s))
        f t CAL_STAT_busy = 0 ∧ f t CAL_STAT_active = f s CAL_STAT_active ∧ f t CAL_STAT_active_valid = f s CAL_STAT_active_valid ∧
        f t CAL_ACTIVE_GEN_generation = f s CAL_ACTIVE_GEN_generation ∧ t.toCommitPart = s.toCommitPart ∧
        (match verifyScan s gen with
          | some (n, code, copy) => f t CAL_RESULT_code = code ∧ f t CAL_RESULT_tile = n ∧ f t CAL_RESULT_copy = copy ∧
              f t CAL_STAT_inactive_verified = f s CAL_STAT_inactive_verified
          | none => result t 0 ∧ f t CAL_STAT_inactive_verified = 1 ∧ f t CAL_INACTIVE_GEN_generation = gen))

/-- R300, R301, R306, R307, R309. -/
def Obligations.WorkingSetsLoadAndSensorHalvesSwap : Prop :=
  ∀ (s : State) (dt w : Nat), s.porOn = false → w < 18 → domOn s w = true →
    let idle (c : Instr) : Prop := Completes c s fun t => RegsKept [] s t ∧ OnlyRegs s dt t
    (amGet (fun _ => false) s.wsLoad w = false ∨ calActive s = false ∨ winHeld s w = true → idle (.workingSetLoad dt w)) ∧
    (amGet (fun _ => false) s.wsLoad w = true → calActive s = true → winHeld s w = false →
      sevOf s 16 < 4 → sevOf s 17 < 4 → sevOf s 25 < 4 →
      Completes (.workingSetLoad dt w) s fun t =>
        let u : State := { elapse s dt with wsLoad := amSet (fun _ => false) s.wsLoad w false }
        let g := if (loadRun u w (loadTiles w) u).1 then f s CAL_ACTIVE_GEN_generation else 0xFFFFFFFF
        amGet (fun _ => false) t.wsLoad w = false ∧ f t (CAL_WIN_GEN_generation w) = g ∧ wsGen t w = g ∧
        t.toCommitPart = s.toCommitPart ∧ t.clk = (elapse s dt).clk) ∧
    (amGet (fun _ => false) s.snsSwap w = false → idle (.sensorHalfSwap dt w)) ∧
    (amGet (fun _ => false) s.snsSwap w = true →
      Completes (.sensorHalfSwap dt w) s fun t =>
        let old := sramRead s w 0x4004 1
        let base (h : Nat) : Nat := if h = 0 then 0x4400 else 0x8400
        let h := 1 - old
        amGet (fun _ => false) t.snsSwap w = false ∧ sramRead t w 0x4004 1 = h ∧
        (∀ e < winElectrodes w, ∀ b < 4,
          sramRead t w (base h + 8 * e + 2 * b) 2 =
            toTwos 16 (elecValue s w e (siteT s (snsSite s w)) b) % 65536 ∧
          (old < 2 → sramRead t w (base old + 8 * e + 2 * b) 2 = sramRead s w (base old + 8 * e + 2 * b) 2)) ∧
        RegsKept [] s t ∧ t = { elapse s dt with regs := t.regs, hwSet := t.hwSet, msix := t.msix, msixDue := t.msixDue, sram := t.sram, snsSwap := t.snsSwap })

/-- R310 to R315. -/
def Obligations.CalibrationMarksBeginEndAndGrowStale : Prop :=
  ∀ (s : State) (dt w sl : Nat), s.porOn = false → w < 18 → sl < winLoops w →
    let cmd := CAL_ELEM_CMD_op.off
    let res := CAL_ELEM_RESULT_code.off
    let loop (t : State) : Prop := t = { elapse s dt with
      regs := t.regs, hwSet := t.hwSet, msix := t.msix, msixDue := t.msixDue, loops := t.loops, calMarks := t.calMarks }
    (masterLive s 0 = true →
      (∀ force : Bool,
        let code := markCode s w sl force
        (Completes (.calMark dt 0 w sl force) s fun t =>
          f t CAL_ELEM_RESULT_code = code ∧ f t CAL_ELEM_RESULT_marks = (marksIn t w).length % 32 ∧ RegsKept [cmd, res] s t ∧
          (code ≠ 0 ∨ (markOf s w sl).isSome = true → OnlyRegs s dt t) ∧
          (code = 0 → markOf s w sl = none →
            markOf t w sl = some { at_ := s.clk.now + dt } ∧ t.loops = s.loops ∧ loop t))) ∧
      (markOf s w sl = none → ∀ c ∈ [Instr.calEnd dt 0 w sl, .calAbandon dt 0 w sl],
        Completes c s fun t => f t CAL_ELEM_RESULT_code = 3 ∧ RegsKept [cmd, res] s t ∧ OnlyRegs s dt t) ∧
      ((markOf s w sl).isSome = true →
        (Completes (.calEnd dt 0 w sl) s fun t =>
          markOf t w sl = none ∧ (loopOf t w sl).restart = true ∧ f t (PLOT_LOOP_STAT_stale w sl) = 0 ∧
          f t CAL_ELEM_RESULT_code = 0 ∧ f t (CAL_WIN_CNT_count w) = (f s (CAL_WIN_CNT_count w) + 1) % 2 ^ 32 ∧
          f t CAL_DEV_CNT_count = (f s CAL_DEV_CNT_count + 1) % 2 ^ 32 ∧
          f t (CAL_WIN_LAST_NS_ns w) = tNs (tbNow (elapse s dt) 0) ∧ f t CAL_DEV_LAST_NS_ns = tNs (tbNow (elapse s dt) 0) ∧
          RegsKept [cmd, res, (PLOT_LOOP_STAT_stale w sl).off, (CAL_WIN_CNT_count w).off, (CAL_WIN_LAST_NS_ns w).off,
            (CAL_WIN_LAST_SL_sec_low w).off, (CAL_WIN_LAST_SH_sec_high w).off, CAL_DEV_CNT_count.off, CAL_DEV_LAST_NS_ns.off,
            CAL_DEV_LAST_SL_sec_low.off, CAL_DEV_LAST_SH_sec_high.off] s t ∧ loop t) ∧
        (Completes (.calAbandon dt 0 w sl) s fun t =>
          markOf t w sl = none ∧ (loopOf t w sl).restart = true ∧ f t (PLOT_LOOP_STAT_stale w sl) = 0 ∧
          f t CAL_ELEM_RESULT_code = 0 ∧ f t CAL_CNT_ABANDON_count = (f s CAL_CNT_ABANDON_count + 1) % 2 ^ 32 ∧
          RegsKept [cmd, res, (PLOT_LOOP_STAT_stale w sl).off, CAL_CNT_ABANDON_count.off] s t ∧ loop t))) ∧
    (sevOf s 5 < 4 → ∀ k, markOf s w sl = some k → k.long = false →
      Completes (.calStaleLimit dt w sl) s fun t =>
        markOf t w sl = some { k with long := true } ∧
        t.clk.now = max (s.clk.now + dt) (k.at_ + f s CAL_CTRL_stale_limit_ms * ms) ∧ RegsKeptFlt [] s t ∧
        (∀ v x, (v, x) ≠ (w, sl) → x < 4096 → markOf t v x = markOf s v x) ∧
        t = { s with regs := t.regs, hwSet := t.hwSet, msix := t.msix, msixDue := t.msixDue, clk := t.clk, calMarks := t.calMarks, toFaultPart := t.toFaultPart }) ∧
    ((∀ k, markOf s w sl = some k → k.long = true) →
      Completes (.calStaleLimit dt w sl) s fun t => RegsKept [] s t ∧ OnlyRegs s dt t)

/-- R324, R329, R330, R332, R334, R342, R343, R356. -/
def Obligations.LinksAndTransmission : Prop :=
  ∀ (s : State) (dt p : Nat), s.porOn = false → p < 2 → sevOf s 28 < 4 → sevOf s (29 + p) < 4 →
    let st := (ETH_STAT_link p).off
    let idle (c : Instr) : Prop := Completes c s fun t => RegsKept [] s t ∧ OnlyRegs s dt t
    let isUp := domOn s (portDom p) = true ∧ fb s (ETH_CTRL_enable p) = true ∧ fb s (ETH_STAT_link p) = true
    (domOn s (portDom p) = true → fb s (ETH_STAT_link p) = false →
      Completes (.linkUp dt p) s fun t =>
        f t (ETH_STAT_link p) = 1 ∧ f t (ETH_STAT_link_change p) = 1 ∧ f t (ETH_STAT_hi_ber p) = 0 ∧
        f t (ETH_STAT_fec_lock p) = f s (ETH_CTRL_fec_en p) ∧ RegsKept [st] s t ∧ OnlyRegs s dt t) ∧
    (domOn s (portDom p) = false ∨ fb s (ETH_STAT_link p) = true → idle (.linkUp dt p)) ∧
    (∀ ber, fb s (ETH_STAT_link p) = false → idle (.linkDown dt p ber)) ∧
    (∀ ber : Bool, fb s (ETH_STAT_link p) = true →
      Completes (.linkDown dt p ber) s fun t =>
        f t (ETH_STAT_link p) = 0 ∧ f t (ETH_STAT_link_lost p) = 1 ∧ f t (ETH_STAT_link_change p) = 1 ∧
        f t (ETH_STAT_hi_ber p) = ber.toNat ∧ txWaiting t p = [] ∧ txWaiting t (1 - p) = txWaiting s (1 - p) ∧
        t.sent = s.sent ∧ tsqOf t p = [] ∧ t.toCommitPart = s.toCommitPart ∧ t.clk = (elapse s dt).clk) ∧
    (¬ isUp → idle (.frameTransmit dt p)) ∧
    (isUp → txWaiting s p = [] → txPosted s p = false ∨ pd24Up s = false → idle (.frameTransmit dt p)) ∧
    (isUp → ∀ m l, txWaiting s p = m :: l → m.port = p → keyLoaded s m.tenant m.slot = true →
      txPosted s p = false ∨ pd24Up s = false ∨ amGet (fun _ => false) s.txRing p = true →
      Completes (.frameTransmit dt p) s fun t =>
        (∃ r < 2 ^ 45, t.sent = s.sent ++ [⟨p, msgFrame s m r⟩]) ∧ txWaiting t p = l ∧ amGet (fun _ => false) t.txRing p = false ∧
        ctr t.txSeq m.tenant = (ctr s.txSeq m.tenant + 1) % 2 ^ 32 ∧ (∀ x, x ≠ m.tenant → ctr t.txSeq x = ctr s.txSeq x) ∧
        f t (ETH_CNT_TX_FRAMES_count p) = (f s (ETH_CNT_TX_FRAMES_count p) + 1) % 2 ^ 32 ∧
        f t REQ_CNT_TELEM_count = (f s REQ_CNT_TELEM_count + if bodyType m.body = 5 then 1 else 0) % 2 ^ 32 ∧
        (m.handle = none → RegsKept [(ETH_CNT_TX_FRAMES_count p).off, REQ_CNT_TELEM_count.off] s t ∧ MemKept s t) ∧
        (∀ h, m.handle = some h → hValid h = true → (bufGet t (hPool h) (hIndex h)).alloc = false) ∧
        t = { elapse s dt with
          regs := t.regs, hwSet := t.hwSet, msix := t.msix, msixDue := t.msixDue, freeCtr := s.freeCtr + 1, sent := t.sent
          txWait := t.txWait, txRing := t.txRing, txSeq := t.txSeq, toMemPart := t.toMemPart }) ∧
    (isUp → ∀ m, txWaiting s p = [m] → keyLoaded s m.tenant m.slot = false → m.handle = none →
      txPosted s p = false ∨ pd24Up s = false → domOn s 21 = true →
      Completes (.frameTransmit dt p) s fun t =>
        t.sent = s.sent ∧ txWaiting t p = [] ∧ f t REQ_CNT_UNSENT_count = (f s REQ_CNT_UNSENT_count + 1) % 2 ^ 32 ∧
        f t REQ_INT_STAT_unsent = 1 ∧ RegsKept [REQ_CNT_UNSENT_count.off, REQ_INT_STAT_unsent.off] s t ∧
        t = { elapse s dt with regs := t.regs, hwSet := t.hwSet, msix := t.msix, msixDue := t.msixDue, txWait := t.txWait }) ∧
    (∀ m r, ∃ pre, msgFrame s m r = pre ++ urpBytes s m (r / 2 ^ 43 % 4)) ∧
    (∀ m pre k, keyBytes s m.tenant m.slot = some k →
      (urpBytes s m pre).length = 48 + (bodyBytes m.body).length ∧
      (urpBytes s m pre).drop (32 + (bodyBytes m.body).length) =
        (hmac256 k ((urpBytes s m pre).take (32 + (bodyBytes m.body).length))).take 16) ∧
    (isUp → txPosted s p = true → pd24Up s = true →
      (txWaiting s p = [] ∨ (amGet (fun _ => false) s.txRing p = false ∧
        ∃ m l, txWaiting s p = m :: l ∧ keyLoaded s m.tenant m.slot = true)) →
      Completes (.frameTransmit dt p) s fun t =>
        let d := busGet s (f s (ETH_TXR_BASE_addr p) + 16 * f s (ETH_TXR_HEAD_head p)) 16
        let len := ofBytes ((d.drop 4).take 2)
        let hd := ofBytes (d.take 4)
        let good := 60 ≤ len ∧ len ≤ 9212
        t.sent = (if good then s.sent ++ [⟨p, dramList s (hAddr hd) len⟩] else s.sent) ∧
        f t (ETH_CNT_TX_FRAMES_count p) = (f s (ETH_CNT_TX_FRAMES_count p) + if good then 1 else 0) % 2 ^ 32 ∧
        f t (ETH_CNT_TX_ERR_count p) = (f s (ETH_CNT_TX_ERR_count p) + if good then 0 else 1) % 2 ^ 32 ∧
        f t (ETH_TXR_HEAD_head p) = (f s (ETH_TXR_HEAD_head p) + 1) % ringSize s (ETH_TXR_CFG_entries p) % 1024 ∧
        f t (ETH_STAT_tx_event p) = 1 ∧ txWaiting t p = txWaiting s p ∧ t.toCommitPart = s.toCommitPart)

/-- R325 to R327, R342 to R346, Tables 10-2 and 10-14. -/
def Obligations.ReceivedFramesAreSortedByTable : Prop :=
  ∀ (s : State) (dt p : Nat) (l : List Nat) (fcs : Bool), s.porOn = false → p < 2 →
    let isUp := domOn s (portDom p) = true ∧ fb s (ETH_CTRL_enable p) = true ∧ fb s (ETH_STAT_link p) = true
    let row := rxRow s p l fcs
    let urpOn := fb s (ETH_CTRL_urp_en p) = true ∧ fb s REQ_CTRL_urp_en = true ∧ domOn s 21 = true
    let counted (x : Fld) (t : State) : Prop :=
      f t (ETH_CNT_RX_FRAMES_count p) = (f s (ETH_CNT_RX_FRAMES_count p) + 1) % 2 ^ 32 ∧ f t x = (f s x + 1) % 2 ^ 32
    let only (x : Fld) : Prop := Completes (.frameReceive dt p l fcs) s fun t =>
      counted x t ∧ RegsKept [(ETH_CNT_RX_FRAMES_count p).off, x.off] s t ∧ OnlyRegs s dt t
    (¬ isUp → Completes (.frameReceive dt p l fcs) s fun t => RegsKept [] s t ∧ OnlyRegs s dt t) ∧
    (isUp →
      (row = 1 → only (ETH_CNT_RX_ERR_count p)) ∧ (row = 2 ∨ row = 3 → only (ETH_CNT_RX_ADDR_count p)) ∧
      (row = 4 → only (ETH_CNT_RX_PAUSE_count p)) ∧ (row = 5 → only (ETH_CNT_RX_IP_count p)) ∧
      (row = 12 ∨ (row = 6 ∧ ¬ urpOn) → only (ETH_CNT_RX_DROP_count p)) ∧
      (7 ≤ row → row ≤ 11 → f s (ETH_RXR_HEAD_head p) = f s (ETH_RXR_TAIL_tail p) ∨ pd24Up s = false →
        only (ETH_CNT_RX_RING_count p)) ∧
      (row = 6 → urpOn →
        let r := rxFrame l
        let m := (l.drop (r.pay + 8)).take (r.ulen - 8)
        let n := beAt m 6 2
        let type := byteAt m 3
        let tenant := byteAt m 4 % 64
        let head := beAt m 0 2 = 0x5552 ∧ byteAt m 2 = 1 ∧ type ∈ [1, 3, 6, 8] ∧ m.length = 48 + n
        (¬ head → Completes (.frameReceive dt p l fcs) s fun t =>
          counted (ETH_CNT_RX_URP_count p) t ∧ f t REQ_CNT_HDR_count = (f s REQ_CNT_HDR_count + 1) % 2 ^ 32 ∧
          RegsKept [(ETH_CNT_RX_FRAMES_count p).off, (ETH_CNT_RX_URP_count p).off, REQ_CNT_HDR_count.off] s t ∧
          OnlyRegs s dt t) ∧
        (∀ k w, head → keyBytes s tenant (byteAt m 5 % 2) = some k → (hmac256 k (m.take (32 + n))).take 16 = m.drop (32 + n) →
          type = 8 ∨ (beAt m 0x10 4 = f s REQ_INSTANCE_instance ∧ f s REQ_INSTANCE_instance ≠ 0) →
          replayNext (amGet (fun _ => none) s.replay tenant) (beAt m 8 4) = some w →
          bodyBad type ((m.drop 32).take n) = none →
          Completes (.frameReceive dt p l fcs) s fun t =>
            counted (ETH_CNT_RX_URP_count p) t ∧ amGet (fun _ => none) t.replay tenant = some w ∧
            (∃ u, t.urpIn = s.urpIn ++ [u] ∧ u.type = type ∧ u.tenant = tenant ∧ u.seq = beAt m 8 4 ∧
              u.body = (m.drop 32).take n ∧ u.port = p ∧ u.slot = byteAt m 5 % 2 ∧ u.arrival = s.clk.now + dt) ∧
            RegsKept [(ETH_CNT_RX_FRAMES_count p).off, (ETH_CNT_RX_URP_count p).off] s t ∧
            t = { elapse s dt with regs := t.regs, hwSet := t.hwSet, msix := t.msix, msixDue := t.msixDue, replay := t.replay, urpIn := t.urpIn })))

/-- R4, R70, R80, R337, R347 to R351. -/
def Obligations.SheafRequestsAreAdmittedMeteredAndQueued : Prop :=
  ∀ (s : State) (dt : Nat), s.porOn = false →
    (domOn s 21 = false ∨ (∀ u l, s.urpIn = u :: l → u.type ≠ 1) →
      Completes (.sheafReq dt) s fun t => RegsKept [] s t ∧ OnlyRegs s dt t) ∧
    (∀ u l, s.urpIn = u :: l → u.type = 1 → domOn s 21 = true →
      let sh := sheafOf u s.uidNext
      let col := (meter u.tenant sh.ops.length u.pre (elapse s dt)).1
      let q := queueOf s u.tenant
      let refused (reason : Nat) (h : Option Nat) (t : State) : Prop :=
        t.urpIn = l ∧ t.uidNext = s.uidNext + 1 ∧ queueOf t u.tenant = q ∧ t.toCommitPart = s.toCommitPart ∧
        (keyLoaded s u.tenant u.slot = true → fb s (ETH_STAT_link u.port) = true →
          txWaiting t u.port = txWaiting s u.port ++ [{ port := u.port, tenant := u.tenant, slot := u.slot, peer := some (u.peer, u.v6)
                                                        refSeq := u.seq, body := .sheafRsp reason 0 0 1 false false false false [] [] 0 0, handle := h }])
      (admitReason s u.tenant sh.ops ≠ 0 →
        Completes (.sheafReq dt) s fun t =>
          refused (admitReason s u.tenant sh.ops) none t ∧ t.tokC = s.tokC ∧ t.tokP = s.tokP ∧ t.bpmBuf = s.bpmBuf) ∧
      (admitReason s u.tenant sh.ops = 0 → col = .red →
        Completes (.sheafReq dt) s fun t =>
          refused 0x02 none t ∧ t.bpmBuf = s.bpmBuf ∧
          f t (REQ_T_CNT_count u.tenant 3) = (f s (REQ_T_CNT_count u.tenant 3) + 1) % 2 ^ 32) ∧
      (admitReason s u.tenant sh.ops = 0 → col ≠ .red → (bpmAlloc (reqId 2 0) (32 + 4 * sh.ops.length) (elapse s dt)).2.1 = 0 →
        u.tenant < 64 →
        (f s (REQ_T_CFG_weight u.tenant) = 0 → Completes (.sheafReq dt) s fun t => ∃ h, refused 0x08 (some h) t) ∧
        (f s (REQ_T_CFG_weight u.tenant) ≠ 0 → q.length < f s (REQ_T_CFG_q_depth u.tenant) →
          q.length + 1 ≤ f s (REQ_T_MCFG_y_thresh u.tenant) →
          Completes (.sheafReq dt) s fun t =>
            t.urpIn = l ∧ t.uidNext = s.uidNext + 1 ∧ t.toCommitPart = s.toCommitPart ∧ t.txWait = s.txWait ∧
            f t (REQ_T_CNT_count u.tenant 0) = (f s (REQ_T_CNT_count u.tenant 0) + 1) % 2 ^ 32 ∧
            (∀ x ≠ u.tenant, queueOf t x = queueOf s x) ∧
            ∃ init y, queueOf t u.tenant = init ++ [y] ∧ init.map (·.uid) = q.map (·.uid) ∧ y.uid = s.uidNext ∧
              y.ops = sh.ops ∧ y.tenant = u.tenant ∧ y.green = decide (col = .green) ∧ y.handle.isSome = true ∧
              y.headAt = t.clk.now)))

/-- R332, R333, R335, R338, R339, R341. -/
def Obligations.QueriesHeartbeatsAndTelemetry : Prop :=
  ∀ (s : State) (dt : Nat), s.porOn = false → domOn s 21 = true →
    let idle (c : Instr) : Prop := Completes c s fun t => RegsKept [] s t ∧ OnlyRegs s dt t
    (∀ u l, s.urpIn = u :: l → keyLoaded s u.tenant u.slot = true → fb s (ETH_STAT_link u.port) = true →
      let msg (b : MsgBody) : Msg :=
        { port := u.port, tenant := u.tenant, slot := u.slot, peer := some (u.peer, u.v6), refSeq := u.seq, body := b }
      let only (t : State) : Prop := t.urpIn = l ∧ RegsKept [] s t ∧ t = { elapse s dt with
        regs := t.regs, hwSet := t.hwSet, msix := t.msix, msixDue := t.msixDue, urpIn := t.urpIn, txWait := t.txWait, queryCnt := t.queryCnt }
      (u.type = 3 → s.commit.isSome = true → idle (.query dt)) ∧
      (u.type = 3 → s.commit = none →
        (8 ≤ ctr s.queryCnt u.tenant → Completes (.query dt) s fun t =>
          only t ∧ txWaiting t u.port = txWaiting s u.port ++
            [msg (.queryRsp 0x08 0 1 (byteAt u.body 0) (f s CMT_LAST_SEQ_seq) [])]) ∧
        (ctr s.queryCnt u.tenant < 8 → Completes (.query dt) s fun t =>
          let recs := queryRecords (elapse s dt) u.tenant u.body
          let per := recsPerPart s u.v6 8 8
          let parts := partsOf recs.length per
          only t ∧ ctr t.queryCnt u.tenant = ctr s.queryCnt u.tenant + 1 ∧
          txWaiting t u.port = txWaiting s u.port ++ (List.range parts).map (fun k =>
            msg (.queryRsp 0 k parts (byteAt u.body 0) (f s CMT_LAST_SEQ_seq) ((recs.drop (k * per)).take per))))) ∧
      (u.type = 8 → Completes (.heartbeat dt) s fun t =>
        only t ∧ txWaiting t u.port = txWaiting s u.port ++ [msg (heartbeatBody (elapse s dt) u.tenant)])) ∧
    (Completes (.heartbeatPeriodic dt) s fun t =>
      let at_ := max (s.clk.now + dt) (s.hbAt + max 1 (f s REQ_CFG_hb_period_ms) * ms)
      t.clk.now = at_ ∧ t.hbAt = at_ ∧ t.toCommitPart = s.toCommitPart ∧
      ((∀ x < 64, hasReport s x = false) → t.txWait = s.txWait ∧ RegsKept [] s t ∧
        t = { s with regs := t.regs, hwSet := t.hwSet, msix := t.msix, msixDue := t.msixDue, clk := t.clk, hbAt := t.hbAt })) ∧
    ∀ x,
      (telemOf s x = [] → idle (.telemSend dt x)) ∧
      (∀ r q, telemOf s x = r :: q → fb s (REQ_T_CFG_rpt_valid x) = true →
        keyLoaded s x (f s (REQ_T_CFG_tx_slot x)) = true →
        ∀ p, (if fb s (ETH_STAT_link (f s (REQ_T_CFG_rpt_port x))) then f s (REQ_T_CFG_rpt_port x)
            else 1 - f s (REQ_T_CFG_rpt_port x)) = p → fb s (ETH_STAT_link p) = true →
        Completes (.telemSend dt x) s fun t =>
          let hold := f s REQ_CFG_telem_hold
          let n := if hold = 0 then 1 else 64
          t.clk.now = (if 64 ≤ (r :: q).length then s.clk.now + dt else max (s.clk.now + dt) (r.at_ + hold * (10 * us))) ∧
          telemOf t x = (r :: q).drop n ∧ ctr t.telemSeq x = (ctr s.telemSeq x + 1) % 2 ^ 32 ∧ ctr t.telemLost x = 0 ∧
          txWaiting t p = txWaiting s p ++ [{ port := p, tenant := x, slot := f s (REQ_T_CFG_tx_slot x)
                                              body := .telem (ctr s.telemSeq x) (ctr s.telemLost x) ((r :: q).take n) }] ∧
          RegsKept [] s t ∧ t = { s with
            regs := t.regs, hwSet := t.hwSet, msix := t.msix, msixDue := t.msixDue, clk := t.clk, txWait := t.txWait, telemQ := t.telemQ
            telemSeq := t.telemSeq, telemLost := t.telemLost })

/-- R343, R345, R350, R353. -/
def Obligations.KeysInstanceWeightsAndSamples : Prop :=
  ∀ (s : State) (dt x : Nat), s.porOn = false → domOn s 21 = true → x < 64 →
    (masterLive s 0 = true →
      (∀ k < 2,
        Completes (.keyLoad dt 0 x k) s (fun t =>
          amGet (fun _ => none) t.keys (2 * x + k) =
            some (ofBe ((List.range 8).flatMap (fun i => beBytes 4 (f s (REQ_KEY_DATA_key i))))) ∧
          (∀ j, j ≠ 2 * x + k → amGet (fun _ => none) t.keys j = amGet (fun _ => none) s.keys j) ∧
          (∀ i < 8, f t (REQ_KEY_DATA_key i) = 0) ∧ f t REQ_INT_STAT_key_done = 1 ∧
          RegsKept (REQ_KEY_CMD_op.off :: REQ_INT_STAT_key_done.off :: (List.range 8).map (fun i => (REQ_KEY_DATA_key i).off)) s t ∧
          t = { elapse s dt with regs := t.regs, hwSet := t.hwSet, msix := t.msix, msixDue := t.msixDue, keys := t.keys }) ∧
        Completes (.keyErase dt 0 x k) s (fun t =>
          amGet (fun _ => none) t.keys (2 * x + k) = none ∧
          (∀ j, j ≠ 2 * x + k → amGet (fun _ => none) t.keys j = amGet (fun _ => none) s.keys j) ∧
          f t REQ_INT_STAT_key_done = 1 ∧ RegsKept [REQ_KEY_CMD_op.off, REQ_INT_STAT_key_done.off] s t ∧
          t = { elapse s dt with regs := t.regs, hwSet := t.hwSet, msix := t.msix, msixDue := t.msixDue, keys := t.keys })) ∧
      (∀ v, Completes (.instanceWrite dt 0 v) s fun t =>
        f t REQ_INSTANCE_instance = v % 2 ^ 32 ∧ (∀ y, amGet (fun _ => none) t.replay y = none) ∧
        RegsKept [REQ_INSTANCE_instance.off] s t ∧ t = { elapse s dt with regs := t.regs, hwSet := t.hwSet, msix := t.msix, msixDue := t.msixDue, replay := t.replay }) ∧
      (Completes (.tenantWeightZero dt 0 x) s fun t =>
        f t (REQ_T_CFG_weight x) = 0 ∧ f t (REQ_T_CFG_rpt_valid x) = f s (REQ_T_CFG_rpt_valid x) ∧ queueOf t x = [] ∧
        (∀ y ≠ x, queueOf t y = queueOf s y) ∧ t.toCommitPart = s.toCommitPart ∧
        (queueOf s x = [] → RegsKept [(REQ_T_CFG_weight x).off] s t ∧
          t = { elapse s dt with regs := t.regs, hwSet := t.hwSet, msix := t.msix, msixDue := t.msixDue, queues := t.queues })) ∧
      (Completes (.histClear dt 0) s fun t =>
        (∀ y < 64, ∀ b < 16, f t (REQ_HIST_count y b) = 0) ∧ OnlyRegs s dt t ∧
        ∀ o, ¬ (0x52000 ≤ o ∧ o < 0x53000) → o ≠ DMA_MSIX_PEND_pending.off → rd t o = rd s o)) ∧
    (s.planAt = none → Completes (.queueSample dt) s fun t => RegsKept [] s t ∧ OnlyRegs s dt t) ∧
    (∀ b, s.planAt = some b →
      Completes (.queueSample dt) s fun t =>
        let per := 100000 * nsUnit
        let k := max (f s REQ_SAMPLE_NUM_k + 1) ((tbNow (elapse s dt) 0 - b + (per - 1)) / per)
        let now' := max (s.clk.now + dt) (tb0Instant (elapse s dt) (b + per * k))
        let d := match queueOf s x with | h :: _ => now' - h.headAt | [] => 0
        let fw := match queueOf s x with | h :: _ => (fenceWait s h).toNat | [] => 0
        let hol := min 0xFFFFFF (d / 1000)
        t.clk.now = now' ∧ f t REQ_SAMPLE_NUM_k = k % 2 ^ 32 ∧
        f t (REQ_RING_word x (2 * (k % 64))) = ((queueOf s x).length + 512 * fw + 65536 * hol) % 2 ^ 32 ∧
        f t (REQ_RING_word x (2 * (k % 64) + 1)) = hol / 65536 + 256 * (k % 2 ^ 24) ∧
        f t (REQ_HIST_count x (histBin d)) = min (f s (REQ_HIST_count x (histBin d)) + 1) (2 ^ 32 - 1) ∧
        t.queryCnt = [] ∧ t = { s with regs := t.regs, hwSet := t.hwSet, msix := t.msix, msixDue := t.msixDue, clk := t.clk, queryCnt := t.queryCnt })

/-- R237, R357 to R364, R369. -/
def Obligations.TemperaturesAreConvertedOnDemand : Prop :=
  ∀ (s : State) (dt : Nat), s.porOn = false →
    (∀ (c : Instr) (u : State) (src mask : Nat),
      ((masterLive s 0 = true ∧ u = elapse s dt ∧ src = 1 ∧ ∃ hi v, c = .tempDemandWrite dt 0 hi v ∧
          mask = if hi then v % 65536 * 2 ^ 32 else v % 2 ^ 32) ∨
       (c = .demandTimer dt ∧ src = 2 ∧ mask = f s GOV_TMR_SITES_LO_sites + 2 ^ 32 * f s GOV_TMR_SITES_HI_sites ∧
          u = elapseTo (elapse s dt) (tb0Multiple (elapse s dt) (f s GOV_CTRL_timer * 5000000)))) →
      Completes c s fun t =>
        let p := demPend s ||| mask
        let d (x : Nat) : Nat := (x + 48 - (s.lastSite + 1) % 48) % 48
        f t (GOV_CNT_DEM_count src) = (f s (GOV_CNT_DEM_count src) + 1) % 2 ^ 32 ∧ t.clk = u.clk ∧
        (s.convSite.isSome = true ∨ p = 0 → demPend t = p ∧ t.convSite = s.convSite ∧ t.lastSite = s.lastSite) ∧
        (s.convSite = none → p ≠ 0 → ∃ i < 48, p.testBit i = true ∧ demPend t = p ^^^ 2 ^ i ∧ t.convSite = some i ∧
          t.lastSite = i ∧ t.convAt = u.clk.now ∧ ∀ x < 48, p.testBit x = true → d i ≤ d x) ∧
        RegsKept [(GOV_CNT_DEM_count src).off, GOV_PEND_LO_sites.off, GOV_PEND_HI_sites.off] s t ∧
        t = { u with regs := t.regs, hwSet := t.hwSet, msix := t.msix, msixDue := t.msixDue, convSite := t.convSite, lastSite := t.lastSite, convAt := t.convAt }) ∧
    (∀ temp, s.convSite = none → Completes (.tempConversionDone dt temp) s fun t => RegsKept [] s t ∧ OnlyRegs s dt t) ∧
    (∀ temp i, s.convSite = some i → i < 48 → sevOf s 32 < 4 → (sevOf s 33 < 4 ∨ temp < 105 * 256) →
      Completes (.tempConversionDone dt temp) s fun t =>
        let u := elapseTo (elapse s dt) (s.convAt + 20 * us)
        let lvl := f t (GOV_SITE_LEVEL_demand i)
        t.clk = u.clk ∧ f t (GOV_SITE_TEMP_temp i) = toTwos 16 temp ∧ siteValid t i = true ∧
        f t (GOV_SITE_TS_NS_ns i) = tNs (tbNow u 0) ∧
        (amGet (fun _ => []) t.siteHist i).head? = some (tbNow u 0, temp) ∧
        f t GOV_STEP_governed = max (f s GOV_STEP_governed) lvl ∧
        (f s GOV_STEP_governed < lvl → f t GOV_STEP_step = max (f s GOV_STEP_floor) lvl ∧ f t GOV_STAT_rise = 1 ∧
          f t GOV_CNT_RISE_count = (f s GOV_CNT_RISE_count + 1) % 2 ^ 32) ∧
        (lvl ≤ f s GOV_STEP_governed → f t GOV_STEP_step = f s GOV_STEP_step ∧ f t GOV_STAT_rise = f s GOV_STAT_rise) ∧
        t.present = s.present ∧ t.projected = s.projected ∧ MemKept s t) ∧
    ∀ w mv slots pw, w < 18 → domOn s w = true →
      let v := setF (PLOT_DRL_VHTR_v_htr_mv w) mv s
      let serve := heaterPower v w (heaterServes s w) (slots.zip pw)
      let other := heaterPower v w (fun sl => !slotPockels w sl && !heaterServes s w sl) (slots.zip pw)
      Completes (.heaterPowerReport dt w mv slots pw) s fun t =>
        f t (PLOT_DRL_HPWR_power_mw w) = (serve + other) % 2 ^ 20 ∧ f t (PLOT_DRL_VHTR_v_htr_mv w) = mv % 4096 ∧
        amGet (fun _ => []) t.hrep w = (s.clk.now + dt, serve, other) :: recentRep (elapse s dt) w ∧
        ((∀ v < 18, recentRep (elapse s dt) v = []) →
          f t GOV_HPWR_total_mw = (serve + other) % 2 ^ 20 ∧ f t GOV_HPWR_SERVE_serve_mw = serve % 2 ^ 20) ∧
        RegsKept [(PLOT_DRL_HPWR_power_mw w).off, (PLOT_DRL_VHTR_v_htr_mv w).off, GOV_HPWR_total_mw.off,
          GOV_HPWR_SERVE_serve_mw.off] s t ∧
        t = { elapse s dt with regs := t.regs, hwSet := t.hwSet, msix := t.msix, msixDue := t.msixDue, hrep := t.hrep }

/-- R364 to R367, R370, R371. -/
def Obligations.StepFloorTableAndHeaterBudget : Prop :=
  ∀ (s : State) (dt : Nat), s.porOn = false →
    (s.fallSince = none → Completes (.stepFall dt) s fun t => RegsKept [] s t ∧ OnlyRegs s dt t) ∧
    (∀ x, s.fallSince = some x →
      Completes (.stepFall dt) s fun t =>
        t.clk.now = max (s.clk.now + dt) (max x s.stepAt + f s GOV_RECOVER_hold_ms * ms) ∧ t.stepAt = t.clk.now ∧
        f t GOV_STEP_governed = f s GOV_STEP_governed - 1 ∧
        f t GOV_STEP_step = max (f s GOV_STEP_floor) (f s GOV_STEP_governed - 1) ∧ t.present = s.present ∧ MemKept s t) ∧
    (masterLive s 0 = true → ∀ n,
      Completes (.floorWrite dt 0 n) s fun t =>
        let new := max (n % 8) (f s GOV_STEP_governed)
        let rose := f s GOV_STEP_step < new
        f t GOV_STEP_floor = n % 8 ∧ f t GOV_STEP_step = new ∧ f t GOV_STEP_governed = f s GOV_STEP_governed ∧
        (rose → f t GOV_STAT_rise = 1) ∧ (¬ rose → f t GOV_STAT_rise = f s GOV_STAT_rise) ∧
        f t GOV_CNT_RISE_count = (f s GOV_CNT_RISE_count + if rose then 1 else 0) % 2 ^ 32 ∧
        (new ≠ f s GOV_STEP_step → f t GOV_LIMIT_limit_mw = 100 * f s (GOV_STEP_HTR_limit new)) ∧
        t.present = s.present ∧ MemKept s t) ∧
    (masterLive s 0 = true → ∀ n < 8, ∀ (isRate : Bool) (v : Nat),
      let word := if isRate then (GOV_STEP_RATE_rate n).off else (GOV_STEP_HTR_limit n).off
      (tableOk (putRow n isRate v s) = false →
        Completes (.stepTableWrite dt 0 n isRate v) s fun t =>
          f t GOV_STAT_tbl_err = 1 ∧ RegsKept [GOV_STAT_tbl_err.off] s t ∧ OnlyRegs s dt t) ∧
      (tableOk (putRow n isRate v s) = true →
        Completes (.stepTableWrite dt 0 n isRate v) s fun t =>
          (isRate = true → f t (GOV_STEP_RATE_rate n) = v % 2 ^ 24) ∧
          (isRate = false → f t (GOV_STEP_HTR_limit n) = min 450 (v % 512) ∧ f t (GOV_STEP_HTR_dither n) = v / 2 ^ 9 % 4 ∧
            f t (GOV_STEP_HTR_cold_park n) = v / 2 ^ 11 % 2 ∧ f t (GOV_STEP_HTR_cal_ok n) = v / 2 ^ 12 % 2 ∧
            f t (GOV_STEP_HTR_harrow_ok n) = v / 2 ^ 13 % 2) ∧
          (n ≠ f s GOV_STEP_step → RegsKept [word] s t ∧ OnlyRegs s dt t) ∧
          (n = f s GOV_STEP_step → f t GOV_LIMIT_limit_mw = 100 * f t (GOV_STEP_HTR_limit n) ∧
            f t CMT_EBKT_RATE_rate = f t (GOV_STEP_RATE_rate n) % 2 ^ CMT_EBKT_RATE_rate.wid))) ∧
    (sevOf s 34 < 4 →
      Completes (.heaterBudgetEval dt) s fun t =>
        let u := powerNote (elapseTo (elapse s dt) ((s.clk.now + dt + (100 * us - 1)) / (100 * us) * (100 * us)))
        let p := f u GOV_HPWR_total_mw
        let lim := f s GOV_LIMIT_limit_mw
        let hot := lim < f u GOV_HPWR_SERVE_serve_mw
        t.clk = u.clk ∧ f t GOV_HPWR_total_mw = p ∧ f t GOV_HPWR_SERVE_serve_mw = f u GOV_HPWR_SERVE_serve_mw ∧
        (lim < p → t.lowSince = none ∧
          t.withdrawn = (match [6, 5, 4, 3].find? (admitted s) with | some c => c :: s.withdrawn | none => s.withdrawn)) ∧
        (p ≤ lim → 10 * p ≤ 9 * lim → t.lowSince = some (s.lowSince.getD u.clk.now) ∧
          t.withdrawn = if s.lowSince.getD u.clk.now + f s GOV_RECOVER_hold_ms * ms ≤ u.clk.now then s.withdrawn.drop 1
            else s.withdrawn) ∧
        (p ≤ lim → 9 * lim < 10 * p → t.lowSince = none ∧ t.withdrawn = s.withdrawn) ∧
        (hot → t.serveHot = true ∧ f t GOV_STAT_htr_budget = 1 ∧
          (sameCycle 34 u = false →
            f t (FLT_CNT_count 34) = (f s (FLT_CNT_count 34) + if s.serveHot then 0 else 1) % 2 ^ (FLT_CNT_count 34).wid)) ∧
        (¬ hot → f t GOV_STAT_htr_budget = f s GOV_STAT_htr_budget ∧ (s.serveHot = false → t.serveHot = false)))

/-- R58, R307, R379 to R383, R428, R429, R526, Table 7-8. The order of a wake and a sleep that are both due, and what a domain that
is going to sleep does when it is to wake, are the model's choice (log 84). -/
def Obligations.DomainsWakeSleepAndFail : Prop :=
  ∀ (s : State) (dt d n k : Nat), s.porOn = false → d < 30 → sevOf s 24 < 4 → sevOf s 38 < 4 →
    let now := s.clk.now + dt
    let idle (c : Instr) : Prop := Completes c s fun t => RegsKept [] s t ∧ OnlyRegs s dt t
    let others (t : State) : Prop := ∀ x < 30, x ≠ d → domOn t x = domOn s x
    let wakes : Prop := s.wakeQ.head? = some d ∧ domOn s d = false
    let counted (u t : State) : Prop :=
      sameCycle 38 u = false → f t (FLT_CNT_count 38) = (f s (FLT_CNT_count 38) + 1) % 2 ^ (FLT_CNT_count 38).wid
    let failed (t : State) : Prop :=
      domOn t d = false ∧ others t ∧ domFailed t d = true ∧ (∀ x < 30, x ≠ d → domFailed t x = domFailed s x) ∧
      f t GOV_STAT_dom_evt = 1 ∧ d ∉ t.wakeQ ∧ d ∉ t.sleepQ ∧ (d < 16 → t.gateOpen = s.gateOpen ∧ t.present = s.present)
    (¬ wakes → idle (.domainWake dt d)) ∧
    (wakes → now ≤ wakeLimit d s → Completes (.domainWake dt d) s fun t =>
      domOn t d = true ∧ others t ∧ (f t GOV_DOM_WAKE_woke).testBit d = true ∧ f t GOV_STAT_dom_evt = 1 ∧ d ∉ t.wakeQ ∧
      (∀ x ≠ d, x ∈ t.wakeQ ↔ x ∈ s.wakeQ) ∧ t.wakeAt = now ∧ (d < 18 → amGet (fun _ => false) t.wsLoad d = calActive s ∧
        amGet (fun _ => none) t.dgWake d = some now ∧ f t (PLOT_DRL_CNT_DG_count d) =
          ((List.range (winChans d)).filter (fun ch => chPockels d ch && !clampClosed t d ch)).length % 2 ^ (PLOT_DRL_CNT_DG_count d).wid) ∧
      (d = 20 → t.present = {} ∧ t.projected = {} ∧ t.rot = none ∧ t.commit = none) ∧
      ∀ r ∈ domRanges d, ∀ o, r.1 ≤ o → o < r.2 →
        o ∉ [(PLOT_SLC_STAT_role d (spareOf d)).off, (PLOT_DRL_CNT_DG_count d).off, CMT_EBKT_RATE_rate.off,
          DMA_MSIX_PEND_pending.off] → rd t o = regReset o) ∧
    (wakes → wakeLimit d s < now → Completes (.domainWake dt d) s fun t => failed t ∧ counted (elapse s dt) t) ∧
    (s.sleepQ.head? ≠ some d ∨ domOn s d = false ∨ s.commit.isSome = true → idle (.domainSleep dt d n k)) ∧
    (s.sleepQ.head? = some d → domOn s d = true → s.commit = none →
      Completes (.domainSleep dt d n k) s fun t =>
        let dark : Prop := d < 18 ∧ domOn s 17 = true ∧ fb s (PLOT_DRL_SEED_STAT_seeded d) = true
        domOn t d = false ∧ others t ∧ d ∉ t.sleepQ ∧ t.clk = (elapse s dt).clk ∧
        (dark → ∀ o < 256, t.gateOpen.getLsbD o = false) ∧ (¬ dark → d ≠ 17 → t.gateOpen = s.gateOpen) ∧
        f t BUS_CNT_UNASSIGNED_count = (f s BUS_CNT_UNASSIGNED_count + k) % 2 ^ 32 ∧
        (devState s = 3 → (∀ w < 18, w ≠ d → domOn s w = false) → t.pdEn = false)) ∧
    (domOn s d = false → s.wakeQ.head? ≠ some d → idle (.domainFail dt d n k)) ∧
    (wakes ∨ domOn s d = true →
      let u := if domOn s d then elapse s dt else elapseTo (elapse s dt) (wakeLimit d s)
      Completes (.domainFail dt d n k) s fun t => failed t ∧ t.clk = u.clk ∧ counted u t) ∧
    (masterLive s 0 = true →
      (domFailed s d = false → idle (.domainRetry dt 0 d)) ∧
      (domFailed s d = true → Unheld (elapse s dt) ⟨GOV_DOM_FAIL_fail.off, d, 1⟩ → Completes (.domainRetry dt 0 d) s fun t =>
        domFailed t d = false ∧ (∀ x < 30, x ≠ d → domFailed t x = domFailed s x) ∧
        t.wakeQ = (if stateOn s d = true ∧ (domFallow s d = false ∨ d = 29 ∧ bootState s ≤ 3) ∧ (domOn s d = false ∨ d ∈ s.sleepQ) ∧
            d ∉ s.wakeQ then s.wakeQ ++ [d] else s.wakeQ) ∧
        RegsKept [GOV_DOM_FAIL_fail.off] s t ∧
        t = { elapse s dt with regs := t.regs, hwSet := t.hwSet, msix := t.msix, msixDue := t.msixDue, wakeQ := t.wakeQ, wakeAt := t.wakeAt }) ∧
      ∀ v,
        (v.testBit 22 = true → v.testBit 23 = true → idle (.fallowWrite dt 0 v)) ∧
        (v.testBit 22 = false ∨ v.testBit 23 = false → Completes (.fallowWrite dt 0 v) s fun t =>
          (∀ x < 30, domFallow t x = if x ∈ [22, 23, 28, 29] then v.testBit x else domFallow s x) ∧
          (∀ x ∈ [22, 23, 28], v.testBit x = true → domFallow s x = false → domOn s x = true → x ∈ t.sleepQ ∧ x ∉ t.wakeQ) ∧
          (∀ x ∈ [22, 23, 28, 29], v.testBit x = false → domFallow s x = true → shouldOn s x = true → domFailed s x = false →
            (domOn s x = false ∨ x ∈ s.sleepQ) → x ∈ t.wakeQ) ∧
          RegsKept [GOV_DOM_FALLOW_fallow.off] s t ∧
          t = { elapse s dt with regs := t.regs, hwSet := t.hwSet, msix := t.msix, msixDue := t.msixDue, wakeQ := t.wakeQ, wakeAt := t.wakeAt, sleepQ := t.sleepQ }))

/-- R384 to R388, R390, R526, Tables 11-9, 11-10, 11-13. -/
def Obligations.DeviceStatesFollowTheirTable : Prop :=
  ∀ (s : State) (dt : Nat), s.porOn = false →
    let d := devState s
    let idle (c : Instr) : Prop := Completes c s fun t => RegsKept [] s t ∧ OnlyRegs s dt t
    let refused (c : Instr) : Prop := Completes c s fun t =>
      f t GOV_DEV_STAT_refused = 1 ∧ devState t = d ∧
      RegsKept [GOV_DEV_CMD_req.off, GOV_DEV_STAT_refused.off] s t ∧ OnlyRegs s dt t
    let to_ (t : State) (x : Nat) : Prop := devState t = x ∧ f t GOV_STAT_dev_chg = 1
    (∀ m, masterLive s m = true → regOpen s m GOV_DEV_CMD_req.off true = true →
      (d = 1 → Completes (.devReqRun dt m) s fun t => to_ t 0 ∧
        RegsKept [GOV_DEV_CMD_req.off, GOV_DEV_STAT_state.off, GOV_STAT_dev_chg.off] s t ∧ OnlyRegs s dt t) ∧
      (d = 2 → Completes (.devReqRun dt m) s fun t => to_ t 0 ∧ t.present = s.present ∧
        ∀ x ∈ [21, 28], domFallow s x = false → (domOn s x = false ∨ x ∈ s.sleepQ) → domFailed s x = false → x ∈ t.wakeQ) ∧
      (d = 4 → Completes (.devReqRun dt m) s fun t => to_ t 5 ∧ t.pdEn = true ∧ bootState t = 1 ∧ f t BUS_REMAP_remap = 0 ∧
        ∀ x < 30, (domFallow s x = false ∨ x = 29) → domOn s x = false → domFailed s x = false → x ∈ t.wakeQ) ∧
      (d ∉ [1, 2, 4] → refused (.devReqRun dt m)) ∧
      (d = 0 → inSafe s = false → Completes (.devReqPark dt m) s fun t => to_ t 1 ∧ t.parkAt = s.clk.now + dt ∧
        RegsKept [GOV_DEV_CMD_req.off, GOV_DEV_STAT_state.off, GOV_STAT_dev_chg.off] s t ∧
        t = { elapse s dt with regs := t.regs, hwSet := t.hwSet, msix := t.msix, msixDue := t.msixDue, parkAt := t.parkAt }) ∧
      (d ≠ 0 ∨ inSafe s = true → refused (.devReqPark dt m)) ∧
      (d = 2 ∨ (d = 0 ∧ inSafe s = true) → Completes (.devReqStandby dt m) s fun t => to_ t 3 ∧ t.rot = none ∧
        (∀ x < 30, x ≠ 24 → domOn s x = true → x ∈ t.sleepQ) ∧
        (s.commit = none → ∀ o < 256, t.gateOpen.getLsbD o = false)) ∧
      (d ≠ 2 → ¬ (d = 0 ∧ inSafe s = true) → refused (.devReqStandby dt m))) ∧
    (d ≠ 1 ∨ listsEmpty s = false → idle (.parkEnter dt)) ∧
    (d = 1 → listsEmpty s = true → Completes (.parkEnter dt) s fun t => to_ t 2 ∧
      (∀ x ∈ [21, 28], domOn s x = true → x ∈ t.sleepQ ∧ x ∉ t.wakeQ) ∧
      RegsKept [GOV_DEV_STAT_state.off, GOV_STAT_dev_chg.off] s t ∧
      t = { elapse s dt with regs := t.regs, hwSet := t.hwSet, msix := t.msix, msixDue := t.msixDue, sleepQ := t.sleepQ, wakeQ := t.wakeQ, wakeAt := t.wakeAt }) ∧
    (d ≠ 1 → idle (.parkWaitTimeout dt)) ∧
    (d = 1 → Completes (.parkWaitTimeout dt) s fun t => to_ t 0 ∧ f t GOV_DEV_STAT_park_timeout = 1 ∧
      t.clk.now = max (s.clk.now + dt) (s.parkAt + f s GOV_DEV_CFG_park_wait_ms * ms) ∧
      RegsKept [GOV_DEV_STAT_state.off, GOV_STAT_dev_chg.off] s t ∧ t = { s with regs := t.regs, hwSet := t.hwSet, msix := t.msix, msixDue := t.msixDue, clk := t.clk }) ∧
    (let allOff := ∀ x < 30, x ≠ 24 → domOn s x = false
     (¬ (d = 3 ∧ allOff) → idle (.standbyEnter dt)) ∧
     (d = 3 → allOff → Completes (.standbyEnter dt) s fun t => to_ t 4 ∧ t.pdEn = false ∧
       RegsKept [GOV_DEV_STAT_state.off, GOV_STAT_dev_chg.off] s t)) ∧
    (¬ (d = 5 ∧ s.wakeQ = []) → idle (.wakeComplete dt)) ∧
    (d = 5 → s.wakeQ = [] → Completes (.wakeComplete dt) s fun t => to_ t 0 ∧ bootState t = 2 ∧ t.resetEnd = s.clk.now + dt ∧
      (domOn s 18 = true → supState t 0 = 3 ∧ f t FLT_SUP_STAT_holder = 0 ∧ t.supLease = s.clk.now + dt) ∧
      (domOn s 18 = false → supState t 0 = supState s 0 ∧ f t FLT_SUP_STAT_holder = f s FLT_SUP_STAT_holder ∧ t.supLease = s.supLease) ∧
      RegsKept [GOV_DEV_STAT_state.off, GOV_STAT_dev_chg.off, FLT_SUP_STAT_holder.off, BOOT_STAT_state.off] s t ∧
      t = { elapse s dt with regs := t.regs, hwSet := t.hwSet, msix := t.msix, msixDue := t.msixDue, supLease := t.supLease, resetEnd := t.resetEnd })

/-- R14, R399 to R407, R458, Tables 12-4, 12-10. -/
def Obligations.FaultsEscalateAreAcknowledgedAndLeadToSafe : Prop :=
  ∀ (s : State) (dt n : Nat), s.porOn = false → n < 48 →
    let u := elapse s dt
    let dark := fb s FLT_CTRL_dark
    let onlyEsc (t : State) : Prop := atOf t.escAt n = none ∧ (∀ k ≠ n, atOf t.escAt k = atOf s.escAt k) ∧
      t = { u with regs := t.regs, hwSet := t.hwSet, msix := t.msix, msixDue := t.msixDue, escAt := t.escAt }
    let due : Prop := ∃ x, atOf s.escAt n = some x ∧ x ≤ s.clk.now + dt
    (atOf s.escAt n = none → Completes (.escalationExpiry dt n) s fun t => RegsKept [] s t ∧ OnlyRegs s dt t) ∧
    (∀ x, atOf s.escAt n = some x → Completes (.escalationExpiry dt n) s fun t =>
      t.clk = (elapseTo u x).clk ∧ f t (escdBit n) = 1 ∧ atOf t.escAt n = none ∧ (∀ k ≠ n, atOf t.escAt k = atOf s.escAt k) ∧
      f t (pendBit n) = f s (pendBit n) ∧ EntersSafe (elapseTo u x) t 2 n dark) ∧
    (masterLive s 0 = true →
      (¬ due → ¬ Unheld u (pendBit n) → f s (pendBit n) = 1 → Completes (.faultAck dt 0 n) s fun t => f t (pendBit n) = 1) ∧
      (¬ due → Unheld u (pendBit n) →
        (Completes (.faultAck dt 0 n) s fun t => f t (pendBit n) = 0 ∧ onlyEsc t ∧
          (∀ k < 48, k ≠ n → f t (pendBit k) = f s (pendBit k)) ∧ RegsKept [(pendBit n).off] s t) ∧
        (Unheld u (escdBit n) → Completes (.escalatedClear dt 0 n) s fun t => f t (pendBit n) = 0 ∧ f t (escdBit n) = 0 ∧ onlyEsc t ∧
          (∀ k < 48, k ≠ n → f t (pendBit k) = f s (pendBit k) ∧ f t (escdBit k) = f s (escdBit k)) ∧
          RegsKept [(pendBit n).off, (escdBit n).off] s t)) ∧
      (due → Unheld u (pendBit n) → ∀ c ∈ [Instr.faultAck dt 0 n, .escalatedClear dt 0 n],
        Completes c s fun t => f t (pendBit n) = 0 ∧ f t (escdBit n) = 1 ∧ EntersSafe u t 2 n dark) ∧
      (Completes (.safeEnterCmd dt 0) s fun t => t.clk = u.clk ∧ EntersSafe u t 4 0 dark) ∧
      (inSafe s = true → mayRelease s = true → Completes (.safeRelease dt 0) s fun t =>
        inSafe t = false ∧ f t FLT_STAT_dark_active = 0 ∧ f t FLT_STAT_cause = f s FLT_STAT_cause ∧
        OnlyRegs s dt t ∧ RegsKept [FLT_CTRL_serve.off, FLT_STAT_safe.off, BOOT_STAT_state.off, BOOT_T_READY_us.off] s t) ∧
      (inSafe s = true → mayRelease s = false → Completes (.safeRelease dt 0) s fun t =>
        inSafe t = true ∧ f t FLT_STAT_release_refused = 1 ∧ f t FLT_STAT_dark_active = f s FLT_STAT_dark_active ∧
        OnlyRegs s dt t ∧ RegsKept [FLT_CTRL_serve.off, FLT_STAT_safe.off, BOOT_STAT_state.off, BOOT_T_READY_us.off] s t) ∧
      (inSafe s = false → Completes (.safeRelease dt 0) s fun t =>
        inSafe t = false ∧ f t FLT_STAT_release_refused = f s FLT_STAT_release_refused ∧ OnlyRegs s dt t ∧
        RegsKept [FLT_CTRL_serve.off, FLT_STAT_safe.off, BOOT_STAT_state.off, BOOT_T_READY_us.off] s t) ∧
      (Completes (.fltLock dt 0) s fun t =>
        f t FLT_CTRL_lock = 1 ∧ f t FLT_STAT_locked = 1 ∧ f t FLT_CTRL_dark = f s FLT_CTRL_dark ∧
        f t FLT_CTRL_serve = f s FLT_CTRL_serve ∧ inSafe t = inSafe s ∧ OnlyRegs s dt t ∧
        RegsKept [FLT_CTRL_serve.off, FLT_STAT_safe.off, BOOT_STAT_state.off, BOOT_T_READY_us.off] s t) ∧
      (Completes (.serveSet dt 0) s fun t =>
        f t FLT_CTRL_serve = 1 ∧ f t FLT_CTRL_dark = f s FLT_CTRL_dark ∧ inSafe t = inSafe s ∧
        bootState t = (if bootState s = 5 then 6 else bootState s) ∧
        (bootState s = 5 → f t BOOT_T_READY_us = min ((u.clk.now - s.resetEnd) / us) (2 ^ 32 - 1)) ∧ OnlyRegs s dt t ∧
        RegsKept [FLT_CTRL_serve.off, FLT_STAT_safe.off, BOOT_STAT_state.off, BOOT_T_READY_us.off] s t)) ∧
    ∀ p0 v0 p1 v1, Completes (.collectorSelfFault dt p0 v0 p1 v1) s fun t =>
      fb t FLT_STAT_self_fault = true ∧ f t FLT_SELF_errors = min (f s FLT_SELF_errors + 1) (2 ^ FLT_SELF_errors.wid - 1) ∧
      EntersSafe u t 3 0 ((p0 || p1) && (!p0 || v0) && (!p1 || v1)) ∧ t.clk = u.clk ∧
      (sameCycle 45 u = false → f t (FLT_CNT_count 45) = (f s (FLT_CNT_count 45) + 1) % 2 ^ (FLT_CNT_count 45).wid)

/-- R396, R402, R407, R409 to R412, R526, Table 12-5. -/
def Obligations.WatchedSuppliesAliveAndTheSupervisorPair : Prop :=
  ∀ (s : State) (dt n k : Nat), s.porOn = false → n ∈ [35, 36, 37] → k < 2 →
    let u := elapse s dt
    let idle (c : Instr) : Prop := Completes c s fun t => RegsKept [] s t ∧ OnlyRegs s dt t
    let pair (t : State) (a b : Nat) : Prop := supState t 0 = a ∧ supState t 1 = b
    let put (j x i : Nat) : Nat := if i = j then x else supState s i
    let steady : Prop := match atOf s.supplyIn n with | some x => x + ms + 10 * us ≤ u.clk.now | none => True
    (s.supplyArmed = false ∨ (atOf s.supplyOut n).isSome = true → idle (.supplyOutOfRange dt n)) ∧
    (s.supplyArmed = true → atOf s.supplyOut n = none →
      Completes (.supplyOutOfRange dt n) s fun t =>
        atOf t.supplyOut n = some u.clk.now ∧ fltActive t n = true ∧ t.clk = u.clk ∧
        (¬ steady → RegsKept [] s t ∧ t = { u with regs := t.regs, hwSet := t.hwSet, msix := t.msix, msixDue := t.msixDue, supplyOut := t.supplyOut }) ∧
        (steady → sameCycle n u = false →
          f t (FLT_CNT_count n) = (f s (FLT_CNT_count n) + 1) % 2 ^ (FLT_CNT_count n).wid ∧
          (fb s FLT_STAT_self_fault = false →
            (1 ≤ sevOf s n → f t (pendBit n) = 1) ∧
            (sevOf s n = 3 → (atOf t.escAt n).isSome = true) ∧
            (sevOf s n = 4 → EntersSafe u t 1 n (fb s FLT_CTRL_dark)) ∧
            (sevOf s n < 4 → RegsKeptFlt [] s t ∧
              t = { u with regs := t.regs, hwSet := t.hwSet, msix := t.msix, msixDue := t.msixDue, toFaultPart := t.toFaultPart })))) ∧
    (atOf s.supplyOut n = none → idle (.supplyBackInRange dt n)) ∧
    ((atOf s.supplyOut n).isSome = true → Completes (.supplyBackInRange dt n) s fun t =>
      fltActive t n = false ∧ atOf t.supplyIn n = some u.clk.now ∧ RegsKept [] s t ∧
      t = { u with regs := t.regs, hwSet := t.hwSet, msix := t.msix, msixDue := t.msixDue, supplyOut := t.supplyOut, supplyIn := t.supplyIn }) ∧
    (s.pdEn = false → idle (.supplyCheckArm dt)) ∧
    (s.pdEn = true → Completes (.supplyCheckArm dt) s fun t => t.supplyArmed = true ∧
      t.clk = (elapseTo u (s.pdEnAt + 50 * ms)).clk ∧ RegsKept [] s t ∧
      t = { s with regs := t.regs, hwSet := t.hwSet, msix := t.msix, msixDue := t.msixDue, clk := t.clk, supplyArmed := true }) ∧
    (let served : Prop := fb s FLT_CTRL_serve = true ∧ inSafe s = false ∧ devState s < 2
     (¬ served → idle (.aliveToggle dt)) ∧
     (served → Completes (.aliveToggle dt) s fun t => t.aliveLvl = (!s.aliveLvl) ∧ t.aliveAt = t.clk.now ∧
       t.clk.now = max u.clk.now (s.aliveAt + 50 * us) ∧ RegsKept [] s t ∧
       t = { s with regs := t.regs, hwSet := t.hwSet, msix := t.msix, msixDue := t.msixDue, clk := t.clk, aliveLvl := t.aliveLvl, aliveAt := t.aliveAt })) ∧
    (sevOf s 10 < 4 → sevOf s 11 < 4 →
      (let one (c : Instr) (j : Nat) : Prop := Completes c s fun t =>
         let fresh : Prop := fb s FLT_STAT_self_fault = false ∧ sameCycle 10 u = false
         supState t j = (if fb s FLT_SUP_CTRL_auto_repair = true ∨ (sevOf s 10 = 2 ∧ fresh) then (if supState s (1 - j) = 3 then 1
           else 0) else 4) ∧
         supState t (1 - j) = supState s (1 - j) ∧ RegsKeptFlt [] s t ∧
         t = { u with regs := t.regs, hwSet := t.hwSet, msix := t.msix, msixDue := t.msixDue, toFaultPart := t.toFaultPart } ∧
         (sameCycle 10 u = false → f t (FLT_CNT_count 10) = (f s (FLT_CNT_count 10) + 1) % 2 ^ (FLT_CNT_count 10).wid)
       (supRuns s k = true →
         (∀ disagree, one (.supDiverge dt disagree (k == 0) (k == 1)) k) ∧
         (supRuns s (1 - k) = true →
           ∀ b, one (.supDiverge dt true b b) (if supState s 0 = 2 then 0 else 1) ∧
             Completes (.supDiverge dt true b b) s fun t => f t FLT_SUP_STAT_undecided = 1 ∧
               f t FLT_SUP_CNT_MIS_count = (f s FLT_SUP_CNT_MIS_count + 1) % 2 ^ 32)) ∧
       idle (.supDiverge dt false false false)) ∧
      (supHeld s = false → idle (.supLeaseRenew dt)) ∧
      (supHeld s = true → idle (.supLeaseExpire dt) ∧
        Completes (.supLeaseRenew dt) s fun t => t.supLease = t.clk.now ∧ t.clk.now = max u.clk.now (s.supLease + 25 * us) ∧
          RegsKept [] s t ∧ t = { s with regs := t.regs, hwSet := t.hwSet, msix := t.msix, msixDue := t.msixDue, clk := t.clk, supLease := t.supLease }) ∧
      (supHeld s = false → fb s FLT_SUP_STAT_no_holder = false → ¬ (supState s 0 = 0 ∧ supState s 1 = 0 ∧ bootState s ≤ 3) →
        (supState s k = 2 → (k = 1 → supState s 0 ≠ 2) → Completes (.supLeaseExpire dt) s fun t =>
          supState t k = 3 ∧ supState t (1 - k) = (if supState s (1 - k) = 0 then 1 else supState s (1 - k)) ∧
          f t FLT_SUP_STAT_holder = k ∧ f t FLT_SUP_CNT_HAND_count = (f s FLT_SUP_CNT_HAND_count + 1) % 2 ^ 32 ∧
          t.clk.now = max u.clk.now (s.supLease + 100 * us) ∧ t.supLease = t.clk.now ∧
          RegsKept [FLT_SUP_STAT_a_state.off, FLT_SUP_CNT_HAND_count.off] s t ∧
          t = { s with regs := t.regs, hwSet := t.hwSet, msix := t.msix, msixDue := t.msixDue, clk := t.clk, supLease := t.supLease }) ∧
        (supState s 0 ≠ 2 → supState s 1 ≠ 2 → Completes (.supLeaseExpire dt) s fun t =>
          fb t FLT_SUP_STAT_no_holder = true ∧ pair t (supState s 0) (supState s 1) ∧ masterLive t 0 = false ∧
          RegsKeptFlt [] s t ∧ t = { s with regs := t.regs, hwSet := t.hwSet, msix := t.msix, msixDue := t.msixDue, clk := t.clk, toFaultPart := t.toFaultPart })) ∧
      (masterLive s 0 = true → ∀ a b, Completes (.supCoreRepair dt 0 a b) s fun t =>
        let auto := fb s FLT_SUP_CTRL_auto_repair
        let after (j : Nat) (bit : Bool) : Nat :=
          if supState s j = 4 ∧ (auto || bit) = true then (if supState s (1 - j) = 3 then 1 else 0) else supState s j
        pair t (after 0 a) (after 1 b) ∧ fb t FLT_SUP_CTRL_auto_repair = auto ∧
        RegsKept [FLT_SUP_CTRL_auto_repair.off, FLT_SUP_STAT_a_state.off] s t ∧ OnlyRegs s dt t)) ∧
    (supState s k ≠ 1 → ∀ agree, idle (.supResyncDone dt k agree)) ∧
    (supState s k = 1 → ∀ agree, Completes (.supResyncDone dt k agree) s fun t =>
      pair t (put k (if agree then 2 else 0) 0) (put k (if agree then 2 else 0) 1) ∧
      RegsKept [FLT_SUP_STAT_a_state.off] s t ∧ OnlyRegs s dt t)

/-- R423, R430 to R439. -/
def Obligations.ScratchpadAtomicsAndHarrow : Prop :=
  ∀ (s : State) (dt m a size v : Nat), s.porOn = false → size ∈ [1, 2, 4, 8] → masterLive s m = true → spmOpen s m a = true →
    domOn s 26 = true → domOn s 27 = true → sevOf s 18 < 4 → sevOf s 19 < 4 → sevOf s 20 < 4 →
    let u := elapse s dt
    let err : Nat := if m = 0 then 3 else if m = 6 then 0 else 2
    let active := fb s BUS_HRW_STAT_active
    let aligned : Prop := a % size = 0 ∨ f s BUS_MODE_mode = 0
    let meets : Prop := active = true ∧ (a / 256 = hrwRegion s ∨ (a + size - 1) / 256 = hrwRegion s)
    let stored (t : State) (x : Nat) : Prop := (∀ i < size, memGet t.spm (a + i) = BitVec.ofNat 8 (x / 256 ^ i)) ∧
      ∀ b, b < a ∨ a + size ≤ b → memGet t.spm b = memGet s.spm b
    let touch (t : State) : Prop :=
      t = { u with regs := t.regs, hwSet := t.hwSet, msix := t.msix, msixDue := t.msixDue, resp := t.resp, spm := t.spm, confMs := t.confMs, confCount := t.confCount,
                   confDone := t.confDone, freeCtr := t.freeCtr, toFaultPart := t.toFaultPart }
    let kept (l : List Nat) (t : State) : Prop := RegsKeptFlt l s t ∧ (f s BUS_CONF_CFG_conf_rate = 0 → RegsKept l s t)
    let refused (c : Instr) : Prop := Completes c s fun t => t.resp = ⟨0, err⟩ ∧ t.spm = s.spm ∧
      f t BUS_CNT_ERR_count = (f s BUS_CNT_ERR_count + 1) % 2 ^ 32 ∧ RegsKept [BUS_CNT_ERR_count.off] s t ∧ touch t
    (aligned → ¬ meets → ∀ waits,
      (Completes (.scratchpadAccess dt m a size none waits false 0) s fun t =>
        t.resp = ⟨memRead s.spm a size, 0⟩ ∧ t.spm = s.spm ∧
        f t (BUS_CNT_CONFLICT_count m) = (f s (BUS_CNT_CONFLICT_count m) + waits) % 2 ^ 32 ∧
        kept [(BUS_CNT_CONFLICT_count m).off] t ∧ touch t) ∧
      (Completes (.scratchpadAccess dt m a size (some v) waits false 0) s fun t =>
        t.resp = ⟨0, 0⟩ ∧ stored t v ∧ f t (BUS_CNT_CONFLICT_count m) = (f s (BUS_CNT_CONFLICT_count m) + waits) % 2 ^ 32 ∧
        kept [(BUS_CNT_CONFLICT_count m).off] t ∧ touch t)) ∧
    (aligned → ¬ meets → ∀ w, Completes (.scratchpadAccess dt m a size w 0 true 0) s fun t =>
      t.resp.code = 1 ∧ (w = none → t.spm = s.spm) ∧ (∀ x, w = some x → stored t x) ∧
      f t (BUS_CNT_BUSY_count m) = (f s (BUS_CNT_BUSY_count m) + 1) % 2 ^ 32 ∧
      kept [(BUS_CNT_BUSY_count m).off] t ∧ touch t) ∧
    (aligned → ¬ meets → Completes (.scratchpadAccess dt m a size none 0 false 1) s fun t =>
      t.resp = ⟨memRead s.spm a size, err⟩ ∧ t.spm = s.spm ∧ f t BUS_SPM_PAR_word = a / 8 % 2 ^ 20 ∧
      f t BUS_CNT_PAR_count = (f s BUS_CNT_PAR_count + 1) % 2 ^ 32 ∧ f t BUS_CNT_ERR_count = (f s BUS_CNT_ERR_count + 1) % 2 ^ 32 ∧
      (sameCycle 18 u = false → f t (FLT_CNT_count 18) = (f s (FLT_CNT_count 18) + 1) % 2 ^ (FLT_CNT_count 18).wid) ∧
      RegsKeptFlt [BUS_SPM_PAR_word.off, BUS_CNT_PAR_count.off, BUS_CNT_ERR_count.off] s t) ∧
    (¬ aligned → ∀ w waits same par, refused (.scratchpadAccess dt m a size w waits same par)) ∧
    (aligned → meets → Completes (.scratchpadAccess dt m a size none 0 false 0) s fun t =>
      fb t BUS_HRW_STAT_active = false ∧ t.resp = ⟨memRead s.spm a size, 0⟩ ∧ t.spm = s.spm ∧
      (let early : Prop := 12 ≤ f s (BUS_QOS_qos m) ∧ u.clk.now < s.hrwAt + 14200
       (early → t.clk = u.clk ∧ hrwRegion t = hrwRegion s ∧
         f t BUS_HRW_CNT_ABORT_count = (f s BUS_HRW_CNT_ABORT_count + 1) % 2 ^ 32 ∧
         RegsKept [BUS_HRW_STAT_active.off, BUS_HRW_CNT_ABORT_count.off] s t) ∧
       (¬ early → t.clk = (elapseTo u (s.hrwAt + 16000)).clk ∧ hrwRegion t = (hrwRegion s + 1) % 32768 ∧
         f t BUS_HRW_CNT_PASS_count = (f s BUS_HRW_CNT_PASS_count + 1) % 2 ^ 32 ∧
         RegsKept [BUS_HRW_STAT_active.off, BUS_HRW_CNT_PASS_count.off, BUS_HRW_CNT_SWEEP_count.off] s t))) ∧
    (∀ op, let runs : Prop := f s BUS_MODE_mode ≠ 0 ∧ op < 2 ∧ a % size = 0
      (¬ runs → refused (.atomicOp dt m a op size v)) ∧
      (4 ≤ size → runs → ¬ meets → Completes (.atomicOp dt m a op size v) s fun t =>
        t.resp = ⟨memRead s.spm a size, 0⟩ ∧ stored t (if op = 0 then memRead s.spm a size + v else v) ∧
        RegsKept [] s t ∧ touch t)) ∧
    (active = true ∨ hrwMay s = false → Completes (.harrowPass dt) s fun t => RegsKept [] s t ∧ OnlyRegs s dt t) ∧
    (active = false → hrwMay s = true → Completes (.harrowPass dt) s fun t =>
      fb t BUS_HRW_STAT_active = true ∧ hrwRegion t = hrwRegion s ∧ t.hrwAt = t.clk.now ∧
      t.clk.now = max u.clk.now (s.hrwAt + max 2 (f s BUS_HRW_CTRL_gap_us) * us) ∧ RegsKept [BUS_HRW_STAT_active.off] s t ∧
      t = { s with regs := t.regs, hwSet := t.hwSet, msix := t.msix, msixDue := t.msixDue, clk := t.clk, hrwAt := t.hrwAt }) ∧
    (active = false → ∀ l, Completes (.harrowPassDone dt l) s fun t => RegsKept [] s t ∧ OnlyRegs s dt t) ∧
    (active = true → ∀ l, Completes (.harrowPassDone dt l) s fun t =>
      fb t BUS_HRW_STAT_active = false ∧ hrwRegion t = (hrwRegion s + 1) % 32768 ∧ t.spm = s.spm ∧
      f t BUS_HRW_CNT_PASS_count = (f s BUS_HRW_CNT_PASS_count + 1) % 2 ^ 32 ∧
      f t BUS_HRW_CNT_SWEEP_count = (f s BUS_HRW_CNT_SWEEP_count + if hrwRegion s = 32767 then 1 else 0) % 2 ^ 32 ∧
      (l = [] → RegsKept [BUS_HRW_STAT_active.off, BUS_HRW_CNT_PASS_count.off, BUS_HRW_CNT_SWEEP_count.off] s t ∧ OnlyRegs s dt t) ∧
      (∀ b < 16, ∀ c < 512, l = [(b, c)] → fb t BUS_HRW_STAT_fail = true ∧
        (∀ i, hrwFind s b c = some i →
          f t (BUS_HRW_LOG_hits i) = min (f s (BUS_HRW_LOG_hits i) + 1) 65535) ∧
        (hrwFind s b c = none → ∀ i, (List.range 16).find? (fun i => !fb s (BUS_HRW_LOG_valid i)) = some i →
          fb t (BUS_HRW_LOG_valid i) = true ∧ f t (BUS_HRW_LOG_bank i) = b ∧ f t (BUS_HRW_LOG_column i) = c ∧
          f t (BUS_HRW_LOG_hits i) = 1 ∧
          (sameCycle 20 u = false → f t (FLT_CNT_count 20) = (f s (FLT_CNT_count 20) + 1) % 2 ^ (FLT_CNT_count 20).wid)))) ∧
    Completes (.conflictRateWindow dt) s fun t =>
      t.clk = (elapseTo u (tb0Instant u ((tbNow u 0 / (1000000 * nsUnit) + 1) * (1000000 * nsUnit)))).clk ∧ t.confCount = 0 ∧
      t.confDone = false ∧ RegsKept [] s t ∧
      t = { s with regs := t.regs, hwSet := t.hwSet, msix := t.msix, msixDue := t.msixDue, clk := t.clk, confMs := t.confMs, confCount := 0, confDone := false }

/-- R423, R425 to R427, R436, R440 to R447, Table 13-6. -/
def Obligations.DramDiesFencesRemapAndRepairFuses : Prop :=
  ∀ (s : State) (dt m a size v : Nat), s.porOn = false → 0 < size → sevOf s 16 < 4 → sevOf s 17 < 4 → sevOf s 25 < 4 →
    let u := elapse s dt
    let err (m : Nat) : Nat := if m = 0 then 3 else if m = 6 then 0 else 2
    let idle (c : Instr) : Prop := Completes c s fun t => RegsKept [] s t ∧ OnlyRegs s dt t
    (masterLive s m = true → m ≤ 6 → (m = 6 → 4 ≤ bootState s) → domOn s 25 = true →
      (dieOff s (dieOf a) = false → Completes (.dramAccess dt m a size none) s fun t =>
        t.resp = ⟨dramVal s a size, 0⟩ ∧ ((∀ i < size, inFreeRing (a + i) = false) → t.resp.data = memRead s.dram a size) ∧
        RegsKept [] s t ∧ OnlyRegsResp s dt t) ∧
      (dieOff s (dieOf a) = false → calActive s = false → (∀ i < size, inFreeRing (a + i) = false) →
        Completes (.dramAccess dt m a size (some v)) s fun t =>
          t.resp = ⟨0, 0⟩ ∧ (∀ i < size, memGet t.dram (a + i) = BitVec.ofNat 8 (v / 256 ^ i)) ∧
          (∀ b, b < a ∨ a + size ≤ b → memGet t.dram b = memGet s.dram b) ∧ t.spm = s.spm ∧ t.present = s.present) ∧
      (dieOff s (dieOf a) = true → ∀ w, Completes (.dramAccess dt m a size w) s fun t =>
        t.resp = ⟨0, err m⟩ ∧ f t BUS_CNT_ERR_count = (f s BUS_CNT_ERR_count + 1) % 2 ^ 32 ∧
        RegsKept [BUS_CNT_ERR_count.off] s t ∧ OnlyRegsResp s dt t)) ∧
    (masterLive s m = true → m ≤ 6 → m ≠ 1 → m ≠ 5 → idle (.checkedRead dt m a)) ∧
    (masterLive s m = true → (m = 1 ∨ m = 5) → domOn s 25 = true → isCopy0 a = true →
      Completes (.checkedRead dt m a) s fun t =>
        let b := copyAddr a 1
        t.resp = (match checkTile s a with
          | .ok c => ⟨memRead s.dram (copyAddr a c) 1024, 0⟩ | .genConflict => ⟨0, 4⟩ | .noCopy => ⟨0, 5⟩) ∧
        f t DRC_CNT_CHECKED_count = (f s DRC_CNT_CHECKED_count + 1) % 2 ^ 32 ∧
        (dieOff s 0 = true → dieOff s 1 = true → checkTile s a = .noCopy ∧
          f t DRC_CNT_NOCOPY_count = (f s DRC_CNT_NOCOPY_count + 1) % 2 ^ 32 ∧ t.dram = s.dram) ∧
        (dieOff s 0 = false → dieOff s 1 = false →
          (tilePasses s a = true → tilePasses s b = true → t.dram = s.dram ∧
            (dramList s a 1024 = dramList s b 1024 → RegsKept [DRC_CNT_CHECKED_count.off] s t ∧ OnlyRegsResp s dt t)) ∧
          (tilePasses s a = true → tilePasses s b = false → checkTile s a = .ok 0 ∧
            f t (DRC_CNT_CRC_count 1) = (f s (DRC_CNT_CRC_count 1) + 1) % 2 ^ 32 ∧ f t DRC_LAST_TILE_addr = a % 2 ^ 32 ∧
            (fb s DRC_CTRL_repair_en = true → (∀ i < 1024, memGet t.dram (b + i) = memGet s.dram (a + i)) ∧
              ∀ x, x < b ∨ b + 1024 ≤ x → memGet t.dram x = memGet s.dram x) ∧
            (fb s DRC_CTRL_repair_en = false → t.dram = s.dram)) ∧
          (tilePasses s a = false → tilePasses s b = true → checkTile s a = .ok 1 ∧
            f t (DRC_CNT_CRC_count 0) = (f s (DRC_CNT_CRC_count 0) + 1) % 2 ^ 32 ∧ f t DRC_LAST_TILE_addr = a % 2 ^ 32 ∧
            (fb s DRC_CTRL_repair_en = true → (∀ i < 1024, memGet t.dram (a + i) = memGet s.dram (b + i)) ∧
              ∀ x, x < a ∨ a + 1024 ≤ x → memGet t.dram x = memGet s.dram x)) ∧
          (tilePasses s a = false → tilePasses s b = false → checkTile s a = .noCopy ∧ t.dram = s.dram))) ∧
    (domOn s 25 = false → ∀ x y, idle (.dieCheck dt x y)) ∧
    (domOn s 25 = true → ∀ x y, Completes (.dieCheck dt x y) s fun t =>
      let p := max 1 (f s DRC_CTRL_chk_ms) * ms
      t.clk = (elapseTo u ((u.clk.now + (p - 1)) / p * p)).clk ∧ t.dram = s.dram ∧
      ∀ d < 2, let bad := if d = 0 then x else y
        let n := amGet (fun _ => 0) s.dieBad d + 1
        (dieOff s d = true → dieOff t d = true) ∧
        (dieOff s d = false → amGet (fun _ => 0) t.dieBad d = (if bad then n else 0) ∧ dieOff t d = (bad && decide (2 ≤ n)))) ∧
    (∀ d < 2, masterLive s m = true → m ≤ 6 → domOn s 25 = true → dieOff s d = false →
      Completes (.dramReadTimeout dt m d) s fun t =>
        dieOff t d = true ∧ dieOff t (1 - d) = dieOff s (1 - d) ∧ t.resp = ⟨0, err m⟩ ∧ t.dram = s.dram ∧ t.clk = u.clk ∧
        f t BUS_CNT_ERR_count = (f s BUS_CNT_ERR_count + 1) % 2 ^ 32 ∧
        (sameCycle 25 u = false → f t (FLT_CNT_count 25) = (f s (FLT_CNT_count 25) + 1) % 2 ^ (FLT_CNT_count 25).wid)) ∧
    (masterLive s 6 = true → regOpen s 6 BUS_HOST_FENCE_fences.off false = true → Completes (.hostFence dt) s fun t =>
      t.hostFence = true ∧ RegsKept [] s t ∧ t = { u with regs := t.regs, hwSet := t.hwSet, msix := t.msix, msixDue := t.msixDue, hostFence := true }) ∧
    (s.hostFence = false → idle (.hostFenceComplete dt)) ∧
    (s.hostFence = true → Completes (.hostFenceComplete dt) s fun t =>
      t.hostFence = false ∧ t.resp = ⟨f t BUS_HOST_FENCE_fences, 0⟩ ∧
      f t BUS_HOST_FENCE_fences = (f s BUS_HOST_FENCE_fences + 1) % 2 ^ 32 ∧ RegsKept [BUS_HOST_FENCE_fences.off] s t ∧
      t = { u with regs := t.regs, hwSet := t.hwSet, msix := t.msix, msixDue := t.msixDue, resp := t.resp, hostFence := false }) ∧
    (masterLive s m = false → (m = 0 → supHeld s = false → supState s 0 ≠ 2 ∧ supState s 1 ≠ 2) → idle (.barrier dt m)) ∧
    (masterLive s m = true → Completes (.barrier dt m) s fun t => masterLive t m = false ∧
      (∀ x ≠ m, masterLive t x = masterLive s x) ∧ RegsKept [] s t ∧
      t = { u with regs := t.regs, hwSet := t.hwSet, msix := t.msix, msixDue := t.msixDue, barriers := t.barriers }) ∧
    (Completes (.barrierComplete dt m) s fun t => m ∉ t.barriers ∧ (∀ x ≠ m, masterLive t x = masterLive s x) ∧ RegsKept [] s t ∧
      t = { u with regs := t.regs, hwSet := t.hwSet, msix := t.msix, msixDue := t.msixDue, barriers := t.barriers }) ∧
    (masterLive s 0 = true →
      (f s BUS_MODE_mode ≠ 1 → idle (.remapWrite dt 0 v)) ∧
      (f s BUS_MODE_mode = 1 → Completes (.remapWrite dt 0 v) s fun t => t.remapPend = some (v % 2) ∧ RegsKept [] s t ∧
        t = { u with regs := t.regs, hwSet := t.hwSet, msix := t.msix, msixDue := t.msixDue, remapPend := t.remapPend }) ∧
      (f s BOOT_STAT_boot_mode = 2 → idle (.busModeWrite dt 0 v)) ∧
      (f s BOOT_STAT_boot_mode ≠ 2 → Completes (.busModeWrite dt 0 v) s fun t => t.modePend = some (v % 4) ∧ RegsKept [] s t ∧
        t = { u with regs := t.regs, hwSet := t.hwSet, msix := t.msix, msixDue := t.msixDue, modePend := t.modePend }) ∧
      ∀ b < 16, ∀ e < 4, ∀ c < 512, Completes (.repairFuseBlow dt 0 b e c) s fun t =>
        let stat (r : Nat) : Prop := f t BUS_REPAIR_STAT_result = r ∧ t.repairBusy = s.repairBusy ∧
          fb t BUS_REPAIR_STAT_busy = false
        f t BUS_REPAIR_CMD_bank = b ∧ f t BUS_REPAIR_CMD_entry = e ∧ f t BUS_REPAIR_CMD_column = c ∧
        RegsKept [BUS_REPAIR_CMD_bank.off, BUS_REPAIR_STAT_busy.off] s t ∧
        t = { u with regs := t.regs, hwSet := t.hwSet, msix := t.msix, msixDue := t.msixDue, repairBusy := t.repairBusy } ∧
        (fb s BUS_REPAIR_STAT_busy = true → t.repairBusy = s.repairBusy) ∧
        (fb s BUS_REPAIR_STAT_busy = false →
          (f s BUS_MODE_mode ≠ 2 → stat 1) ∧
          (f s BUS_MODE_mode = 2 → repairOf s b e ≠ 0 ∨ 259 < c → stat 2) ∧
          (f s BUS_MODE_mode = 2 → repairOf s b e = 0 → c ≤ 259 →
            t.repairBusy = some (b, e, c) ∧ fb t BUS_REPAIR_STAT_busy = true))) ∧
    (s.remapPend = none → idle (.remapApply dt)) ∧
    (∀ x, s.remapPend = some x → Completes (.remapApply dt) s fun t => f t BUS_REMAP_remap = x % 2 ∧ t.remapPend = none ∧
      RegsKept [BUS_REMAP_remap.off] s t ∧ t = { u with regs := t.regs, hwSet := t.hwSet, msix := t.msix, msixDue := t.msixDue, remapPend := none }) ∧
    (s.modePend = none → idle (.busModeApply dt)) ∧
    (∀ x, s.modePend = some x → Completes (.busModeApply dt) s fun t => f t BUS_MODE_mode = x % 4 ∧ t.modePend = none ∧
      RegsKept [BUS_MODE_mode.off] s t ∧ t = { u with regs := t.regs, hwSet := t.hwSet, msix := t.msix, msixDue := t.msixDue, modePend := none }) ∧
    (s.repairBusy = none → ∀ got, idle (.repairBlowComplete dt got)) ∧
    ∀ b e c got, b < 16 → e < 4 → s.repairBusy = some (b, e, c) → Completes (.repairBlowComplete dt got) s fun t =>
      repairOf t b e = got ∧ (∀ b' < 16, ∀ e' < 4, (b', e') ≠ (b, e) → repairOf t b' e' = repairOf s b' e') ∧
      fb t BUS_REPAIR_STAT_busy = false ∧ f t BUS_REPAIR_STAT_result = (if got = c + 1 then 0 else 3) ∧
      fb t (repairFld 0x90280 b e).2 = decide (got ≠ 0) ∧
      RegsKept [BUS_REPAIR_STAT_busy.off, (repairFld 0x90280 b e).1.off] s t ∧
      t = { u with regs := t.regs, hwSet := t.hwSet, msix := t.msix, msixDue := t.msixDue, repairBusy := none, repairFuse := t.repairFuse }

/-- R449 to R454, R457, Tables 13-7, 13-8. That an allocation after a higher ID's of the same cycle goes to the next cycle is the
model's reading (log 80). -/
def Obligations.BufferPoolsLendAndTakeBack : Prop :=
  ∀ (s : State) (dt m sub size : Nat), s.porOn = false → masterLive s m = true → domOn s 25 = true → sub < 32 →
    sevOf s 21 < 4 → sevOf s 22 < 4 → sevOf s 23 < 4 →
    let u := elapse s dt
    let idle (c : Instr) : Prop := Completes c s fun t => RegsKept [] s t ∧ OnlyRegs s dt t
    let win : Prop := m = 0 ∨ m = 6
    let code (t : State) : Nat := f t (mFld m (BPM_RESULT_code sub))
    let codeOff := (mFld m (BPM_RESULT_code sub)).off
    let others (t : State) (k : Nat) : Prop := ∀ j ≠ k, amGet (fun _ => ({} : Buf)) t.bpmBuf j = amGet (fun _ => {}) s.bpmBuf j
    let cycle : Prop := s.bpmCycle = u.clk.now / busPeriod
    let v := bpmArrive (reqId m sub) u
    (v.clk = (if cycle ∧ reqId m sub < s.bpmReq then elapseTo u ((u.clk.now / busPeriod + 1) * busPeriod) else u).clk ∧
      v.bpmReq = reqId m sub ∧ v.bpmFreed = (if cycle ∧ s.bpmReq ≤ reqId m sub then s.bpmFreed else []) ∧
      v = { s with hwSet := v.hwSet, clk := v.clk, bpmCycle := v.clk.now / busPeriod, bpmReq := v.bpmReq, bpmFreed := v.bpmFreed }) ∧
    ((win → regOpen s m (BPM_ALLOC_handle sub).off false = true) →
      let n := if m = 0 ∨ m = 6 then f s (mFld m (BPM_REQ_SIZE_size sub)) else size
      (poolFor n = none → Completes (.bpmAlloc dt m sub size) s fun t =>
        t.resp = ⟨0, 0⟩ ∧ (win → code t = if fb s BPM_STAT_ready then 2 else 1) ∧ RegsKept [codeOff] s t ∧
        t = { v with regs := t.regs, hwSet := t.hwSet, msix := t.msix, msixDue := t.msixDue, resp := t.resp }) ∧
      ∀ p, poolFor n = some p → p < 4 →
        (fb s BPM_STAT_ready = false → Completes (.bpmAlloc dt m sub size) s fun t =>
          t.resp = ⟨0, 0⟩ ∧ (win → code t = 1) ∧ f t (BPM_CNT_EMPTY_count p) = (f s (BPM_CNT_EMPTY_count p) + 1) % 2 ^ 32 ∧
          RegsKept [codeOff, (BPM_CNT_EMPTY_count p).off] s t ∧
          t = { v with regs := t.regs, hwSet := t.hwSet, msix := t.msix, msixDue := t.msixDue, resp := t.resp }) ∧
        (fb s BPM_STAT_ready = true →
          let c := (cacheGet s p).filter (fun i => !dieOff s (bufDie p i) && !v.bpmFreed.contains (bufKey p i))
          let granted (i : Nat) (t : State) : Prop :=
            let tag := ((bufGet s p i).tag + 1) % 256
            t.resp = ⟨mkHandle p i tag, 0⟩ ∧ (win → code t = 0) ∧ others t (p * 16384 + i) ∧
            bufGet t p i = { alloc := true, owner := reqId m sub, tag := tag } ∧
            f t (BPM_CNT_ALLOC_count p) = (f s (BPM_CNT_ALLOC_count p) + 1) % 2 ^ 32 ∧
            RegsKept [codeOff, (BPM_CNT_ALLOC_count p).off, (BPM_POOL_FREE_free p).off, BPM_STAT_low.off] s t
          (c ≠ [] → Completes (.bpmAlloc dt m sub size) s fun t => ∃ i ∈ c, granted i t ∧ cacheGet t p = (cacheGet s p).erase i ∧
            t = { v with regs := t.regs, hwSet := t.hwSet, msix := t.msix, msixDue := t.msixDue, resp := t.resp, bpmBuf := t.bpmBuf, bpmCache := t.bpmCache,
                         freeCtr := s.freeCtr + 1 }) ∧
          (c = [] → ∀ i s1, takeRing p v = some (i, s1) → bufKey p i ∉ v.bpmFreed ∧ Completes (.bpmAlloc dt m sub size) s fun t =>
            granted i t ∧ t = { v with regs := t.regs, hwSet := t.hwSet, msix := t.msix, msixDue := t.msixDue, resp := t.resp, bpmBuf := t.bpmBuf,
                                       bpmRing := s1.bpmRing, bpmTurn := s1.bpmTurn }) ∧
          (c = [] → takeRing p v = none → Completes (.bpmAlloc dt m sub size) s fun t =>
            t.resp = ⟨0, 0⟩ ∧ (win → code t = 1) ∧ f t (BPM_CNT_EMPTY_count p) = (f s (BPM_CNT_EMPTY_count p) + 1) % 2 ^ 32 ∧
            (sameCycle 23 v = false → f t (FLT_CNT_count 23) = (f s (FLT_CNT_count 23) + 1) % 2 ^ (FLT_CNT_count 23).wid) ∧
            RegsKeptFlt [codeOff, (BPM_CNT_EMPTY_count p).off] s t ∧
            t = { v with regs := t.regs, hwSet := t.hwSet, msix := t.msix, msixDue := t.msixDue, resp := t.resp, toFaultPart := t.toFaultPart }))) ∧
    (m = 0 → ∀ h,
      let b := bufGet s (hPool h) (hIndex h)
      let k := hPool h * 16384 + hIndex h
      let who := f s (mFld 0 (BPM_GIVE_TO_requester sub))
      let good : Prop := hValid h = true ∧ b.alloc = true ∧ b.tag = hTag h ∧ b.owner = reqId 0 sub
      let refused (c : Instr) (x : Nat) (cnt : Fld) : Prop := Completes c s fun t =>
        code t = x ∧ f t cnt = (f s cnt + 1) % 2 ^ 32 ∧ RegsKeptFlt [codeOff, cnt.off] s t ∧
        t = { u with regs := t.regs, hwSet := t.hwSet, msix := t.msix, msixDue := t.msixDue, toFaultPart := t.toFaultPart }
      (∀ c ∈ [Instr.bpmFree dt 0 sub h, .bpmGive dt 0 sub h],
        (hValid h = false → refused c 3 BPM_CNT_OWNER_count) ∧
        (hValid h = true → (b.alloc = false ∨ b.tag ≠ hTag h) → refused c 4 BPM_CNT_DFREE_count) ∧
        (hValid h = true → b.alloc = true → b.tag = hTag h → b.owner ≠ reqId 0 sub → refused c 5 BPM_CNT_OWNER_count)) ∧
      (good → Completes (.bpmFree dt 0 sub h) s fun t =>
        code t = 0 ∧ bufGet t (hPool h) (hIndex h) = { b with alloc := false } ∧ others t k ∧
        (dieOff s (bufDie (hPool h) (hIndex h)) = false → hIndex h ∈ cacheGet t (hPool h) ∧
          ((cacheGet s (hPool h)).length < 64 → cacheGet t (hPool h) = cacheGet s (hPool h) ++ [hIndex h] ∧ t.bpmRing = s.bpmRing)) ∧
        (dieOff s (bufDie (hPool h) (hIndex h)) = true → t.bpmCache = s.bpmCache ∧ t.bpmRing = s.bpmRing) ∧
        t.bpmCycle = u.clk.now / busPeriod ∧ t.bpmFreed = bufKey (hPool h) (hIndex h) :: (if cycle then s.bpmFreed else []) ∧
        RegsKept [codeOff, (BPM_POOL_FREE_free (hPool h)).off, BPM_STAT_low.off] s t ∧
        t = { u with regs := t.regs, hwSet := t.hwSet, msix := t.msix, msixDue := t.msixDue, bpmBuf := t.bpmBuf, bpmCache := t.bpmCache, bpmRing := t.bpmRing,
                     bpmCycle := t.bpmCycle, bpmReq := t.bpmReq, bpmFreed := t.bpmFreed }) ∧
      (good → mayOwn who = true → Completes (.bpmGive dt 0 sub h) s fun t =>
        code t = 0 ∧ bufGet t (hPool h) (hIndex h) = { b with owner := who } ∧ others t k ∧ RegsKept [codeOff] s t ∧
        t = { u with regs := t.regs, hwSet := t.hwSet, msix := t.msix, msixDue := t.msixDue, bpmBuf := t.bpmBuf }) ∧
      (good → mayOwn who = false → refused (.bpmGive dt 0 sub h) 3 BPM_CNT_OWNER_count)) ∧
    (∀ p < 4, let low : Prop := fb s BPM_STAT_ready = true ∧ (cacheGet s p).length < 16
      (¬ low → idle (.bpmCacheRefill dt p)) ∧
      (low → Completes (.bpmCacheRefill dt p) s fun t => cacheGet s p <+: cacheGet t p ∧ (cacheGet t p).length ≤ 64 ∧
        (takeRing p u ≠ none → (cacheGet s p).length < (cacheGet t p).length) ∧ RegsKept [] s t ∧
        t = { u with regs := t.regs, hwSet := t.hwSet, msix := t.msix, msixDue := t.msixDue, bpmCache := t.bpmCache, bpmRing := t.bpmRing, bpmTurn := t.bpmTurn })) ∧
    (fb s BPM_STAT_ready = true → idle (.bpmReady dt)) ∧
    (fb s BPM_STAT_ready = false → Completes (.bpmReady dt) s fun t =>
      fb t BPM_STAT_ready = true ∧
      t = { u with regs := t.regs, hwSet := t.hwSet, msix := t.msix, msixDue := t.msixDue, bpmBuf := [], bpmCache := [], bpmRing := [], bpmTurn := [] } ∧
      (∀ p < 4, f t (BPM_POOL_FREE_free p) =
        (if dieOff s 0 then 0 else poolCount p / 2) + (if dieOff s 1 then 0 else poolCount p / 2)) ∧
      RegsKept ([0, 1, 2, 3].map (fun p => (BPM_POOL_FREE_free p).off) ++ [BPM_STAT_ready.off]) s t)

/-- R458, R459, R461 to R477. -/
def Obligations.BootGoesFromFusesToReadyByItsCommands : Prop :=
  ∀ (s : State) (dt m : Nat), s.porOn = false → (∀ n ∈ [16, 17, 25, 40, 41, 42, 43], sevOf s n < 4) →
    let u := elapse s dt
    let idle (c : Instr) : Prop := Completes c s fun t => RegsKept [] s t ∧ OnlyRegs s dt t
    let fresh : Prop := bootState s = 0 ∧ fb s ID_FUSE_STAT_sensed = false
    (∀ fixed bad, (¬ fresh → idle (.fuseSense dt fixed bad)) ∧
      (fresh → Completes (.fuseSense dt fixed bad) s fun t =>
        bootState t = 1 ∧ fb t ID_FUSE_STAT_sensed = true ∧ f t ID_FUSE_STAT_slot_prog = s.fuProg % 16 ∧
        fb t ID_FUSE_STAT_seal = (s.fuSeal || bad.contains 4) ∧ (5 ∉ bad → f t ID_PART_variant = s.fuVariant % 2) ∧
        (∀ k < 4, k ∈ bad → (f t ID_FUSE_STAT_slot_rev).testBit k = true) ∧
        (∀ k < 4, k ∉ bad → (f t ID_FUSE_STAT_slot_rev).testBit k = s.fuRev.testBit k) ∧
        fb t ID_FUSE_STAT_ecc_fixed = decide (fixed ≠ 0) ∧ fb t ID_FUSE_STAT_ecc_bad = decide (bad ≠ []) ∧
        t.useHash = s.fuHash ∧ t.pdEn = true ∧ (f s BOOT_STAT_boot_mode = 2 → f t BUS_MODE_mode = 2) ∧
        (f s BOOT_STAT_boot_mode ≠ 2 → f t BUS_MODE_mode = f s BUS_MODE_mode) ∧
        (∀ x ∈ romDomains, domOn s x = false → domFailed s x = false → x ∈ t.wakeQ) ∧
        (fixed ≠ 0 ∨ bad ≠ [] → sameCycle 43 u = false →
          f t (FLT_CNT_count 43) = (f s (FLT_CNT_count 43) + 1) % 2 ^ (FLT_CNT_count 43).wid) ∧
        (∀ b < 16, ∀ e < 4, fb t (repairFld 0x90280 b e).2 = decide (repairOf s b e ≠ 0) ∧
          (256 + (4 * b + e) ∈ bad → fb t (repairFld 0x90200 b e).2 = false) ∧
          (256 + (4 * b + e) ∉ bad → fb t (repairFld 0x90200 b e).2 = decide (repairOf s b e ≠ 0))) ∧
        t.fuProg = s.fuProg ∧ t.fuRev = s.fuRev ∧ t.fuSeal = s.fuSeal ∧ t.present = s.present ∧ MemKept s t ∧ t.clk = u.clk)) ∧
    (¬ (bootState s = 1 ∧ ∀ x ∈ romDomains, domOn s x = true) → idle (.romReady dt)) ∧
    (bootState s = 1 → (∀ x ∈ romDomains, domOn s x = true) → Completes (.romReady dt) s fun t =>
      bootState t = 2 ∧ RegsKept [BOOT_STAT_state.off] s t ∧ OnlyRegs s dt t) ∧
    (m = 0 ∨ m = 6 → masterLive s m = true → regOpen s m BOOT_CMD_op.off true = true →
      (let runs (c : Instr) (op mask : Nat) (may : Prop) (busy next : Nat) : Prop :=
         (s.bootBusy = 0 → may → Completes c s fun t => t.bootBusy = busy ∧ bootState t = next ∧
           RegsKept [BOOT_CMD_op.off, BOOT_STAT_state.off] s t ∧
           t = { u with regs := t.regs, hwSet := t.hwSet, msix := t.msix, msixDue := t.msixDue, bootBusy := t.bootBusy }) ∧
         (s.bootBusy = 0 → ¬ may → Completes c s fun t => ResultIs t { code := 11 } ∧ bootState t = bootState s ∧
           RegsKept [BOOT_CMD_op.off, BOOT_RESULT_code.off] s t ∧ OnlyRegs s dt t) ∧
         (s.bootBusy ≠ 0 → Completes c s fun t => f t BOOT_CMD_op = op ∧ f t BOOT_CMD_mask = mask ∧
           RegsKept [BOOT_CMD_op.off] s t ∧ OnlyRegs s dt t)
       runs (.fwVerify dt m) 1 0 (m = 6 ∧ bootState s = 2) 1 3 ∧
       runs (.planApply dt m) 2 0 (bootState s = 4 ∧ f s BOOT_STAT_boot_mode ≠ 2) 2 4) ∧
      ∀ mask, s.bootBusy = 0 →
        (bootState s ≠ 5 → bootState s ≠ 6 → Completes (.planReapply dt m mask) s fun t => ResultIs t { code := 11 } ∧
          RegsKept [BOOT_CMD_op.off, BOOT_RESULT_code.off] s t ∧ OnlyRegs s dt t) ∧
        (bootState s = 5 ∨ bootState s = 6 → Completes (.planReapply dt m mask) s fun t =>
          let r := contRead s.planBase (setF BOOT_CMD_mask (mask % 4) (setF BOOT_CMD_op 3 u))
          bootState t = bootState s ∧ f t BOOT_STAT_plan = f s BOOT_STAT_plan ∧ t.planBase = s.planBase ∧
          (contTile r s.planBase 0 = none → ResultIs t { code := 2 }) ∧
          ∀ h, contTile r s.planBase 0 = some h →
            let n := if contFits s.planBase (totalTiles h) then totalTiles h else 1
            (∀ k, tileErr r s.planBase n = some k → f t BOOT_RESULT_code = 2 ∧ f t BOOT_RESULT_tile = k % 65536) ∧
            (tileErr r s.planBase n = none → (∀ e, rangeErr (planSecs r s.planBase h) = some e → ResultIs t e) ∧
              (rangeErr (planSecs r s.planBase h) = none → ResultIs t { code := 0 })))) ∧
    (s.bootBusy ≠ 1 → idle (.fwVerifyDone dt)) ∧
    (s.bootBusy = 1 → Completes (.fwVerifyDone dt) s fun t =>
      let a := f s BOOT_FW_ADDR_addr
      let h := contBytes (contRead a u) a 0
      match contErr u a 1 with
      | some e => ResultIs t e ∧ bootState t = 2 ∧ f t BUS_REMAP_remap = f s BUS_REMAP_remap ∧ t.present = s.present ∧ t.spm = s.spm
      | none => ResultIs t { code := 0 } ∧ bootState t = 4 ∧ f t BUS_REMAP_remap = 1 ∧
          f t BUS_MODE_mode = (if f s BOOT_STAT_boot_mode = 2 then 2 else 1) ∧ supState t 0 = 3 ∧ supState t 1 = 1 ∧
          f t FLT_SUP_STAT_holder = 0 ∧ f t BOOT_ENTRY_entry = fldAt h 0x28 4 % 2 ^ 32 ∧
          ∀ i < 8, f t (BOOT_FW_DIGEST_digest i) = be32 (sha256 (signedMsg h)) (4 * i) % 2 ^ 32) ∧
    (s.bootBusy ≠ 2 → idle (.planApplyDone dt)) ∧
    (s.bootBusy = 2 → Completes (.planApplyDone dt) s fun t =>
      let a := f s BOOT_PLAN_ADDR_addr
      let r := contRead a u
      let h := contBytes r a 0
      let refused (e : BootErr) : Prop := ResultIs t e ∧ bootState t = bootState s ∧ f t BOOT_STAT_plan = f s BOOT_STAT_plan ∧
        t.present = s.present ∧ t.spm = s.spm ∧ t.planBase = s.planBase
      match contErr u a 2 with
      | some e => refused e
      | none => match planErr r a h with
        | some e => refused e
        | none => ResultIs t { code := 0 } ∧ bootState t = 5 ∧ fb t BOOT_STAT_plan = true ∧ t.planBase = a ∧
            ∀ i < 8, f t (BOOT_PLAN_DIGEST_digest i) = be32 (sha256 (signedMsg h)) (4 * i) % 2 ^ 32)

/-- R468, R469, R477 to R482, Tables 14-10, 14-16. -/
def Obligations.FusesBurnAttestationSignsAndTheSealHolds : Prop :=
  ∀ (s : State) (dt m sl : Nat), s.porOn = false → sevOf s 42 < 4 → sevOf s 44 < 4 → sl < 4 →
    let u := elapse s dt
    let idle (c : Instr) : Prop := Completes c s fun t => RegsKept [] s t ∧ OnlyRegs s dt t
    let fuses (t : State) : Prop := t.fuProg = s.fuProg ∧ t.fuRev = s.fuRev ∧ t.fuSeal = s.fuSeal ∧ t.fuHash = s.fuHash
    (masterLive s m = true → regOpen s m SEC_FUSE_CMD_op.off true = true →
      ∀ e ∈ [(Instr.fuseProgramSlot dt m sl, 1, sl), (.fuseRevokeSlot dt m sl, 2, sl), (.fuseBlowSeal dt m, 3, 0)],
        Completes e.1 s fun t =>
          let op := e.2.1
          let may : Prop := (m = 6 ∧ bootState s = 2) ∨ (m = 0 ∧ f s BOOT_STAT_boot_mode = 2)
          let result (r : Nat) : Prop := f t SEC_FUSE_STAT_result = r ∧ t.fuBusy = none
          let blow : Prop := t.fuBusy = some (op, e.2.2, fuseData s) ∧ f t SEC_FUSE_STAT_result = f s SEC_FUSE_STAT_result
          f t SEC_FUSE_CMD_op = op ∧ f t SEC_FUSE_CMD_slot = e.2.2 ∧ fuses t ∧
          RegsKept [SEC_FUSE_CMD_op.off, SEC_FUSE_STAT_result.off] s t ∧
          t = { u with regs := t.regs, hwSet := t.hwSet, msix := t.msix, msixDue := t.msixDue, fuBusy := t.fuBusy } ∧
          (s.fuBusy ≠ none → t.fuBusy = s.fuBusy ∧ f t SEC_FUSE_STAT_result = f s SEC_FUSE_STAT_result) ∧
          (s.fuBusy = none →
            (¬ may → result 1) ∧
            (may → op = 1 → (s.fuProg.testBit sl = true → result 2) ∧ (s.fuProg.testBit sl = false → blow)) ∧
            (may → op = 2 → (s.fuProg.testBit sl = false → result 4) ∧
              (s.fuProg.testBit sl = true → (usableWithout s sl = false → result 3) ∧ (usableWithout s sl = true → blow))) ∧
            (may → op = 3 → blow))) ∧
    (∀ got, (s.fuBusy = none → idle (.fuseCommandComplete dt got)) ∧
      ∀ op k h, s.fuBusy = some (op, k, h) → Completes (.fuseCommandComplete dt got) s fun t =>
        t.fuBusy = none ∧ t.useHash = s.useHash ∧ t.useEpoch = s.useEpoch ∧ RegsKept [SEC_FUSE_STAT_result.off] s t ∧
        (op = 1 → t.fuProg = s.fuProg ||| 2 ^ k ∧ amGet (fun _ => 0) t.fuHash k = got ∧
          (∀ j ≠ k, amGet (fun _ => 0) t.fuHash j = amGet (fun _ => 0) s.fuHash j) ∧ t.fuRev = s.fuRev ∧ t.fuSeal = s.fuSeal ∧
          f t SEC_FUSE_STAT_result = (if got = h then 0 else 5)) ∧
        (op = 2 → t.fuRev = (if got = 0 then s.fuRev else s.fuRev ||| 2 ^ k) ∧ t.fuProg = s.fuProg ∧ t.fuHash = s.fuHash ∧
          t.fuSeal = s.fuSeal ∧ f t SEC_FUSE_STAT_result = (if got = 0 then 5 else 0)) ∧
        (op = 3 → t.fuSeal = (s.fuSeal || decide (got ≠ 0)) ∧ t.fuProg = s.fuProg ∧ t.fuHash = s.fuHash ∧ t.fuRev = s.fuRev ∧
          f t SEC_FUSE_STAT_result = (if got = 0 then 5 else 0))) ∧
    (masterLive s m = true → regOpen s m SEC_ATT_CMD_go.off true = true →
      (fb s SEC_ATT_STAT_busy = true → idle (.attest dt m)) ∧
      (fb s SEC_ATT_STAT_busy = false →
        let refused (r : Nat) : Prop := Completes (.attest dt m) s fun t => f t SEC_ATT_STAT_result = r ∧
          fb t SEC_ATT_STAT_busy = false ∧ RegsKept [SEC_ATT_STAT_result.off] s t ∧ OnlyRegs s dt t
        let early : Prop := bootState s < 4 ∨ domFallow s 29 = true
        let good : Prop := inSingle (f s SEC_ATT_ADDR_addr) 3168 = true
        (early → refused 1) ∧
        (¬ early → ∀ e q, s.attOpen = some (e, q) →
          (1024 ≤ q → refused 3) ∧ (q < 1024 → ¬ good → refused 4) ∧
          (q < 1024 → good → Completes (.attest dt m) s fun t => fb t SEC_ATT_STAT_busy = true ∧
            RegsKept [SEC_ATT_STAT_busy.off] s t ∧ OnlyRegs s dt t)) ∧
        (¬ early → s.attOpen = none →
          (nextEpoch s = none → refused 2) ∧
          ∀ e, nextEpoch s = some e → (¬ good → refused 4) ∧
            (good → Completes (.attest dt m) s fun t => fb t SEC_ATT_STAT_busy = true ∧ t.attOpen = some (e, 0) ∧
              (∀ i < 4096, t.useEpoch.getLsbD i = (s.useEpoch.getLsbD i || decide (i = e)) ∧
                t.fuEpoch.getLsbD i = (s.fuEpoch.getLsbD i || decide (i = e))) ∧
              RegsKeptFlt [SEC_ATT_STAT_busy.off] s t ∧
              t = { u with regs := t.regs, hwSet := t.hwSet, msix := t.msix, msixDue := t.msixDue, toFaultPart := t.toFaultPart, attOpen := t.attOpen,
                           useEpoch := t.useEpoch, fuEpoch := t.fuEpoch })))) ∧
    (s.attOpen = none ∨ fb s SEC_ATT_STAT_busy = false → idle (.attestDone dt)) ∧
    (∀ e q, s.attOpen = some (e, q) → fb s SEC_ATT_STAT_busy = true → pd24Up s = true → Completes (.attestDone dt) s fun t =>
      let a := f s SEC_ATT_ADDR_addr
      fb t SEC_ATT_STAT_busy = false ∧ f t SEC_ATT_STAT_result = 0 ∧ t.attOpen = some (e, q + 1) ∧
      f t (DMA_CH_CNT_count 5) = (f s (DMA_CH_CNT_count 5) + 1) % 2 ^ 32 ∧
      (inSingle a 3168 = true → domOn s 25 = true → dieOff s (dieOf a) = false → inFreeRing a = false → calActive s = false →
        memList t.dram a 140 = attReport u e q ∧ t.spm = s.spm ∧
        ∀ b, b < a ∨ a + 3168 ≤ b → memGet t.dram b = memGet s.dram b)) ∧
    (sealed s = false → idle (.debugAttempt dt)) ∧
    (sealed s = true → Completes (.debugAttempt dt) s fun t =>
      (domOn s 29 = true → f t SEC_CNT_DBG_count = min (f s SEC_CNT_DBG_count + 1) (2 ^ 32 - 1)) ∧
      (sameCycle 44 u = false → f t (FLT_CNT_count 44) = (f s (FLT_CNT_count 44) + 1) % 2 ^ (FLT_CNT_count 44).wid) ∧
      RegsKeptFlt [SEC_CNT_DBG_count.off] s t ∧
      t = { u with regs := t.regs, hwSet := t.hwSet, msix := t.msix, msixDue := t.msixDue, toFaultPart := t.toFaultPart }) ∧
    (∀ k < 4, Completes (.tapInstruction dt k) s fun t => t.tapIr = k ∧ (k = 0 → t.resp = ⟨0, 0⟩) ∧
      (k = 1 → t.resp = ⟨f s ID_JTAG_idcode, 0⟩) ∧ RegsKept [] s t ∧
      t = { u with regs := t.regs, hwSet := t.hwSet, msix := t.msix, msixDue := t.msixDue, tapIr := t.tapIr, resp := t.resp, freeCtr := t.freeCtr }) ∧
    ∀ k, 4 ≤ k → debugMay s = false → Completes (.tapInstruction dt k) s fun t => t.tapIr = 0 ∧
      (sealed s = false → RegsKept [] s t ∧ t = { u with regs := t.regs, hwSet := t.hwSet, msix := t.msix, msixDue := t.msixDue, tapIr := 0 }) ∧
      RegsKeptFlt [SEC_CNT_DBG_count.off] s t

/-- R149, R389, R426, R428, R459, R460, R483 to R488, R525, R527, Tables 14-11, 14-12. -/
def Obligations.ResetsTreatTheStateAsTheirTable : Prop :=
  ∀ (s : State) (dt n k d m bm : Nat) (ab : List (Nat × Nat × Nat)), bm < 4 →
    let u := elapse s dt
    let idle (c : Instr) : Prop := Completes c s fun t => RegsKept [] s t ∧ OnlyRegs s dt t
    let back (t : State) (d : Nat) : Prop := ∀ r ∈ domRanges d, ∀ o, r.1 ≤ o → o < r.2 → o ≠ DMA_MSIX_PEND_pending.off → rd t o = regReset o
    let doms (t : State) : Prop := ∀ x < 30, domOn t x = domOn s x
    let dark (t : State) : Prop := ∀ o < 256, t.gateOpen.getLsbD o = false
    (s.porOn = false → sevOf s 24 < 4 →
      (masterLive s 0 = true → d < 30 →
        (d ∈ [21, 22, 23, 28, 29] ∧ domOn s d = true → Completes (.domainReset dt 0 d n) s fun t => back t d ∧ doms t ∧
          t.present = s.present ∧ t.rot = s.rot ∧ t.commit = s.commit ∧ t.gateOpen = s.gateOpen ∧ t.dram = s.dram ∧ t.clk = u.clk ∧
          (d = 21 → 0 < n → f t BUS_CNT_ABANDON_count = (f s BUS_CNT_ABANDON_count + n) % 2 ^ 32 ∧
            f t BUS_ABANDON_LAST_requester = reqId 2 0)) ∧
        (¬ (d ∈ [21, 22, 23, 28, 29] ∧ domOn s d = true) → idle (.domainReset dt 0 d n)) ∧ idle (.supReset dt 0)) ∧
      (masterLive s 6 = true → regOpen s 6 BOOT_RST_sup_reset.off true = true → Completes (.supReset dt 6) s fun t =>
        supState t 0 = 3 ∧ supState t 1 = 1 ∧ f t FLT_SUP_STAT_holder = 0 ∧ f t FLT_SUP_STAT_no_holder = 0 ∧ t.supLease = u.clk.now ∧
        f t BUS_REMAP_remap = 1 ∧ f t BUS_MODE_mode = (if f s BOOT_STAT_boot_mode = 2 then f s BUS_MODE_mode else 3) ∧
        RegsKept [FLT_SUP_STAT_a_state.off, BUS_REMAP_remap.off, BUS_MODE_mode.off] s t ∧
        t = { u with regs := t.regs, hwSet := t.hwSet, msix := t.msix, msixDue := t.msixDue, supLease := t.supLease, remapPend := none, modePend := none }) ∧
      (s.perstLow = true → idle (.perst dt n k)) ∧ (pd24Up s = false → idle (.functionLevelReset dt n k)) ∧
      (∀ c, (c = Instr.perst dt n k ∧ s.perstLow = false) ∨ (c = .functionLevelReset dt n k ∧ pd24Up s = true) →
        Completes c s fun t => back t 24 ∧ doms t ∧ f t BOOT_APT_region = 8 ∧ f t BUS_HOST_FENCE_fences = 0 ∧ t.hostFence = false ∧
          bootState t = bootState s ∧ t.present = s.present ∧ t.dram = s.dram ∧ t.spm = s.spm ∧ t.sram = s.sram ∧ t.clk = u.clk ∧
          t.perstLow = decide (c = .perst dt n k) ∧ (c = .perst dt n k → masterLive t 5 = false ∧ masterLive t 6 = false)) ∧
      (Completes (.perstNRelease dt) s fun t => t.perstLow = false ∧ RegsKept [] s t ∧
        t = { u with regs := t.regs, hwSet := t.hwSet, msix := t.msix, msixDue := t.msixDue, perstLow := false }) ∧
      (let reset (c : Instr) (noHold next : Bool) : Prop := Completes c s fun t =>
         let hold := holdTaken noHold s
         inSafe t = false ∧ devState t = 0 ∧ f t BUS_REMAP_remap = 0 ∧ f t FLT_CTRL_serve = 0 ∧ f t BOOT_STAT_plan = 0 ∧
         f t BOOT_APT_region = 8 ∧ t.bootBusy = 0 ∧ t.pdEn = true ∧ t.clk = u.clk ∧ t.rstLow = !next ∧
         (next = true → bootState t = 1 ∧ f t BOOT_STAT_boot_mode = bm ∧ f t BUS_MODE_mode = (if bm = 2 then 2 else 1) ∧
           t.resetEnd = u.clk.now ∧ ∀ x ∈ romDomains, domFailed s x = false → domOn t x = true ∨ x ∈ t.wakeQ) ∧
         (next = false → bootState t = bootState s) ∧
         (hold = false → (domOn s 17 = true → dark t) ∧ (∀ x < 30, domOn t x = false) ∧ f t BOOT_HOLD_STAT_windows = 0 ∧
           (domOn s 20 = true → t.present = {} ∧ t.rot = none ∧ t.accepted = [])) ∧
         (hold = true → (∀ x < 30, domOn t x = (domOn s x && heldDomain x)) ∧ t.gateOpen = s.gateOpen ∧ t.accepted = [] ∧
           t.ready = [] ∧ t.sched = [] ∧ t.rot = none ∧ t.commit = s.commit ∧ (s.rot = none → t.present = s.present) ∧
           f t BOOT_HOLD_STAT_windows = windowMask s ∧
           t.holdAt = if anyHeld s then s.holdAt else u.clk.now + f s BOOT_HOLD_hold_ds * (100 * ms))
       (m = 0 ∨ m = 6 → s.rstLow = false → masterLive s m = true → regOpen s m BOOT_RST_warm.off true = true →
         reset (.warmReset dt false m bm ab) (bm == 1) true) ∧
       (s.rstLow = false → bootState s ≠ 0 → reset (.warmReset dt true m bm ab) false false) ∧
       (s.rstLow = true ∨ bootState s = 0 → idle (.warmReset dt true m bm ab))) ∧
      (s.rstLow = false → idle (.rstNRelease dt bm)) ∧
      (s.rstLow = true → Completes (.rstNRelease dt bm) s fun t => t.rstLow = false ∧ bootState t = 1 ∧
        f t BOOT_STAT_boot_mode = bm ∧ t.resetEnd = u.clk.now ∧
        (¬ (bm = 1 ∧ anyHeld s = true) → doms t ∧ t.present = s.present ∧ t.gateOpen = s.gateOpen ∧
          f t BOOT_HOLD_STAT_windows = f s BOOT_HOLD_STAT_windows ∧
          RegsKept [BOOT_STAT_state.off, BUS_MODE_mode.off] s t) ∧
        (bm = 1 → anyHeld s = true → f t BOOT_HOLD_STAT_windows = 0 ∧ ∀ x < 30, domOn t x = false)) ∧
      (anyHeld s = false → idle (.holdExpire dt)) ∧
      (anyHeld s = true → Completes (.holdExpire dt) s fun t => t.clk = (elapseTo u s.holdAt).clk ∧ anyHeld t = false ∧
        fb t BOOT_HOLD_STAT_expired = true ∧ dark t ∧ doms t ∧
        (sameCycle 39 (elapseTo u s.holdAt) = false →
          f t (FLT_CNT_count 39) = (f s (FLT_CNT_count 39) + 1) % 2 ^ (FLT_CNT_count 39).wid))) ∧
    (∀ c ∈ [Instr.porAssert dt, .vaonLoss dt], Completes c s fun t => t.porOn = true ∧ (∀ o, rd t o = regReset o) ∧
      t.clk.now = s.clk.now + dt ∧ t.vaonBad = (s.vaonBad || decide (c = .vaonLoss dt)) ∧ t.porEnd = none ∧
      (s.fuBusy = none → s.repairBusy = none →
        t = { State.reset with
          clk := t.clk, freeCtr := s.freeCtr, sent := s.sent, msix := s.msix, pending := s.pending, fuVariant := s.fuVariant,
          fuUnit := s.fuUnit, fuJtag := s.fuJtag, fuProg := s.fuProg, fuRev := s.fuRev, fuHash := s.fuHash, fuSeal := s.fuSeal,
          fuEpoch := s.fuEpoch, repairFuse := s.repairFuse, rom := s.rom, vpkBad := s.vpkBad, vhtrBad := s.vhtrBad,
          rstLow := s.rstLow, perstLow := s.perstLow, porOn := true, vaonBad := t.vaonBad })) ∧
    (s.porOn = false → Completes (.porEnd dt) s fun t => t = u) ∧
    (s.porOn = true → Completes (.porEnd dt) s fun t => t = { u with porEnd := some u.clk.now, vaonBad := false }) ∧
    (s.porOn = false ∨ s.porEnd = none → Completes (.aonResetRelease dt bm) s fun t => t = u) ∧
    ∀ x, s.porOn = true → s.porEnd = some x → Completes (.aonResetRelease dt bm) s fun t =>
      let now := max u.clk.now (x + 2 * ms)
      f t BOOT_STAT_boot_mode = bm ∧ RegsKept [BOOT_STAT_boot_mode.off] s t ∧
      t = { s with regs := t.regs, hwSet := t.hwSet, porOn := false, porEnd := none, resetEnd := now, clk := { now := now } }

/-- R35, R36, R358, R489, R491 to R493, Tables 14-13, 14-18 to 14-20. -/
def Obligations.SmbusTickPhaseAndDmaDescriptors : Prop :=
  ∀ (s : State) (dt c m n : Nat),
    let u := elapse s dt
    let idle (c : Instr) : Prop := Completes c s fun t => RegsKept [] s t ∧ OnlyRegs s dt t
    let answers (c : Instr) (P : Nat → Nat → Prop) : Prop :=
      Completes c s fun t => P t.resp.data t.resp.code ∧ RegsKept [] s t ∧ OnlyRegsResp s dt t
    (s.porOn = true ∨ bootState s = 0 →
      ∀ q ∈ [Instr.smbReadId dt, .smbReadStatus dt, .smbTempDemand dt, .smbReadSite dt n, .smbAlertResponse dt],
        answers q (fun d r => d = 0 ∧ r = 2)) ∧
    (s.porOn = false → bootState s ≠ 0 →
      answers (.smbReadId dt) (fun d r => r = 0 ∧
        d = regValue s 6 0 + 2 ^ 32 * (regValue s 6 4 + 2 ^ 32 * (regValue s 6 8 + 2 ^ 32 * (regValue s 6 16 + 2 ^ 32 * regValue s 6 20)))) ∧
      answers (.smbReadStatus dt) (fun d r => r = 0 ∧ d % 8 = bootState s ∧ d / 8 % 2 = (inSafe s).toNat ∧ d / 16 % 8 = devState s ∧
        d / 128 % 8 = f s GOV_STEP_step ∧ d / 1024 % 2 = f s GOV_STAT_therm ∧ d / 2048 = (anyHeld s).toNat) ∧
      answers (.smbReadSite dt n) (fun d r => r = 0 ∧ d = if siteValid s n then f s (GOV_SITE_TEMP_temp n) else 0x8000) ∧
      answers (.smbAlertResponse dt) (fun d r => (alertLow s = true → d = 0x52 ∧ r = 0) ∧ (alertLow s = false → d = 0 ∧ r = 2)) ∧
      Completes (.smbTempDemand dt) s fun t => t.resp = ⟨0, 0⟩ ∧
        f t (GOV_CNT_DEM_count 0) = (f s (GOV_CNT_DEM_count 0) + 1) % 2 ^ 32 ∧
        (s.convSite.isSome = true → demPend t = 2 ^ 48 - 1 ∧ t.convSite = s.convSite) ∧
        (s.convSite = none → let i := (s.lastSite + 1) % 48
          demPend t = 2 ^ 48 - 1 - 2 ^ i ∧ t.convSite = some i ∧ t.lastSite = i ∧ t.convAt = u.clk.now) ∧
        RegsKept [(GOV_CNT_DEM_count 0).off, GOV_PEND_LO_sites.off, GOV_PEND_HI_sites.off] s t ∧
        t = { u with regs := t.regs, hwSet := t.hwSet, msix := t.msix, msixDue := t.msixDue, resp := t.resp, convSite := t.convSite, lastSite := t.lastSite, convAt := t.convAt }) ∧
    (s.porOn = false → sevOf s 24 < 4 →
      (domOn s 20 = false → idle (.tickPhaseMeasurement dt)) ∧
      (domOn s 20 = true → Completes (.tickPhaseMeasurement dt) s fun t =>
        (∀ b < 4, (tbEnabled s b = true → fb t (CMT_TICK_PHASE_valid b) = true ∧
            f t (CMT_TICK_PHASE_phase b) =
              tickTime u b (tickAtOrAfter u.clk.now) % (20 * nsUnit) / 2 ^ 30 % 2 ^ (CMT_TICK_PHASE_phase b).wid) ∧
          (tbEnabled s b = false → f t (CMT_TICK_PHASE_valid b) = f s (CMT_TICK_PHASE_valid b))) ∧
        RegsKept ([0, 1, 2, 3].map (fun b => (CMT_TICK_PHASE_phase b).off)) s t ∧ OnlyRegs s dt t) ∧
      (masterLive s m = true → c < 16 → regOpen s m (DMA_CH_CTRL_reset c).off true = true →
        (c < 6 → idle (.dmaResume dt m c) ∧ idle (.dmaChannelReset dt m c n)) ∧
        (6 ≤ c →
          (Completes (.dmaResume dt m c) s fun t => f t (DMA_CH_STAT_halted c) = 0 ∧
            f t (DMA_CH_STAT_result c) = f s (DMA_CH_STAT_result c) ∧ RegsKept [(DMA_CH_STAT_halted c).off] s t ∧ OnlyRegs s dt t) ∧
          Completes (.dmaChannelReset dt m c n) s fun t => f t (DMA_CH_HEAD_head c) = 0 ∧ f t (DMA_CH_TAIL_tail c) = 0 ∧
            f t (DMA_CH_STAT_halted c) = 0 ∧
            (0 < n → f t BUS_CNT_ABANDON_count = (f s BUS_CNT_ABANDON_count + n) % 2 ^ 32 ∧ f t BUS_ABANDON_LAST_requester = 0xA0 + c) ∧
            RegsKeptFlt [(DMA_CH_HEAD_head c).off, (DMA_CH_TAIL_tail c).off, (DMA_CH_STAT_halted c).off, BUS_CNT_ABANDON_count.off,
              BUS_ABANDON_LAST_requester.off] s t ∧
            t = { u with regs := t.regs, hwSet := t.hwSet, msix := t.msix, msixDue := t.msixDue, toFaultPart := t.toFaultPart })) ∧
      (6 ≤ c → c < 16 →
        let works : Prop := masterLive s 5 = true ∧ fb s DMA_CTRL_enable = true ∧ fb s (DMA_CH_STAT_halted c) = false ∧
          f s (DMA_CH_HEAD_head c) ≠ f s (DMA_CH_TAIL_tail c)
        let a := f s (DMA_CH_BASE_addr c) + 32 * f s (DMA_CH_HEAD_head c)
        let d := descOf (busGet s a 32)
        let ends (t : State) (r : Nat) : Prop := f t (DMA_CH_STAT_result c) = r ∧
          (r ≠ 0 → fb t (DMA_CH_STAT_halted c) = true ∧ (f t DMA_ERR_halted).testBit c = true) ∧
          (r = 0 → fb t (DMA_CH_STAT_halted c) = false) ∧
          f t (DMA_CH_HEAD_head c) = (f s (DMA_CH_HEAD_head c) + 1) % max 1 (f s (DMA_CH_CFG_entries c)) % 1024 ∧
          f t (DMA_CH_CNT_count c) = (f s (DMA_CH_CNT_count c) + 1) % 2 ^ 32 ∧
          (d.flags.testBit 4 = true → (f t DMA_DONE_done).testBit c = true) ∧ (d.flags.testBit 4 = false → f t DMA_DONE_done = f s DMA_DONE_done)
        let apart (b : Nat) : Prop := b < a + 0xE ∨ a + 0x18 ≤ b
        let free (x : Nat) : Prop := 0x80000000 ≤ x ∧ x + d.len ≤ 2 ^ 32 ∧ dieOff s (dieOf x) = false ∧ dieOff s (dieOf (x + d.len - 1)) = false
        let plain : Prop := d.flags.testBit 0 = true ∧ 1 ≤ d.len ∧ d.len ≤ 16777216 ∧ free d.dst ∧ domOn s 25 = true ∧
          calActive s = false ∧ ∀ i < d.len, inFreeRing (d.dst + i) = false ∧ apart (d.dst + i)
        (¬ works → idle (.dmaDescriptor dt c)) ∧
        (works → descOk s d = false → Completes (.dmaDescriptor dt c) s fun t => ends t 4 ∧ t.clk = u.clk ∧ t.present = s.present) ∧
        (works → descOk s d = true → d.flags.testBit 2 = false ∨ d.flags.testBit 3 = true →
          let moved := min (dmaGood s d.dst d.len) (if d.flags.testBit 3 then d.len else dmaGood s d.src d.len)
          let inMem (b : Nat) : Prop := ∀ x, targetOf s b ≠ .reg x
          moved < d.len → Completes (.dmaDescriptor dt c) s fun t => ends t 1 ∧
            ((∀ k < 0x20, ∀ x, targetOf s (a + k) = .dram x → dieOff s (dieOf x) = false) → (d.flags.testBit 3 = true ∨ inMem d.src) → inMem d.dst →
              f t BUS_CNT_ERR_count = (f s BUS_CNT_ERR_count + 1) % 2 ^ 32) ∧
            (d.flags.testBit 3 = true → domOn s 25 = true → calActive s = false → 0x80000000 ≤ d.dst → d.dst + d.len ≤ 2 ^ 32 →
              (∀ i < moved, inFreeRing (d.dst + i) = false ∧ apart (d.dst + i)) →
              ∀ i < moved, memGet t.dram (d.dst + i) = BitVec.ofNat 8 (d.pattern / 256 ^ (i % 4)))) ∧
        (works → plain → d.flags.testBit 3 = true → d.flags.testBit 2 = false → Completes (.dmaDescriptor dt c) s fun t => ends t 0 ∧
          (∀ i < d.len, memGet t.dram (d.dst + i) = BitVec.ofNat 8 (d.pattern / 256 ^ (i % 4))) ∧
          ∀ b, (b < d.dst ∨ d.dst + d.len ≤ b) → apart b → memGet t.dram b = memGet s.dram b) ∧
        (works → plain → d.flags.testBit 3 = false → d.flags.testBit 2 = false → free d.src →
          (∀ i < d.len, inFreeRing (d.src + i) = false) → Completes (.dmaDescriptor dt c) s fun t => ends t 0 ∧
            (∀ i < d.len, memGet t.dram (d.dst + i) = memGet s.dram (d.src + i)) ∧
            ∀ b, (b < d.dst ∨ d.dst + d.len ≤ b) → apart b → memGet t.dram b = memGet s.dram b) ∧
        ((∀ n ∈ [16, 17, 25], sevOf s n < 4) → works → plain → d.flags.testBit 3 = false → d.flags.testBit 2 = true →
          isCopy0 d.src = true → d.len = 1024 → Completes (.dmaDescriptor dt c) s fun t =>
            ends t (match checkTile s d.src with | .ok _ => 0 | .noCopy => 2 | .genConflict => 3) ∧
            ∀ k, checkTile s d.src = .ok k → dieOff t (dieOf d.dst) = false →
              ∀ i < 1024, memGet t.dram (d.dst + i) = memGet s.dram (copyAddr d.src k + i))))

/-- R497 to R512, Tables 15-2 to 15-4. -/
def Obligations.GleanCapturesRecords : Prop :=
  ∀ (s : State) (dt n : Nat), s.porOn = false → n < 8 → domOn s 28 = true → domOn s 25 = true →
    (∀ k ∈ [21, 22, 23, 46], sevOf s k < 4) →
    let u := elapse s dt
    let idle (c : Instr) : Prop := Completes c s fun t => RegsKept [] s t ∧ OnlyRegs s dt t
    let x := glnOf s n
    let st := glnState s n
    let free (i : Nat) : Prop := i ∈ cacheGet s 3 ∧ bufKey 3 i ∉ s.bpmFreed ∧ ∀ j ∈ cacheGet s 3, dieOff s (bufDie 3 j) = false
    let owned (t : State) : Prop := ∃ i tag, (glnOf t n).buf = some (mkHandle 3 i tag) ∧
      bufGet t 3 i = { alloc := true, owner := 0x80 + n, tag := tag }
    let ready : Prop := fb s BPM_STAT_ready = true ∧ ∃ i, free i
    let fired (t : State) (k code at_ edge : Nat) (forced : Bool) : Prop :=
      glnState t k = 3 ∧ (glnOf t k).code = code ∧ (glnOf t k).edge = edge ∧ (glnOf t k).delta = edge - at_ ∧
      (glnOf t k).forced = forced ∧ (glnOf t k).buf = (glnOf s k).buf ∧ (glnOf t k).doneQ = (glnOf s k).doneQ
    let takes (c : Instr) (code at_ edge : Nat) (forced : Bool) : Prop :=
      (st = 1 ∨ st = 2 → Completes c s fun t => fired t n code at_ edge forced ∧
        (∀ k < 8, k ≠ n → (glnOf s k).trig % 32 = 10 + n → (glnState s k = 1 ∨ glnState s k = 2) →
          fired t k code at_ edge forced ∧ (glnOf t k).time = (glnOf t n).time) ∧
        (∀ k < 8, glnState s k = 0 → glnState t k = 0) ∧ t.present = s.present ∧ MemKept s t) ∧
      (st = 4 → Completes c s fun t => glnState t n = 4 ∧ (glnOf t n).extra = min (x.extra + 1) 65535 ∧
        f t (GLN_CH_CNT_EXTRA_count n) = (f s (GLN_CH_CNT_EXTRA_count n) + 1) % 2 ^ 32 ∧ MemKept s t)
    (masterLive s 0 = true →
      (st ≠ 0 → idle (.glnArm dt 0 n)) ∧
      (st = 0 → ∀ r, glnArmReason s n = r → r ≠ 0 → Completes (.glnArm dt 0 n) s fun t => glnState t n = 0 ∧
        f t (GLN_CH_STAT_refused n) = 1 ∧ f t (GLN_CH_STAT_reason n) = r ∧ RegsKept [(GLN_CH_STAT_refused n).off] s t ∧ OnlyRegs s dt t) ∧
      (st = 0 → glnArmReason s n = 0 → ready → Completes (.glnArm dt 0 n) s fun t => glnState t n = 1 ∧ owned t ∧
        f t (GLN_CH_STAT_left n) = f s (GLN_CH_MODE_repeat n) ∧ f t (GLN_CH_STAT_refused n) = 0 ∧
        (glnOf t n).fillAt = u.clk.now + 2000 ∧ glnPre (glnOf t n) = f s (GLN_CH_DEPTH_pre n) ∧
        glnPost (glnOf t n) = f s (GLN_CH_DEPTH_post n) ∧ (glnOf t n).trig % 32 = f s (GLN_CH_TRIG_src n) ∧ (glnOf t n).doneQ = x.doneQ ∧
        ∀ k ≠ n, glnOf t k = glnOf s k) ∧
      (st = 0 → glnArmReason s n = 0 →
        fb s BPM_STAT_ready = false ∨ (cacheGet s 3 = [] ∧ takeRing 3 (bpmArrive (glnReq n) u) = none) → Completes (.glnArm dt 0 n) s fun t =>
        glnState t n = 0 ∧ f t (GLN_CH_STAT_refused n) = 1 ∧ f t (GLN_CH_STAT_reason n) = 4 ∧ t.bpmBuf = s.bpmBuf ∧ t.gln = s.gln) ∧
      (Completes (.glnStop dt 0 n) s fun t => glnState t n = 0 ∧ glnOf t n = { doneQ := x.doneQ } ∧ f t (GLN_CH_STAT_left n) = 0 ∧
        (∀ h, x.buf = some h → hValid h = true → (bufGet t (hPool h) (hIndex h)).alloc = false) ∧
        (∀ k ≠ n, glnOf t k = glnOf s k) ∧ t.dram = s.dram) ∧
      takes (.glnForce dt 0 n) 0 (glnEdge u.clk.now) (glnEdge u.clk.now) true ∧
      (x.doneQ = [] → Completes (.glnDonePop dt 0 n) s fun t => t.resp = ⟨0, 0⟩ ∧ RegsKept [] s t ∧ OnlyRegsResp s dt t) ∧
      (∀ h q, x.doneQ = h :: q → st ≠ 4 → Completes (.glnDonePop dt 0 n) s fun t => t.resp = ⟨h, 0⟩ ∧
        f t (GLN_CH_STAT_done_depth n) = q.length % 16 ∧ glnOf t n = { x with doneQ := q } ∧ (∀ k ≠ n, glnOf t k = glnOf s k) ∧
        RegsKept [(GLN_CH_STAT_done_depth n).off] s t ∧ t = { u with regs := t.regs, hwSet := t.hwSet, msix := t.msix, msixDue := t.msixDue, resp := t.resp, gln := t.gln })) ∧
    (st ≠ 1 → idle (.glnMuxSettled dt n) ∧ idle (.glnPreFilled dt n)) ∧
    (st = 1 → (Completes (.glnMuxSettled dt n) s fun t => t.clk = (elapseTo u x.fillAt).clk ∧ RegsKept [] s t ∧
        t = { s with regs := t.regs, hwSet := t.hwSet, msix := t.msix, msixDue := t.msixDue, clk := t.clk }) ∧
      Completes (.glnPreFilled dt n) s fun t => glnState t n = 2 ∧
        t.clk = (elapseTo u (glnEdge x.fillAt + (glnPre x - 1) * 125)).clk ∧
        RegsKept [(GLN_CH_STAT_state n).off, GLN_STAT_armed.off] s t ∧ t = { s with regs := t.regs, hwSet := t.hwSet, msix := t.msix, msixDue := t.msixDue, clk := t.clk }) ∧
    (∀ rising : Bool,
      let c := x.trig % 32
      let e := x.trig / 32 % 4
      let fires : Prop := (1 ≤ c ∧ c ≤ 4 ∧ (e = 2 ∨ rising = (e != 1))) ∨ c = 5 ∨ c = 6 ∨
        (c = 8 ∧ domOn s (x.trig / 2 ^ 16 % 32) = true ∧ (snsOf s (x.trig / 2 ^ 16 % 32) (x.trig / 2 ^ 21)).left = true ∧
          verWindow s (x.trig / 2 ^ 16 % 32) (x.trig / 2 ^ 21) = false)
      (fires → takes (.glnTrigger dt n rising) c u.clk.now (glnEdge u.clk.now) false) ∧
      (st = 0 ∨ (¬ fires ∧ (c = 9 → glnFault u = none)) → idle (.glnTrigger dt n rising)) ∧
      ∀ b y, c = 9 → glnFault u = some (b, y) →
        (takes (.glnTrigger dt n rising) 9 (elapseTo u y).clk.now (glnEdge (elapseTo u y).clk.now) false) ∧
        (st = 1 ∨ st = 2 → Completes (.glnTrigger dt n rising) s fun t => (glnOf t n).coarse = true ∧ (glnOf t n).aux = b)) ∧
    (∀ (anchor : Nat × Nat) (l : List (Option Nat)), st ≠ 3 → idle (.glnRecordComplete dt n anchor l)) ∧
    (∀ (anchor : Nat × Nat) (l : List (Option Nat)) (h : Nat), st = 3 → x.buf = some h → hValid h = true → dieOff s (bufDie (hPool h) (hIndex h)) = false →
      bufGet s (hPool h) (hIndex h) = { alloc := true, owner := 0x80 + n, tag := hTag h } → mayOwn (x.mode / 256 % 256) = true →
      Completes (.glnRecordComplete dt n anchor l) s fun t =>
        let again : Prop := glnRepeat x = 0 ∨ 1 < f s (GLN_CH_STAT_left n)
        let v := elapseTo u (x.edge + glnPost x * 125)
        let off (i : Nat) : Prop := ∃ z, x.srcOff = some z ∧ z < x.edge + i * 125 - x.preV * 125
        let clip := (glnSeen x l).any (fun v => match v with | some c => c % 4096 == 4095 | none => false)
        f t (GLN_CH_CNT_REC_count n) = (f s (GLN_CH_CNT_REC_count n) + 1) % 2 ^ 32 ∧
        (¬ again ∨ 8 ≤ x.doneQ.length → t.clk = v.clk) ∧ v.clk.now ≤ t.clk.now ∧
        memList t.dram (hAddr h) 64 =
          (glnHeader n x (f t (GLN_CH_CNT_REC_count n)) (anchorVal v x anchor) clip).map (· % 256) ∧
        (0 < glnLen x → x.preV ≤ glnPre x → ∀ i < x.preV + glnPost x, ∀ c, l[i]? = some (some c) →
          let e := memRead t.dram (hAddr h + 0x40 + 2 * ((x.idx + glnLen x - x.preV + i) % glnLen x)) 2
          (off i → e = 4096) ∧ (¬ off i → e = c % 8192)) ∧
        (x.doneQ.length < 8 → (glnOf t n).doneQ = x.doneQ ++ [h] ∧ (f t GLN_STAT_done).testBit n = true ∧
          (¬ again ∨ (ready ∧ (hPool h = 3 → hIndex h ∉ cacheGet s 3)) →
            bufGet t (hPool h) (hIndex h) = { alloc := true, owner := x.mode / 256 % 256, tag := hTag h }) ∧
          (¬ again → glnState t n = 0 ∧ (glnOf t n).buf = none) ∧
          (again → ready → glnState t n = 1 ∧ (glnOf t n).buf.isSome = true)) ∧
        (8 ≤ x.doneQ.length → glnState t n = 4 ∧ (glnOf t n).doneQ = x.doneQ ∧ (glnOf t n).buf = some h)) ∧
    (st = 0 ∨ st = 4 → idle (.glnSampleLost dt n)) ∧
    (st ≠ 0 → st ≠ 4 → Completes (.glnSampleLost dt n) s fun t => glnOf t n = { x with gap := some u.clk.now } ∧
      (∀ k ≠ n, glnOf t k = glnOf s k) ∧ (f t GLN_STAT_ovf).testBit n = true ∧
      f t GLN_CNT_OVF_count = (f s GLN_CNT_OVF_count + 1) % 2 ^ 32 ∧
      (sameCycle 46 u = false → f t (FLT_CNT_count 46) = (f s (FLT_CNT_count 46) + 1) % 2 ^ (FLT_CNT_count 46).wid) ∧
      RegsKeptFlt [GLN_STAT_ovf.off, GLN_CNT_OVF_count.off] s t ∧
      t = { u with regs := t.regs, hwSet := t.hwSet, msix := t.msix, msixDue := t.msixDue, toFaultPart := t.toFaultPart, gln := t.gln })
end

