-- ==== Sys2Proof/Laws/AMap.lean ====
section
/-! SUPPORT. Laws of the canonical sparse maps: a read after a write, a write leaves other keys alone, and every
operation keeps the canonical form; the same for the byte memories built on them. -/
namespace Sys2Proof.Machine
variable {α : Type}

theorem amGet_amDel_same (d : Nat → α) (k : Nat) (m : AMap α) : amGet d (amDel k m) k = d k := by
  induction m with
  | nil => rfl
  | cons e t ih =>
    obtain ⟨j, v⟩ := e
    by_cases h : j = k
    · simp only [amDel, if_pos h]; exact ih
    · have h' : ¬ k = j := fun e => h e.symm
      simp only [amDel, if_neg h, amGet, if_neg h']; exact ih

theorem amGet_amDel_other (d : Nat → α) {k j : Nat} (h : j ≠ k) (m : AMap α) :
    amGet d (amDel k m) j = amGet d m j := by
  induction m with
  | nil => rfl
  | cons e t ih =>
    obtain ⟨i, v⟩ := e
    by_cases hk : i = k
    · have : ¬ j = i := fun e => h (e.trans hk)
      simp only [amDel, if_pos hk, amGet, if_neg this]; exact ih
    · simp only [amDel, if_neg hk, amGet]; rw [ih]

theorem amGet_amIns_same (d : Nat → α) (k : Nat) (x : α) (m : AMap α) :
    (∀ e ∈ m, e.1 ≠ k) → amGet d (amIns k x m) k = x := by
  intro hm
  induction m with
  | nil => simp [amIns, amGet]
  | cons e t ih =>
    obtain ⟨j, v⟩ := e
    have hj : ¬ k = j := fun e => hm (j, v) (by simp) e.symm
    by_cases hlt : k < j
    · simp [amIns, hlt, amGet]
    · simp only [amIns, if_neg hlt, amGet, if_neg hj]
      exact ih (fun e he => hm e (List.mem_cons_of_mem _ he))

theorem amGet_amIns_other (d : Nat → α) {k j : Nat} (h : j ≠ k) (x : α) (m : AMap α) :
    amGet d (amIns k x m) j = amGet d m j := by
  induction m with
  | nil => simp [amIns, amGet, h]
  | cons e t ih =>
    obtain ⟨i, v⟩ := e
    by_cases hlt : k < i
    · simp [amIns, hlt, amGet, h]
    · simp only [amIns, if_neg hlt, amGet]; rw [ih]

theorem amDel_ne (k : Nat) (m : AMap α) : ∀ e ∈ amDel k m, e.1 ≠ k := by
  induction m with
  | nil => simp [amDel]
  | cons e t ih =>
    obtain ⟨j, v⟩ := e
    by_cases h : j = k
    · simpa [amDel, h] using ih
    · simp only [amDel, if_neg h, List.mem_cons, forall_eq_or_imp]; exact ⟨h, ih⟩

/-- A read after a write to the same key gives the value written, in every map. -/
@[simp] theorem amGet_amSet_same [DecidableEq α] (d : Nat → α) (m : AMap α) (k : Nat) (x : α) :
    amGet d (amSet d m k x) k = x := by
  unfold amSet; split
  · next h => rw [amGet_amDel_same, h]
  · exact amGet_amIns_same d k x _ (amDel_ne k m)

/-- A write leaves every other key alone, in every map. -/
theorem amGet_amSet_other [DecidableEq α] (d : Nat → α) (m : AMap α) {k j : Nat} (h : j ≠ k) (x : α) :
    amGet d (amSet d m k x) j = amGet d m j := by
  unfold amSet; split
  · exact amGet_amDel_other d h m
  · rw [amGet_amIns_other d h, amGet_amDel_other d h]

theorem amGet_amSet [DecidableEq α] (d : Nat → α) (m : AMap α) (k j : Nat) (x : α) :
    amGet d (amSet d m k x) j = if j = k then x else amGet d m j := by
  split
  · next h => subst h; exact amGet_amSet_same d m j x
  · next h => exact amGet_amSet_other d m h x

/-- Forgetting a range of keys: they read as their default, the others keep their entries. -/
theorem amGet_amClear (d : Nat → α) (lo hi : Nat) (m : AMap α) (k : Nat) :
    amGet d (amClear lo hi m) k = if lo ≤ k ∧ k < hi then d k else amGet d m k := by
  induction m with
  | nil => simp [amClear, amGet]
  | cons e t ih =>
    obtain ⟨j, v⟩ := e
    simp only [amClear, List.filter_cons] at ih ⊢
    by_cases hr : lo ≤ j ∧ j < hi
    · have hb : (!(decide (lo ≤ j) && decide (j < hi))) = false := by simp [hr.1, hr.2]
      simp only [hb, amGet, Bool.false_eq_true, ↓reduceIte]
      rw [ih]
      by_cases hk : k = j
      · subst hk; simp [hr]
      · simp [hk]
    · have hb : (!(decide (lo ≤ j) && decide (j < hi))) = true := by
        simp only [Bool.not_eq_true', Bool.and_eq_false_iff, decide_eq_false_iff_not]; tauto
      simp only [hb, amGet, ↓reduceIte]
      rw [ih]
      by_cases hk : k = j
      · subst hk; simp [hr]
      · simp [hk]

/-! ### The canonical form -/

theorem amAbove_amDel {lo k : Nat} {m : AMap α} (h : amAbove lo m = true) : amAbove lo (amDel k m) = true := by
  induction m with
  | nil => exact h
  | cons e t ih =>
    obtain ⟨j, v⟩ := e
    simp only [amAbove, List.all_cons, Bool.and_eq_true] at h
    by_cases hk : j = k
    · simp only [amDel, if_pos hk]; exact ih h.2
    · simp only [amDel, if_neg hk, amAbove, List.all_cons, Bool.and_eq_true]; exact ⟨h.1, ih h.2⟩

theorem amAbove_amIns {lo k : Nat} {x : α} {m : AMap α} (hk : lo < k) (h : amAbove lo m = true) :
    amAbove lo (amIns k x m) = true := by
  induction m with
  | nil => simp [amIns, amAbove, hk]
  | cons e t ih =>
    obtain ⟨j, v⟩ := e
    simp only [amAbove, List.all_cons, Bool.and_eq_true] at h
    by_cases hlt : k < j
    · simp only [amIns, if_pos hlt, amAbove, List.all_cons, Bool.and_eq_true]; exact ⟨by simpa using hk, h⟩
    · simp only [amIns, if_neg hlt, amAbove, List.all_cons, Bool.and_eq_true]; exact ⟨h.1, ih h.2⟩

theorem amAbove_mono {lo hi : Nat} {m : AMap α} (hle : lo ≤ hi) (h : amAbove hi m = true) : amAbove lo m = true := by
  simp only [amAbove, List.all_eq_true, decide_eq_true_eq] at h ⊢
  intro e he; exact Nat.lt_of_le_of_lt hle (h e he)

theorem amWf_amDel [DecidableEq α] {d : Nat → α} {m : AMap α} (k : Nat) (h : amWf d m = true) :
    amWf d (amDel k m) = true := by
  induction m with
  | nil => exact h
  | cons e t ih =>
    obtain ⟨j, v⟩ := e
    simp only [amWf, Bool.and_eq_true] at h
    by_cases hk : j = k
    · simp only [amDel, if_pos hk]; exact ih h.2
    · simp only [amDel, if_neg hk, amWf, Bool.and_eq_true]; exact ⟨⟨h.1.1, amAbove_amDel h.1.2⟩, ih h.2⟩

theorem amWf_amIns [DecidableEq α] {d : Nat → α} {m : AMap α} {k : Nat} {x : α} (hx : x ≠ d k)
    (hm : ∀ e ∈ m, e.1 ≠ k) (h : amWf d m = true) : amWf d (amIns k x m) = true := by
  induction m with
  | nil => simp [amIns, amWf, amAbove, hx]
  | cons e t ih =>
    obtain ⟨j, v⟩ := e
    simp only [amWf, Bool.and_eq_true] at h
    have hj : j ≠ k := hm (j, v) (by simp)
    by_cases hlt : k < j
    · simp only [amIns, if_pos hlt, amWf, Bool.and_eq_true]
      refine ⟨⟨by simpa using hx, ?_⟩, ⟨h.1, h.2⟩⟩
      simp only [amAbove, List.all_cons, Bool.and_eq_true, decide_eq_true_eq]
      exact ⟨hlt, amAbove_mono (Nat.le_of_lt hlt) h.1.2⟩
    · simp only [amIns, if_neg hlt, amWf, Bool.and_eq_true]
      exact ⟨⟨h.1.1, amAbove_amIns (by omega) h.1.2⟩, ih (fun e he => hm e (List.mem_cons_of_mem _ he)) h.2⟩

/-- A write keeps the canonical form. -/
theorem amWf_amSet [DecidableEq α] {d : Nat → α} {m : AMap α} (k : Nat) (x : α) (h : amWf d m = true) :
    amWf d (amSet d m k x) = true := by
  unfold amSet; split
  · exact amWf_amDel k h
  · next hx => exact amWf_amIns hx (amDel_ne k m) (amWf_amDel k h)

theorem amAbove_amClear {lo : Nat} {m : AMap α} (a b : Nat) (h : amAbove lo m = true) :
    amAbove lo (amClear a b m) = true := by
  simp only [amAbove, amClear, List.all_eq_true] at h ⊢
  intro e he; exact h e (List.mem_of_mem_filter he)

/-- Forgetting a range keeps the canonical form. -/
theorem amWf_amClear [DecidableEq α] {d : Nat → α} {m : AMap α} (a b : Nat) (h : amWf d m = true) :
    amWf d (amClear a b m) = true := by
  induction m with
  | nil => rfl
  | cons e t ih =>
    obtain ⟨j, v⟩ := e
    simp only [amWf, Bool.and_eq_true] at h
    have ht := ih h.2
    simp only [amClear, List.filter_cons] at ht ⊢
    split
    · simp only [amWf, Bool.and_eq_true]; exact ⟨⟨h.1.1, amAbove_amClear a b h.1.2⟩, ht⟩
    · exact ht

/-! ### Byte memories -/

@[simp] theorem memGet_memSet_same (m : List Host.Cell) (a : Nat) (v : BitVec 8) : memGet (memSet m a v) a = v :=
  amGet_amSet_same memReset m a v

theorem memGet_memSet_other (m : List Host.Cell) {a b : Nat} (h : b ≠ a) (v : BitVec 8) :
    memGet (memSet m a v) b = memGet m b := amGet_amSet_other memReset m h v

/-- A store of `n` bytes leaves every byte outside them alone. -/
theorem memGet_memWrite_out (n : Nat) : ∀ (m : List Host.Cell) (a v b : Nat), b < a ∨ a + n ≤ b →
    memGet (memWrite m a n v) b = memGet m b := by
  induction n with
  | zero => intro m a v b _; rfl
  | succ n ih =>
    intro m a v b h
    simp only [memWrite]
    rw [ih _ _ _ _ (by omega)]
    exact memGet_memSet_other m (by omega) _

/-- Byte `i` of a store of `n` bytes. -/
theorem memGet_memWrite_in (n : Nat) : ∀ (m : List Host.Cell) (a v i : Nat), i < n →
    memGet (memWrite m a n v) (a + i) = BitVec.ofNat 8 (v / 256 ^ i) := by
  induction n with
  | zero => intro m a v i h; omega
  | succ n ih =>
    intro m a v i h
    simp only [memWrite]
    cases i with
    | zero => rw [memGet_memWrite_out n _ _ _ _ (by omega)]; simp
    | succ i =>
      rw [show a + (i + 1) = (a + 1) + i by omega, ih _ _ _ _ (by omega), Nat.div_div_eq_div_mul, Nat.pow_succ']

/-- Reading back `n` stored bytes gives the value, cut to `n` bytes. -/
theorem memRead_memWrite (n : Nat) (m : List Host.Cell) (a v : Nat) :
    memRead (memWrite m a n v) a n = v % 256 ^ n := by
  have key : ∀ k i, i + k = n → memRead (memWrite m a n v) (a + i) k = v / 256 ^ i % 256 ^ k := by
    intro k
    induction k with
    | zero => intro i _; simp [memRead, Nat.mod_one]
    | succ k ih =>
      intro i hi
      simp only [memRead]
      rw [memGet_memWrite_in n m a v i (by omega), show a + i + 1 = a + (i + 1) by omega, ih (i + 1) (by omega)]
      simp only [BitVec.toNat_ofNat]
      rw [Nat.pow_succ 256 i, ← Nat.div_div_eq_div_mul, show (256 : Nat) ^ (k + 1) = 256 * 256 ^ k from Nat.pow_succ', Nat.mod_mul]
  simpa using key n 0 (by omega)

/-- Every byte store keeps the canonical form. -/
theorem memSet_wf {m : List Host.Cell} (a : Nat) (v : BitVec 8) (h : Memory.wf m = true) :
    Memory.wf (memSet m a v) = true := amWf_amSet a v h

theorem memWrite_wf (n : Nat) : ∀ {m : List Host.Cell} (a v : Nat), Memory.wf m = true →
    Memory.wf (memWrite m a n v) = true := by
  induction n with
  | zero => intro m a v h; exact h
  | succ n ih => intro m a v h; exact ih _ _ (memSet_wf a _ h)

theorem memBytes_wf (l : List Nat) : ∀ {m : List Host.Cell} (a : Nat), Memory.wf m = true →
    Memory.wf (memBytes m a l) = true := by
  induction l with
  | nil => intro m a h; exact h
  | cons b t ih => intro m a h; exact ih _ (memSet_wf a _ h)

theorem reset_memory_wf : Memory.wf State.reset.dram = true ∧ Memory.wf State.reset.spm = true ∧
    Memory.wf State.reset.sram = true ∧ Memory.wf State.reset.rom = true := by decide

end Sys2Proof.Machine
end

