-- ==== Sys2Proof/Laws/Regs.lean ====
section
/-! SUPPORT. Laws of registers and their fields: a field reads as it was written, and a write leaves every other
register and every disjoint field alone. They hold in every state, canonical or not. -/
namespace Sys2Proof.Machine

@[simp] theorem rd_setRaw_same (s : State) (o : Nat) (w : Word) : rd (setRaw s o w) o = w :=
  amGet_amSet_same regReset s.regs o w

theorem rd_setRaw_other (s : State) {o p : Nat} (h : p ≠ o) (w : Word) : rd (setRaw s o w) p = rd s p :=
  amGet_amSet_other regReset s.regs h w

theorem rd_setRaw (s : State) (o p : Nat) (w : Word) : rd (setRaw s o w) p = if p = o then w else rd s p :=
  amGet_amSet regReset s.regs o p w

theorem rd_setF (s : State) (x : Fld) (v p : Nat) :
    rd (setF x v s) p = rd (setRaw s x.off (fldPut (rd s x.off) x v)) p := rfl
@[simp] theorem rd_setF_same (s : State) (x : Fld) (v : Nat) : rd (setF x v s) x.off = fldPut (rd s x.off) x v :=
  rd_setRaw_same s x.off _
theorem rd_setF_other (s : State) (x : Fld) (v : Nat) {p : Nat} (h : p ≠ x.off) : rd (setF x v s) p = rd s p :=
  rd_setRaw_other s h _

theorem fldOf_lt (w : Word) (x : Fld) : fldOf w x < 2 ^ x.wid := Nat.mod_lt _ (Nat.two_pow_pos _)
theorem f_lt (s : State) (x : Fld) : f s x < 2 ^ x.wid := fldOf_lt _ x

/-- What replacing bits `l` to `l + n - 1` of a number leaves: the number with those bits exchanged. -/
theorem bits_replace (W l n v : Nat) :
    W - W / 2 ^ l % 2 ^ n * 2 ^ l + v % 2 ^ n * 2 ^ l =
      W / 2 ^ (l + n) * 2 ^ (l + n) + v % 2 ^ n * 2 ^ l + W % 2 ^ l := by
  have h1 : W = 2 ^ l * (W / 2 ^ l) + W % 2 ^ l := (Nat.div_add_mod W (2 ^ l)).symm
  have h2 : W / 2 ^ l = 2 ^ n * (W / 2 ^ l / 2 ^ n) + W / 2 ^ l % 2 ^ n := (Nat.div_add_mod _ (2 ^ n)).symm
  have h3 : W / 2 ^ l / 2 ^ n = W / 2 ^ (l + n) := by rw [Nat.div_div_eq_div_mul, Nat.pow_add]
  have h4 : W = W / 2 ^ (l + n) * 2 ^ (l + n) + W / 2 ^ l % 2 ^ n * 2 ^ l + W % 2 ^ l := by
    rw [← h3, Nat.pow_add]
    calc W = 2 ^ l * (2 ^ n * (W / 2 ^ l / 2 ^ n) + W / 2 ^ l % 2 ^ n) + W % 2 ^ l := by rw [← h2, ← h1]
      _ = _ := by ring
  omega

theorem toNat_fldPut (w : Word) (x : Fld) (v : Nat) (h : x.lsb + x.wid ≤ 32) :
    (fldPut w x v).toNat = w.toNat - fldOf w x * 2 ^ x.lsb + v % 2 ^ x.wid * 2 ^ x.lsb := by
  have hw := w.isLt
  have hb := bits_replace w.toNat x.lsb x.wid v
  unfold fldPut fldOf
  rw [BitVec.toNat_ofNat, hb]
  apply Nat.mod_eq_of_lt
  have hv : v % 2 ^ x.wid < 2 ^ x.wid := Nat.mod_lt _ (Nat.two_pow_pos _)
  have hl : w.toNat % 2 ^ x.lsb < 2 ^ x.lsb := Nat.mod_lt _ (Nat.two_pow_pos _)
  have hlow : v % 2 ^ x.wid * 2 ^ x.lsb + w.toNat % 2 ^ x.lsb < 2 ^ (x.lsb + x.wid) := by
    rw [Nat.pow_add]
    calc v % 2 ^ x.wid * 2 ^ x.lsb + w.toNat % 2 ^ x.lsb
        < v % 2 ^ x.wid * 2 ^ x.lsb + 2 ^ x.lsb := by omega
      _ = (v % 2 ^ x.wid + 1) * 2 ^ x.lsb := by ring
      _ ≤ 2 ^ x.wid * 2 ^ x.lsb := Nat.mul_le_mul_right _ hv
      _ = 2 ^ x.lsb * 2 ^ x.wid := by ring
  have hdiv : w.toNat / 2 ^ (x.lsb + x.wid) < 2 ^ (32 - (x.lsb + x.wid)) := by
    rw [Nat.div_lt_iff_lt_mul (Nat.two_pow_pos _), ← Nat.pow_add]
    rwa [Nat.sub_add_cancel h]
  calc w.toNat / 2 ^ (x.lsb + x.wid) * 2 ^ (x.lsb + x.wid) + v % 2 ^ x.wid * 2 ^ x.lsb + w.toNat % 2 ^ x.lsb
      < w.toNat / 2 ^ (x.lsb + x.wid) * 2 ^ (x.lsb + x.wid) + 2 ^ (x.lsb + x.wid) := by omega
    _ = (w.toNat / 2 ^ (x.lsb + x.wid) + 1) * 2 ^ (x.lsb + x.wid) := by ring
    _ ≤ 2 ^ (32 - (x.lsb + x.wid)) * 2 ^ (x.lsb + x.wid) := Nat.mul_le_mul_right _ hdiv
    _ = 2 ^ 32 := by rw [← Nat.pow_add, Nat.sub_add_cancel h]

/-- Bit `i` of a register after a field of it was replaced. -/
theorem testBit_fldPut (w : Word) (x : Fld) (v i : Nat) (h : x.lsb + x.wid ≤ 32) :
    (fldPut w x v).toNat.testBit i =
      if x.lsb ≤ i ∧ i < x.lsb + x.wid then v.testBit (i - x.lsb) else w.toNat.testBit i := by
  rw [toNat_fldPut w x v h]; unfold fldOf; rw [bits_replace]
  have e : w.toNat / 2 ^ (x.lsb + x.wid) * 2 ^ (x.lsb + x.wid) + v % 2 ^ x.wid * 2 ^ x.lsb + w.toNat % 2 ^ x.lsb =
      2 ^ x.lsb * (2 ^ x.wid * (w.toNat / 2 ^ (x.lsb + x.wid)) + v % 2 ^ x.wid) + w.toNat % 2 ^ x.lsb := by
    rw [Nat.pow_add]; ring
  rw [e, Nat.testBit_two_pow_mul_add _ (Nat.mod_lt _ (Nat.two_pow_pos _)),
    Nat.testBit_two_pow_mul_add _ (Nat.mod_lt _ (Nat.two_pow_pos _))]
  by_cases h1 : i < x.lsb
  · have : ¬ (x.lsb ≤ i ∧ i < x.lsb + x.wid) := by omega
    simp [h1, this, Nat.testBit_mod_two_pow]
  · by_cases h2 : i - x.lsb < x.wid
    · have : x.lsb ≤ i ∧ i < x.lsb + x.wid := by omega
      simp [h1, h2, this, Nat.testBit_mod_two_pow]
    · have : ¬ (x.lsb ≤ i ∧ i < x.lsb + x.wid) := by omega
      simp only [h1, h2, this, if_false, Nat.testBit_div_two_pow]
      congr 1; omega

theorem testBit_fldOf (w : Word) (x : Fld) (i : Nat) :
    (fldOf w x).testBit i = (decide (i < x.wid) && w.toNat.testBit (i + x.lsb)) := by
  unfold fldOf; rw [Nat.testBit_mod_two_pow, Nat.testBit_div_two_pow]

theorem fldOf_fldPut_same (w : Word) (x : Fld) (v : Nat) (h : x.lsb + x.wid ≤ 32) :
    fldOf (fldPut w x v) x = v % 2 ^ x.wid := by
  apply Nat.eq_of_testBit_eq; intro i
  rw [testBit_fldOf, testBit_fldPut _ _ _ _ h, Nat.testBit_mod_two_pow]
  by_cases hi : i < x.wid
  · have : x.lsb ≤ i + x.lsb ∧ i + x.lsb < x.lsb + x.wid := by omega
    simp [hi, this]
  · simp [hi]

theorem fldOf_fldPut_other (w : Word) (x y : Fld) (v : Nat) (h : x.lsb + x.wid ≤ 32)
    (hd : y.lsb + y.wid ≤ x.lsb ∨ x.lsb + x.wid ≤ y.lsb) : fldOf (fldPut w x v) y = fldOf w y := by
  apply Nat.eq_of_testBit_eq; intro i
  rw [testBit_fldOf, testBit_fldOf, testBit_fldPut _ _ _ _ h]
  by_cases hi : i < y.wid
  · have : ¬ (x.lsb ≤ i + y.lsb ∧ i + y.lsb < x.lsb + x.wid) := by omega
    simp [this]
  · simp [hi]

/-- A field reads as it was written, cut to its width. -/
theorem f_setF_same (s : State) (x : Fld) (v : Nat) (h : x.lsb + x.wid ≤ 32) : f (setF x v s) x = v % 2 ^ x.wid := by
  unfold f; rw [rd_setF_same, fldOf_fldPut_same _ _ _ h]

/-- A write leaves the fields of every other register alone. -/
theorem f_setF_off (s : State) (x y : Fld) (v : Nat) (h : y.off ≠ x.off) : f (setF x v s) y = f s y := by
  unfold f; rw [rd_setF_other s x v h]

/-- A write leaves the disjoint fields of its own register alone. -/
theorem f_setF_disj (s : State) (x y : Fld) (v : Nat) (ho : y.off = x.off) (h : x.lsb + x.wid ≤ 32)
    (hd : y.lsb + y.wid ≤ x.lsb ∨ x.lsb + x.wid ≤ y.lsb) : f (setF x v s) y = f s y := by
  unfold f; rw [ho, rd_setF_same, fldOf_fldPut_other _ _ _ _ h hd]

/-- A write leaves every field that shares no bit with it alone. -/
theorem f_setF_ne (s : State) (x y : Fld) (v : Nat) (h : x.lsb + x.wid ≤ 32)
    (hd : y.off ≠ x.off ∨ y.lsb + y.wid ≤ x.lsb ∨ x.lsb + x.wid ≤ y.lsb) : f (setF x v s) y = f s y := by
  by_cases ho : y.off = x.off
  · exact f_setF_disj s x y v ho h (hd.resolve_left (fun e => e ho))
  · exact f_setF_off s x y v ho

@[simp] theorem f_setRaw_same (s : State) (w : Word) (x : Fld) : f (setRaw s x.off w) x = fldOf w x := by
  unfold f; rw [rd_setRaw_same]
theorem f_setRaw_off (s : State) (o : Nat) (w : Word) (x : Fld) (h : x.off ≠ o) : f (setRaw s o w) x = f s x := by
  unfold f; rw [rd_setRaw_other s h]

theorem f_congr {s t : State} (h : t.regs = s.regs) (x : Fld) : f t x = f s x := by unfold f rd; rw [h]
theorem fb_congr {s t : State} (h : t.regs = s.regs) (x : Fld) : fb t x = fb s x := by unfold fb; rw [f_congr h]
theorem rd_congr {s t : State} (h : t.regs = s.regs) (o : Nat) : rd t o = rd s o := by unfold rd; rw [h]

/-- A register write keeps the register store's canonical form. -/
theorem setRaw_wf {s : State} (o : Nat) (w : Word) (h : amWf regReset s.regs = true) :
    amWf regReset (setRaw s o w).regs = true := amWf_amSet o w h
theorem setF_wf {s : State} (x : Fld) (v : Nat) (h : amWf regReset s.regs = true) :
    amWf regReset (setF x v s).regs = true := setRaw_wf _ _ h

end Sys2Proof.Machine
end

