-- ==== Sys2Proof/Laws/State.lean ====
section
/-! SUPPORT. What the named updates leave of the state: one lemma per field and update (true by definition), and one
per part of the state, so that no proof unfolds a record update. -/
namespace Sys2Proof.Machine

/-! ### setRaw -/

@[simp] theorem setRaw_resp (s : State) (o : Nat) (w : Word) : (setRaw s o w).resp = s.resp := rfl
@[simp] theorem setRaw_sent (s : State) (o : Nat) (w : Word) : (setRaw s o w).sent = s.sent := rfl
@[simp] theorem setRaw_hwSet (s : State) (o : Nat) (w : Word) : (setRaw s o w).hwSet = s.hwSet := rfl
@[simp] theorem setRaw_msix (s : State) (o : Nat) (w : Word) : (setRaw s o w).msix = s.msix := rfl
@[simp] theorem setRaw_msixDue (s : State) (o : Nat) (w : Word) : (setRaw s o w).msixDue = s.msixDue := rfl
@[simp] theorem setRaw_freeCtr (s : State) (o : Nat) (w : Word) : (setRaw s o w).freeCtr = s.freeCtr := rfl
@[simp] theorem setRaw_popMode (s : State) (o : Nat) (w : Word) : (setRaw s o w).popMode = s.popMode := rfl
@[simp] theorem setRaw_ownIn (s : State) (o : Nat) (w : Word) : (setRaw s o w).ownIn = s.ownIn := rfl
@[simp] theorem setRaw_ownOut (s : State) (o : Nat) (w : Word) : (setRaw s o w).ownOut = s.ownOut := rfl
@[simp] theorem setRaw_litThr (s : State) (o : Nat) (w : Word) : (setRaw s o w).litThr = s.litThr := rfl
@[simp] theorem setRaw_litHyst (s : State) (o : Nat) (w : Word) : (setRaw s o w).litHyst = s.litHyst := rfl
@[simp] theorem setRaw_lit (s : State) (o : Nat) (w : Word) : (setRaw s o w).lit = s.lit := rfl
@[simp] theorem setRaw_overIn (s : State) (o : Nat) (w : Word) : (setRaw s o w).overIn = s.overIn := rfl
@[simp] theorem setRaw_hiRun (s : State) (o : Nat) (w : Word) : (setRaw s o w).hiRun = s.hiRun := rfl
@[simp] theorem setRaw_loRun (s : State) (o : Nat) (w : Word) : (setRaw s o w).loRun = s.loRun := rfl
@[simp] theorem setRaw_present (s : State) (o : Nat) (w : Word) : (setRaw s o w).present = s.present := rfl
@[simp] theorem setRaw_projected (s : State) (o : Nat) (w : Word) : (setRaw s o w).projected = s.projected := rfl
@[simp] theorem setRaw_gateOpen (s : State) (o : Nat) (w : Word) : (setRaw s o w).gateOpen = s.gateOpen := rfl
@[simp] theorem setRaw_sched (s : State) (o : Nat) (w : Word) : (setRaw s o w).sched = s.sched := rfl
@[simp] theorem setRaw_ready (s : State) (o : Nat) (w : Word) : (setRaw s o w).ready = s.ready := rfl
@[simp] theorem setRaw_solving (s : State) (o : Nat) (w : Word) : (setRaw s o w).solving = s.solving := rfl
@[simp] theorem setRaw_accepted (s : State) (o : Nat) (w : Word) : (setRaw s o w).accepted = s.accepted := rfl
@[simp] theorem setRaw_closed (s : State) (o : Nat) (w : Word) : (setRaw s o w).closed = s.closed := rfl
@[simp] theorem setRaw_commit (s : State) (o : Nat) (w : Word) : (setRaw s o w).commit = s.commit := rfl
@[simp] theorem setRaw_lastT0 (s : State) (o : Nat) (w : Word) : (setRaw s o w).lastT0 = s.lastT0 := rfl
@[simp] theorem setRaw_unseen (s : State) (o : Nat) (w : Word) : (setRaw s o w).unseen = s.unseen := rfl
@[simp] theorem setRaw_shLevel (s : State) (o : Nat) (w : Word) : (setRaw s o w).shLevel = s.shLevel := rfl
@[simp] theorem setRaw_shStamp (s : State) (o : Nat) (w : Word) : (setRaw s o w).shStamp = s.shStamp := rfl
@[simp] theorem setRaw_captureWait (s : State) (o : Nat) (w : Word) : (setRaw s o w).captureWait = s.captureWait := rfl
@[simp] theorem setRaw_clk (s : State) (o : Nat) (w : Word) : (setRaw s o w).clk = s.clk := rfl
@[simp] theorem setRaw_tsq (s : State) (o : Nat) (w : Word) : (setRaw s o w).tsq = s.tsq := rfl
@[simp] theorem setRaw_ppsTb (s : State) (o : Nat) (w : Word) : (setRaw s o w).ppsTb = s.ppsTb := rfl
@[simp] theorem setRaw_ppsHighUntil (s : State) (o : Nat) (w : Word) : (setRaw s o w).ppsHighUntil = s.ppsHighUntil := rfl
@[simp] theorem setRaw_rotArmed (s : State) (o : Nat) (w : Word) : (setRaw s o w).rotArmed = s.rotArmed := rfl
@[simp] theorem setRaw_rotMarked (s : State) (o : Nat) (w : Word) : (setRaw s o w).rotMarked = s.rotMarked := rfl
@[simp] theorem setRaw_rotReady (s : State) (o : Nat) (w : Word) : (setRaw s o w).rotReady = s.rotReady := rfl
@[simp] theorem setRaw_rot (s : State) (o : Nat) (w : Word) : (setRaw s o w).rot = s.rot := rfl
@[simp] theorem setRaw_loops (s : State) (o : Nat) (w : Word) : (setRaw s o w).loops = s.loops := rfl
@[simp] theorem setRaw_trc (s : State) (o : Nat) (w : Word) : (setRaw s o w).trc = s.trc := rfl
@[simp] theorem setRaw_eng (s : State) (o : Nat) (w : Word) : (setRaw s o w).eng = s.eng := rfl
@[simp] theorem setRaw_frameAt (s : State) (o : Nat) (w : Word) : (setRaw s o w).frameAt = s.frameAt := rfl
@[simp] theorem setRaw_dithFrame (s : State) (o : Nat) (w : Word) : (setRaw s o w).dithFrame = s.dithFrame := rfl
@[simp] theorem setRaw_parked (s : State) (o : Nat) (w : Word) : (setRaw s o w).parked = s.parked := rfl
@[simp] theorem setRaw_chans (s : State) (o : Nat) (w : Word) : (setRaw s o w).chans = s.chans := rfl
@[simp] theorem setRaw_playing (s : State) (o : Nat) (w : Word) : (setRaw s o w).playing = s.playing := rfl
@[simp] theorem setRaw_seedLast (s : State) (o : Nat) (w : Word) : (setRaw s o w).seedLast = s.seedLast := rfl
@[simp] theorem setRaw_dgWake (s : State) (o : Nat) (w : Word) : (setRaw s o w).dgWake = s.dgWake := rfl
@[simp] theorem setRaw_vpkBad (s : State) (o : Nat) (w : Word) : (setRaw s o w).vpkBad = s.vpkBad := rfl
@[simp] theorem setRaw_vhtrBad (s : State) (o : Nat) (w : Word) : (setRaw s o w).vhtrBad = s.vhtrBad := rfl
@[simp] theorem setRaw_sns (s : State) (o : Nat) (w : Word) : (setRaw s o w).sns = s.sns := rfl
@[simp] theorem setRaw_slcs (s : State) (o : Nat) (w : Word) : (setRaw s o w).slcs = s.slcs := rfl
@[simp] theorem setRaw_convs (s : State) (o : Nat) (w : Word) : (setRaw s o w).convs = s.convs := rfl
@[simp] theorem setRaw_rsvPend (s : State) (o : Nat) (w : Word) : (setRaw s o w).rsvPend = s.rsvPend := rfl
@[simp] theorem setRaw_elec (s : State) (o : Nat) (w : Word) : (setRaw s o w).elec = s.elec := rfl
@[simp] theorem setRaw_bias (s : State) (o : Nat) (w : Word) : (setRaw s o w).bias = s.bias := rfl
@[simp] theorem setRaw_calMarks (s : State) (o : Nat) (w : Word) : (setRaw s o w).calMarks = s.calMarks := rfl
@[simp] theorem setRaw_wsLoad (s : State) (o : Nat) (w : Word) : (setRaw s o w).wsLoad = s.wsLoad := rfl
@[simp] theorem setRaw_snsSwap (s : State) (o : Nat) (w : Word) : (setRaw s o w).snsSwap = s.snsSwap := rfl
@[simp] theorem setRaw_slcLoaded (s : State) (o : Nat) (w : Word) : (setRaw s o w).slcLoaded = s.slcLoaded := rfl
@[simp] theorem setRaw_keys (s : State) (o : Nat) (w : Word) : (setRaw s o w).keys = s.keys := rfl
@[simp] theorem setRaw_txSeq (s : State) (o : Nat) (w : Word) : (setRaw s o w).txSeq = s.txSeq := rfl
@[simp] theorem setRaw_telemSeq (s : State) (o : Nat) (w : Word) : (setRaw s o w).telemSeq = s.telemSeq := rfl
@[simp] theorem setRaw_telemQ (s : State) (o : Nat) (w : Word) : (setRaw s o w).telemQ = s.telemQ := rfl
@[simp] theorem setRaw_telemLost (s : State) (o : Nat) (w : Word) : (setRaw s o w).telemLost = s.telemLost := rfl
@[simp] theorem setRaw_replay (s : State) (o : Nat) (w : Word) : (setRaw s o w).replay = s.replay := rfl
@[simp] theorem setRaw_tokC (s : State) (o : Nat) (w : Word) : (setRaw s o w).tokC = s.tokC := rfl
@[simp] theorem setRaw_tokP (s : State) (o : Nat) (w : Word) : (setRaw s o w).tokP = s.tokP := rfl
@[simp] theorem setRaw_tokAt (s : State) (o : Nat) (w : Word) : (setRaw s o w).tokAt = s.tokAt := rfl
@[simp] theorem setRaw_queues (s : State) (o : Nat) (w : Word) : (setRaw s o w).queues = s.queues := rfl
@[simp] theorem setRaw_vtime (s : State) (o : Nat) (w : Word) : (setRaw s o w).vtime = s.vtime := rfl
@[simp] theorem setRaw_lastFin (s : State) (o : Nat) (w : Word) : (setRaw s o w).lastFin = s.lastFin := rfl
@[simp] theorem setRaw_uidNext (s : State) (o : Nat) (w : Word) : (setRaw s o w).uidNext = s.uidNext := rfl
@[simp] theorem setRaw_queryCnt (s : State) (o : Nat) (w : Word) : (setRaw s o w).queryCnt = s.queryCnt := rfl
@[simp] theorem setRaw_tagFails (s : State) (o : Nat) (w : Word) : (setRaw s o w).tagFails = s.tagFails := rfl
@[simp] theorem setRaw_tagSec (s : State) (o : Nat) (w : Word) : (setRaw s o w).tagSec = s.tagSec := rfl
@[simp] theorem setRaw_tagBurst (s : State) (o : Nat) (w : Word) : (setRaw s o w).tagBurst = s.tagBurst := rfl
@[simp] theorem setRaw_planAt (s : State) (o : Nat) (w : Word) : (setRaw s o w).planAt = s.planAt := rfl
@[simp] theorem setRaw_hbAt (s : State) (o : Nat) (w : Word) : (setRaw s o w).hbAt = s.hbAt := rfl
@[simp] theorem setRaw_rotLoader (s : State) (o : Nat) (w : Word) : (setRaw s o w).rotLoader = s.rotLoader := rfl
@[simp] theorem setRaw_urpIn (s : State) (o : Nat) (w : Word) : (setRaw s o w).urpIn = s.urpIn := rfl
@[simp] theorem setRaw_txWait (s : State) (o : Nat) (w : Word) : (setRaw s o w).txWait = s.txWait := rfl
@[simp] theorem setRaw_txRing (s : State) (o : Nat) (w : Word) : (setRaw s o w).txRing = s.txRing := rfl
@[simp] theorem setRaw_siteHist (s : State) (o : Nat) (w : Word) : (setRaw s o w).siteHist = s.siteHist := rfl
@[simp] theorem setRaw_lastSite (s : State) (o : Nat) (w : Word) : (setRaw s o w).lastSite = s.lastSite := rfl
@[simp] theorem setRaw_convSite (s : State) (o : Nat) (w : Word) : (setRaw s o w).convSite = s.convSite := rfl
@[simp] theorem setRaw_convAt (s : State) (o : Nat) (w : Word) : (setRaw s o w).convAt = s.convAt := rfl
@[simp] theorem setRaw_fallSince (s : State) (o : Nat) (w : Word) : (setRaw s o w).fallSince = s.fallSince := rfl
@[simp] theorem setRaw_stepAt (s : State) (o : Nat) (w : Word) : (setRaw s o w).stepAt = s.stepAt := rfl
@[simp] theorem setRaw_hrep (s : State) (o : Nat) (w : Word) : (setRaw s o w).hrep = s.hrep := rfl
@[simp] theorem setRaw_lowSince (s : State) (o : Nat) (w : Word) : (setRaw s o w).lowSince = s.lowSince := rfl
@[simp] theorem setRaw_serveHot (s : State) (o : Nat) (w : Word) : (setRaw s o w).serveHot = s.serveHot := rfl
@[simp] theorem setRaw_serveOk (s : State) (o : Nat) (w : Word) : (setRaw s o w).serveOk = s.serveOk := rfl
@[simp] theorem setRaw_withdrawn (s : State) (o : Nat) (w : Word) : (setRaw s o w).withdrawn = s.withdrawn := rfl
@[simp] theorem setRaw_parkAt (s : State) (o : Nat) (w : Word) : (setRaw s o w).parkAt = s.parkAt := rfl
@[simp] theorem setRaw_fltRaised (s : State) (o : Nat) (w : Word) : (setRaw s o w).fltRaised = s.fltRaised := rfl
@[simp] theorem setRaw_fltLogged (s : State) (o : Nat) (w : Word) : (setRaw s o w).fltLogged = s.fltLogged := rfl
@[simp] theorem setRaw_escAt (s : State) (o : Nat) (w : Word) : (setRaw s o w).escAt = s.escAt := rfl
@[simp] theorem setRaw_escDet (s : State) (o : Nat) (w : Word) : (setRaw s o w).escDet = s.escDet := rfl
@[simp] theorem setRaw_supplyOut (s : State) (o : Nat) (w : Word) : (setRaw s o w).supplyOut = s.supplyOut := rfl
@[simp] theorem setRaw_supplyIn (s : State) (o : Nat) (w : Word) : (setRaw s o w).supplyIn = s.supplyIn := rfl
@[simp] theorem setRaw_supplyArmed (s : State) (o : Nat) (w : Word) : (setRaw s o w).supplyArmed = s.supplyArmed := rfl
@[simp] theorem setRaw_aliveLvl (s : State) (o : Nat) (w : Word) : (setRaw s o w).aliveLvl = s.aliveLvl := rfl
@[simp] theorem setRaw_aliveAt (s : State) (o : Nat) (w : Word) : (setRaw s o w).aliveAt = s.aliveAt := rfl
@[simp] theorem setRaw_supLease (s : State) (o : Nat) (w : Word) : (setRaw s o w).supLease = s.supLease := rfl
@[simp] theorem setRaw_dram (s : State) (o : Nat) (w : Word) : (setRaw s o w).dram = s.dram := rfl
@[simp] theorem setRaw_spm (s : State) (o : Nat) (w : Word) : (setRaw s o w).spm = s.spm := rfl
@[simp] theorem setRaw_sram (s : State) (o : Nat) (w : Word) : (setRaw s o w).sram = s.sram := rfl
@[simp] theorem setRaw_rom (s : State) (o : Nat) (w : Word) : (setRaw s o w).rom = s.rom := rfl
@[simp] theorem setRaw_barriers (s : State) (o : Nat) (w : Word) : (setRaw s o w).barriers = s.barriers := rfl
@[simp] theorem setRaw_hostFence (s : State) (o : Nat) (w : Word) : (setRaw s o w).hostFence = s.hostFence := rfl
@[simp] theorem setRaw_remapPend (s : State) (o : Nat) (w : Word) : (setRaw s o w).remapPend = s.remapPend := rfl
@[simp] theorem setRaw_modePend (s : State) (o : Nat) (w : Word) : (setRaw s o w).modePend = s.modePend := rfl
@[simp] theorem setRaw_confCount (s : State) (o : Nat) (w : Word) : (setRaw s o w).confCount = s.confCount := rfl
@[simp] theorem setRaw_confMs (s : State) (o : Nat) (w : Word) : (setRaw s o w).confMs = s.confMs := rfl
@[simp] theorem setRaw_confDone (s : State) (o : Nat) (w : Word) : (setRaw s o w).confDone = s.confDone := rfl
@[simp] theorem setRaw_hrwAt (s : State) (o : Nat) (w : Word) : (setRaw s o w).hrwAt = s.hrwAt := rfl
@[simp] theorem setRaw_repairFuse (s : State) (o : Nat) (w : Word) : (setRaw s o w).repairFuse = s.repairFuse := rfl
@[simp] theorem setRaw_repairBusy (s : State) (o : Nat) (w : Word) : (setRaw s o w).repairBusy = s.repairBusy := rfl
@[simp] theorem setRaw_dieBad (s : State) (o : Nat) (w : Word) : (setRaw s o w).dieBad = s.dieBad := rfl
@[simp] theorem setRaw_dieCrc (s : State) (o : Nat) (w : Word) : (setRaw s o w).dieCrc = s.dieCrc := rfl
@[simp] theorem setRaw_dieSec (s : State) (o : Nat) (w : Word) : (setRaw s o w).dieSec = s.dieSec := rfl
@[simp] theorem setRaw_bpmBuf (s : State) (o : Nat) (w : Word) : (setRaw s o w).bpmBuf = s.bpmBuf := rfl
@[simp] theorem setRaw_bpmCache (s : State) (o : Nat) (w : Word) : (setRaw s o w).bpmCache = s.bpmCache := rfl
@[simp] theorem setRaw_bpmRing (s : State) (o : Nat) (w : Word) : (setRaw s o w).bpmRing = s.bpmRing := rfl
@[simp] theorem setRaw_bpmTurn (s : State) (o : Nat) (w : Word) : (setRaw s o w).bpmTurn = s.bpmTurn := rfl
@[simp] theorem setRaw_bpmCycle (s : State) (o : Nat) (w : Word) : (setRaw s o w).bpmCycle = s.bpmCycle := rfl
@[simp] theorem setRaw_bpmReq (s : State) (o : Nat) (w : Word) : (setRaw s o w).bpmReq = s.bpmReq := rfl
@[simp] theorem setRaw_bpmFreed (s : State) (o : Nat) (w : Word) : (setRaw s o w).bpmFreed = s.bpmFreed := rfl
@[simp] theorem setRaw_fuVariant (s : State) (o : Nat) (w : Word) : (setRaw s o w).fuVariant = s.fuVariant := rfl
@[simp] theorem setRaw_fuUnit (s : State) (o : Nat) (w : Word) : (setRaw s o w).fuUnit = s.fuUnit := rfl
@[simp] theorem setRaw_fuJtag (s : State) (o : Nat) (w : Word) : (setRaw s o w).fuJtag = s.fuJtag := rfl
@[simp] theorem setRaw_fuProg (s : State) (o : Nat) (w : Word) : (setRaw s o w).fuProg = s.fuProg := rfl
@[simp] theorem setRaw_fuRev (s : State) (o : Nat) (w : Word) : (setRaw s o w).fuRev = s.fuRev := rfl
@[simp] theorem setRaw_fuHash (s : State) (o : Nat) (w : Word) : (setRaw s o w).fuHash = s.fuHash := rfl
@[simp] theorem setRaw_fuSeal (s : State) (o : Nat) (w : Word) : (setRaw s o w).fuSeal = s.fuSeal := rfl
@[simp] theorem setRaw_fuEpoch (s : State) (o : Nat) (w : Word) : (setRaw s o w).fuEpoch = s.fuEpoch := rfl
@[simp] theorem setRaw_useEpoch (s : State) (o : Nat) (w : Word) : (setRaw s o w).useEpoch = s.useEpoch := rfl
@[simp] theorem setRaw_useHash (s : State) (o : Nat) (w : Word) : (setRaw s o w).useHash = s.useHash := rfl
@[simp] theorem setRaw_fuBusy (s : State) (o : Nat) (w : Word) : (setRaw s o w).fuBusy = s.fuBusy := rfl
@[simp] theorem setRaw_pubReady (s : State) (o : Nat) (w : Word) : (setRaw s o w).pubReady = s.pubReady := rfl
@[simp] theorem setRaw_attOpen (s : State) (o : Nat) (w : Word) : (setRaw s o w).attOpen = s.attOpen := rfl
@[simp] theorem setRaw_bootBusy (s : State) (o : Nat) (w : Word) : (setRaw s o w).bootBusy = s.bootBusy := rfl
@[simp] theorem setRaw_planBase (s : State) (o : Nat) (w : Word) : (setRaw s o w).planBase = s.planBase := rfl
@[simp] theorem setRaw_resetEnd (s : State) (o : Nat) (w : Word) : (setRaw s o w).resetEnd = s.resetEnd := rfl
@[simp] theorem setRaw_holdAt (s : State) (o : Nat) (w : Word) : (setRaw s o w).holdAt = s.holdAt := rfl
@[simp] theorem setRaw_porOn (s : State) (o : Nat) (w : Word) : (setRaw s o w).porOn = s.porOn := rfl
@[simp] theorem setRaw_porEnd (s : State) (o : Nat) (w : Word) : (setRaw s o w).porEnd = s.porEnd := rfl
@[simp] theorem setRaw_vaonBad (s : State) (o : Nat) (w : Word) : (setRaw s o w).vaonBad = s.vaonBad := rfl
@[simp] theorem setRaw_rstLow (s : State) (o : Nat) (w : Word) : (setRaw s o w).rstLow = s.rstLow := rfl
@[simp] theorem setRaw_perstLow (s : State) (o : Nat) (w : Word) : (setRaw s o w).perstLow = s.perstLow := rfl
@[simp] theorem setRaw_tapIr (s : State) (o : Nat) (w : Word) : (setRaw s o w).tapIr = s.tapIr := rfl
@[simp] theorem setRaw_wakeQ (s : State) (o : Nat) (w : Word) : (setRaw s o w).wakeQ = s.wakeQ := rfl
@[simp] theorem setRaw_sleepQ (s : State) (o : Nat) (w : Word) : (setRaw s o w).sleepQ = s.sleepQ := rfl
@[simp] theorem setRaw_wakeAt (s : State) (o : Nat) (w : Word) : (setRaw s o w).wakeAt = s.wakeAt := rfl
@[simp] theorem setRaw_gln (s : State) (o : Nat) (w : Word) : (setRaw s o w).gln = s.gln := rfl
@[simp] theorem setRaw_trigOut (s : State) (o : Nat) (w : Word) : (setRaw s o w).trigOut = s.trigOut := rfl
@[simp] theorem setRaw_trigBus (s : State) (o : Nat) (w : Word) : (setRaw s o w).trigBus = s.trigBus := rfl
@[simp] theorem setRaw_pdEn (s : State) (o : Nat) (w : Word) : (setRaw s o w).pdEn = s.pdEn := rfl
@[simp] theorem setRaw_pdEnAt (s : State) (o : Nat) (w : Word) : (setRaw s o w).pdEnAt = s.pdEnAt := rfl
@[simp] theorem setRaw_pending (s : State) (o : Nat) (w : Word) : (setRaw s o w).pending = s.pending := rfl
@[simp] theorem setRaw_toLightPart (s : State) (o : Nat) (w : Word) : (setRaw s o w).toLightPart = s.toLightPart := rfl
@[simp] theorem setRaw_toCommitPart (s : State) (o : Nat) (w : Word) : (setRaw s o w).toCommitPart = s.toCommitPart := rfl
@[simp] theorem setRaw_toTimePart (s : State) (o : Nat) (w : Word) : (setRaw s o w).toTimePart = s.toTimePart := rfl
@[simp] theorem setRaw_toLoopPart (s : State) (o : Nat) (w : Word) : (setRaw s o w).toLoopPart = s.toLoopPart := rfl
@[simp] theorem setRaw_toDrillPart (s : State) (o : Nat) (w : Word) : (setRaw s o w).toDrillPart = s.toDrillPart := rfl
@[simp] theorem setRaw_toSensePart (s : State) (o : Nat) (w : Word) : (setRaw s o w).toSensePart = s.toSensePart := rfl
@[simp] theorem setRaw_toCalPart (s : State) (o : Nat) (w : Word) : (setRaw s o w).toCalPart = s.toCalPart := rfl
@[simp] theorem setRaw_toReqPart (s : State) (o : Nat) (w : Word) : (setRaw s o w).toReqPart = s.toReqPart := rfl
@[simp] theorem setRaw_toGovPart (s : State) (o : Nat) (w : Word) : (setRaw s o w).toGovPart = s.toGovPart := rfl
@[simp] theorem setRaw_toFaultPart (s : State) (o : Nat) (w : Word) : (setRaw s o w).toFaultPart = s.toFaultPart := rfl
@[simp] theorem setRaw_toMemPart (s : State) (o : Nat) (w : Word) : (setRaw s o w).toMemPart = s.toMemPart := rfl
@[simp] theorem setRaw_toBootPart (s : State) (o : Nat) (w : Word) : (setRaw s o w).toBootPart = s.toBootPart := rfl
@[simp] theorem setRaw_toGleanPart (s : State) (o : Nat) (w : Word) : (setRaw s o w).toGleanPart = s.toGleanPart := rfl
@[simp] theorem setRaw_toPinPart (s : State) (o : Nat) (w : Word) : (setRaw s o w).toPinPart = s.toPinPart := rfl

/-! ### setF -/

@[simp] theorem setF_resp (x : Fld) (v : Nat) (s : State) : (setF x v s).resp = s.resp := rfl
@[simp] theorem setF_sent (x : Fld) (v : Nat) (s : State) : (setF x v s).sent = s.sent := rfl
@[simp] theorem setF_msix (x : Fld) (v : Nat) (s : State) : (setF x v s).msix = s.msix := rfl
@[simp] theorem setF_msixDue (x : Fld) (v : Nat) (s : State) : (setF x v s).msixDue = s.msixDue := rfl
@[simp] theorem setF_freeCtr (x : Fld) (v : Nat) (s : State) : (setF x v s).freeCtr = s.freeCtr := rfl
@[simp] theorem setF_popMode (x : Fld) (v : Nat) (s : State) : (setF x v s).popMode = s.popMode := rfl
@[simp] theorem setF_ownIn (x : Fld) (v : Nat) (s : State) : (setF x v s).ownIn = s.ownIn := rfl
@[simp] theorem setF_ownOut (x : Fld) (v : Nat) (s : State) : (setF x v s).ownOut = s.ownOut := rfl
@[simp] theorem setF_litThr (x : Fld) (v : Nat) (s : State) : (setF x v s).litThr = s.litThr := rfl
@[simp] theorem setF_litHyst (x : Fld) (v : Nat) (s : State) : (setF x v s).litHyst = s.litHyst := rfl
@[simp] theorem setF_lit (x : Fld) (v : Nat) (s : State) : (setF x v s).lit = s.lit := rfl
@[simp] theorem setF_overIn (x : Fld) (v : Nat) (s : State) : (setF x v s).overIn = s.overIn := rfl
@[simp] theorem setF_hiRun (x : Fld) (v : Nat) (s : State) : (setF x v s).hiRun = s.hiRun := rfl
@[simp] theorem setF_loRun (x : Fld) (v : Nat) (s : State) : (setF x v s).loRun = s.loRun := rfl
@[simp] theorem setF_present (x : Fld) (v : Nat) (s : State) : (setF x v s).present = s.present := rfl
@[simp] theorem setF_projected (x : Fld) (v : Nat) (s : State) : (setF x v s).projected = s.projected := rfl
@[simp] theorem setF_gateOpen (x : Fld) (v : Nat) (s : State) : (setF x v s).gateOpen = s.gateOpen := rfl
@[simp] theorem setF_sched (x : Fld) (v : Nat) (s : State) : (setF x v s).sched = s.sched := rfl
@[simp] theorem setF_ready (x : Fld) (v : Nat) (s : State) : (setF x v s).ready = s.ready := rfl
@[simp] theorem setF_solving (x : Fld) (v : Nat) (s : State) : (setF x v s).solving = s.solving := rfl
@[simp] theorem setF_accepted (x : Fld) (v : Nat) (s : State) : (setF x v s).accepted = s.accepted := rfl
@[simp] theorem setF_closed (x : Fld) (v : Nat) (s : State) : (setF x v s).closed = s.closed := rfl
@[simp] theorem setF_commit (x : Fld) (v : Nat) (s : State) : (setF x v s).commit = s.commit := rfl
@[simp] theorem setF_lastT0 (x : Fld) (v : Nat) (s : State) : (setF x v s).lastT0 = s.lastT0 := rfl
@[simp] theorem setF_unseen (x : Fld) (v : Nat) (s : State) : (setF x v s).unseen = s.unseen := rfl
@[simp] theorem setF_shLevel (x : Fld) (v : Nat) (s : State) : (setF x v s).shLevel = s.shLevel := rfl
@[simp] theorem setF_shStamp (x : Fld) (v : Nat) (s : State) : (setF x v s).shStamp = s.shStamp := rfl
@[simp] theorem setF_captureWait (x : Fld) (v : Nat) (s : State) : (setF x v s).captureWait = s.captureWait := rfl
@[simp] theorem setF_clk (x : Fld) (v : Nat) (s : State) : (setF x v s).clk = s.clk := rfl
@[simp] theorem setF_tsq (x : Fld) (v : Nat) (s : State) : (setF x v s).tsq = s.tsq := rfl
@[simp] theorem setF_ppsTb (x : Fld) (v : Nat) (s : State) : (setF x v s).ppsTb = s.ppsTb := rfl
@[simp] theorem setF_ppsHighUntil (x : Fld) (v : Nat) (s : State) : (setF x v s).ppsHighUntil = s.ppsHighUntil := rfl
@[simp] theorem setF_rotArmed (x : Fld) (v : Nat) (s : State) : (setF x v s).rotArmed = s.rotArmed := rfl
@[simp] theorem setF_rotMarked (x : Fld) (v : Nat) (s : State) : (setF x v s).rotMarked = s.rotMarked := rfl
@[simp] theorem setF_rotReady (x : Fld) (v : Nat) (s : State) : (setF x v s).rotReady = s.rotReady := rfl
@[simp] theorem setF_rot (x : Fld) (v : Nat) (s : State) : (setF x v s).rot = s.rot := rfl
@[simp] theorem setF_loops (x : Fld) (v : Nat) (s : State) : (setF x v s).loops = s.loops := rfl
@[simp] theorem setF_trc (x : Fld) (v : Nat) (s : State) : (setF x v s).trc = s.trc := rfl
@[simp] theorem setF_eng (x : Fld) (v : Nat) (s : State) : (setF x v s).eng = s.eng := rfl
@[simp] theorem setF_frameAt (x : Fld) (v : Nat) (s : State) : (setF x v s).frameAt = s.frameAt := rfl
@[simp] theorem setF_dithFrame (x : Fld) (v : Nat) (s : State) : (setF x v s).dithFrame = s.dithFrame := rfl
@[simp] theorem setF_parked (x : Fld) (v : Nat) (s : State) : (setF x v s).parked = s.parked := rfl
@[simp] theorem setF_chans (x : Fld) (v : Nat) (s : State) : (setF x v s).chans = s.chans := rfl
@[simp] theorem setF_playing (x : Fld) (v : Nat) (s : State) : (setF x v s).playing = s.playing := rfl
@[simp] theorem setF_seedLast (x : Fld) (v : Nat) (s : State) : (setF x v s).seedLast = s.seedLast := rfl
@[simp] theorem setF_dgWake (x : Fld) (v : Nat) (s : State) : (setF x v s).dgWake = s.dgWake := rfl
@[simp] theorem setF_vpkBad (x : Fld) (v : Nat) (s : State) : (setF x v s).vpkBad = s.vpkBad := rfl
@[simp] theorem setF_vhtrBad (x : Fld) (v : Nat) (s : State) : (setF x v s).vhtrBad = s.vhtrBad := rfl
@[simp] theorem setF_sns (x : Fld) (v : Nat) (s : State) : (setF x v s).sns = s.sns := rfl
@[simp] theorem setF_slcs (x : Fld) (v : Nat) (s : State) : (setF x v s).slcs = s.slcs := rfl
@[simp] theorem setF_convs (x : Fld) (v : Nat) (s : State) : (setF x v s).convs = s.convs := rfl
@[simp] theorem setF_rsvPend (x : Fld) (v : Nat) (s : State) : (setF x v s).rsvPend = s.rsvPend := rfl
@[simp] theorem setF_elec (x : Fld) (v : Nat) (s : State) : (setF x v s).elec = s.elec := rfl
@[simp] theorem setF_bias (x : Fld) (v : Nat) (s : State) : (setF x v s).bias = s.bias := rfl
@[simp] theorem setF_calMarks (x : Fld) (v : Nat) (s : State) : (setF x v s).calMarks = s.calMarks := rfl
@[simp] theorem setF_wsLoad (x : Fld) (v : Nat) (s : State) : (setF x v s).wsLoad = s.wsLoad := rfl
@[simp] theorem setF_snsSwap (x : Fld) (v : Nat) (s : State) : (setF x v s).snsSwap = s.snsSwap := rfl
@[simp] theorem setF_slcLoaded (x : Fld) (v : Nat) (s : State) : (setF x v s).slcLoaded = s.slcLoaded := rfl
@[simp] theorem setF_keys (x : Fld) (v : Nat) (s : State) : (setF x v s).keys = s.keys := rfl
@[simp] theorem setF_txSeq (x : Fld) (v : Nat) (s : State) : (setF x v s).txSeq = s.txSeq := rfl
@[simp] theorem setF_telemSeq (x : Fld) (v : Nat) (s : State) : (setF x v s).telemSeq = s.telemSeq := rfl
@[simp] theorem setF_telemQ (x : Fld) (v : Nat) (s : State) : (setF x v s).telemQ = s.telemQ := rfl
@[simp] theorem setF_telemLost (x : Fld) (v : Nat) (s : State) : (setF x v s).telemLost = s.telemLost := rfl
@[simp] theorem setF_replay (x : Fld) (v : Nat) (s : State) : (setF x v s).replay = s.replay := rfl
@[simp] theorem setF_tokC (x : Fld) (v : Nat) (s : State) : (setF x v s).tokC = s.tokC := rfl
@[simp] theorem setF_tokP (x : Fld) (v : Nat) (s : State) : (setF x v s).tokP = s.tokP := rfl
@[simp] theorem setF_tokAt (x : Fld) (v : Nat) (s : State) : (setF x v s).tokAt = s.tokAt := rfl
@[simp] theorem setF_queues (x : Fld) (v : Nat) (s : State) : (setF x v s).queues = s.queues := rfl
@[simp] theorem setF_vtime (x : Fld) (v : Nat) (s : State) : (setF x v s).vtime = s.vtime := rfl
@[simp] theorem setF_lastFin (x : Fld) (v : Nat) (s : State) : (setF x v s).lastFin = s.lastFin := rfl
@[simp] theorem setF_uidNext (x : Fld) (v : Nat) (s : State) : (setF x v s).uidNext = s.uidNext := rfl
@[simp] theorem setF_queryCnt (x : Fld) (v : Nat) (s : State) : (setF x v s).queryCnt = s.queryCnt := rfl
@[simp] theorem setF_tagFails (x : Fld) (v : Nat) (s : State) : (setF x v s).tagFails = s.tagFails := rfl
@[simp] theorem setF_tagSec (x : Fld) (v : Nat) (s : State) : (setF x v s).tagSec = s.tagSec := rfl
@[simp] theorem setF_tagBurst (x : Fld) (v : Nat) (s : State) : (setF x v s).tagBurst = s.tagBurst := rfl
@[simp] theorem setF_planAt (x : Fld) (v : Nat) (s : State) : (setF x v s).planAt = s.planAt := rfl
@[simp] theorem setF_hbAt (x : Fld) (v : Nat) (s : State) : (setF x v s).hbAt = s.hbAt := rfl
@[simp] theorem setF_rotLoader (x : Fld) (v : Nat) (s : State) : (setF x v s).rotLoader = s.rotLoader := rfl
@[simp] theorem setF_urpIn (x : Fld) (v : Nat) (s : State) : (setF x v s).urpIn = s.urpIn := rfl
@[simp] theorem setF_txWait (x : Fld) (v : Nat) (s : State) : (setF x v s).txWait = s.txWait := rfl
@[simp] theorem setF_txRing (x : Fld) (v : Nat) (s : State) : (setF x v s).txRing = s.txRing := rfl
@[simp] theorem setF_siteHist (x : Fld) (v : Nat) (s : State) : (setF x v s).siteHist = s.siteHist := rfl
@[simp] theorem setF_lastSite (x : Fld) (v : Nat) (s : State) : (setF x v s).lastSite = s.lastSite := rfl
@[simp] theorem setF_convSite (x : Fld) (v : Nat) (s : State) : (setF x v s).convSite = s.convSite := rfl
@[simp] theorem setF_convAt (x : Fld) (v : Nat) (s : State) : (setF x v s).convAt = s.convAt := rfl
@[simp] theorem setF_fallSince (x : Fld) (v : Nat) (s : State) : (setF x v s).fallSince = s.fallSince := rfl
@[simp] theorem setF_stepAt (x : Fld) (v : Nat) (s : State) : (setF x v s).stepAt = s.stepAt := rfl
@[simp] theorem setF_hrep (x : Fld) (v : Nat) (s : State) : (setF x v s).hrep = s.hrep := rfl
@[simp] theorem setF_lowSince (x : Fld) (v : Nat) (s : State) : (setF x v s).lowSince = s.lowSince := rfl
@[simp] theorem setF_serveHot (x : Fld) (v : Nat) (s : State) : (setF x v s).serveHot = s.serveHot := rfl
@[simp] theorem setF_serveOk (x : Fld) (v : Nat) (s : State) : (setF x v s).serveOk = s.serveOk := rfl
@[simp] theorem setF_withdrawn (x : Fld) (v : Nat) (s : State) : (setF x v s).withdrawn = s.withdrawn := rfl
@[simp] theorem setF_parkAt (x : Fld) (v : Nat) (s : State) : (setF x v s).parkAt = s.parkAt := rfl
@[simp] theorem setF_fltRaised (x : Fld) (v : Nat) (s : State) : (setF x v s).fltRaised = s.fltRaised := rfl
@[simp] theorem setF_fltLogged (x : Fld) (v : Nat) (s : State) : (setF x v s).fltLogged = s.fltLogged := rfl
@[simp] theorem setF_escAt (x : Fld) (v : Nat) (s : State) : (setF x v s).escAt = s.escAt := rfl
@[simp] theorem setF_escDet (x : Fld) (v : Nat) (s : State) : (setF x v s).escDet = s.escDet := rfl
@[simp] theorem setF_supplyOut (x : Fld) (v : Nat) (s : State) : (setF x v s).supplyOut = s.supplyOut := rfl
@[simp] theorem setF_supplyIn (x : Fld) (v : Nat) (s : State) : (setF x v s).supplyIn = s.supplyIn := rfl
@[simp] theorem setF_supplyArmed (x : Fld) (v : Nat) (s : State) : (setF x v s).supplyArmed = s.supplyArmed := rfl
@[simp] theorem setF_aliveLvl (x : Fld) (v : Nat) (s : State) : (setF x v s).aliveLvl = s.aliveLvl := rfl
@[simp] theorem setF_aliveAt (x : Fld) (v : Nat) (s : State) : (setF x v s).aliveAt = s.aliveAt := rfl
@[simp] theorem setF_supLease (x : Fld) (v : Nat) (s : State) : (setF x v s).supLease = s.supLease := rfl
@[simp] theorem setF_dram (x : Fld) (v : Nat) (s : State) : (setF x v s).dram = s.dram := rfl
@[simp] theorem setF_spm (x : Fld) (v : Nat) (s : State) : (setF x v s).spm = s.spm := rfl
@[simp] theorem setF_sram (x : Fld) (v : Nat) (s : State) : (setF x v s).sram = s.sram := rfl
@[simp] theorem setF_rom (x : Fld) (v : Nat) (s : State) : (setF x v s).rom = s.rom := rfl
@[simp] theorem setF_barriers (x : Fld) (v : Nat) (s : State) : (setF x v s).barriers = s.barriers := rfl
@[simp] theorem setF_hostFence (x : Fld) (v : Nat) (s : State) : (setF x v s).hostFence = s.hostFence := rfl
@[simp] theorem setF_remapPend (x : Fld) (v : Nat) (s : State) : (setF x v s).remapPend = s.remapPend := rfl
@[simp] theorem setF_modePend (x : Fld) (v : Nat) (s : State) : (setF x v s).modePend = s.modePend := rfl
@[simp] theorem setF_confCount (x : Fld) (v : Nat) (s : State) : (setF x v s).confCount = s.confCount := rfl
@[simp] theorem setF_confMs (x : Fld) (v : Nat) (s : State) : (setF x v s).confMs = s.confMs := rfl
@[simp] theorem setF_confDone (x : Fld) (v : Nat) (s : State) : (setF x v s).confDone = s.confDone := rfl
@[simp] theorem setF_hrwAt (x : Fld) (v : Nat) (s : State) : (setF x v s).hrwAt = s.hrwAt := rfl
@[simp] theorem setF_repairFuse (x : Fld) (v : Nat) (s : State) : (setF x v s).repairFuse = s.repairFuse := rfl
@[simp] theorem setF_repairBusy (x : Fld) (v : Nat) (s : State) : (setF x v s).repairBusy = s.repairBusy := rfl
@[simp] theorem setF_dieBad (x : Fld) (v : Nat) (s : State) : (setF x v s).dieBad = s.dieBad := rfl
@[simp] theorem setF_dieCrc (x : Fld) (v : Nat) (s : State) : (setF x v s).dieCrc = s.dieCrc := rfl
@[simp] theorem setF_dieSec (x : Fld) (v : Nat) (s : State) : (setF x v s).dieSec = s.dieSec := rfl
@[simp] theorem setF_bpmBuf (x : Fld) (v : Nat) (s : State) : (setF x v s).bpmBuf = s.bpmBuf := rfl
@[simp] theorem setF_bpmCache (x : Fld) (v : Nat) (s : State) : (setF x v s).bpmCache = s.bpmCache := rfl
@[simp] theorem setF_bpmRing (x : Fld) (v : Nat) (s : State) : (setF x v s).bpmRing = s.bpmRing := rfl
@[simp] theorem setF_bpmTurn (x : Fld) (v : Nat) (s : State) : (setF x v s).bpmTurn = s.bpmTurn := rfl
@[simp] theorem setF_bpmCycle (x : Fld) (v : Nat) (s : State) : (setF x v s).bpmCycle = s.bpmCycle := rfl
@[simp] theorem setF_bpmReq (x : Fld) (v : Nat) (s : State) : (setF x v s).bpmReq = s.bpmReq := rfl
@[simp] theorem setF_bpmFreed (x : Fld) (v : Nat) (s : State) : (setF x v s).bpmFreed = s.bpmFreed := rfl
@[simp] theorem setF_fuVariant (x : Fld) (v : Nat) (s : State) : (setF x v s).fuVariant = s.fuVariant := rfl
@[simp] theorem setF_fuUnit (x : Fld) (v : Nat) (s : State) : (setF x v s).fuUnit = s.fuUnit := rfl
@[simp] theorem setF_fuJtag (x : Fld) (v : Nat) (s : State) : (setF x v s).fuJtag = s.fuJtag := rfl
@[simp] theorem setF_fuProg (x : Fld) (v : Nat) (s : State) : (setF x v s).fuProg = s.fuProg := rfl
@[simp] theorem setF_fuRev (x : Fld) (v : Nat) (s : State) : (setF x v s).fuRev = s.fuRev := rfl
@[simp] theorem setF_fuHash (x : Fld) (v : Nat) (s : State) : (setF x v s).fuHash = s.fuHash := rfl
@[simp] theorem setF_fuSeal (x : Fld) (v : Nat) (s : State) : (setF x v s).fuSeal = s.fuSeal := rfl
@[simp] theorem setF_fuEpoch (x : Fld) (v : Nat) (s : State) : (setF x v s).fuEpoch = s.fuEpoch := rfl
@[simp] theorem setF_useEpoch (x : Fld) (v : Nat) (s : State) : (setF x v s).useEpoch = s.useEpoch := rfl
@[simp] theorem setF_useHash (x : Fld) (v : Nat) (s : State) : (setF x v s).useHash = s.useHash := rfl
@[simp] theorem setF_fuBusy (x : Fld) (v : Nat) (s : State) : (setF x v s).fuBusy = s.fuBusy := rfl
@[simp] theorem setF_pubReady (x : Fld) (v : Nat) (s : State) : (setF x v s).pubReady = s.pubReady := rfl
@[simp] theorem setF_attOpen (x : Fld) (v : Nat) (s : State) : (setF x v s).attOpen = s.attOpen := rfl
@[simp] theorem setF_bootBusy (x : Fld) (v : Nat) (s : State) : (setF x v s).bootBusy = s.bootBusy := rfl
@[simp] theorem setF_planBase (x : Fld) (v : Nat) (s : State) : (setF x v s).planBase = s.planBase := rfl
@[simp] theorem setF_resetEnd (x : Fld) (v : Nat) (s : State) : (setF x v s).resetEnd = s.resetEnd := rfl
@[simp] theorem setF_holdAt (x : Fld) (v : Nat) (s : State) : (setF x v s).holdAt = s.holdAt := rfl
@[simp] theorem setF_porOn (x : Fld) (v : Nat) (s : State) : (setF x v s).porOn = s.porOn := rfl
@[simp] theorem setF_porEnd (x : Fld) (v : Nat) (s : State) : (setF x v s).porEnd = s.porEnd := rfl
@[simp] theorem setF_vaonBad (x : Fld) (v : Nat) (s : State) : (setF x v s).vaonBad = s.vaonBad := rfl
@[simp] theorem setF_rstLow (x : Fld) (v : Nat) (s : State) : (setF x v s).rstLow = s.rstLow := rfl
@[simp] theorem setF_perstLow (x : Fld) (v : Nat) (s : State) : (setF x v s).perstLow = s.perstLow := rfl
@[simp] theorem setF_tapIr (x : Fld) (v : Nat) (s : State) : (setF x v s).tapIr = s.tapIr := rfl
@[simp] theorem setF_wakeQ (x : Fld) (v : Nat) (s : State) : (setF x v s).wakeQ = s.wakeQ := rfl
@[simp] theorem setF_sleepQ (x : Fld) (v : Nat) (s : State) : (setF x v s).sleepQ = s.sleepQ := rfl
@[simp] theorem setF_wakeAt (x : Fld) (v : Nat) (s : State) : (setF x v s).wakeAt = s.wakeAt := rfl
@[simp] theorem setF_gln (x : Fld) (v : Nat) (s : State) : (setF x v s).gln = s.gln := rfl
@[simp] theorem setF_trigOut (x : Fld) (v : Nat) (s : State) : (setF x v s).trigOut = s.trigOut := rfl
@[simp] theorem setF_trigBus (x : Fld) (v : Nat) (s : State) : (setF x v s).trigBus = s.trigBus := rfl
@[simp] theorem setF_pdEn (x : Fld) (v : Nat) (s : State) : (setF x v s).pdEn = s.pdEn := rfl
@[simp] theorem setF_pdEnAt (x : Fld) (v : Nat) (s : State) : (setF x v s).pdEnAt = s.pdEnAt := rfl
@[simp] theorem setF_pending (x : Fld) (v : Nat) (s : State) : (setF x v s).pending = s.pending := rfl
@[simp] theorem setF_toLightPart (x : Fld) (v : Nat) (s : State) : (setF x v s).toLightPart = s.toLightPart := rfl
@[simp] theorem setF_toCommitPart (x : Fld) (v : Nat) (s : State) : (setF x v s).toCommitPart = s.toCommitPart := rfl
@[simp] theorem setF_toTimePart (x : Fld) (v : Nat) (s : State) : (setF x v s).toTimePart = s.toTimePart := rfl
@[simp] theorem setF_toLoopPart (x : Fld) (v : Nat) (s : State) : (setF x v s).toLoopPart = s.toLoopPart := rfl
@[simp] theorem setF_toDrillPart (x : Fld) (v : Nat) (s : State) : (setF x v s).toDrillPart = s.toDrillPart := rfl
@[simp] theorem setF_toSensePart (x : Fld) (v : Nat) (s : State) : (setF x v s).toSensePart = s.toSensePart := rfl
@[simp] theorem setF_toCalPart (x : Fld) (v : Nat) (s : State) : (setF x v s).toCalPart = s.toCalPart := rfl
@[simp] theorem setF_toReqPart (x : Fld) (v : Nat) (s : State) : (setF x v s).toReqPart = s.toReqPart := rfl
@[simp] theorem setF_toGovPart (x : Fld) (v : Nat) (s : State) : (setF x v s).toGovPart = s.toGovPart := rfl
@[simp] theorem setF_toFaultPart (x : Fld) (v : Nat) (s : State) : (setF x v s).toFaultPart = s.toFaultPart := rfl
@[simp] theorem setF_toMemPart (x : Fld) (v : Nat) (s : State) : (setF x v s).toMemPart = s.toMemPart := rfl
@[simp] theorem setF_toBootPart (x : Fld) (v : Nat) (s : State) : (setF x v s).toBootPart = s.toBootPart := rfl
@[simp] theorem setF_toGleanPart (x : Fld) (v : Nat) (s : State) : (setF x v s).toGleanPart = s.toGleanPart := rfl
@[simp] theorem setF_toPinPart (x : Fld) (v : Nat) (s : State) : (setF x v s).toPinPart = s.toPinPart := rfl

/-! ### elapse -/

@[simp] theorem elapse_regs (s : State) (dt : Nat) : (elapse s dt).regs = s.regs := rfl
@[simp] theorem elapse_resp (s : State) (dt : Nat) : (elapse s dt).resp = s.resp := rfl
@[simp] theorem elapse_sent (s : State) (dt : Nat) : (elapse s dt).sent = s.sent := rfl
@[simp] theorem elapse_msix (s : State) (dt : Nat) : (elapse s dt).msix = s.msix := rfl
@[simp] theorem elapse_msixDue (s : State) (dt : Nat) : (elapse s dt).msixDue = s.msixDue := rfl
@[simp] theorem elapse_freeCtr (s : State) (dt : Nat) : (elapse s dt).freeCtr = s.freeCtr := rfl
@[simp] theorem elapse_popMode (s : State) (dt : Nat) : (elapse s dt).popMode = s.popMode := rfl
@[simp] theorem elapse_ownIn (s : State) (dt : Nat) : (elapse s dt).ownIn = s.ownIn := rfl
@[simp] theorem elapse_ownOut (s : State) (dt : Nat) : (elapse s dt).ownOut = s.ownOut := rfl
@[simp] theorem elapse_litThr (s : State) (dt : Nat) : (elapse s dt).litThr = s.litThr := rfl
@[simp] theorem elapse_litHyst (s : State) (dt : Nat) : (elapse s dt).litHyst = s.litHyst := rfl
@[simp] theorem elapse_lit (s : State) (dt : Nat) : (elapse s dt).lit = s.lit := rfl
@[simp] theorem elapse_overIn (s : State) (dt : Nat) : (elapse s dt).overIn = s.overIn := rfl
@[simp] theorem elapse_hiRun (s : State) (dt : Nat) : (elapse s dt).hiRun = s.hiRun := rfl
@[simp] theorem elapse_loRun (s : State) (dt : Nat) : (elapse s dt).loRun = s.loRun := rfl
@[simp] theorem elapse_present (s : State) (dt : Nat) : (elapse s dt).present = s.present := rfl
@[simp] theorem elapse_projected (s : State) (dt : Nat) : (elapse s dt).projected = s.projected := rfl
@[simp] theorem elapse_gateOpen (s : State) (dt : Nat) : (elapse s dt).gateOpen = s.gateOpen := rfl
@[simp] theorem elapse_sched (s : State) (dt : Nat) : (elapse s dt).sched = s.sched := rfl
@[simp] theorem elapse_ready (s : State) (dt : Nat) : (elapse s dt).ready = s.ready := rfl
@[simp] theorem elapse_solving (s : State) (dt : Nat) : (elapse s dt).solving = s.solving := rfl
@[simp] theorem elapse_accepted (s : State) (dt : Nat) : (elapse s dt).accepted = s.accepted := rfl
@[simp] theorem elapse_closed (s : State) (dt : Nat) : (elapse s dt).closed = s.closed := rfl
@[simp] theorem elapse_commit (s : State) (dt : Nat) : (elapse s dt).commit = s.commit := rfl
@[simp] theorem elapse_lastT0 (s : State) (dt : Nat) : (elapse s dt).lastT0 = s.lastT0 := rfl
@[simp] theorem elapse_unseen (s : State) (dt : Nat) : (elapse s dt).unseen = s.unseen := rfl
@[simp] theorem elapse_shLevel (s : State) (dt : Nat) : (elapse s dt).shLevel = s.shLevel := rfl
@[simp] theorem elapse_shStamp (s : State) (dt : Nat) : (elapse s dt).shStamp = s.shStamp := rfl
@[simp] theorem elapse_captureWait (s : State) (dt : Nat) : (elapse s dt).captureWait = s.captureWait := rfl
@[simp] theorem elapse_tsq (s : State) (dt : Nat) : (elapse s dt).tsq = s.tsq := rfl
@[simp] theorem elapse_ppsTb (s : State) (dt : Nat) : (elapse s dt).ppsTb = s.ppsTb := rfl
@[simp] theorem elapse_ppsHighUntil (s : State) (dt : Nat) : (elapse s dt).ppsHighUntil = s.ppsHighUntil := rfl
@[simp] theorem elapse_rotArmed (s : State) (dt : Nat) : (elapse s dt).rotArmed = s.rotArmed := rfl
@[simp] theorem elapse_rotMarked (s : State) (dt : Nat) : (elapse s dt).rotMarked = s.rotMarked := rfl
@[simp] theorem elapse_rotReady (s : State) (dt : Nat) : (elapse s dt).rotReady = s.rotReady := rfl
@[simp] theorem elapse_rot (s : State) (dt : Nat) : (elapse s dt).rot = s.rot := rfl
@[simp] theorem elapse_loops (s : State) (dt : Nat) : (elapse s dt).loops = s.loops := rfl
@[simp] theorem elapse_trc (s : State) (dt : Nat) : (elapse s dt).trc = s.trc := rfl
@[simp] theorem elapse_eng (s : State) (dt : Nat) : (elapse s dt).eng = s.eng := rfl
@[simp] theorem elapse_frameAt (s : State) (dt : Nat) : (elapse s dt).frameAt = s.frameAt := rfl
@[simp] theorem elapse_dithFrame (s : State) (dt : Nat) : (elapse s dt).dithFrame = s.dithFrame := rfl
@[simp] theorem elapse_parked (s : State) (dt : Nat) : (elapse s dt).parked = s.parked := rfl
@[simp] theorem elapse_chans (s : State) (dt : Nat) : (elapse s dt).chans = s.chans := rfl
@[simp] theorem elapse_playing (s : State) (dt : Nat) : (elapse s dt).playing = s.playing := rfl
@[simp] theorem elapse_seedLast (s : State) (dt : Nat) : (elapse s dt).seedLast = s.seedLast := rfl
@[simp] theorem elapse_dgWake (s : State) (dt : Nat) : (elapse s dt).dgWake = s.dgWake := rfl
@[simp] theorem elapse_vpkBad (s : State) (dt : Nat) : (elapse s dt).vpkBad = s.vpkBad := rfl
@[simp] theorem elapse_vhtrBad (s : State) (dt : Nat) : (elapse s dt).vhtrBad = s.vhtrBad := rfl
@[simp] theorem elapse_sns (s : State) (dt : Nat) : (elapse s dt).sns = s.sns := rfl
@[simp] theorem elapse_slcs (s : State) (dt : Nat) : (elapse s dt).slcs = s.slcs := rfl
@[simp] theorem elapse_convs (s : State) (dt : Nat) : (elapse s dt).convs = s.convs := rfl
@[simp] theorem elapse_rsvPend (s : State) (dt : Nat) : (elapse s dt).rsvPend = s.rsvPend := rfl
@[simp] theorem elapse_elec (s : State) (dt : Nat) : (elapse s dt).elec = s.elec := rfl
@[simp] theorem elapse_bias (s : State) (dt : Nat) : (elapse s dt).bias = s.bias := rfl
@[simp] theorem elapse_calMarks (s : State) (dt : Nat) : (elapse s dt).calMarks = s.calMarks := rfl
@[simp] theorem elapse_wsLoad (s : State) (dt : Nat) : (elapse s dt).wsLoad = s.wsLoad := rfl
@[simp] theorem elapse_snsSwap (s : State) (dt : Nat) : (elapse s dt).snsSwap = s.snsSwap := rfl
@[simp] theorem elapse_slcLoaded (s : State) (dt : Nat) : (elapse s dt).slcLoaded = s.slcLoaded := rfl
@[simp] theorem elapse_keys (s : State) (dt : Nat) : (elapse s dt).keys = s.keys := rfl
@[simp] theorem elapse_txSeq (s : State) (dt : Nat) : (elapse s dt).txSeq = s.txSeq := rfl
@[simp] theorem elapse_telemSeq (s : State) (dt : Nat) : (elapse s dt).telemSeq = s.telemSeq := rfl
@[simp] theorem elapse_telemQ (s : State) (dt : Nat) : (elapse s dt).telemQ = s.telemQ := rfl
@[simp] theorem elapse_telemLost (s : State) (dt : Nat) : (elapse s dt).telemLost = s.telemLost := rfl
@[simp] theorem elapse_replay (s : State) (dt : Nat) : (elapse s dt).replay = s.replay := rfl
@[simp] theorem elapse_tokC (s : State) (dt : Nat) : (elapse s dt).tokC = s.tokC := rfl
@[simp] theorem elapse_tokP (s : State) (dt : Nat) : (elapse s dt).tokP = s.tokP := rfl
@[simp] theorem elapse_tokAt (s : State) (dt : Nat) : (elapse s dt).tokAt = s.tokAt := rfl
@[simp] theorem elapse_queues (s : State) (dt : Nat) : (elapse s dt).queues = s.queues := rfl
@[simp] theorem elapse_vtime (s : State) (dt : Nat) : (elapse s dt).vtime = s.vtime := rfl
@[simp] theorem elapse_lastFin (s : State) (dt : Nat) : (elapse s dt).lastFin = s.lastFin := rfl
@[simp] theorem elapse_uidNext (s : State) (dt : Nat) : (elapse s dt).uidNext = s.uidNext := rfl
@[simp] theorem elapse_queryCnt (s : State) (dt : Nat) : (elapse s dt).queryCnt = s.queryCnt := rfl
@[simp] theorem elapse_tagFails (s : State) (dt : Nat) : (elapse s dt).tagFails = s.tagFails := rfl
@[simp] theorem elapse_tagSec (s : State) (dt : Nat) : (elapse s dt).tagSec = s.tagSec := rfl
@[simp] theorem elapse_tagBurst (s : State) (dt : Nat) : (elapse s dt).tagBurst = s.tagBurst := rfl
@[simp] theorem elapse_planAt (s : State) (dt : Nat) : (elapse s dt).planAt = s.planAt := rfl
@[simp] theorem elapse_hbAt (s : State) (dt : Nat) : (elapse s dt).hbAt = s.hbAt := rfl
@[simp] theorem elapse_rotLoader (s : State) (dt : Nat) : (elapse s dt).rotLoader = s.rotLoader := rfl
@[simp] theorem elapse_urpIn (s : State) (dt : Nat) : (elapse s dt).urpIn = s.urpIn := rfl
@[simp] theorem elapse_txWait (s : State) (dt : Nat) : (elapse s dt).txWait = s.txWait := rfl
@[simp] theorem elapse_txRing (s : State) (dt : Nat) : (elapse s dt).txRing = s.txRing := rfl
@[simp] theorem elapse_siteHist (s : State) (dt : Nat) : (elapse s dt).siteHist = s.siteHist := rfl
@[simp] theorem elapse_lastSite (s : State) (dt : Nat) : (elapse s dt).lastSite = s.lastSite := rfl
@[simp] theorem elapse_convSite (s : State) (dt : Nat) : (elapse s dt).convSite = s.convSite := rfl
@[simp] theorem elapse_convAt (s : State) (dt : Nat) : (elapse s dt).convAt = s.convAt := rfl
@[simp] theorem elapse_fallSince (s : State) (dt : Nat) : (elapse s dt).fallSince = s.fallSince := rfl
@[simp] theorem elapse_stepAt (s : State) (dt : Nat) : (elapse s dt).stepAt = s.stepAt := rfl
@[simp] theorem elapse_hrep (s : State) (dt : Nat) : (elapse s dt).hrep = s.hrep := rfl
@[simp] theorem elapse_lowSince (s : State) (dt : Nat) : (elapse s dt).lowSince = s.lowSince := rfl
@[simp] theorem elapse_serveHot (s : State) (dt : Nat) : (elapse s dt).serveHot = s.serveHot := rfl
@[simp] theorem elapse_serveOk (s : State) (dt : Nat) : (elapse s dt).serveOk = s.serveOk := rfl
@[simp] theorem elapse_withdrawn (s : State) (dt : Nat) : (elapse s dt).withdrawn = s.withdrawn := rfl
@[simp] theorem elapse_parkAt (s : State) (dt : Nat) : (elapse s dt).parkAt = s.parkAt := rfl
@[simp] theorem elapse_fltRaised (s : State) (dt : Nat) : (elapse s dt).fltRaised = s.fltRaised := rfl
@[simp] theorem elapse_fltLogged (s : State) (dt : Nat) : (elapse s dt).fltLogged = s.fltLogged := rfl
@[simp] theorem elapse_escAt (s : State) (dt : Nat) : (elapse s dt).escAt = s.escAt := rfl
@[simp] theorem elapse_escDet (s : State) (dt : Nat) : (elapse s dt).escDet = s.escDet := rfl
@[simp] theorem elapse_supplyOut (s : State) (dt : Nat) : (elapse s dt).supplyOut = s.supplyOut := rfl
@[simp] theorem elapse_supplyIn (s : State) (dt : Nat) : (elapse s dt).supplyIn = s.supplyIn := rfl
@[simp] theorem elapse_supplyArmed (s : State) (dt : Nat) : (elapse s dt).supplyArmed = s.supplyArmed := rfl
@[simp] theorem elapse_aliveLvl (s : State) (dt : Nat) : (elapse s dt).aliveLvl = s.aliveLvl := rfl
@[simp] theorem elapse_aliveAt (s : State) (dt : Nat) : (elapse s dt).aliveAt = s.aliveAt := rfl
@[simp] theorem elapse_supLease (s : State) (dt : Nat) : (elapse s dt).supLease = s.supLease := rfl
@[simp] theorem elapse_dram (s : State) (dt : Nat) : (elapse s dt).dram = s.dram := rfl
@[simp] theorem elapse_spm (s : State) (dt : Nat) : (elapse s dt).spm = s.spm := rfl
@[simp] theorem elapse_sram (s : State) (dt : Nat) : (elapse s dt).sram = s.sram := rfl
@[simp] theorem elapse_rom (s : State) (dt : Nat) : (elapse s dt).rom = s.rom := rfl
@[simp] theorem elapse_barriers (s : State) (dt : Nat) : (elapse s dt).barriers = s.barriers := rfl
@[simp] theorem elapse_hostFence (s : State) (dt : Nat) : (elapse s dt).hostFence = s.hostFence := rfl
@[simp] theorem elapse_remapPend (s : State) (dt : Nat) : (elapse s dt).remapPend = s.remapPend := rfl
@[simp] theorem elapse_modePend (s : State) (dt : Nat) : (elapse s dt).modePend = s.modePend := rfl
@[simp] theorem elapse_confCount (s : State) (dt : Nat) : (elapse s dt).confCount = s.confCount := rfl
@[simp] theorem elapse_confMs (s : State) (dt : Nat) : (elapse s dt).confMs = s.confMs := rfl
@[simp] theorem elapse_confDone (s : State) (dt : Nat) : (elapse s dt).confDone = s.confDone := rfl
@[simp] theorem elapse_hrwAt (s : State) (dt : Nat) : (elapse s dt).hrwAt = s.hrwAt := rfl
@[simp] theorem elapse_repairFuse (s : State) (dt : Nat) : (elapse s dt).repairFuse = s.repairFuse := rfl
@[simp] theorem elapse_repairBusy (s : State) (dt : Nat) : (elapse s dt).repairBusy = s.repairBusy := rfl
@[simp] theorem elapse_dieBad (s : State) (dt : Nat) : (elapse s dt).dieBad = s.dieBad := rfl
@[simp] theorem elapse_dieCrc (s : State) (dt : Nat) : (elapse s dt).dieCrc = s.dieCrc := rfl
@[simp] theorem elapse_dieSec (s : State) (dt : Nat) : (elapse s dt).dieSec = s.dieSec := rfl
@[simp] theorem elapse_bpmBuf (s : State) (dt : Nat) : (elapse s dt).bpmBuf = s.bpmBuf := rfl
@[simp] theorem elapse_bpmCache (s : State) (dt : Nat) : (elapse s dt).bpmCache = s.bpmCache := rfl
@[simp] theorem elapse_bpmRing (s : State) (dt : Nat) : (elapse s dt).bpmRing = s.bpmRing := rfl
@[simp] theorem elapse_bpmTurn (s : State) (dt : Nat) : (elapse s dt).bpmTurn = s.bpmTurn := rfl
@[simp] theorem elapse_bpmCycle (s : State) (dt : Nat) : (elapse s dt).bpmCycle = s.bpmCycle := rfl
@[simp] theorem elapse_bpmReq (s : State) (dt : Nat) : (elapse s dt).bpmReq = s.bpmReq := rfl
@[simp] theorem elapse_bpmFreed (s : State) (dt : Nat) : (elapse s dt).bpmFreed = s.bpmFreed := rfl
@[simp] theorem elapse_fuVariant (s : State) (dt : Nat) : (elapse s dt).fuVariant = s.fuVariant := rfl
@[simp] theorem elapse_fuUnit (s : State) (dt : Nat) : (elapse s dt).fuUnit = s.fuUnit := rfl
@[simp] theorem elapse_fuJtag (s : State) (dt : Nat) : (elapse s dt).fuJtag = s.fuJtag := rfl
@[simp] theorem elapse_fuProg (s : State) (dt : Nat) : (elapse s dt).fuProg = s.fuProg := rfl
@[simp] theorem elapse_fuRev (s : State) (dt : Nat) : (elapse s dt).fuRev = s.fuRev := rfl
@[simp] theorem elapse_fuHash (s : State) (dt : Nat) : (elapse s dt).fuHash = s.fuHash := rfl
@[simp] theorem elapse_fuSeal (s : State) (dt : Nat) : (elapse s dt).fuSeal = s.fuSeal := rfl
@[simp] theorem elapse_fuEpoch (s : State) (dt : Nat) : (elapse s dt).fuEpoch = s.fuEpoch := rfl
@[simp] theorem elapse_useEpoch (s : State) (dt : Nat) : (elapse s dt).useEpoch = s.useEpoch := rfl
@[simp] theorem elapse_useHash (s : State) (dt : Nat) : (elapse s dt).useHash = s.useHash := rfl
@[simp] theorem elapse_fuBusy (s : State) (dt : Nat) : (elapse s dt).fuBusy = s.fuBusy := rfl
@[simp] theorem elapse_pubReady (s : State) (dt : Nat) : (elapse s dt).pubReady = s.pubReady := rfl
@[simp] theorem elapse_attOpen (s : State) (dt : Nat) : (elapse s dt).attOpen = s.attOpen := rfl
@[simp] theorem elapse_bootBusy (s : State) (dt : Nat) : (elapse s dt).bootBusy = s.bootBusy := rfl
@[simp] theorem elapse_planBase (s : State) (dt : Nat) : (elapse s dt).planBase = s.planBase := rfl
@[simp] theorem elapse_resetEnd (s : State) (dt : Nat) : (elapse s dt).resetEnd = s.resetEnd := rfl
@[simp] theorem elapse_holdAt (s : State) (dt : Nat) : (elapse s dt).holdAt = s.holdAt := rfl
@[simp] theorem elapse_porOn (s : State) (dt : Nat) : (elapse s dt).porOn = s.porOn := rfl
@[simp] theorem elapse_porEnd (s : State) (dt : Nat) : (elapse s dt).porEnd = s.porEnd := rfl
@[simp] theorem elapse_vaonBad (s : State) (dt : Nat) : (elapse s dt).vaonBad = s.vaonBad := rfl
@[simp] theorem elapse_rstLow (s : State) (dt : Nat) : (elapse s dt).rstLow = s.rstLow := rfl
@[simp] theorem elapse_perstLow (s : State) (dt : Nat) : (elapse s dt).perstLow = s.perstLow := rfl
@[simp] theorem elapse_tapIr (s : State) (dt : Nat) : (elapse s dt).tapIr = s.tapIr := rfl
@[simp] theorem elapse_wakeQ (s : State) (dt : Nat) : (elapse s dt).wakeQ = s.wakeQ := rfl
@[simp] theorem elapse_sleepQ (s : State) (dt : Nat) : (elapse s dt).sleepQ = s.sleepQ := rfl
@[simp] theorem elapse_wakeAt (s : State) (dt : Nat) : (elapse s dt).wakeAt = s.wakeAt := rfl
@[simp] theorem elapse_gln (s : State) (dt : Nat) : (elapse s dt).gln = s.gln := rfl
@[simp] theorem elapse_trigOut (s : State) (dt : Nat) : (elapse s dt).trigOut = s.trigOut := rfl
@[simp] theorem elapse_trigBus (s : State) (dt : Nat) : (elapse s dt).trigBus = s.trigBus := rfl
@[simp] theorem elapse_pdEn (s : State) (dt : Nat) : (elapse s dt).pdEn = s.pdEn := rfl
@[simp] theorem elapse_pdEnAt (s : State) (dt : Nat) : (elapse s dt).pdEnAt = s.pdEnAt := rfl
@[simp] theorem elapse_pending (s : State) (dt : Nat) : (elapse s dt).pending = s.pending := rfl
@[simp] theorem elapse_toLightPart (s : State) (dt : Nat) : (elapse s dt).toLightPart = s.toLightPart := rfl
@[simp] theorem elapse_toCommitPart (s : State) (dt : Nat) : (elapse s dt).toCommitPart = s.toCommitPart := rfl
@[simp] theorem elapse_toLoopPart (s : State) (dt : Nat) : (elapse s dt).toLoopPart = s.toLoopPart := rfl
@[simp] theorem elapse_toDrillPart (s : State) (dt : Nat) : (elapse s dt).toDrillPart = s.toDrillPart := rfl
@[simp] theorem elapse_toSensePart (s : State) (dt : Nat) : (elapse s dt).toSensePart = s.toSensePart := rfl
@[simp] theorem elapse_toCalPart (s : State) (dt : Nat) : (elapse s dt).toCalPart = s.toCalPart := rfl
@[simp] theorem elapse_toReqPart (s : State) (dt : Nat) : (elapse s dt).toReqPart = s.toReqPart := rfl
@[simp] theorem elapse_toGovPart (s : State) (dt : Nat) : (elapse s dt).toGovPart = s.toGovPart := rfl
@[simp] theorem elapse_toFaultPart (s : State) (dt : Nat) : (elapse s dt).toFaultPart = s.toFaultPart := rfl
@[simp] theorem elapse_toMemPart (s : State) (dt : Nat) : (elapse s dt).toMemPart = s.toMemPart := rfl
@[simp] theorem elapse_toBootPart (s : State) (dt : Nat) : (elapse s dt).toBootPart = s.toBootPart := rfl
@[simp] theorem elapse_toGleanPart (s : State) (dt : Nat) : (elapse s dt).toGleanPart = s.toGleanPart := rfl
@[simp] theorem elapse_toPinPart (s : State) (dt : Nat) : (elapse s dt).toPinPart = s.toPinPart := rfl

/-! ### setTb -/

@[simp] theorem setTb_regs (b : Nat) (t : TBase) (s : State) : (setTb b t s).regs = s.regs := rfl
@[simp] theorem setTb_resp (b : Nat) (t : TBase) (s : State) : (setTb b t s).resp = s.resp := rfl
@[simp] theorem setTb_sent (b : Nat) (t : TBase) (s : State) : (setTb b t s).sent = s.sent := rfl
@[simp] theorem setTb_hwSet (b : Nat) (t : TBase) (s : State) : (setTb b t s).hwSet = s.hwSet := rfl
@[simp] theorem setTb_msix (b : Nat) (t : TBase) (s : State) : (setTb b t s).msix = s.msix := rfl
@[simp] theorem setTb_msixDue (b : Nat) (t : TBase) (s : State) : (setTb b t s).msixDue = s.msixDue := rfl
@[simp] theorem setTb_freeCtr (b : Nat) (t : TBase) (s : State) : (setTb b t s).freeCtr = s.freeCtr := rfl
@[simp] theorem setTb_popMode (b : Nat) (t : TBase) (s : State) : (setTb b t s).popMode = s.popMode := rfl
@[simp] theorem setTb_ownIn (b : Nat) (t : TBase) (s : State) : (setTb b t s).ownIn = s.ownIn := rfl
@[simp] theorem setTb_ownOut (b : Nat) (t : TBase) (s : State) : (setTb b t s).ownOut = s.ownOut := rfl
@[simp] theorem setTb_litThr (b : Nat) (t : TBase) (s : State) : (setTb b t s).litThr = s.litThr := rfl
@[simp] theorem setTb_litHyst (b : Nat) (t : TBase) (s : State) : (setTb b t s).litHyst = s.litHyst := rfl
@[simp] theorem setTb_lit (b : Nat) (t : TBase) (s : State) : (setTb b t s).lit = s.lit := rfl
@[simp] theorem setTb_overIn (b : Nat) (t : TBase) (s : State) : (setTb b t s).overIn = s.overIn := rfl
@[simp] theorem setTb_hiRun (b : Nat) (t : TBase) (s : State) : (setTb b t s).hiRun = s.hiRun := rfl
@[simp] theorem setTb_loRun (b : Nat) (t : TBase) (s : State) : (setTb b t s).loRun = s.loRun := rfl
@[simp] theorem setTb_present (b : Nat) (t : TBase) (s : State) : (setTb b t s).present = s.present := rfl
@[simp] theorem setTb_projected (b : Nat) (t : TBase) (s : State) : (setTb b t s).projected = s.projected := rfl
@[simp] theorem setTb_gateOpen (b : Nat) (t : TBase) (s : State) : (setTb b t s).gateOpen = s.gateOpen := rfl
@[simp] theorem setTb_sched (b : Nat) (t : TBase) (s : State) : (setTb b t s).sched = s.sched := rfl
@[simp] theorem setTb_ready (b : Nat) (t : TBase) (s : State) : (setTb b t s).ready = s.ready := rfl
@[simp] theorem setTb_solving (b : Nat) (t : TBase) (s : State) : (setTb b t s).solving = s.solving := rfl
@[simp] theorem setTb_accepted (b : Nat) (t : TBase) (s : State) : (setTb b t s).accepted = s.accepted := rfl
@[simp] theorem setTb_closed (b : Nat) (t : TBase) (s : State) : (setTb b t s).closed = s.closed := rfl
@[simp] theorem setTb_commit (b : Nat) (t : TBase) (s : State) : (setTb b t s).commit = s.commit := rfl
@[simp] theorem setTb_lastT0 (b : Nat) (t : TBase) (s : State) : (setTb b t s).lastT0 = s.lastT0 := rfl
@[simp] theorem setTb_unseen (b : Nat) (t : TBase) (s : State) : (setTb b t s).unseen = s.unseen := rfl
@[simp] theorem setTb_shLevel (b : Nat) (t : TBase) (s : State) : (setTb b t s).shLevel = s.shLevel := rfl
@[simp] theorem setTb_shStamp (b : Nat) (t : TBase) (s : State) : (setTb b t s).shStamp = s.shStamp := rfl
@[simp] theorem setTb_captureWait (b : Nat) (t : TBase) (s : State) : (setTb b t s).captureWait = s.captureWait := rfl
@[simp] theorem setTb_tsq (b : Nat) (t : TBase) (s : State) : (setTb b t s).tsq = s.tsq := rfl
@[simp] theorem setTb_ppsTb (b : Nat) (t : TBase) (s : State) : (setTb b t s).ppsTb = s.ppsTb := rfl
@[simp] theorem setTb_ppsHighUntil (b : Nat) (t : TBase) (s : State) : (setTb b t s).ppsHighUntil = s.ppsHighUntil := rfl
@[simp] theorem setTb_rotArmed (b : Nat) (t : TBase) (s : State) : (setTb b t s).rotArmed = s.rotArmed := rfl
@[simp] theorem setTb_rotMarked (b : Nat) (t : TBase) (s : State) : (setTb b t s).rotMarked = s.rotMarked := rfl
@[simp] theorem setTb_rotReady (b : Nat) (t : TBase) (s : State) : (setTb b t s).rotReady = s.rotReady := rfl
@[simp] theorem setTb_rot (b : Nat) (t : TBase) (s : State) : (setTb b t s).rot = s.rot := rfl
@[simp] theorem setTb_loops (b : Nat) (t : TBase) (s : State) : (setTb b t s).loops = s.loops := rfl
@[simp] theorem setTb_trc (b : Nat) (t : TBase) (s : State) : (setTb b t s).trc = s.trc := rfl
@[simp] theorem setTb_eng (b : Nat) (t : TBase) (s : State) : (setTb b t s).eng = s.eng := rfl
@[simp] theorem setTb_frameAt (b : Nat) (t : TBase) (s : State) : (setTb b t s).frameAt = s.frameAt := rfl
@[simp] theorem setTb_dithFrame (b : Nat) (t : TBase) (s : State) : (setTb b t s).dithFrame = s.dithFrame := rfl
@[simp] theorem setTb_parked (b : Nat) (t : TBase) (s : State) : (setTb b t s).parked = s.parked := rfl
@[simp] theorem setTb_chans (b : Nat) (t : TBase) (s : State) : (setTb b t s).chans = s.chans := rfl
@[simp] theorem setTb_playing (b : Nat) (t : TBase) (s : State) : (setTb b t s).playing = s.playing := rfl
@[simp] theorem setTb_seedLast (b : Nat) (t : TBase) (s : State) : (setTb b t s).seedLast = s.seedLast := rfl
@[simp] theorem setTb_dgWake (b : Nat) (t : TBase) (s : State) : (setTb b t s).dgWake = s.dgWake := rfl
@[simp] theorem setTb_vpkBad (b : Nat) (t : TBase) (s : State) : (setTb b t s).vpkBad = s.vpkBad := rfl
@[simp] theorem setTb_vhtrBad (b : Nat) (t : TBase) (s : State) : (setTb b t s).vhtrBad = s.vhtrBad := rfl
@[simp] theorem setTb_sns (b : Nat) (t : TBase) (s : State) : (setTb b t s).sns = s.sns := rfl
@[simp] theorem setTb_slcs (b : Nat) (t : TBase) (s : State) : (setTb b t s).slcs = s.slcs := rfl
@[simp] theorem setTb_convs (b : Nat) (t : TBase) (s : State) : (setTb b t s).convs = s.convs := rfl
@[simp] theorem setTb_rsvPend (b : Nat) (t : TBase) (s : State) : (setTb b t s).rsvPend = s.rsvPend := rfl
@[simp] theorem setTb_elec (b : Nat) (t : TBase) (s : State) : (setTb b t s).elec = s.elec := rfl
@[simp] theorem setTb_bias (b : Nat) (t : TBase) (s : State) : (setTb b t s).bias = s.bias := rfl
@[simp] theorem setTb_calMarks (b : Nat) (t : TBase) (s : State) : (setTb b t s).calMarks = s.calMarks := rfl
@[simp] theorem setTb_wsLoad (b : Nat) (t : TBase) (s : State) : (setTb b t s).wsLoad = s.wsLoad := rfl
@[simp] theorem setTb_snsSwap (b : Nat) (t : TBase) (s : State) : (setTb b t s).snsSwap = s.snsSwap := rfl
@[simp] theorem setTb_slcLoaded (b : Nat) (t : TBase) (s : State) : (setTb b t s).slcLoaded = s.slcLoaded := rfl
@[simp] theorem setTb_keys (b : Nat) (t : TBase) (s : State) : (setTb b t s).keys = s.keys := rfl
@[simp] theorem setTb_txSeq (b : Nat) (t : TBase) (s : State) : (setTb b t s).txSeq = s.txSeq := rfl
@[simp] theorem setTb_telemSeq (b : Nat) (t : TBase) (s : State) : (setTb b t s).telemSeq = s.telemSeq := rfl
@[simp] theorem setTb_telemQ (b : Nat) (t : TBase) (s : State) : (setTb b t s).telemQ = s.telemQ := rfl
@[simp] theorem setTb_telemLost (b : Nat) (t : TBase) (s : State) : (setTb b t s).telemLost = s.telemLost := rfl
@[simp] theorem setTb_replay (b : Nat) (t : TBase) (s : State) : (setTb b t s).replay = s.replay := rfl
@[simp] theorem setTb_tokC (b : Nat) (t : TBase) (s : State) : (setTb b t s).tokC = s.tokC := rfl
@[simp] theorem setTb_tokP (b : Nat) (t : TBase) (s : State) : (setTb b t s).tokP = s.tokP := rfl
@[simp] theorem setTb_tokAt (b : Nat) (t : TBase) (s : State) : (setTb b t s).tokAt = s.tokAt := rfl
@[simp] theorem setTb_queues (b : Nat) (t : TBase) (s : State) : (setTb b t s).queues = s.queues := rfl
@[simp] theorem setTb_vtime (b : Nat) (t : TBase) (s : State) : (setTb b t s).vtime = s.vtime := rfl
@[simp] theorem setTb_lastFin (b : Nat) (t : TBase) (s : State) : (setTb b t s).lastFin = s.lastFin := rfl
@[simp] theorem setTb_uidNext (b : Nat) (t : TBase) (s : State) : (setTb b t s).uidNext = s.uidNext := rfl
@[simp] theorem setTb_queryCnt (b : Nat) (t : TBase) (s : State) : (setTb b t s).queryCnt = s.queryCnt := rfl
@[simp] theorem setTb_tagFails (b : Nat) (t : TBase) (s : State) : (setTb b t s).tagFails = s.tagFails := rfl
@[simp] theorem setTb_tagSec (b : Nat) (t : TBase) (s : State) : (setTb b t s).tagSec = s.tagSec := rfl
@[simp] theorem setTb_tagBurst (b : Nat) (t : TBase) (s : State) : (setTb b t s).tagBurst = s.tagBurst := rfl
@[simp] theorem setTb_planAt (b : Nat) (t : TBase) (s : State) : (setTb b t s).planAt = s.planAt := rfl
@[simp] theorem setTb_hbAt (b : Nat) (t : TBase) (s : State) : (setTb b t s).hbAt = s.hbAt := rfl
@[simp] theorem setTb_rotLoader (b : Nat) (t : TBase) (s : State) : (setTb b t s).rotLoader = s.rotLoader := rfl
@[simp] theorem setTb_urpIn (b : Nat) (t : TBase) (s : State) : (setTb b t s).urpIn = s.urpIn := rfl
@[simp] theorem setTb_txWait (b : Nat) (t : TBase) (s : State) : (setTb b t s).txWait = s.txWait := rfl
@[simp] theorem setTb_txRing (b : Nat) (t : TBase) (s : State) : (setTb b t s).txRing = s.txRing := rfl
@[simp] theorem setTb_siteHist (b : Nat) (t : TBase) (s : State) : (setTb b t s).siteHist = s.siteHist := rfl
@[simp] theorem setTb_lastSite (b : Nat) (t : TBase) (s : State) : (setTb b t s).lastSite = s.lastSite := rfl
@[simp] theorem setTb_convSite (b : Nat) (t : TBase) (s : State) : (setTb b t s).convSite = s.convSite := rfl
@[simp] theorem setTb_convAt (b : Nat) (t : TBase) (s : State) : (setTb b t s).convAt = s.convAt := rfl
@[simp] theorem setTb_fallSince (b : Nat) (t : TBase) (s : State) : (setTb b t s).fallSince = s.fallSince := rfl
@[simp] theorem setTb_stepAt (b : Nat) (t : TBase) (s : State) : (setTb b t s).stepAt = s.stepAt := rfl
@[simp] theorem setTb_hrep (b : Nat) (t : TBase) (s : State) : (setTb b t s).hrep = s.hrep := rfl
@[simp] theorem setTb_lowSince (b : Nat) (t : TBase) (s : State) : (setTb b t s).lowSince = s.lowSince := rfl
@[simp] theorem setTb_serveHot (b : Nat) (t : TBase) (s : State) : (setTb b t s).serveHot = s.serveHot := rfl
@[simp] theorem setTb_serveOk (b : Nat) (t : TBase) (s : State) : (setTb b t s).serveOk = s.serveOk := rfl
@[simp] theorem setTb_withdrawn (b : Nat) (t : TBase) (s : State) : (setTb b t s).withdrawn = s.withdrawn := rfl
@[simp] theorem setTb_parkAt (b : Nat) (t : TBase) (s : State) : (setTb b t s).parkAt = s.parkAt := rfl
@[simp] theorem setTb_fltRaised (b : Nat) (t : TBase) (s : State) : (setTb b t s).fltRaised = s.fltRaised := rfl
@[simp] theorem setTb_fltLogged (b : Nat) (t : TBase) (s : State) : (setTb b t s).fltLogged = s.fltLogged := rfl
@[simp] theorem setTb_escAt (b : Nat) (t : TBase) (s : State) : (setTb b t s).escAt = s.escAt := rfl
@[simp] theorem setTb_escDet (b : Nat) (t : TBase) (s : State) : (setTb b t s).escDet = s.escDet := rfl
@[simp] theorem setTb_supplyOut (b : Nat) (t : TBase) (s : State) : (setTb b t s).supplyOut = s.supplyOut := rfl
@[simp] theorem setTb_supplyIn (b : Nat) (t : TBase) (s : State) : (setTb b t s).supplyIn = s.supplyIn := rfl
@[simp] theorem setTb_supplyArmed (b : Nat) (t : TBase) (s : State) : (setTb b t s).supplyArmed = s.supplyArmed := rfl
@[simp] theorem setTb_aliveLvl (b : Nat) (t : TBase) (s : State) : (setTb b t s).aliveLvl = s.aliveLvl := rfl
@[simp] theorem setTb_aliveAt (b : Nat) (t : TBase) (s : State) : (setTb b t s).aliveAt = s.aliveAt := rfl
@[simp] theorem setTb_supLease (b : Nat) (t : TBase) (s : State) : (setTb b t s).supLease = s.supLease := rfl
@[simp] theorem setTb_dram (b : Nat) (t : TBase) (s : State) : (setTb b t s).dram = s.dram := rfl
@[simp] theorem setTb_spm (b : Nat) (t : TBase) (s : State) : (setTb b t s).spm = s.spm := rfl
@[simp] theorem setTb_sram (b : Nat) (t : TBase) (s : State) : (setTb b t s).sram = s.sram := rfl
@[simp] theorem setTb_rom (b : Nat) (t : TBase) (s : State) : (setTb b t s).rom = s.rom := rfl
@[simp] theorem setTb_barriers (b : Nat) (t : TBase) (s : State) : (setTb b t s).barriers = s.barriers := rfl
@[simp] theorem setTb_hostFence (b : Nat) (t : TBase) (s : State) : (setTb b t s).hostFence = s.hostFence := rfl
@[simp] theorem setTb_remapPend (b : Nat) (t : TBase) (s : State) : (setTb b t s).remapPend = s.remapPend := rfl
@[simp] theorem setTb_modePend (b : Nat) (t : TBase) (s : State) : (setTb b t s).modePend = s.modePend := rfl
@[simp] theorem setTb_confCount (b : Nat) (t : TBase) (s : State) : (setTb b t s).confCount = s.confCount := rfl
@[simp] theorem setTb_confMs (b : Nat) (t : TBase) (s : State) : (setTb b t s).confMs = s.confMs := rfl
@[simp] theorem setTb_confDone (b : Nat) (t : TBase) (s : State) : (setTb b t s).confDone = s.confDone := rfl
@[simp] theorem setTb_hrwAt (b : Nat) (t : TBase) (s : State) : (setTb b t s).hrwAt = s.hrwAt := rfl
@[simp] theorem setTb_repairFuse (b : Nat) (t : TBase) (s : State) : (setTb b t s).repairFuse = s.repairFuse := rfl
@[simp] theorem setTb_repairBusy (b : Nat) (t : TBase) (s : State) : (setTb b t s).repairBusy = s.repairBusy := rfl
@[simp] theorem setTb_dieBad (b : Nat) (t : TBase) (s : State) : (setTb b t s).dieBad = s.dieBad := rfl
@[simp] theorem setTb_dieCrc (b : Nat) (t : TBase) (s : State) : (setTb b t s).dieCrc = s.dieCrc := rfl
@[simp] theorem setTb_dieSec (b : Nat) (t : TBase) (s : State) : (setTb b t s).dieSec = s.dieSec := rfl
@[simp] theorem setTb_bpmBuf (b : Nat) (t : TBase) (s : State) : (setTb b t s).bpmBuf = s.bpmBuf := rfl
@[simp] theorem setTb_bpmCache (b : Nat) (t : TBase) (s : State) : (setTb b t s).bpmCache = s.bpmCache := rfl
@[simp] theorem setTb_bpmRing (b : Nat) (t : TBase) (s : State) : (setTb b t s).bpmRing = s.bpmRing := rfl
@[simp] theorem setTb_bpmTurn (b : Nat) (t : TBase) (s : State) : (setTb b t s).bpmTurn = s.bpmTurn := rfl
@[simp] theorem setTb_bpmCycle (b : Nat) (t : TBase) (s : State) : (setTb b t s).bpmCycle = s.bpmCycle := rfl
@[simp] theorem setTb_bpmReq (b : Nat) (t : TBase) (s : State) : (setTb b t s).bpmReq = s.bpmReq := rfl
@[simp] theorem setTb_bpmFreed (b : Nat) (t : TBase) (s : State) : (setTb b t s).bpmFreed = s.bpmFreed := rfl
@[simp] theorem setTb_fuVariant (b : Nat) (t : TBase) (s : State) : (setTb b t s).fuVariant = s.fuVariant := rfl
@[simp] theorem setTb_fuUnit (b : Nat) (t : TBase) (s : State) : (setTb b t s).fuUnit = s.fuUnit := rfl
@[simp] theorem setTb_fuJtag (b : Nat) (t : TBase) (s : State) : (setTb b t s).fuJtag = s.fuJtag := rfl
@[simp] theorem setTb_fuProg (b : Nat) (t : TBase) (s : State) : (setTb b t s).fuProg = s.fuProg := rfl
@[simp] theorem setTb_fuRev (b : Nat) (t : TBase) (s : State) : (setTb b t s).fuRev = s.fuRev := rfl
@[simp] theorem setTb_fuHash (b : Nat) (t : TBase) (s : State) : (setTb b t s).fuHash = s.fuHash := rfl
@[simp] theorem setTb_fuSeal (b : Nat) (t : TBase) (s : State) : (setTb b t s).fuSeal = s.fuSeal := rfl
@[simp] theorem setTb_fuEpoch (b : Nat) (t : TBase) (s : State) : (setTb b t s).fuEpoch = s.fuEpoch := rfl
@[simp] theorem setTb_useEpoch (b : Nat) (t : TBase) (s : State) : (setTb b t s).useEpoch = s.useEpoch := rfl
@[simp] theorem setTb_useHash (b : Nat) (t : TBase) (s : State) : (setTb b t s).useHash = s.useHash := rfl
@[simp] theorem setTb_fuBusy (b : Nat) (t : TBase) (s : State) : (setTb b t s).fuBusy = s.fuBusy := rfl
@[simp] theorem setTb_pubReady (b : Nat) (t : TBase) (s : State) : (setTb b t s).pubReady = s.pubReady := rfl
@[simp] theorem setTb_attOpen (b : Nat) (t : TBase) (s : State) : (setTb b t s).attOpen = s.attOpen := rfl
@[simp] theorem setTb_bootBusy (b : Nat) (t : TBase) (s : State) : (setTb b t s).bootBusy = s.bootBusy := rfl
@[simp] theorem setTb_planBase (b : Nat) (t : TBase) (s : State) : (setTb b t s).planBase = s.planBase := rfl
@[simp] theorem setTb_resetEnd (b : Nat) (t : TBase) (s : State) : (setTb b t s).resetEnd = s.resetEnd := rfl
@[simp] theorem setTb_holdAt (b : Nat) (t : TBase) (s : State) : (setTb b t s).holdAt = s.holdAt := rfl
@[simp] theorem setTb_porOn (b : Nat) (t : TBase) (s : State) : (setTb b t s).porOn = s.porOn := rfl
@[simp] theorem setTb_porEnd (b : Nat) (t : TBase) (s : State) : (setTb b t s).porEnd = s.porEnd := rfl
@[simp] theorem setTb_vaonBad (b : Nat) (t : TBase) (s : State) : (setTb b t s).vaonBad = s.vaonBad := rfl
@[simp] theorem setTb_rstLow (b : Nat) (t : TBase) (s : State) : (setTb b t s).rstLow = s.rstLow := rfl
@[simp] theorem setTb_perstLow (b : Nat) (t : TBase) (s : State) : (setTb b t s).perstLow = s.perstLow := rfl
@[simp] theorem setTb_tapIr (b : Nat) (t : TBase) (s : State) : (setTb b t s).tapIr = s.tapIr := rfl
@[simp] theorem setTb_wakeQ (b : Nat) (t : TBase) (s : State) : (setTb b t s).wakeQ = s.wakeQ := rfl
@[simp] theorem setTb_sleepQ (b : Nat) (t : TBase) (s : State) : (setTb b t s).sleepQ = s.sleepQ := rfl
@[simp] theorem setTb_wakeAt (b : Nat) (t : TBase) (s : State) : (setTb b t s).wakeAt = s.wakeAt := rfl
@[simp] theorem setTb_gln (b : Nat) (t : TBase) (s : State) : (setTb b t s).gln = s.gln := rfl
@[simp] theorem setTb_trigOut (b : Nat) (t : TBase) (s : State) : (setTb b t s).trigOut = s.trigOut := rfl
@[simp] theorem setTb_trigBus (b : Nat) (t : TBase) (s : State) : (setTb b t s).trigBus = s.trigBus := rfl
@[simp] theorem setTb_pdEn (b : Nat) (t : TBase) (s : State) : (setTb b t s).pdEn = s.pdEn := rfl
@[simp] theorem setTb_pdEnAt (b : Nat) (t : TBase) (s : State) : (setTb b t s).pdEnAt = s.pdEnAt := rfl
@[simp] theorem setTb_pending (b : Nat) (t : TBase) (s : State) : (setTb b t s).pending = s.pending := rfl
@[simp] theorem setTb_toLightPart (b : Nat) (t : TBase) (s : State) : (setTb b t s).toLightPart = s.toLightPart := rfl
@[simp] theorem setTb_toCommitPart (b : Nat) (t : TBase) (s : State) : (setTb b t s).toCommitPart = s.toCommitPart := rfl
@[simp] theorem setTb_toLoopPart (b : Nat) (t : TBase) (s : State) : (setTb b t s).toLoopPart = s.toLoopPart := rfl
@[simp] theorem setTb_toDrillPart (b : Nat) (t : TBase) (s : State) : (setTb b t s).toDrillPart = s.toDrillPart := rfl
@[simp] theorem setTb_toSensePart (b : Nat) (t : TBase) (s : State) : (setTb b t s).toSensePart = s.toSensePart := rfl
@[simp] theorem setTb_toCalPart (b : Nat) (t : TBase) (s : State) : (setTb b t s).toCalPart = s.toCalPart := rfl
@[simp] theorem setTb_toReqPart (b : Nat) (t : TBase) (s : State) : (setTb b t s).toReqPart = s.toReqPart := rfl
@[simp] theorem setTb_toGovPart (b : Nat) (t : TBase) (s : State) : (setTb b t s).toGovPart = s.toGovPart := rfl
@[simp] theorem setTb_toFaultPart (b : Nat) (t : TBase) (s : State) : (setTb b t s).toFaultPart = s.toFaultPart := rfl
@[simp] theorem setTb_toMemPart (b : Nat) (t : TBase) (s : State) : (setTb b t s).toMemPart = s.toMemPart := rfl
@[simp] theorem setTb_toBootPart (b : Nat) (t : TBase) (s : State) : (setTb b t s).toBootPart = s.toBootPart := rfl
@[simp] theorem setTb_toGleanPart (b : Nat) (t : TBase) (s : State) : (setTb b t s).toGleanPart = s.toGleanPart := rfl
@[simp] theorem setTb_toPinPart (b : Nat) (t : TBase) (s : State) : (setTb b t s).toPinPart = s.toPinPart := rfl

/-- A field write leaves the registers that `setRaw` leaves. -/
@[simp] theorem setF_regs (x : Fld) (v : Nat) (s : State) :
    (setF x v s).regs = (setRaw s x.off (fldPut (rd s x.off) x v)).regs := rfl

end Sys2Proof.Machine
end

