-- ==== Sys2Proof/Laws/Settle.lean ====
section
/-! SUPPORT. What settling the vectors after a command can do (R541): it writes the pending bits and sends messages,
and changes nothing else; and how a command that is `run` completes. -/
namespace Sys2Proof.Machine
open Sys2Proof.Config

@[simp] theorem forEach_nil {α : Type} (g : α → State → State) (s : State) : forEach [] g s = s := rfl
@[simp] theorem forEach_cons {α : Type} (a : α) (l : List α) (g : α → State → State) (s : State) :
    forEach (a :: l) g s = forEach l g (g a s) := rfl

/-- What every update of a list keeps, the whole list keeps. -/
theorem forEach_keeps {α : Type} (P : State → Prop) (g : α → State → State) (l : List α)
    (h : ∀ a ∈ l, ∀ s, P s → P (g a s)) : ∀ s, P s → P (forEach l g s) := by
  induction l with
  | nil => intro s hs; exact hs
  | cons a l ih =>
    intro s hs
    exact ih (fun b hb => h b (List.mem_cons_of_mem _ hb)) _ (h a (by simp) s hs)

/-- A part of the state that no update of a list changes is unchanged by the whole list. -/
theorem forEach_same {α β : Type} (φ : State → β) (g : α → State → State) (l : List α)
    (h : ∀ a ∈ l, ∀ s, φ (g a s) = φ s) (s : State) : φ (forEach l g s) = φ s :=
  forEach_keeps (fun t => φ t = φ s) g l (fun a ha t ht => (h a ha t).trans ht) s rfl

/-- Registers and the messages of the vectors alone differ. -/
def OnlyMsix (s t : State) : Prop := ∃ r m d h, t = { s with regs := r, msix := m, msixDue := d, hwSet := h }

theorem onlyMsix_refl (s : State) : OnlyMsix s s := ⟨_, _, _, _, rfl⟩
theorem onlyMsix_trans {s t u : State} (h : OnlyMsix s t) (k : OnlyMsix t u) : OnlyMsix s u := by
  obtain ⟨r, m, d, x, e⟩ := h
  obtain ⟨r', m', d', x', e'⟩ := k
  exact ⟨r', m', d', x', by rw [e', e]⟩
theorem onlyMsix_forEach {α : Type} (g : α → State → State) (h : ∀ a s, OnlyMsix s (g a s)) (l : List α) (s : State) :
    OnlyMsix s (forEach l g s) :=
  forEach_keeps (fun t => OnlyMsix s t) g l (fun a _ t ht => onlyMsix_trans ht (h a t)) s (onlyMsix_refl s)

theorem dueMsix_eq (ev : Bool) (v : Nat) (s : State) : OnlyMsix s (dueMsix ev v s) := by
  unfold dueMsix; repeat' split
  all_goals exact ⟨_, _, _, _, rfl⟩
theorem owedMsix_eq (v : Nat) (s : State) : OnlyMsix s (owedMsix v s) := by
  unfold owedMsix; simp only; repeat' split
  · exact onlyMsix_trans ⟨s.regs, s.msix, _, s.hwSet, rfl⟩ (dueMsix_eq _ _ _)
  · exact onlyMsix_trans ⟨s.regs, s.msix, _, s.hwSet, rfl⟩ (dueMsix_eq _ _ _)
  all_goals exact ⟨_, _, _, _, rfl⟩
theorem dropPending_eq (v : Nat) (s : State) : OnlyMsix s (dropPending v s) := by
  unfold dropPending; split <;> exact ⟨_, _, _, _, rfl⟩
theorem flushPending_eq (v : Nat) (s : State) : OnlyMsix s (flushPending v s) := by
  unfold flushPending; split <;> exact ⟨_, _, _, _, rfl⟩

/-- Settling changes registers and the vectors' messages alone. -/
theorem settle_eq (s0 s : State) : ∃ r m d h, settle s0 s = { s with regs := r, msix := m, msixDue := d, hwSet := h } := by
  unfold settle
  exact onlyMsix_trans (onlyMsix_trans (onlyMsix_trans (onlyMsix_forEach _ (dueMsix_eq false) _ s)
    (onlyMsix_forEach _ owedMsix_eq _ _)) (onlyMsix_forEach _ dropPending_eq _ _)) (onlyMsix_forEach _ flushPending_eq _ _)

theorem rd_dueMsix (ev : Bool) (v : Nat) (s : State) {o : Nat} (h : o ≠ DMA_MSIX_PEND_pending.off) :
    rd (dueMsix ev v s) o = rd s o := by
  unfold dueMsix; repeat' split
  all_goals first | rfl | exact rd_setF_other _ _ _ h
theorem rd_owedMsix (v : Nat) (s : State) {o : Nat} (h : o ≠ DMA_MSIX_PEND_pending.off) : rd (owedMsix v s) o = rd s o := by
  unfold owedMsix; simp only; repeat' split
  · exact rd_dueMsix _ _ _ h
  · exact rd_dueMsix _ _ _ h
  all_goals rfl
theorem rd_dropPending (v : Nat) (s : State) {o : Nat} (h : o ≠ DMA_MSIX_PEND_pending.off) : rd (dropPending v s) o = rd s o := by
  unfold dropPending; split
  · exact rd_setF_other _ _ _ h
  · rfl
theorem rd_flushPending (v : Nat) (s : State) {o : Nat} (h : o ≠ DMA_MSIX_PEND_pending.off) :
    rd (flushPending v s) o = rd s o := by
  unfold flushPending; split
  · exact rd_setF_other _ _ _ h
  · rfl

/-- Settling leaves every register but DMA_MSIX_PEND alone. -/
theorem rd_settle (s0 s : State) {o : Nat} (h : o ≠ DMA_MSIX_PEND_pending.off) : rd (settle s0 s) o = rd s o := by
  unfold settle
  rw [forEach_same (fun t => rd t o) flushPending _ (fun v _ t => rd_flushPending v t h),
    forEach_same (fun t => rd t o) dropPending _ (fun v _ t => rd_dropPending v t h),
    forEach_same (fun t => rd t o) owedMsix _ (fun v _ t => rd_owedMsix v t h),
    forEach_same (fun t => rd t o) (dueMsix false) _ (fun v _ t => rd_dueMsix false v t h)]

theorem f_settle (s0 s : State) {x : Fld} (h : x.off ≠ DMA_MSIX_PEND_pending.off) : f (settle s0 s) x = f s x := by
  unfold f; rw [rd_settle _ _ h]
theorem fb_settle (s0 s : State) {x : Fld} (h : x.off ≠ DMA_MSIX_PEND_pending.off) : fb (settle s0 s) x = fb s x := by
  unfold fb; rw [f_settle _ _ h]

/-- How a command that is `run` completes while no POR is asserted. -/
theorem run_next {s : State} {dt : Nat} {g : State → State} (h : s.porOn = false) :
    run s dt g = .next (settle s (g (elapse s dt))) := by unfold run; rw [h]; rfl
/-- While POR is asserted only time passes (R527). -/
theorem run_por {s : State} {dt : Nat} {g : State → State} (h : s.porOn = true) :
    run s dt g = .next (elapse s dt) := by unfold run; rw [h]; rfl

@[simp] theorem rd_elapse (s : State) (dt o : Nat) : rd (elapse s dt) o = rd s o := rfl
@[simp] theorem f_elapse (s : State) (dt : Nat) (x : Fld) : f (elapse s dt) x = f s x := rfl
@[simp] theorem fb_elapse (s : State) (dt : Nat) (x : Fld) : fb (elapse s dt) x = fb s x := rfl
@[simp] theorem elapse_now (s : State) (dt : Nat) : (elapse s dt).clk.now = s.clk.now + dt := rfl

@[simp] theorem settle_resp (s0 s : State) : (settle s0 s).resp = s.resp := by
  obtain ⟨r, m, d, h, e⟩ := settle_eq s0 s; rw [e]
@[simp] theorem settle_sent (s0 s : State) : (settle s0 s).sent = s.sent := by
  obtain ⟨r, m, d, h, e⟩ := settle_eq s0 s; rw [e]
@[simp] theorem settle_freeCtr (s0 s : State) : (settle s0 s).freeCtr = s.freeCtr := by
  obtain ⟨r, m, d, h, e⟩ := settle_eq s0 s; rw [e]
@[simp] theorem settle_popMode (s0 s : State) : (settle s0 s).popMode = s.popMode := by
  obtain ⟨r, m, d, h, e⟩ := settle_eq s0 s; rw [e]
@[simp] theorem settle_ownIn (s0 s : State) : (settle s0 s).ownIn = s.ownIn := by
  obtain ⟨r, m, d, h, e⟩ := settle_eq s0 s; rw [e]
@[simp] theorem settle_ownOut (s0 s : State) : (settle s0 s).ownOut = s.ownOut := by
  obtain ⟨r, m, d, h, e⟩ := settle_eq s0 s; rw [e]
@[simp] theorem settle_litThr (s0 s : State) : (settle s0 s).litThr = s.litThr := by
  obtain ⟨r, m, d, h, e⟩ := settle_eq s0 s; rw [e]
@[simp] theorem settle_litHyst (s0 s : State) : (settle s0 s).litHyst = s.litHyst := by
  obtain ⟨r, m, d, h, e⟩ := settle_eq s0 s; rw [e]
@[simp] theorem settle_lit (s0 s : State) : (settle s0 s).lit = s.lit := by
  obtain ⟨r, m, d, h, e⟩ := settle_eq s0 s; rw [e]
@[simp] theorem settle_overIn (s0 s : State) : (settle s0 s).overIn = s.overIn := by
  obtain ⟨r, m, d, h, e⟩ := settle_eq s0 s; rw [e]
@[simp] theorem settle_hiRun (s0 s : State) : (settle s0 s).hiRun = s.hiRun := by
  obtain ⟨r, m, d, h, e⟩ := settle_eq s0 s; rw [e]
@[simp] theorem settle_loRun (s0 s : State) : (settle s0 s).loRun = s.loRun := by
  obtain ⟨r, m, d, h, e⟩ := settle_eq s0 s; rw [e]
@[simp] theorem settle_present (s0 s : State) : (settle s0 s).present = s.present := by
  obtain ⟨r, m, d, h, e⟩ := settle_eq s0 s; rw [e]
@[simp] theorem settle_projected (s0 s : State) : (settle s0 s).projected = s.projected := by
  obtain ⟨r, m, d, h, e⟩ := settle_eq s0 s; rw [e]
@[simp] theorem settle_gateOpen (s0 s : State) : (settle s0 s).gateOpen = s.gateOpen := by
  obtain ⟨r, m, d, h, e⟩ := settle_eq s0 s; rw [e]
@[simp] theorem settle_sched (s0 s : State) : (settle s0 s).sched = s.sched := by
  obtain ⟨r, m, d, h, e⟩ := settle_eq s0 s; rw [e]
@[simp] theorem settle_ready (s0 s : State) : (settle s0 s).ready = s.ready := by
  obtain ⟨r, m, d, h, e⟩ := settle_eq s0 s; rw [e]
@[simp] theorem settle_solving (s0 s : State) : (settle s0 s).solving = s.solving := by
  obtain ⟨r, m, d, h, e⟩ := settle_eq s0 s; rw [e]
@[simp] theorem settle_accepted (s0 s : State) : (settle s0 s).accepted = s.accepted := by
  obtain ⟨r, m, d, h, e⟩ := settle_eq s0 s; rw [e]
@[simp] theorem settle_closed (s0 s : State) : (settle s0 s).closed = s.closed := by
  obtain ⟨r, m, d, h, e⟩ := settle_eq s0 s; rw [e]
@[simp] theorem settle_commit (s0 s : State) : (settle s0 s).commit = s.commit := by
  obtain ⟨r, m, d, h, e⟩ := settle_eq s0 s; rw [e]
@[simp] theorem settle_lastT0 (s0 s : State) : (settle s0 s).lastT0 = s.lastT0 := by
  obtain ⟨r, m, d, h, e⟩ := settle_eq s0 s; rw [e]
@[simp] theorem settle_unseen (s0 s : State) : (settle s0 s).unseen = s.unseen := by
  obtain ⟨r, m, d, h, e⟩ := settle_eq s0 s; rw [e]
@[simp] theorem settle_shLevel (s0 s : State) : (settle s0 s).shLevel = s.shLevel := by
  obtain ⟨r, m, d, h, e⟩ := settle_eq s0 s; rw [e]
@[simp] theorem settle_shStamp (s0 s : State) : (settle s0 s).shStamp = s.shStamp := by
  obtain ⟨r, m, d, h, e⟩ := settle_eq s0 s; rw [e]
@[simp] theorem settle_captureWait (s0 s : State) : (settle s0 s).captureWait = s.captureWait := by
  obtain ⟨r, m, d, h, e⟩ := settle_eq s0 s; rw [e]
@[simp] theorem settle_clk (s0 s : State) : (settle s0 s).clk = s.clk := by
  obtain ⟨r, m, d, h, e⟩ := settle_eq s0 s; rw [e]
@[simp] theorem settle_tsq (s0 s : State) : (settle s0 s).tsq = s.tsq := by
  obtain ⟨r, m, d, h, e⟩ := settle_eq s0 s; rw [e]
@[simp] theorem settle_ppsTb (s0 s : State) : (settle s0 s).ppsTb = s.ppsTb := by
  obtain ⟨r, m, d, h, e⟩ := settle_eq s0 s; rw [e]
@[simp] theorem settle_ppsHighUntil (s0 s : State) : (settle s0 s).ppsHighUntil = s.ppsHighUntil := by
  obtain ⟨r, m, d, h, e⟩ := settle_eq s0 s; rw [e]
@[simp] theorem settle_rotArmed (s0 s : State) : (settle s0 s).rotArmed = s.rotArmed := by
  obtain ⟨r, m, d, h, e⟩ := settle_eq s0 s; rw [e]
@[simp] theorem settle_rotMarked (s0 s : State) : (settle s0 s).rotMarked = s.rotMarked := by
  obtain ⟨r, m, d, h, e⟩ := settle_eq s0 s; rw [e]
@[simp] theorem settle_rotReady (s0 s : State) : (settle s0 s).rotReady = s.rotReady := by
  obtain ⟨r, m, d, h, e⟩ := settle_eq s0 s; rw [e]
@[simp] theorem settle_rot (s0 s : State) : (settle s0 s).rot = s.rot := by
  obtain ⟨r, m, d, h, e⟩ := settle_eq s0 s; rw [e]
@[simp] theorem settle_loops (s0 s : State) : (settle s0 s).loops = s.loops := by
  obtain ⟨r, m, d, h, e⟩ := settle_eq s0 s; rw [e]
@[simp] theorem settle_trc (s0 s : State) : (settle s0 s).trc = s.trc := by
  obtain ⟨r, m, d, h, e⟩ := settle_eq s0 s; rw [e]
@[simp] theorem settle_eng (s0 s : State) : (settle s0 s).eng = s.eng := by
  obtain ⟨r, m, d, h, e⟩ := settle_eq s0 s; rw [e]
@[simp] theorem settle_frameAt (s0 s : State) : (settle s0 s).frameAt = s.frameAt := by
  obtain ⟨r, m, d, h, e⟩ := settle_eq s0 s; rw [e]
@[simp] theorem settle_dithFrame (s0 s : State) : (settle s0 s).dithFrame = s.dithFrame := by
  obtain ⟨r, m, d, h, e⟩ := settle_eq s0 s; rw [e]
@[simp] theorem settle_parked (s0 s : State) : (settle s0 s).parked = s.parked := by
  obtain ⟨r, m, d, h, e⟩ := settle_eq s0 s; rw [e]
@[simp] theorem settle_chans (s0 s : State) : (settle s0 s).chans = s.chans := by
  obtain ⟨r, m, d, h, e⟩ := settle_eq s0 s; rw [e]
@[simp] theorem settle_playing (s0 s : State) : (settle s0 s).playing = s.playing := by
  obtain ⟨r, m, d, h, e⟩ := settle_eq s0 s; rw [e]
@[simp] theorem settle_seedLast (s0 s : State) : (settle s0 s).seedLast = s.seedLast := by
  obtain ⟨r, m, d, h, e⟩ := settle_eq s0 s; rw [e]
@[simp] theorem settle_dgWake (s0 s : State) : (settle s0 s).dgWake = s.dgWake := by
  obtain ⟨r, m, d, h, e⟩ := settle_eq s0 s; rw [e]
@[simp] theorem settle_vpkBad (s0 s : State) : (settle s0 s).vpkBad = s.vpkBad := by
  obtain ⟨r, m, d, h, e⟩ := settle_eq s0 s; rw [e]
@[simp] theorem settle_vhtrBad (s0 s : State) : (settle s0 s).vhtrBad = s.vhtrBad := by
  obtain ⟨r, m, d, h, e⟩ := settle_eq s0 s; rw [e]
@[simp] theorem settle_sns (s0 s : State) : (settle s0 s).sns = s.sns := by
  obtain ⟨r, m, d, h, e⟩ := settle_eq s0 s; rw [e]
@[simp] theorem settle_slcs (s0 s : State) : (settle s0 s).slcs = s.slcs := by
  obtain ⟨r, m, d, h, e⟩ := settle_eq s0 s; rw [e]
@[simp] theorem settle_convs (s0 s : State) : (settle s0 s).convs = s.convs := by
  obtain ⟨r, m, d, h, e⟩ := settle_eq s0 s; rw [e]
@[simp] theorem settle_rsvPend (s0 s : State) : (settle s0 s).rsvPend = s.rsvPend := by
  obtain ⟨r, m, d, h, e⟩ := settle_eq s0 s; rw [e]
@[simp] theorem settle_elec (s0 s : State) : (settle s0 s).elec = s.elec := by
  obtain ⟨r, m, d, h, e⟩ := settle_eq s0 s; rw [e]
@[simp] theorem settle_bias (s0 s : State) : (settle s0 s).bias = s.bias := by
  obtain ⟨r, m, d, h, e⟩ := settle_eq s0 s; rw [e]
@[simp] theorem settle_calMarks (s0 s : State) : (settle s0 s).calMarks = s.calMarks := by
  obtain ⟨r, m, d, h, e⟩ := settle_eq s0 s; rw [e]
@[simp] theorem settle_wsLoad (s0 s : State) : (settle s0 s).wsLoad = s.wsLoad := by
  obtain ⟨r, m, d, h, e⟩ := settle_eq s0 s; rw [e]
@[simp] theorem settle_snsSwap (s0 s : State) : (settle s0 s).snsSwap = s.snsSwap := by
  obtain ⟨r, m, d, h, e⟩ := settle_eq s0 s; rw [e]
@[simp] theorem settle_slcLoaded (s0 s : State) : (settle s0 s).slcLoaded = s.slcLoaded := by
  obtain ⟨r, m, d, h, e⟩ := settle_eq s0 s; rw [e]
@[simp] theorem settle_keys (s0 s : State) : (settle s0 s).keys = s.keys := by
  obtain ⟨r, m, d, h, e⟩ := settle_eq s0 s; rw [e]
@[simp] theorem settle_txSeq (s0 s : State) : (settle s0 s).txSeq = s.txSeq := by
  obtain ⟨r, m, d, h, e⟩ := settle_eq s0 s; rw [e]
@[simp] theorem settle_telemSeq (s0 s : State) : (settle s0 s).telemSeq = s.telemSeq := by
  obtain ⟨r, m, d, h, e⟩ := settle_eq s0 s; rw [e]
@[simp] theorem settle_telemQ (s0 s : State) : (settle s0 s).telemQ = s.telemQ := by
  obtain ⟨r, m, d, h, e⟩ := settle_eq s0 s; rw [e]
@[simp] theorem settle_telemLost (s0 s : State) : (settle s0 s).telemLost = s.telemLost := by
  obtain ⟨r, m, d, h, e⟩ := settle_eq s0 s; rw [e]
@[simp] theorem settle_replay (s0 s : State) : (settle s0 s).replay = s.replay := by
  obtain ⟨r, m, d, h, e⟩ := settle_eq s0 s; rw [e]
@[simp] theorem settle_tokC (s0 s : State) : (settle s0 s).tokC = s.tokC := by
  obtain ⟨r, m, d, h, e⟩ := settle_eq s0 s; rw [e]
@[simp] theorem settle_tokP (s0 s : State) : (settle s0 s).tokP = s.tokP := by
  obtain ⟨r, m, d, h, e⟩ := settle_eq s0 s; rw [e]
@[simp] theorem settle_tokAt (s0 s : State) : (settle s0 s).tokAt = s.tokAt := by
  obtain ⟨r, m, d, h, e⟩ := settle_eq s0 s; rw [e]
@[simp] theorem settle_queues (s0 s : State) : (settle s0 s).queues = s.queues := by
  obtain ⟨r, m, d, h, e⟩ := settle_eq s0 s; rw [e]
@[simp] theorem settle_vtime (s0 s : State) : (settle s0 s).vtime = s.vtime := by
  obtain ⟨r, m, d, h, e⟩ := settle_eq s0 s; rw [e]
@[simp] theorem settle_lastFin (s0 s : State) : (settle s0 s).lastFin = s.lastFin := by
  obtain ⟨r, m, d, h, e⟩ := settle_eq s0 s; rw [e]
@[simp] theorem settle_uidNext (s0 s : State) : (settle s0 s).uidNext = s.uidNext := by
  obtain ⟨r, m, d, h, e⟩ := settle_eq s0 s; rw [e]
@[simp] theorem settle_queryCnt (s0 s : State) : (settle s0 s).queryCnt = s.queryCnt := by
  obtain ⟨r, m, d, h, e⟩ := settle_eq s0 s; rw [e]
@[simp] theorem settle_tagFails (s0 s : State) : (settle s0 s).tagFails = s.tagFails := by
  obtain ⟨r, m, d, h, e⟩ := settle_eq s0 s; rw [e]
@[simp] theorem settle_tagSec (s0 s : State) : (settle s0 s).tagSec = s.tagSec := by
  obtain ⟨r, m, d, h, e⟩ := settle_eq s0 s; rw [e]
@[simp] theorem settle_tagBurst (s0 s : State) : (settle s0 s).tagBurst = s.tagBurst := by
  obtain ⟨r, m, d, h, e⟩ := settle_eq s0 s; rw [e]
@[simp] theorem settle_planAt (s0 s : State) : (settle s0 s).planAt = s.planAt := by
  obtain ⟨r, m, d, h, e⟩ := settle_eq s0 s; rw [e]
@[simp] theorem settle_hbAt (s0 s : State) : (settle s0 s).hbAt = s.hbAt := by
  obtain ⟨r, m, d, h, e⟩ := settle_eq s0 s; rw [e]
@[simp] theorem settle_rotLoader (s0 s : State) : (settle s0 s).rotLoader = s.rotLoader := by
  obtain ⟨r, m, d, h, e⟩ := settle_eq s0 s; rw [e]
@[simp] theorem settle_urpIn (s0 s : State) : (settle s0 s).urpIn = s.urpIn := by
  obtain ⟨r, m, d, h, e⟩ := settle_eq s0 s; rw [e]
@[simp] theorem settle_txWait (s0 s : State) : (settle s0 s).txWait = s.txWait := by
  obtain ⟨r, m, d, h, e⟩ := settle_eq s0 s; rw [e]
@[simp] theorem settle_txRing (s0 s : State) : (settle s0 s).txRing = s.txRing := by
  obtain ⟨r, m, d, h, e⟩ := settle_eq s0 s; rw [e]
@[simp] theorem settle_siteHist (s0 s : State) : (settle s0 s).siteHist = s.siteHist := by
  obtain ⟨r, m, d, h, e⟩ := settle_eq s0 s; rw [e]
@[simp] theorem settle_lastSite (s0 s : State) : (settle s0 s).lastSite = s.lastSite := by
  obtain ⟨r, m, d, h, e⟩ := settle_eq s0 s; rw [e]
@[simp] theorem settle_convSite (s0 s : State) : (settle s0 s).convSite = s.convSite := by
  obtain ⟨r, m, d, h, e⟩ := settle_eq s0 s; rw [e]
@[simp] theorem settle_convAt (s0 s : State) : (settle s0 s).convAt = s.convAt := by
  obtain ⟨r, m, d, h, e⟩ := settle_eq s0 s; rw [e]
@[simp] theorem settle_fallSince (s0 s : State) : (settle s0 s).fallSince = s.fallSince := by
  obtain ⟨r, m, d, h, e⟩ := settle_eq s0 s; rw [e]
@[simp] theorem settle_stepAt (s0 s : State) : (settle s0 s).stepAt = s.stepAt := by
  obtain ⟨r, m, d, h, e⟩ := settle_eq s0 s; rw [e]
@[simp] theorem settle_hrep (s0 s : State) : (settle s0 s).hrep = s.hrep := by
  obtain ⟨r, m, d, h, e⟩ := settle_eq s0 s; rw [e]
@[simp] theorem settle_lowSince (s0 s : State) : (settle s0 s).lowSince = s.lowSince := by
  obtain ⟨r, m, d, h, e⟩ := settle_eq s0 s; rw [e]
@[simp] theorem settle_serveHot (s0 s : State) : (settle s0 s).serveHot = s.serveHot := by
  obtain ⟨r, m, d, h, e⟩ := settle_eq s0 s; rw [e]
@[simp] theorem settle_serveOk (s0 s : State) : (settle s0 s).serveOk = s.serveOk := by
  obtain ⟨r, m, d, h, e⟩ := settle_eq s0 s; rw [e]
@[simp] theorem settle_withdrawn (s0 s : State) : (settle s0 s).withdrawn = s.withdrawn := by
  obtain ⟨r, m, d, h, e⟩ := settle_eq s0 s; rw [e]
@[simp] theorem settle_parkAt (s0 s : State) : (settle s0 s).parkAt = s.parkAt := by
  obtain ⟨r, m, d, h, e⟩ := settle_eq s0 s; rw [e]
@[simp] theorem settle_fltRaised (s0 s : State) : (settle s0 s).fltRaised = s.fltRaised := by
  obtain ⟨r, m, d, h, e⟩ := settle_eq s0 s; rw [e]
@[simp] theorem settle_fltLogged (s0 s : State) : (settle s0 s).fltLogged = s.fltLogged := by
  obtain ⟨r, m, d, h, e⟩ := settle_eq s0 s; rw [e]
@[simp] theorem settle_escAt (s0 s : State) : (settle s0 s).escAt = s.escAt := by
  obtain ⟨r, m, d, h, e⟩ := settle_eq s0 s; rw [e]
@[simp] theorem settle_escDet (s0 s : State) : (settle s0 s).escDet = s.escDet := by
  obtain ⟨r, m, d, h, e⟩ := settle_eq s0 s; rw [e]
@[simp] theorem settle_supplyOut (s0 s : State) : (settle s0 s).supplyOut = s.supplyOut := by
  obtain ⟨r, m, d, h, e⟩ := settle_eq s0 s; rw [e]
@[simp] theorem settle_supplyIn (s0 s : State) : (settle s0 s).supplyIn = s.supplyIn := by
  obtain ⟨r, m, d, h, e⟩ := settle_eq s0 s; rw [e]
@[simp] theorem settle_supplyArmed (s0 s : State) : (settle s0 s).supplyArmed = s.supplyArmed := by
  obtain ⟨r, m, d, h, e⟩ := settle_eq s0 s; rw [e]
@[simp] theorem settle_aliveLvl (s0 s : State) : (settle s0 s).aliveLvl = s.aliveLvl := by
  obtain ⟨r, m, d, h, e⟩ := settle_eq s0 s; rw [e]
@[simp] theorem settle_aliveAt (s0 s : State) : (settle s0 s).aliveAt = s.aliveAt := by
  obtain ⟨r, m, d, h, e⟩ := settle_eq s0 s; rw [e]
@[simp] theorem settle_supLease (s0 s : State) : (settle s0 s).supLease = s.supLease := by
  obtain ⟨r, m, d, h, e⟩ := settle_eq s0 s; rw [e]
@[simp] theorem settle_dram (s0 s : State) : (settle s0 s).dram = s.dram := by
  obtain ⟨r, m, d, h, e⟩ := settle_eq s0 s; rw [e]
@[simp] theorem settle_spm (s0 s : State) : (settle s0 s).spm = s.spm := by
  obtain ⟨r, m, d, h, e⟩ := settle_eq s0 s; rw [e]
@[simp] theorem settle_sram (s0 s : State) : (settle s0 s).sram = s.sram := by
  obtain ⟨r, m, d, h, e⟩ := settle_eq s0 s; rw [e]
@[simp] theorem settle_rom (s0 s : State) : (settle s0 s).rom = s.rom := by
  obtain ⟨r, m, d, h, e⟩ := settle_eq s0 s; rw [e]
@[simp] theorem settle_barriers (s0 s : State) : (settle s0 s).barriers = s.barriers := by
  obtain ⟨r, m, d, h, e⟩ := settle_eq s0 s; rw [e]
@[simp] theorem settle_hostFence (s0 s : State) : (settle s0 s).hostFence = s.hostFence := by
  obtain ⟨r, m, d, h, e⟩ := settle_eq s0 s; rw [e]
@[simp] theorem settle_remapPend (s0 s : State) : (settle s0 s).remapPend = s.remapPend := by
  obtain ⟨r, m, d, h, e⟩ := settle_eq s0 s; rw [e]
@[simp] theorem settle_modePend (s0 s : State) : (settle s0 s).modePend = s.modePend := by
  obtain ⟨r, m, d, h, e⟩ := settle_eq s0 s; rw [e]
@[simp] theorem settle_confCount (s0 s : State) : (settle s0 s).confCount = s.confCount := by
  obtain ⟨r, m, d, h, e⟩ := settle_eq s0 s; rw [e]
@[simp] theorem settle_confMs (s0 s : State) : (settle s0 s).confMs = s.confMs := by
  obtain ⟨r, m, d, h, e⟩ := settle_eq s0 s; rw [e]
@[simp] theorem settle_confDone (s0 s : State) : (settle s0 s).confDone = s.confDone := by
  obtain ⟨r, m, d, h, e⟩ := settle_eq s0 s; rw [e]
@[simp] theorem settle_hrwAt (s0 s : State) : (settle s0 s).hrwAt = s.hrwAt := by
  obtain ⟨r, m, d, h, e⟩ := settle_eq s0 s; rw [e]
@[simp] theorem settle_repairFuse (s0 s : State) : (settle s0 s).repairFuse = s.repairFuse := by
  obtain ⟨r, m, d, h, e⟩ := settle_eq s0 s; rw [e]
@[simp] theorem settle_repairBusy (s0 s : State) : (settle s0 s).repairBusy = s.repairBusy := by
  obtain ⟨r, m, d, h, e⟩ := settle_eq s0 s; rw [e]
@[simp] theorem settle_dieBad (s0 s : State) : (settle s0 s).dieBad = s.dieBad := by
  obtain ⟨r, m, d, h, e⟩ := settle_eq s0 s; rw [e]
@[simp] theorem settle_dieCrc (s0 s : State) : (settle s0 s).dieCrc = s.dieCrc := by
  obtain ⟨r, m, d, h, e⟩ := settle_eq s0 s; rw [e]
@[simp] theorem settle_dieSec (s0 s : State) : (settle s0 s).dieSec = s.dieSec := by
  obtain ⟨r, m, d, h, e⟩ := settle_eq s0 s; rw [e]
@[simp] theorem settle_bpmBuf (s0 s : State) : (settle s0 s).bpmBuf = s.bpmBuf := by
  obtain ⟨r, m, d, h, e⟩ := settle_eq s0 s; rw [e]
@[simp] theorem settle_bpmCache (s0 s : State) : (settle s0 s).bpmCache = s.bpmCache := by
  obtain ⟨r, m, d, h, e⟩ := settle_eq s0 s; rw [e]
@[simp] theorem settle_bpmRing (s0 s : State) : (settle s0 s).bpmRing = s.bpmRing := by
  obtain ⟨r, m, d, h, e⟩ := settle_eq s0 s; rw [e]
@[simp] theorem settle_bpmTurn (s0 s : State) : (settle s0 s).bpmTurn = s.bpmTurn := by
  obtain ⟨r, m, d, h, e⟩ := settle_eq s0 s; rw [e]
@[simp] theorem settle_bpmCycle (s0 s : State) : (settle s0 s).bpmCycle = s.bpmCycle := by
  obtain ⟨r, m, d, h, e⟩ := settle_eq s0 s; rw [e]
@[simp] theorem settle_bpmReq (s0 s : State) : (settle s0 s).bpmReq = s.bpmReq := by
  obtain ⟨r, m, d, h, e⟩ := settle_eq s0 s; rw [e]
@[simp] theorem settle_bpmFreed (s0 s : State) : (settle s0 s).bpmFreed = s.bpmFreed := by
  obtain ⟨r, m, d, h, e⟩ := settle_eq s0 s; rw [e]
@[simp] theorem settle_fuVariant (s0 s : State) : (settle s0 s).fuVariant = s.fuVariant := by
  obtain ⟨r, m, d, h, e⟩ := settle_eq s0 s; rw [e]
@[simp] theorem settle_fuUnit (s0 s : State) : (settle s0 s).fuUnit = s.fuUnit := by
  obtain ⟨r, m, d, h, e⟩ := settle_eq s0 s; rw [e]
@[simp] theorem settle_fuJtag (s0 s : State) : (settle s0 s).fuJtag = s.fuJtag := by
  obtain ⟨r, m, d, h, e⟩ := settle_eq s0 s; rw [e]
@[simp] theorem settle_fuProg (s0 s : State) : (settle s0 s).fuProg = s.fuProg := by
  obtain ⟨r, m, d, h, e⟩ := settle_eq s0 s; rw [e]
@[simp] theorem settle_fuRev (s0 s : State) : (settle s0 s).fuRev = s.fuRev := by
  obtain ⟨r, m, d, h, e⟩ := settle_eq s0 s; rw [e]
@[simp] theorem settle_fuHash (s0 s : State) : (settle s0 s).fuHash = s.fuHash := by
  obtain ⟨r, m, d, h, e⟩ := settle_eq s0 s; rw [e]
@[simp] theorem settle_fuSeal (s0 s : State) : (settle s0 s).fuSeal = s.fuSeal := by
  obtain ⟨r, m, d, h, e⟩ := settle_eq s0 s; rw [e]
@[simp] theorem settle_fuEpoch (s0 s : State) : (settle s0 s).fuEpoch = s.fuEpoch := by
  obtain ⟨r, m, d, h, e⟩ := settle_eq s0 s; rw [e]
@[simp] theorem settle_useEpoch (s0 s : State) : (settle s0 s).useEpoch = s.useEpoch := by
  obtain ⟨r, m, d, h, e⟩ := settle_eq s0 s; rw [e]
@[simp] theorem settle_useHash (s0 s : State) : (settle s0 s).useHash = s.useHash := by
  obtain ⟨r, m, d, h, e⟩ := settle_eq s0 s; rw [e]
@[simp] theorem settle_fuBusy (s0 s : State) : (settle s0 s).fuBusy = s.fuBusy := by
  obtain ⟨r, m, d, h, e⟩ := settle_eq s0 s; rw [e]
@[simp] theorem settle_pubReady (s0 s : State) : (settle s0 s).pubReady = s.pubReady := by
  obtain ⟨r, m, d, h, e⟩ := settle_eq s0 s; rw [e]
@[simp] theorem settle_attOpen (s0 s : State) : (settle s0 s).attOpen = s.attOpen := by
  obtain ⟨r, m, d, h, e⟩ := settle_eq s0 s; rw [e]
@[simp] theorem settle_bootBusy (s0 s : State) : (settle s0 s).bootBusy = s.bootBusy := by
  obtain ⟨r, m, d, h, e⟩ := settle_eq s0 s; rw [e]
@[simp] theorem settle_planBase (s0 s : State) : (settle s0 s).planBase = s.planBase := by
  obtain ⟨r, m, d, h, e⟩ := settle_eq s0 s; rw [e]
@[simp] theorem settle_resetEnd (s0 s : State) : (settle s0 s).resetEnd = s.resetEnd := by
  obtain ⟨r, m, d, h, e⟩ := settle_eq s0 s; rw [e]
@[simp] theorem settle_holdAt (s0 s : State) : (settle s0 s).holdAt = s.holdAt := by
  obtain ⟨r, m, d, h, e⟩ := settle_eq s0 s; rw [e]
@[simp] theorem settle_porOn (s0 s : State) : (settle s0 s).porOn = s.porOn := by
  obtain ⟨r, m, d, h, e⟩ := settle_eq s0 s; rw [e]
@[simp] theorem settle_porEnd (s0 s : State) : (settle s0 s).porEnd = s.porEnd := by
  obtain ⟨r, m, d, h, e⟩ := settle_eq s0 s; rw [e]
@[simp] theorem settle_vaonBad (s0 s : State) : (settle s0 s).vaonBad = s.vaonBad := by
  obtain ⟨r, m, d, h, e⟩ := settle_eq s0 s; rw [e]
@[simp] theorem settle_rstLow (s0 s : State) : (settle s0 s).rstLow = s.rstLow := by
  obtain ⟨r, m, d, h, e⟩ := settle_eq s0 s; rw [e]
@[simp] theorem settle_perstLow (s0 s : State) : (settle s0 s).perstLow = s.perstLow := by
  obtain ⟨r, m, d, h, e⟩ := settle_eq s0 s; rw [e]
@[simp] theorem settle_tapIr (s0 s : State) : (settle s0 s).tapIr = s.tapIr := by
  obtain ⟨r, m, d, h, e⟩ := settle_eq s0 s; rw [e]
@[simp] theorem settle_wakeQ (s0 s : State) : (settle s0 s).wakeQ = s.wakeQ := by
  obtain ⟨r, m, d, h, e⟩ := settle_eq s0 s; rw [e]
@[simp] theorem settle_sleepQ (s0 s : State) : (settle s0 s).sleepQ = s.sleepQ := by
  obtain ⟨r, m, d, h, e⟩ := settle_eq s0 s; rw [e]
@[simp] theorem settle_wakeAt (s0 s : State) : (settle s0 s).wakeAt = s.wakeAt := by
  obtain ⟨r, m, d, h, e⟩ := settle_eq s0 s; rw [e]
@[simp] theorem settle_gln (s0 s : State) : (settle s0 s).gln = s.gln := by
  obtain ⟨r, m, d, h, e⟩ := settle_eq s0 s; rw [e]
@[simp] theorem settle_trigOut (s0 s : State) : (settle s0 s).trigOut = s.trigOut := by
  obtain ⟨r, m, d, h, e⟩ := settle_eq s0 s; rw [e]
@[simp] theorem settle_trigBus (s0 s : State) : (settle s0 s).trigBus = s.trigBus := by
  obtain ⟨r, m, d, h, e⟩ := settle_eq s0 s; rw [e]
@[simp] theorem settle_pdEn (s0 s : State) : (settle s0 s).pdEn = s.pdEn := by
  obtain ⟨r, m, d, h, e⟩ := settle_eq s0 s; rw [e]
@[simp] theorem settle_pdEnAt (s0 s : State) : (settle s0 s).pdEnAt = s.pdEnAt := by
  obtain ⟨r, m, d, h, e⟩ := settle_eq s0 s; rw [e]
@[simp] theorem settle_pending (s0 s : State) : (settle s0 s).pending = s.pending := by
  obtain ⟨r, m, d, h, e⟩ := settle_eq s0 s; rw [e]
@[simp] theorem settle_toLightPart (s0 s : State) : (settle s0 s).toLightPart = s.toLightPart := by
  obtain ⟨r, m, d, h, e⟩ := settle_eq s0 s; rw [e]
@[simp] theorem settle_toCommitPart (s0 s : State) : (settle s0 s).toCommitPart = s.toCommitPart := by
  obtain ⟨r, m, d, h, e⟩ := settle_eq s0 s; rw [e]
@[simp] theorem settle_toTimePart (s0 s : State) : (settle s0 s).toTimePart = s.toTimePart := by
  obtain ⟨r, m, d, h, e⟩ := settle_eq s0 s; rw [e]
@[simp] theorem settle_toLoopPart (s0 s : State) : (settle s0 s).toLoopPart = s.toLoopPart := by
  obtain ⟨r, m, d, h, e⟩ := settle_eq s0 s; rw [e]
@[simp] theorem settle_toDrillPart (s0 s : State) : (settle s0 s).toDrillPart = s.toDrillPart := by
  obtain ⟨r, m, d, h, e⟩ := settle_eq s0 s; rw [e]
@[simp] theorem settle_toSensePart (s0 s : State) : (settle s0 s).toSensePart = s.toSensePart := by
  obtain ⟨r, m, d, h, e⟩ := settle_eq s0 s; rw [e]
@[simp] theorem settle_toCalPart (s0 s : State) : (settle s0 s).toCalPart = s.toCalPart := by
  obtain ⟨r, m, d, h, e⟩ := settle_eq s0 s; rw [e]
@[simp] theorem settle_toReqPart (s0 s : State) : (settle s0 s).toReqPart = s.toReqPart := by
  obtain ⟨r, m, d, h, e⟩ := settle_eq s0 s; rw [e]
@[simp] theorem settle_toGovPart (s0 s : State) : (settle s0 s).toGovPart = s.toGovPart := by
  obtain ⟨r, m, d, h, e⟩ := settle_eq s0 s; rw [e]
@[simp] theorem settle_toFaultPart (s0 s : State) : (settle s0 s).toFaultPart = s.toFaultPart := by
  obtain ⟨r, m, d, h, e⟩ := settle_eq s0 s; rw [e]
@[simp] theorem settle_toMemPart (s0 s : State) : (settle s0 s).toMemPart = s.toMemPart := by
  obtain ⟨r, m, d, h, e⟩ := settle_eq s0 s; rw [e]
@[simp] theorem settle_toBootPart (s0 s : State) : (settle s0 s).toBootPart = s.toBootPart := by
  obtain ⟨r, m, d, h, e⟩ := settle_eq s0 s; rw [e]
@[simp] theorem settle_toGleanPart (s0 s : State) : (settle s0 s).toGleanPart = s.toGleanPart := by
  obtain ⟨r, m, d, h, e⟩ := settle_eq s0 s; rw [e]
@[simp] theorem settle_toPinPart (s0 s : State) : (settle s0 s).toPinPart = s.toPinPart := by
  obtain ⟨r, m, d, h, e⟩ := settle_eq s0 s; rw [e]

end Sys2Proof.Machine
end

