-- ==== Sys2Proof/Laws/Completes.lean ====
section
/-! SUPPORT. How the terms of the claims compose: a command that is `run` completes with what its effect leaves, settling
keeps every frame, and a frame is kept by each named update. -/
namespace Sys2Proof.Machine
open Sys2Proof.Config

/-- A command whose meaning is `run` completes while no POR is asserted, with what its effect leaves, settled. -/
theorem completes_run {c : Instr} {s : State} {dt : Nat} {g : State → State} {P : State → Prop}
    (he : exec c s = run s dt g) (hp : s.porOn = false) (h : P (settle s (g (elapse s dt)))) : Completes c s P :=
  ⟨_, he.trans (run_next hp), h⟩

theorem onlyRegs_iff {s t : State} {dt : Nat} : OnlyRegs s dt t ↔ OnlyMsix (elapse s dt) t :=
  ⟨fun h => ⟨_, _, _, _, h⟩, fun ⟨r, m, d, x, h⟩ => by subst h; rfl⟩
theorem onlyRegsResp_iff {s t : State} {dt : Nat} :
    OnlyRegsResp s dt t ↔ ∃ q, OnlyMsix { elapse s dt with resp := q } t :=
  ⟨fun h => ⟨_, _, _, _, _, h⟩, fun ⟨q, r, m, d, x, h⟩ => by subst h; rfl⟩

theorem onlyMsix_setRaw {s t : State} (o : Nat) (w : Word) (h : OnlyMsix s t) : OnlyMsix s (setRaw t o w) :=
  onlyMsix_trans h ⟨_, t.msix, t.msixDue, t.hwSet, rfl⟩
theorem onlyMsix_setF {s t : State} (x : Fld) (v : Nat) (h : OnlyMsix s t) : OnlyMsix s (setF x v t) :=
  onlyMsix_trans h ⟨_, t.msix, t.msixDue, _, rfl⟩
theorem onlyMsix_settle {s t : State} (s0 : State) (h : OnlyMsix s t) : OnlyMsix s (settle s0 t) :=
  onlyMsix_trans h (settle_eq s0 t)

theorem onlyRegs_elapse (s : State) (dt : Nat) : OnlyRegs s dt (elapse s dt) := rfl
theorem onlyRegs_setRaw {s t : State} {dt : Nat} (o : Nat) (w : Word) (h : OnlyRegs s dt t) : OnlyRegs s dt (setRaw t o w) :=
  onlyRegs_iff.2 (onlyMsix_setRaw o w (onlyRegs_iff.1 h))
theorem onlyRegs_setF {s t : State} {dt : Nat} (x : Fld) (v : Nat) (h : OnlyRegs s dt t) : OnlyRegs s dt (setF x v t) :=
  onlyRegs_iff.2 (onlyMsix_setF x v (onlyRegs_iff.1 h))
theorem onlyRegs_forEach {α : Type} {s t : State} {dt : Nat} (g : α → State → State) (l : List α)
    (hg : ∀ a ∈ l, ∀ u, OnlyRegs s dt u → OnlyRegs s dt (g a u)) (h : OnlyRegs s dt t) : OnlyRegs s dt (forEach l g t) :=
  forEach_keeps _ g l hg t h
theorem onlyRegs_settle {s t : State} {dt : Nat} (s0 : State) (h : OnlyRegs s dt t) : OnlyRegs s dt (settle s0 t) :=
  onlyRegs_iff.2 (onlyMsix_settle s0 (onlyRegs_iff.1 h))

theorem onlyRegsResp_of {s t : State} {dt : Nat} (h : OnlyRegs s dt t) : OnlyRegsResp s dt t :=
  onlyRegsResp_iff.2 ⟨s.resp, onlyRegs_iff.1 h⟩
theorem onlyRegsResp_setRaw {s t : State} {dt : Nat} (o : Nat) (w : Word) (h : OnlyRegsResp s dt t) :
    OnlyRegsResp s dt (setRaw t o w) := by
  obtain ⟨q, h⟩ := onlyRegsResp_iff.1 h; exact onlyRegsResp_iff.2 ⟨q, onlyMsix_setRaw o w h⟩
theorem onlyRegsResp_setF {s t : State} {dt : Nat} (x : Fld) (v : Nat) (h : OnlyRegsResp s dt t) :
    OnlyRegsResp s dt (setF x v t) := by
  obtain ⟨q, h⟩ := onlyRegsResp_iff.1 h; exact onlyRegsResp_iff.2 ⟨q, onlyMsix_setF x v h⟩
theorem onlyRegsResp_resp {s t : State} {dt : Nat} (q : Resp) (h : OnlyRegsResp s dt t) :
    OnlyRegsResp s dt { t with resp := q } := by
  obtain ⟨q', r, m, d, x, e⟩ := onlyRegsResp_iff.1 h; subst e; rfl
theorem onlyRegsResp_settle {s t : State} {dt : Nat} (s0 : State) (h : OnlyRegsResp s dt t) :
    OnlyRegsResp s dt (settle s0 t) := by
  obtain ⟨q, h⟩ := onlyRegsResp_iff.1 h; exact onlyRegsResp_iff.2 ⟨q, onlyMsix_settle s0 h⟩

theorem regsKept_elapse (l : List Nat) (s : State) (dt : Nat) : RegsKept l s (elapse s dt) := fun _ _ _ => rfl
theorem regsKept_refl (l : List Nat) (s : State) : RegsKept l s s := fun _ _ _ => rfl
theorem regsKept_congr {l : List Nat} {s t u : State} (h : RegsKept l s t) (e : u.regs = t.regs) : RegsKept l s u :=
  fun o ho hp => (rd_congr e o).trans (h o ho hp)
theorem regsKept_setRaw {l : List Nat} {s t : State} {o : Nat} (w : Word) (h : RegsKept l s t) (ho : o ∈ l) :
    RegsKept l s (setRaw t o w) := by
  intro p hp hq
  rw [rd_setRaw_other]
  · exact h p hp hq
  · intro e; exact hp (e ▸ ho)
theorem regsKept_setF {l : List Nat} {s t : State} {x : Fld} (v : Nat) (h : RegsKept l s t) (ho : x.off ∈ l) :
    RegsKept l s (setF x v t) := regsKept_setRaw _ h ho
theorem regsKept_settle {l : List Nat} {s t : State} (s0 : State) (h : RegsKept l s t) : RegsKept l s (settle s0 t) :=
  fun o ho hp => (rd_settle s0 t hp).trans (h o ho hp)
theorem regsKept_dueMsix {l : List Nat} {s t : State} (ev : Bool) (v : Nat) (h : RegsKept l s t) : RegsKept l s (dueMsix ev v t) :=
  fun o ho hp => (rd_dueMsix ev v t hp).trans (h o ho hp)
theorem regsKept_forEach {α : Type} {l : List Nat} {s t : State} (g : α → State → State) (m : List α)
    (hg : ∀ a ∈ m, ∀ u, RegsKept l s u → RegsKept l s (g a u)) (h : RegsKept l s t) : RegsKept l s (forEach m g t) :=
  forEach_keeps _ g m hg t h

/-! ### What the passing of time alone leaves -/

@[simp] theorem domOn_elapse (s : State) (dt d : Nat) : domOn (elapse s dt) d = domOn s d := rfl
@[simp] theorem pd24Up_elapse (s : State) (dt : Nat) : pd24Up (elapse s dt) = pd24Up s := rfl
@[simp] theorem masterLive_elapse (s : State) (dt m : Nat) : masterLive (elapse s dt) m = masterLive s m := rfl
@[simp] theorem blockOn_elapse (s : State) (dt o : Nat) : blockOn (elapse s dt) o = blockOn s o := rfl
@[simp] theorem regOpen_elapse (s : State) (dt m o : Nat) (w : Bool) : regOpen (elapse s dt) m o w = regOpen s m o w := rfl
@[simp] theorem bootState_elapse (s : State) (dt : Nat) : bootState (elapse s dt) = bootState s := rfl
@[simp] theorem inSafe_elapse (s : State) (dt : Nat) : inSafe (elapse s dt) = inSafe s := rfl
@[simp] theorem sealed_elapse (s : State) (dt : Nat) : sealed (elapse s dt) = sealed s := rfl
@[simp] theorem targetOf_elapse (s : State) (dt a : Nat) : targetOf (elapse s dt) a = targetOf s a := rfl

/-- A supervisor reaches every register of a block that is on. -/
theorem regOpen_sup {s : State} {o : Nat} {w : Bool} (h : blockOn s o = true) : regOpen s 0 o w = true := by
  unfold regOpen; simp [h]
/-- A live master does not stall (R410). -/
theorem supStall_live {m : Nat} {s : State} (h : masterLive s m = true) : supStall m s = s := by
  unfold supStall
  by_cases hm : m = 0
  · subst hm
    have : supHeld s = true := by unfold masterLive at h; unfold supHeld; simp only [Bool.and_eq_true] at h; exact h.2
    simp [this]
  · simp [hm]
/-- What a live master does through the matrix. -/
theorem onIssue_live {m : Nat} {g : State → State} {s : State} (h : masterLive s m = true) : onIssue m g s = g s := by
  unfold onIssue; simp only [supStall_live h, h, if_true]
/-- A master that can issue nothing and waits for no lease does nothing. -/
theorem onIssue_dead {m : Nat} {g : State → State} {s : State} (hm : masterLive s m = false) (hs : supStall m s = s) :
    onIssue m g s = s := by unfold onIssue; simp [hs, hm]
/-- A register command of a live master that reaches its register. -/
theorem regCmd_open {m o : Nat} {g : State → State} {s : State} (hm : masterLive s m = true)
    (ho : regOpen s m o true = true) : regCmd m o g s = g s := by unfold regCmd; rw [onIssue_live hm, if_pos ho]
/-- Of a master that can issue nothing. -/
theorem regCmd_dead {m o : Nat} {g : State → State} {s : State} (hm : masterLive s m = false) (hs : supStall m s = s) :
    regCmd m o g s = s := onIssue_dead hm hs
/-- Of a live master that does not reach its register: counted (R39, R420). -/
theorem regCmd_closed {m o : Nat} {g : State → State} {s : State} (hm : masterLive s m = true)
    (ho : regOpen s m o true = false) : regCmd m o g s = countUnassigned s := by unfold regCmd; rw [onIssue_live hm]; simp [ho]

end Sys2Proof.Machine
end

