-- ==== Sys2Proof/Laws/Raise.lean ====
section
/-! SUPPORT. What a raise does when it neither enters the safe state nor acts on a loop, an engine or a supervisor core
(R391 to R394, R398, R399): it writes registers of FLT and the collector's own timers, and nothing else. -/
namespace Sys2Proof.Machine
open Sys2Proof.Config

/-- Only registers of FLT and the collector's own state differ. -/
def OnlyFlt (s t : State) : Prop :=
  (∃ r h p, t = { s with regs := r, hwSet := h, toFaultPart := p }) ∧ ∀ o, ¬ (0x20000 ≤ o ∧ o < 0x30000) → rd t o = rd s o

theorem onlyFlt_refl (s : State) : OnlyFlt s s := ⟨⟨_, _, _, rfl⟩, fun _ _ => rfl⟩
theorem onlyFlt_trans {s t u : State} (h : OnlyFlt s t) (k : OnlyFlt t u) : OnlyFlt s u := by
  obtain ⟨⟨r, x, p, e⟩, h⟩ := h
  obtain ⟨⟨r', x', p', e'⟩, k⟩ := k
  exact ⟨⟨r', x', p', by rw [e', e]⟩, fun o ho => (k o ho).trans (h o ho)⟩
theorem onlyFlt_setRaw (s : State) (o : Nat) (w : Word) (h : 0x20000 ≤ o ∧ o < 0x30000) : OnlyFlt s (setRaw s o w) :=
  ⟨⟨_, s.hwSet, s.toFaultPart, rfl⟩, fun p hp => rd_setRaw_other s (fun e : p = o => hp (e ▸ h)) w⟩
theorem onlyFlt_setF (s : State) (x : Fld) (v : Nat) (h : 0x20000 ≤ x.off ∧ x.off < 0x30000) : OnlyFlt s (setF x v s) :=
  ⟨⟨_, _, s.toFaultPart, rfl⟩, fun p hp => rd_setF_other s x v (fun e : p = x.off => hp (e ▸ h))⟩
/-- A field of FLT written after updates of FLT. -/
theorem onlyFlt_setF' {s t : State} (x : Fld) (v : Nat) (k : OnlyFlt s t) (h : 0x20000 ≤ x.off ∧ x.off < 0x30000) :
    OnlyFlt s (setF x v t) := onlyFlt_trans k (onlyFlt_setF t x v h)
theorem onlyFlt_part (s : State) (p : FaultPart) : OnlyFlt s { s with toFaultPart := p } :=
  ⟨⟨s.regs, s.hwSet, p, rfl⟩, fun _ _ => rfl⟩
theorem onlyFlt_forEach {α : Type} (g : α → State → State) (l : List α) (h : ∀ a ∈ l, ∀ s, OnlyFlt s (g a s)) (s : State) :
    OnlyFlt s (forEach l g s) :=
  forEach_keeps (fun t => OnlyFlt s t) g l (fun a ha t ht => onlyFlt_trans ht (h a ha t)) s (onlyFlt_refl s)

theorem logPut_onlyFlt {w : Nat} (hw : w < 256) (n sev : Nat) (e en : Bool) (d : Nat) (s : State) :
    OnlyFlt s (logPut w n sev e en d s) := by
  unfold logPut setB
  simp only
  refine onlyFlt_setF' _ _ (onlyFlt_setF' _ _ (onlyFlt_setF' _ _ (onlyFlt_setF' _ _ (onlyFlt_setF' _ _ (onlyFlt_setF' _ _
    (onlyFlt_setF _ _ _ ?_) ?_) ?_) ?_) ?_) ?_) ?_ <;>
  simp only [FLT_LOG0_source, FLT_LOG0_severity, FLT_LOG0_escalated, FLT_LOG0_entered_safe, FLT_LOG1_detail, FLT_LOG2_ns,
    FLT_LOG3_sec_low] <;> omega

theorem logTaken_onlyFlt (n : Nat) (s : State) : OnlyFlt s (logTaken n s) := by
  unfold logTaken
  generalize hs2 : (if f s FLT_LOG_STAT_wptr = 255 then setF FLT_LOG_STAT_wrapped 1 s else s) = s2
  have h2 : OnlyFlt s s2 := by
    rw [← hs2]; split
    · exact onlyFlt_setF _ _ _ (by decide)
    · exact onlyFlt_refl s
  exact onlyFlt_trans (onlyFlt_trans h2 (onlyFlt_setF s2 FLT_LOG_STAT_wptr (f s2 FLT_LOG_STAT_wptr + 1) (by decide)))
    (onlyFlt_part (inc FLT_LOG_STAT_wptr s2) { s2.toFaultPart with fltLogged := atPut s2.fltLogged n (some s2.clk.now) })

theorem logShift_onlyFlt (e : Nat) (s : State) : OnlyFlt s (logShift e s) := by
  have he : e % 256 < 256 := Nat.mod_lt _ (by decide)
  unfold logShift
  refine onlyFlt_forEach _ _ (fun x hx t => onlyFlt_setRaw t _ _ ?_) s
  simp only [List.mem_cons, List.not_mem_nil, or_false] at hx
  rcases hx with rfl | rfl | rfl | rfl <;>
    simp only [FLT_LOG0_source, FLT_LOG1_detail, FLT_LOG2_ns, FLT_LOG3_sec_low] <;> omega

theorem logRaise_onlyFlt (n sev : Nat) (en : Bool) (d : Nat) (s : State) : OnlyFlt s (logRaise n sev en d s) := by
  unfold logRaise
  simp only
  exact onlyFlt_trans (onlyFlt_trans (onlyFlt_forEach _ _ (fun i _ t => logShift_onlyFlt _ t) s)
    (logPut_onlyFlt (Nat.mod_lt _ (by decide)) _ _ _ _ _ _)) (logTaken_onlyFlt _ _)

theorem startTimer_onlyFlt (n d : Nat) (s : State) : OnlyFlt s (startTimer n d s) := by
  unfold startTimer
  split
  · exact onlyFlt_refl s
  · exact onlyFlt_part s _

/-- Sources whose remedy acts on a loop, an engine or a core. -/
def hasRemedy (n : Nat) : Bool := n == 1 || n == 7 || n == 8 || n == 10

theorem remedy_eq {n : Nat} (h : hasRemedy n = false) (d : Nat) (g : Bool) (s : State) : remedy n d g s = s := by
  unfold remedy
  simp only
  split <;> first | rfl | (simp [hasRemedy] at h)

/-- A raise of a source with no remedy and a severity below SAFE writes registers of FLT and the collector's state
alone. -/
theorem raise_onlyFlt {n d : Nat} {s : State} (hn : n < 48) (hs : sevOf s n < 4) (hr : hasRemedy n = false) :
    OnlyFlt s (raise n d s) := by
  have hb : n / 32 < 2 := by omega
  unfold raise
  simp only
  split
  · exact onlyFlt_refl s
  · generalize hs1 : inc (FLT_CNT_count n) { s with fltRaised := atPut s.fltRaised n (some s.clk.now) } = s1
    have h1 : OnlyFlt s s1 := by
      rw [← hs1]
      refine onlyFlt_trans (onlyFlt_part s { s.toFaultPart with fltRaised := atPut s.fltRaised n (some s.clk.now) }) ?_
      unfold inc
      exact onlyFlt_setF _ _ _ (by simp only [FLT_CNT_count]; omega)
    have h2 : OnlyFlt s (if loggedSoon n s1 = true then incSat FLT_LOG_STAT_merged s1
        else logRaise n (sevOf s n) (sevOf s n == 4 && !fb s FLT_STAT_self_fault && !inSafe s) d s1) := by
      split
      · unfold incSat; exact onlyFlt_trans h1 (onlyFlt_setF _ _ _ (by decide))
      · exact onlyFlt_trans h1 (logRaise_onlyFlt _ _ _ _ _)
    generalize (if loggedSoon n s1 = true then incSat FLT_LOG_STAT_merged s1
        else logRaise n (sevOf s n) (sevOf s n == 4 && !fb s FLT_STAT_self_fault && !inSafe s) d s1) = s2 at h2 ⊢
    split
    · exact h2
    · unfold actSeverity
      simp only [remedy_eq hr]
      rw [if_neg (show ¬ sevOf s n = 4 by omega)]
      have h3 : OnlyFlt s (if sevOf s n = 0 then s2 else setF (pendBit n) 1 s2) := by
        split
        · exact h2
        · exact onlyFlt_trans h2 (onlyFlt_setF _ _ _ (by simp only [pendBit, srcBit, FLT_PEND_LO_pending]; omega))
      split
      · exact onlyFlt_trans h3 (startTimer_onlyFlt _ _ _)
      · exact h3

end Sys2Proof.Machine
end

