-- ==== Sys2Proof/WellFormed.lean ====
section
/-! DEFINITION. Well-formed commands: every operand lies in the range the spec gives the thing it names. -/
namespace Sys2Proof

/-- A master that reaches registers: SUP (0) or PCIE (6) (Table 13-1). -/
def regMaster (m : Nat) : Bool := m == 0 || m == 6
/-- A drive channel of a window (Table 7-1). -/
def winChan (w ch : Nat) : Bool := decide (w < 18) && decide (ch < (if w < 16 then 960 else if w = 16 then 512 else 2048))
/-- A loop slot of a window (Table 1-5). -/
def winSlot (w sl : Nat) : Bool := decide (w < 18) && decide (sl < (if w < 16 then 720 else if w = 16 then 512 else 2048))
/-- A sensing channel of a window (Table 8-1). -/
def winSens (w i : Nat) : Bool := decide (w < 18) && decide (i < (if w < 16 then 480 else 1024))
/-- A slice of a window, the spare included (Table 8-3). -/
def winSlice (w k : Nat) : Bool := decide (w < 18) && decide (k < (if w < 16 then 17 else 9))

/-- Every operand lies in its range. -/
def Instr.wf : Instr → Bool
  | .registerWrite _ m a size v => regMaster m && decide (a < 0x4000000) && [1, 2, 4, 8].contains size && decide (a % size = 0) && decide (v < 256 ^ size)
  | .rcRead _ m a size => regMaster m && decide (a < 0x4000000) && [1, 2, 4, 8].contains size && decide (a % size = 0)
  | .unassignedAccess _ m a size _ => decide (m < 8) && decide (a < 2 ^ 34) && [1, 2, 4, 8].contains size && decide (a % size = 0)
  | .bar2Access _ x size _ => decide (x < 0x10000000) && [1, 2, 4, 8].contains size && decide (x % size = 0)
  | .portEvaluation _ n _ _ _ => decide (n < 256)
  | .portLit _ n _ _ _ => decide (n < 256)
  | .portDark _ n _ _ _ => decide (n < 256)
  | .fairQueueSelect _ => true
  | .scheduledRelease _ => true
  | .solveComplete _ fault => decide (fault < 3)
  | .solveWatchdog _ => true
  | .fwSolveComplete _ _ => true
  | .hwEnWrite _ m v => regMaster m && decide (v < 2 ^ 32)
  | .mapCapture _ m n => regMaster m && decide (n < 4096)
  | .mapCaptureCopy _ => true
  | .mapValidate _ m n => regMaster m && decide (n < 4096)
  | .membershipClose _ => true
  | .commitTick _ => true
  | .routingWaveformStart _ => true
  | .verifyStrobe _ latched urgent => decide (latched.length ≤ 256) && decide (urgent.length ≤ 256)
  | .verifyDecision _ => true
  | .gateOpen _ => true
  | .commitComplete _ => true
  | .unseenLateVerify _ out _ _ => decide (out < 256)
  | .burstWrite _ m v => regMaster m && decide (v < 2 ^ 32)
  | .tbCtrlWrite _ m b v => regMaster m && decide (b < 4) && decide (v < 2 ^ 32)
  | .tbSnap _ m => regMaster m
  | .tbFreqWrite _ m b v => regMaster m && decide (b < 4) && decide (v < 2 ^ 32)
  | .tbAdjStep _ m b frac => regMaster m && decide (b < 4) && decide (frac < 65536)
  | .tbAdjSlew _ m b frac => regMaster m && decide (b < 4) && decide (frac < 65536)
  | .slewEnd _ b => decide (b < 4)
  | .tbCmdAcquire _ m b => regMaster m && decide (b < 4)
  | .tbCmdLocked _ m b => regMaster m && decide (b < 4)
  | .tbCmdHoldover _ m b => regMaster m && decide (b < 4)
  | .tbCmdFree _ m b => regMaster m && decide (b < 4)
  | .tbServoWatchdog _ b => decide (b < 4)
  | .ppsInEdge _ => true
  | .ppsMissing _ b => decide (b < 4)
  | .holdoverLimit _ b => decide (b < 4)
  | .tsqPop _ m n => regMaster m && decide (n < 2)
  | .ppsOutPulse _ => true
  | .rotArm _ m t => regMaster m && decide (t < 16)
  | .rotStart _ m t => regMaster m && decide (t < 16)
  | .rotStopHold _ m t => regMaster m && decide (t < 16)
  | .rotStopDark _ m t => regMaster m && decide (t < 16)
  | .rotDiscard _ m t => regMaster m && decide (t < 16)
  | .rotFirstCommit _ => true
  | .rotSlotBoundary _ => true
  | .rotLoadArm _ => true
  | .rotLoadStart _ => true
  | .rotLoadStopHold _ => true
  | .rotLoadStopDark _ => true
  | .rotLoadDiscard _ => true
  | .rotLoadWriteArm _ => true
  | .frameBoundary _ samples => samples.all (fun e => winSens (e.1 / 4096) (e.1 % 4096) && decide (e.2.1 < 16384) && decide (e.2.2 < 16384))
  | .leaseExpire _ w => decide (w < 18)
  | .quarterBoundary _ q samples refs => decide (q < 4) && samples.all (fun e => winSens (e.1 / 4096) (e.1 % 4096) && decide (e.2.1 < 16384) && decide (e.2.2 < 16384)) && refs.all (fun e => winSlice (e.1 / 32) (e.1 % 32) && decide (e.2.1 < 16384) && decide (e.2.2 < 16384))
  | .loopUpdate _ w sl cmp _ _ => winSlot w sl && decide (cmp < 3)
  | .loopDeadlineMiss _ w sl => winSlot w sl
  | .quickQuarter _ _ k samples => decide (1 ≤ k) && decide (k ≤ 8) && samples.all (fun e => winSens (e.1 / 4096) (e.1 % 4096) && decide (e.2.1 < 16384) && decide (e.2.2 < 16384))
  | .quickUpdate _ w sl n cmp _ _ => winSlot w sl && decide (1 ≤ n) && decide (n ≤ 3) && decide (cmp < 3)
  | .engineRepair _ m w k => regMaster m && decide (w < 18) && decide (k < 2)
  | .engineResyncDone _ w k _ => decide (w < 18) && decide (k < 2)
  | .pairRun _ m w => regMaster m && decide (w < 18)
  | .pairStop _ m w => regMaster m && decide (w < 18)
  | .traceArm _ m w => regMaster m && decide (w < 18)
  | .traceForce _ m w => regMaster m && decide (w < 18)
  | .traceTrigger _ w => decide (w < 18)
  | .tracePostDone _ w => decide (w < 18)
  | .codeTick _ w ch => winChan w ch
  | .deglitchRelease _ w ch _ => winChan w ch
  | .slewLimiterStep _ w ch => winChan w ch
  | .swCodePush _ m w ch v => regMaster m && winChan w ch && decide (v < 2 ^ 32)
  | .rangeWrite _ m w ch v => regMaster m && winChan w ch && decide (v < 2 ^ 32)
  | .rangeApply _ w ch => winChan w ch
  | .segWrite _ m w ch v => regMaster m && winChan w ch && decide (v < 2 ^ 32)
  | .segmentTakeover _ w ch => winChan w ch
  | .gateMonitorFail _ w ch => winChan w ch
  | .heaterOpen _ w ch => winChan w ch
  | .heaterShort _ w ch => winChan w ch
  | .htrShortClear _ m w ch => regMaster m && winChan w ch
  | .testPlay _ m w ch wave len => regMaster m && winChan w ch && decide (wave < 256) && decide (len < 64)
  | .seedGo _ m w settle => regMaster m && decide (w < 18) && decide (settle < 65536)
  | .seedSettled _ w => decide (w < 18)
  | .sampleMissed _ w i => winSens w i
  | .windowLeave _ w i _ => winSens w i
  | .sliceFail _ w k _ => winSlice w k
  | .bgCalTurn _ w => decide (w < 18)
  | .bgCalDone _ w trims refs => decide (w < 18) && decide (trims.1 < 256) && decide (trims.2 < 256) && decide (refs.1 < 16384) && decide (refs.2 < 16384)
  | .electrodeFail _ w i bias cells => winSens w i && decide (bias.length ≤ 4) && decide (cells.length = bias.length) && cells.all (fun c => decide (c < 16384))
  | .reserveElectrodeFail _ w e => winSens w e.1 && decide (e.2.1.length ≤ 4) && decide (e.2.2.length = e.2.1.length) && e.2.2.all (fun c => decide (c < 16384))
  | .reserveSelect _ m w i _ => regMaster m && winSens w i
  | .calVerify _ m => regMaster m
  | .calVerifyDone _ => true
  | .calActivate _ m => regMaster m
  | .calInvalidate _ m => regMaster m
  | .workingSetLoad _ w => decide (w < 18)
  | .sensorHalfSwap _ w => decide (w < 18)
  | .calMark _ m w sl _ => regMaster m && decide (w < 32) && decide (sl < 4096)
  | .calEnd _ m w sl => regMaster m && decide (w < 32) && decide (sl < 4096)
  | .calAbandon _ m w sl => regMaster m && decide (w < 32) && decide (sl < 4096)
  | .calStaleLimit _ w sl => decide (w < 18) && decide (sl < 4096)
  | .linkUp _ p => decide (p < 2)
  | .linkDown _ p _ => decide (p < 2)
  | .frameReceive _ p l _ => decide (p < 2) && l.all (fun b => decide (b < 256))
  | .frameTransmit _ p => decide (p < 2)
  | .sheafReq _ => true
  | .query _ => true
  | .heartbeat _ => true
  | .heartbeatPeriodic _ => true
  | .telemSend _ t => decide (t < 64)
  | .keyLoad _ m t slot => regMaster m && decide (t < 64) && decide (slot < 2)
  | .keyErase _ m t slot => regMaster m && decide (t < 64) && decide (slot < 2)
  | .instanceWrite _ m v => regMaster m && decide (v < 2 ^ 32)
  | .tenantWeightZero _ m t => regMaster m && decide (t < 64)
  | .queueSample _ => true
  | .histClear _ m => regMaster m
  | .tempDemandWrite _ m _ v => regMaster m && decide (v < 2 ^ 32)
  | .demandTimer _ => true
  | .tempConversionDone _ t => decide (-32768 ≤ t) && decide (t < 32768)
  | .stepFall _ => true
  | .heaterBudgetEval _ => true
  | .floorWrite _ m n => regMaster m && decide (n < 8)
  | .stepTableWrite _ m n _ v => regMaster m && decide (n < 8) && decide (v < 2 ^ 32)
  | .domainWake _ d => decide (d < 30)
  | .domainSleep _ d n k => decide (d < 30) && decide (n ≤ 32) && decide (k < 256)
  | .domainFail _ d n k => decide (d < 30) && decide (n ≤ 32) && decide (k < 256)
  | .domainRetry _ m d => regMaster m && decide (d < 30)
  | .fallowWrite _ m v => regMaster m && decide (v < 2 ^ 32)
  | .devReqRun _ m => regMaster m
  | .devReqPark _ m => regMaster m
  | .devReqStandby _ m => regMaster m
  | .parkEnter _ => true
  | .parkWaitTimeout _ => true
  | .standbyEnter _ => true
  | .wakeComplete _ => true
  | .vaonLoss _ => true
  | .escalationExpiry _ n => decide (n < 48)
  | .faultAck _ m n => regMaster m && decide (n < 48)
  | .escalatedClear _ m n => regMaster m && decide (n < 48)
  | .safeEnterCmd _ m => regMaster m
  | .safeRelease _ m => regMaster m
  | .fltLock _ m => regMaster m
  | .collectorSelfFault _ _ _ _ _ => true
  | .aliveToggle _ => true
  | .serveSet _ m => regMaster m
  | .supplyOutOfRange _ n => decide (35 ≤ n) && decide (n ≤ 37)
  | .supplyCheckArm _ => true
  | .supDiverge _ _ _ _ => true
  | .supLeaseRenew _ => true
  | .supLeaseExpire _ => true
  | .supCoreRepair _ m _ _ => regMaster m
  | .supResyncDone _ k _ => decide (k < 2)
  | .hostFence _ => true
  | .hostFenceComplete _ => true
  | .barrier _ m => decide (m < 8)
  | .barrierComplete _ m => decide (m < 8)
  | .remapWrite _ m v => regMaster m && decide (v < 2 ^ 32)
  | .remapApply _ => true
  | .busModeWrite _ m v => regMaster m && decide (v < 2 ^ 32)
  | .busModeApply _ => true
  | .scratchpadAccess _ m a size _ _ _ par => decide (m < 8) && decide (a < 0x800000) && [1, 2, 4, 8].contains size && decide (par < 4)
  | .atomicOp _ m a op size _ => decide (m < 8) && decide (a < 0x800000) && (size == 4 || size == 8) && decide (op < 16)
  | .conflictRateWindow _ => true
  | .harrowPass _ => true
  | .harrowPassDone _ fails => decide (fails.length ≤ 64)
  | .repairFuseBlow _ m b e c => regMaster m && decide (b < 16) && decide (e < 4) && decide (c < 512)
  | .dramAccess _ m a size _ => decide (m < 8) && decide (0x80000000 ≤ a) && decide (a < 2 ^ 32) && [1, 2, 4, 8].contains size
  | .checkedRead _ m a => decide (m < 8) && decide (0x80000000 ≤ a) && decide (a < 2 ^ 32)
  | .dieCheck _ _ _ => true
  | .bpmAlloc _ m sub _ => decide (m < 8) && decide (sub < 32)
  | .bpmFree _ m sub h => regMaster m && decide (sub < 32) && decide (h < 2 ^ 32)
  | .bpmGive _ m sub h => regMaster m && decide (sub < 32) && decide (h < 2 ^ 32)
  | .bpmCacheRefill _ p => decide (p < 4)
  | .bpmReady _ => true
  | .domainReset _ m d n => regMaster m && [21, 22, 23, 28, 29].contains d && decide (n ≤ 32)
  | .fuseSense _ fixed bad => decide (fixed < 512) && decide (bad.length ≤ 512) && bad.all (fun c => decide (c < 320))
  | .romReady _ => true
  | .fwVerify _ m => regMaster m
  | .fwVerifyDone _ => true
  | .planApply _ m => regMaster m
  | .planApplyDone _ => true
  | .planReapply _ m mask => regMaster m && decide (mask < 4)
  | .fuseProgramSlot _ m sl => regMaster m && decide (sl < 4)
  | .fuseRevokeSlot _ m sl => regMaster m && decide (sl < 4)
  | .fuseBlowSeal _ m => regMaster m
  | .attest _ m => regMaster m
  | .attestDone _ => true
  | .debugAttempt _ => true
  | .porAssert _ => true
  | .porEnd _ => true
  | .aonResetRelease _ bm => decide (bm < 4)
  | .warmReset _ _ m bm ab => regMaster m && decide (bm < 4) && decide (ab.length ≤ 30) && ab.all (fun e => decide (e.1 < 30) && decide (e.2.1 ≤ 32) && decide (e.2.2 < 256))
  | .holdExpire _ => true
  | .perst _ n k => decide (n ≤ 32) && decide (k ≤ 32)
  | .functionLevelReset _ n k => decide (n ≤ 32) && decide (k ≤ 32)
  | .supReset _ m => regMaster m
  | .smbReadId _ => true
  | .smbReadStatus _ => true
  | .smbTempDemand _ => true
  | .smbReadSite _ i => decide (i < 48)
  | .smbAlertResponse _ => true
  | .dmaDescriptor _ c => decide (6 ≤ c) && decide (c < 16)
  | .dmaResume _ m c => regMaster m && decide (c < 16)
  | .dmaChannelReset _ m c n => regMaster m && decide (c < 16) && decide (n ≤ 32)
  | .glnArm _ m n => regMaster m && decide (n < 8)
  | .glnStop _ m n => regMaster m && decide (n < 8)
  | .glnForce _ m n => regMaster m && decide (n < 8)
  | .glnMuxSettled _ n => decide (n < 8)
  | .glnPreFilled _ n => decide (n < 8)
  | .glnTrigger _ n _ => decide (n < 8)
  | .glnRecordComplete _ n anchor samples => decide (n < 8) && decide (anchor.1 < 16384) && decide (anchor.2 < 16384) && samples.all (fun v => match v with | some c => decide (c < 8192) | none => true)
  | .glnDonePop _ m n => regMaster m && decide (n < 8)
  | .glnSampleLost _ n => decide (n < 8)
  | .tickPhaseMeasurement _ => true
  | .supplyBackInRange _ n => decide (35 ≤ n) && decide (n ≤ 37)
  | .vpkBelowPowerGood _ _ => true
  | .vhtrBelowPowerGood _ n _ => decide (n < 2)
  | .fuseCommandComplete _ got => decide (got < 2 ^ 256)
  | .repairBlowComplete _ got => decide (got < 2 ^ 10)
  | .rstNRelease _ bm => decide (bm < 4)
  | .perstNRelease _ => true
  | .dramReadTimeout _ m d => decide (m < 8) && decide (d < 2)
  | .heaterPowerReport _ w mv slots pw => decide (w < 18) && decide (mv < 4096) && decide (slots.length = pw.length) && slots.all (winSlot w) && pw.all (fun p => decide (p < 100000))
  | .tapInstruction _ k => decide (k < 6)

end Sys2Proof
end

