-- ==== Sys2Proof/Tests/Slice0.lean ====
section
/-! SUPPORT. Tests on small states: that the well-formedness checks refuse, that each statement's premises hold together
somewhere (`met_<statement>`), and values the spec works out (`test_<what>`). -/
namespace Sys2Proof.Tests
open Sys2Proof
set_option Elab.async false
open Sys2Proof.Machine Sys2Proof.Config
/-- A small state for a test: fields written over the reset state. -/
def put (l : List (Fld × Nat)) (s : State) : State := l.foldl (fun t e => setF e.1 e.2 t) s
/-- The module in READY with every domain on and supervisor core A holding its lease. -/
def up : State :=
  put [(GOV_DOM_STAT_on, 2 ^ 30 - 1), (BOOT_STAT_state, 6), (FLT_SUP_STAT_a_state, 3)] State.reset

/-- A vector masked, its message owed, while PD24 is up. -/
def owes : State := put [(DMA_MSIX_PEND_pending, 2 ^ 31), (DMA_MSIX_word 31 3, 1)] up
theorem met_TheFrontCommandTakesEffect : State.reset.pending = [] := by decide +kernel
theorem met_EveryCommandCompletesButVendorDebug :
    debugMay (put [(SEC_DBG_CTRL_dbg_en, 1)] up) = true ∧ debugMay up = false := by decide +kernel
theorem met_NoUnmaskedMessageIsOwed :
    (pd24Up owes = true ∧ (f owes DMA_MSIX_PEND_pending).testBit 31 = true ∧
      (∀ v < 32, (f owes DMA_MSIX_PEND_pending).testBit v = true → f owes (DMA_MSIX_word v 3) % 2 = 1)) ∧
    step { owes with pending := [] } = .next { owes with pending := [] } := ⟨by decide +kernel, rfl⟩

theorem met_RegisterWriteActsByAccessCode :
    up.porOn = false ∧ masterLive up 0 = true ∧ blockOn up 0x60004 = true ∧ (rowFor 0x60004).isSome = true ∧
    (samplePlain.all fun o => blockOn up o && (rowFor o).isSome) = true := by decide +kernel
theorem met_NarrowWriteDiscardedAndCountsRestartOnRead :
    up.porOn = false ∧ masterLive up 0 = true ∧ blockOn up 0x50014 = true ∧ sramAt 0x50014 = none ∧
    inTrace 0x50014 = false ∧ assigned 0x50014 = true ∧ domOn up 20 = true ∧ up.sched.length ≤ 1024 := by decide +kernel
theorem met_UnassignedAccessCompletesAndCounts :
    up.porOn = false ∧ masterLive up 0 = true ∧ blockOn State.reset 0x50000 = false ∧
    masterLive (put [(FLT_SUP_STAT_a_state, 3)] State.reset) 0 = true := by decide +kernel
theorem met_Bar2AccessReachesTheSelectedRegion :
    let s := put [(BOOT_APT_region, 15)] up
    s.porOn = false ∧ pd24Up s = true ∧ s.barriers.contains 6 = false ∧ bootState s = 6 ∧ domOn s 25 = true ∧
    8 ≤ f s BOOT_APT_region ∧ dieOff s (dieOf (f s BOOT_APT_region * 0x10000000 + 0xFFFFFF8)) = false ∧
    calActive s = false ∧ (∀ i < 8, inFreeRing (f s BOOT_APT_region * 0x10000000 + 0xFFFFFF8 + i) = false) := by
  decide +kernel

theorem met_InputPortLitDarkAndOver :
    up.porOn = false ∧ domOn up 16 = true ∧
    (let s : State := { up with hiRun := [(3, 3)] }
     s.lit.getLsbD 3 = false ∧ ctr s.hiRun 3 = 3) ∧
    (let s : State := { up with loRun := [(3, 1)], lit := 8 }
     s.lit.getLsbD 3 = true ∧ ctr s.loRun 3 = 1) ∧
    (pd24Up up = true ∧ up.overIn.getLsbD 3 = false ∧ f (put [(DMA_MSIX_word 29 3, 0)] up) (DMA_MSIX_word 29 3) % 2 = 0) := by
  decide +kernel
theorem met_EveryMiddleRowGivesAPathFromInputToOutput :
    (path 255 255 127).length = 15 ∧ path 255 255 126 ≠ path 255 255 127 := by decide +kernel
theorem met_BoundCellsCarryLightToTheOutput :
    let c : Circuit := ⟨0, 255, 127, 0, false⟩
    let d : Circuit := ⟨255, 0, 0, 0, false⟩
    let m := placeCirc d {}
    (∀ h ∈ circPath d, cellAt m (hopCell h) = hopCross h) ∧ d ∈ m.circs ∧ fits (circPath c) [circPath d] = true := by
  decide +kernel

/-- A sheaf of one CONNECT from input 0 to output 5. -/
def aSheaf : Sheaf := { uid := 1, tenant := 2, port := 0, peer := 0, seq := 0, slot := 0, ops := [.connect 0 5], maxDefer := 0xFFFFFFFF }
/-- A circuit, a map that carries it, and an accepted sheaf that adds it. -/
def aCirc : Circuit := ⟨0, 5, 3, 2, false⟩
def anAcc : Accepted :=
  { sheaf := aSheaf, tick := 40, unshaped := 40, est := 0, late := false, fw := false, moved := [], movedC := [], added := [aCirc], removed := [], accAt := 0 }
theorem met_FairQueueServesTheLeastFinishTime :
    (let s : State := { up with queues := [(2, [{ aSheaf with finish := 7 }]), (9, [{ aSheaf with uid := 3, tenant := 9, finish := 7 }])] }
     s.solving = none ∧ s.ready = [] ∧ swStopped s = false ∧ domOn s 20 = true ∧ domOn s 21 = true ∧ amWf (fun _ => []) s.queues = true ∧
     queueOf s 2 = { aSheaf with finish := 7 } :: [] ∧ fenceWait s aSheaf = false ∧ s.porOn = false ∧ s.sched = []) ∧
    (schedReady (elapse up 0) { aSheaf with at_ := some ⟨0, 5⟩ } = true ∧
      schedReady (elapse up 0) { aSheaf with at_ := some ⟨0, 20000 * nsUnit⟩ } = false) ∧
    (let sh : Sheaf := { aSheaf with at_ := some ⟨0, 100⟩ }
     let s : State := { up with queues := [(2, [sh])] }
     queueOf s 2 = [sh] ∧ tbEnabled s 0 = true ∧ s.sched.length < 1024 ∧ queueOf s 3 = [] ∧ 100 ≤ sh.arrTb + 2 ^ 32 * nsUnit) ∧
    (let s : State := put [(CMT_SOLVE_CTRL_hw_en, 0), (FLT_SUP_STAT_no_holder, 1)] up
     swStopped s = true ∧ s.porOn = false) := by decide +kernel
theorem met_ScheduledSheafLeavesForTheSolver :
    let sh : Sheaf := { aSheaf with at_ := some ⟨0, 5000 * nsUnit⟩ }
    let x : Sheaf := { aSheaf with uid := 7, at_ := some ⟨0, 10001 * nsUnit⟩ }
    let s : State := { up with sched := [x, sh] }
    s.porOn = false ∧ s.solving = none ∧ s.ready = [] ∧ swStopped s = false ∧ domOn s 20 = true ∧ tbEnabled s 0 = true ∧
    5000 * nsUnit ≤ tbNow (elapse s 0) 0 + f s CMT_LEAD_lead_us * (1000 * nsUnit) ∧ x.uid ≠ sh.uid ∧
    tbNow (elapse s 0) 0 + f s CMT_LEAD_lead_us * (1000 * nsUnit) < 10001 * nsUnit := by decide +kernel
theorem met_SolveEndsAcceptedOrRefusedWhole :
    (let s : State := { put [(CAL_STAT_active_valid, 1)] up with solving := some { sheaf := aSheaf, fw := false, since := 0 } }
     s.porOn = false ∧ domOn s 20 = true ∧ s.rot = none ∧ s.ready = [] ∧
     (match solveOf s aSheaf with | .ok w m _ _ => acceptReason (elapse s 0) (acceptedOf (elapse s 0) aSheaf false w m) | .refused _ _ => 99) = 0) ∧
    (let c : Circuit := ⟨0, 5, 0, 2, false⟩
     let s : State := { up with projected := placeCirc c {}, solving := some { sheaf := aSheaf, fw := true, since := 0 } }
     fb s FLT_SUP_STAT_no_holder = false ∧ solveOf s aSheaf = .refused 4 0) ∧
    (let v : Solving := { sheaf := aSheaf, fw := false, since := 0, dead := 4 }
     v.dead ≠ 0 ∧ v.dead % 256 = 4 ∧ 0 ≤ v.since + 12 * us) ∧
    (let s : State := { up with rot := some { table := 0, st := .running, base := 0, slot := 0, next := 100, nextSlot := 0 } }
     s.rot.isSome = true ∧ s.porOn = false ∧ domOn s 20 = true ∧ s.ready = []) ∧
    (let s : State := put [(FLT_SUP_STAT_no_holder, 1)] up
     s.porOn = false ∧ fb s FLT_SUP_STAT_no_holder = true) ∧
    acceptReason (elapse (put [(FLT_STAT_safe, 1)] up) 0) anAcc ≠ 0 := by decide +kernel
theorem met_HardwareSolverFailureHandsOverToFirmware :
    let s : State := { up with solving := some { sheaf := aSheaf, fw := false, since := 0 } }
    s.porOn = false ∧ domOn s 20 = true ∧ sevOf s 13 < 4 ∧ masterLive s 0 = true := by decide +kernel
theorem met_MapCommandsCaptureAndValidate :
    let s : State := { up with captureWait := some 4095 }
    s.porOn = false ∧ domOn s 20 = true ∧ masterLive s 0 = true ∧ f s CMT_MAP_STAT_busy = 0 ∧ s.commit = none ∧
    s.captureWait = some 4095 ∧ sevOf s 16 < 4 ∧ sevOf s 17 < 4 ∧ sevOf s 25 < 4 := by decide +kernel

/-- A plan that adds the circuit, and its commit in a phase. -/
def aPlan : CommitPlan :=
  { members := [anAcc], rot := none, dark := false, tick := 40, cost := 5, before := {}, after := applyAcc {} anAcc, changed := [aCirc], affected := [5] }
def aCommit (ph : Phase) (vs : List VerRec) : Commit := { plan := aPlan, t0 := 40, phase := ph, wasOpen := [], times := [], vers := vs }
theorem met_MembershipClosesTwoHundredNanosecondsBefore :
    (let s : State := { put [(CMT_CTRL_coalesce, 0)] up with accepted := [anAcc], ownIn := [(0, 4)], ownOut := [(5, 4)] }
     s.porOn = false ∧ domOn s 20 = true ∧ inSafe s = false ∧ s.closed = none ∧ s.commit = none ∧ f s CMT_CTRL_coalesce = 0 ∧
     ∀ c ∈ (applyAll s.present [anAcc]).circs, reaches (applyAll s.present [anAcc]) c.inp = c.out ∧ ownsIn s c.holder c.inp = true ∧
       ownsOut s c.holder c.out = true) ∧
    (let s : State := { put [(CMT_CTRL_coalesce, 0)] up with accepted := [anAcc] }
     aCirc ∈ (applyAll s.present [anAcc]).circs ∧ ownsIn s aCirc.holder aCirc.inp = false ∧ sevOf s 12 < 4) := by decide +kernel
theorem met_CommitTickFiresWhenTheShaperPermits :
    let s : State := { up with accepted := [anAcc], closed := some aPlan, ownIn := [(0, 4)], ownOut := [(5, 4)] }
    s.porOn = false ∧ domOn s 20 = true ∧ inSafe s = false ∧ s.commit = none ∧ s.captureWait = none ∧ aPlan.before = s.present ∧
    (∀ c ∈ aPlan.after.circs, reaches aPlan.after c.inp = c.out ∧ ownsIn s c.holder c.inp = true ∧ ownsOut s c.holder c.out = true) ∧
    0 ≤ s.shLevel ∧ s.shStamp ≤ s.clk.now ∧ aPlan.dark = false ∧ sevOf s 15 < 4 ∧ sevOf s 46 < 4 ∧ sevOf s 47 < 4 := by decide +kernel
theorem met_CommitTimelineFromRoutingToCompletion :
    up.porOn = false ∧ (aCommit .fired []).phase = .fired ∧ (aCommit .routed []).phase = .routed ∧
    (aCommit .strobed [⟨5, 0, 0, .unseen⟩]).phase = .strobed ∧
    (∀ v ∈ (aCommit .strobed [⟨5, 0, 0, .unseen⟩]).vers, v.verdict ≠ .fail) ∧
    (aCommit .strobed [⟨5, 0, 0, .fail⟩]).vers = [⟨5, 0, 0, .fail⟩] ∧ aPlan.changed = [aCirc] ∧ sevOf up 12 < 4 ∧
    (let r : WaveRead := { win := 0, slot := 0, st := true, pts := [0, 16384], vpi := 21000, cEnd := some 1600 }
     ([r, { r with win := 17 }].filter (fun x => decide (x.win < 16))) = [r] ∧ r.cEnd = some 1600 ∧
     domOn up (winDomain r.win) = true ∧ winHeld up r.win = false) ∧
    (aCommit .decided []).phase = .decided ∧ (aCommit .opened []).phase = .opened ∧ aPlan.rot = none ∧ inSafe up = false := by
  decide +kernel
/-- A sensing channel whose last normal sample read `v`, in a state. -/
def read1 (w i v : Nat) (s : State) : State := snsPut w i { smp := [(1, (v : Nat))] } s
theorem met_UnseenCircuitsAreCheckedLate :
    let s (o : Nat) : State := read1 17 5 o (read1 16 0 4000 { up with present := applyAcc {} anAcc, unseen := [5] })
    let u (o : Nat) : State := runConv 17 (runConv 16 (elapse (s o) 0))
    let cfg := rd up CMT_VER_CFG_plane_min.off
    let p := inReadings (u 2000) aCirc
    let q (o : Nat) : Nat × Nat := (normReading (u o) 17 5, normReading (u o) 17 (256 + 5))
    (s 0).porOn = false ∧ domOn (s 0) 20 = true ∧ onOut (s 0).present 5 = some aCirc ∧ (s 0).unseen.contains 5 = true ∧
    (qualifies cfg p.1 || qualifies cfg p.2) = true ∧ verdictOf cfg p (q 2000) = .pass ∧ verdictOf cfg p (q 1) ≠ .pass ∧
    sevOf (s 0) 12 < 4 ∧ masterLive (s 0) 0 = true := by decide +kernel

/-- Base 1 enabled with a source, in a state. -/
def tb1 (src : Nat) (x : TBase) : State := setTb 1 x (put [(TIME_TB_CTRL_enable 1, 1), (TIME_TB_CTRL_source 1, src)] up)
theorem met_TimeBasesEnableSnapAndFrequency :
    up.porOn = false ∧ masterLive up 0 = true ∧ tbEnabled up 1 = false ∧ ctrlClash up 1 3 = false ∧
    tbEnabled (tb1 1 {}) 1 = true ∧ baseNamed (tb1 1 {}) 1 = false ∧ masterLive (tb1 1 {}) 0 = true := by decide +kernel
theorem met_OffsetsStepOrSlewABase :
    (let s := put [(TIME_TB_CTRL_allow_step 1, 1)] (tb1 1 { slewRem := 50 })
     s.porOn = false ∧ masterLive s 0 = true ∧ tbEnabled s 1 = true ∧ (tbGet s.clk 1).st ≠ .holdover ∧ rotNames s 1 = false ∧
     f s (TIME_TB_CTRL_allow_step 1) = 1 ∧ (tbGet (elapse s 0).clk 1).slewRem ≠ 0 ∧
     slewStep (tbFreq s 1) (f s (TIME_TB_SLEW_slew_ppm 1)) (tbGet (elapse s 0).clk 1).slewRem ≠ 0) ∧
    f (tb1 1 {}) (TIME_TB_CTRL_allow_step 1) = 0 := by decide +kernel
theorem met_BaseStatesFollowRequestsAndWatchdogs :
    sevOf up 26 < 4 ∧ sevOf up 27 < 4 ∧ tbSource (tb1 1 {}) 1 = 1 ∧ tbSource (tb1 2 {}) 1 = 2 ∧
    (tbGet (tb1 1 { st := .acquire }).clk 1).st = .acquire ∧ (tbGet (tb1 2 { st := .locked }).clk 1).st = .locked ∧
    (tbGet (tb1 2 { st := .holdover }).clk 1).st = .holdover ∧ (tbGet (tb1 2 {}).clk 1).st = .free ∧
    f (tb1 1 {}) (TIME_TB_WDOG_wdog_ms 1) ≠ 0 ∧ masterLive (tb1 1 {}) 0 = true ∧ (tb1 1 {}).porOn = false := by decide +kernel
theorem met_PulsesAndTimestampsOfThePins :
    ppsBase up = 0 ∧
    (let s := tb1 2 { st := .locked, val := 500000000 * 2 ^ 40 }
     ppsBase s = 1 ∧ (tbGet s.clk 1).st = .locked ∧ fInt s TIME_PPS_IN_DELAY_delay_ps = 0 ∧
     2 ^ 40 ≤ tbFine (elapse s 0) 1 ∧ tbFine (elapse s 0) 1 + 2 ^ 40 < Config.tbWrap ∧
     f s TIME_PPS_CTRL_in_window_us * (1000 * 2 ^ 40) + 2 ^ 40 < secDist (tbFine (elapse s 0) 1)) ∧
    (let s := put [(TIME_PPS_CTRL_out_en, 1)] up
     f s TIME_PPS_CTRL_out_en = 1 ∧ s.ppsTb = f s TIME_PPS_CTRL_out_tb ∧ tbEnabled s s.ppsTb = true) ∧
    (let s : State := { up with tsq := [(1, [⟨3, 0, 9⟩])] }
     tsqOf s 1 = ⟨3, 0, 9⟩ :: [] ∧ tsqOf s 0 = []) ∧ masterLive up 0 = true := by decide +kernel

/-- Map 0 with no circuit, generation 1, as two tiles on die 0. -/
def emptyMap : List Host.Cell :=
  [(2147483648, 33#8), (2147483652, 1#8), (2147483660, 1#8), (2147484668, 77#8), (2147484669, 198#8), (2147484670, 172#8),
   (2147484671, 204#8), (2147484672, 34#8), (2147484676, 1#8), (2147485692, 154#8), (2147485693, 57#8),
   (2147485694, 37#8), (2147485695, 243#8)]
/-- Table 0 with one slot of map 0, 50 ticks long, in its pending bank; die 1 is offline. -/
def banked : State :=
  { setRaw (setRaw (put [(CAL_STAT_active_valid, 1), (DRC_STAT_d1_off, 1), (REQ_T_CFG_rot_ctl 3, 1)] up) 0x71200 0x100) 0x71240 (50 * 4096)
    with dram := emptyMap, rotLoader := [(0, some 3), (1, some 3)] }
/-- A ROT_LOAD message of tenant 3 for table 0. -/
def rotMsg (op : Nat) : Urp := ⟨0, 0, false, 6, 3, 0, 0, 1, [0, op, 0, 0], 0, []⟩
set_option maxRecDepth 1000000 in
theorem met_RotationArmsAndStarts_check :
    let w := supRot banked 0 1 0
    armCheck w 0 (loaderOf w 0 1) = {} ∧ loaderOf w 0 1 = some 3 ∧
    (let z := msgRot { banked with urpIn := [rotMsg 1] } 0 []
     armCheck z 0 (loaderOf z 0 1) = {}) := by decide +kernel
theorem met_RotationArmsAndStarts :
    banked.porOn = false ∧ masterLive banked 0 = true ∧ domOn banked 20 = true ∧ sevOf banked 16 < 4 ∧ sevOf banked 17 < 4 ∧
    sevOf banked 25 < 4 ∧ banked.rot = none ∧
    (let s : State := { banked with urpIn := [rotMsg 1] }
     s.urpIn = rotMsg 1 :: [] ∧ (rotMsg 1).type = 6 ∧ byteAt (rotMsg 1).body 0 = 0 ∧ byteAt (rotMsg 1).body 1 = 1 ∧
     domOn s 21 = true ∧ rotMine s (rotMsg 1) 1 = true ∧
     rotMine { s with urpIn := [rotMsg 2] } (rotMsg 2) 0 = true ∧ byteAt (rotMsg 2).body 1 = 2) ∧
    (let s : State := { setRaw banked 0x71008 1 with rotReady := 1 }
     s.rotReady.getLsbD 0 = true ∧ tbEnabled s (bankTb s 0 0) = true ∧ inSafe s = false ∧ devState s ≠ 2 ∧
     tbNow (elapse s 0) (bankTb s 0 0) + admitT s ≤ bankBaseT s 0 0) := by decide +kernel
/-- Table 0 operating, in a state. -/
def turning (st : RotState) (nx : Nat) : State :=
  { setRaw (setRaw banked 0x71000 0x200) 0x71040 (50 * 4096) with
    rot := some { table := 0, st := st, base := 0, slot := 0, next := 100, nextSlot := nx } }
theorem met_RotationStopsAndDiscards :
    (turning .running 1).porOn = false ∧ masterLive (turning .running 1) 0 = true ∧ domOn (turning .running 1) 20 = true ∧
    (∃ r, (turning .running 1).rot = some r ∧ r.table = 0 ∧ r.stopAt = none ∧ r.st = .running) ∧
    (∃ r, (turning .suspended 1).rot = some r ∧ r.table = 0 ∧ r.stopAt = none ∧ r.st = .suspended) ∧
    banked.rot = none ∧ armedOf banked 0 = false ∧ markedOf banked 0 = false ∧ fb banked (REQ_T_CFG_rot_ctl 3) = true ∧
    rotMine banked (rotMsg 3) 0 = true ∧ rotMine banked (rotMsg 4) 0 = true ∧ rotMine banked (rotMsg 5) 1 = true ∧
    (∀ o < 6, byteAt (rotMsg o).body 1 = o) := by
  refine ⟨by decide +kernel, by decide +kernel, by decide +kernel, ⟨_, rfl, by decide, by decide, by decide⟩,
    ⟨_, rfl, by decide, by decide, by decide⟩, ?_⟩
  decide +kernel
/-- The image that `banked` holds, as a message writes it. -/
def bankMsg : Urp :=
  ⟨0, 0, false, 6, 3, 0, 0, 1, [0, 6, 0, 0] ++ leBytes 4 0x100 ++ List.replicate 60 0 ++ leBytes 4 (50 * 4096), 0, []⟩
set_option maxRecDepth 1000000 in
theorem met_RotationStopsAndDiscards_write :
    let w := writeBank 0 (some 3) (bankMsg.body.drop 4) { elapse banked 0 with urpIn := [] }
    armCheck w 0 (some 3) = {} ∧ byteAt bankMsg.body 1 = 6 ∧ bankMsg.type = 6 := by decide +kernel
set_option maxRecDepth 1000000 in
theorem met_RotationCommitsItsSlots :
    let s := turning .running 1
    s.porOn = false ∧ domOn s 20 = true ∧ s.commit = none ∧ s.closed = none ∧ s.captureWait = none ∧
    (∀ n ∈ [12, 14, 16, 17, 25, 46, 47], sevOf s n < 4) ∧ (validateMap s (slotMap s 0 0 1)).code = 0 ∧
    decide (bankMax s 0 0 < f s GOV_STEP_step) = false ∧ devState s ≠ 2 ∧ armedOf s 0 = false ∧
    devState (put [(GOV_DEV_STAT_state, 2)] s) = 2 ∧
    (let u : State := { s with present := applyAcc {} anAcc }
     affectedOuts u.present (slotTarget u { code := 0, gen := 1, map := {} }) [] ≠ [] ∧
     preCheckFail u (slotTarget u { code := 0, gen := 1, map := {} }) = none) ∧
    (validateMap up 0).code ≠ 0 ∧
    decide (bankMax (put [(GOV_STEP_step, 3)] (turning .admitted 0)) 0 0 < f (put [(GOV_STEP_step, 3)] (turning .admitted 0)) GOV_STEP_step) = true := by
  decide +kernel

/-- Window 2's pair runs, engine 0 HOLDER and engine 1 STANDBY. -/
def pair (a b : Nat) : State := put [(PLOT_ENG_CTRL_run 2, 1), (PLOT_ENG_STAT_e0_state 2, a), (PLOT_ENG_STAT_e1_state 2, b),
  (PLOT_LOOP_CFG_enable 2 0, 1), (PLOT_LOOP_CFG_template 2 0, 3), (PLOT_LOOP_STAT_mode 2 0, 3)] up
theorem met_EnginePairsRunStopAndRepair :
    up.porOn = false ∧ masterLive up 0 = true ∧ domOn up 2 = true ∧ fb up (PLOT_ENG_CTRL_run 2) = false ∧
    siteMissing up 2 = true ∧ siteMissing (put [(GOV_SITE_TEMP_valid 0, 1)] up) 2 = false ∧
    firstLoadDue up 2 = false ∧ firstLoadDue ({ up with wsLoad := [(2, true)] } : State) 2 = true ∧
    fb (pair 3 4) (PLOT_ENG_CTRL_run 2) = true ∧ engState (pair 3 4) 2 1 = 4 ∧ engUpdates (pair 3 4) 2 0 = true := by decide +kernel
theorem met_LeaseGoesToAStandbyEngine :
    (let s := pair 4 2
     fb s (PLOT_ENG_CTRL_run 2) = true ∧ hasHolder s 2 = false ∧ f s (PLOT_ENG_STAT_lease_left 2) = 0 ∧
     (engOf s 2).start = false ∧ fb s (PLOT_ENG_STAT_no_holder 2) = false ∧ engState s 2 1 = 2 ∧ engState s 2 0 ≠ 2) ∧
    (let s := pair 4 1
     hasHolder s 2 = false ∧ engState s 2 0 ≠ 2 ∧ engState s 2 1 ≠ 2 ∧ sevOf s 9 < 4 ∧ sameCycle 9 (elapse s 0) = false ∧
     engState s 2 1 = 1) ∧ hasHolder (pair 3 2) 2 = true ∧ engState (pair 3 2) 2 0 ≠ 1 := by decide +kernel
theorem met_FramesQuartersAndTheQuickGrid :
    (∀ n ∈ [1, 6, 7, 8, 47], sevOf (pair 3 2) n < 4) ∧ (loopOf (pair 3 2) 2 0).q0 = none ∧ (loopOf (pair 3 2) 2 0).post ≠ 2 ∧
    (let s := engPut 2 { start := true } (pair 2 2)
     s.porOn = false ∧ domOn s 2 = true ∧ fb s (PLOT_ENG_CTRL_run 2) = true ∧ (engOf s 2).start = true ∧ engState s 2 0 = 2) ∧
    (let s := loopPut 2 0 { active := [1, 2, 3, 4], cfgF := 0x04022C04 } (pair 3 2)
     2 ≤ (loopOf s 2 0).active.length ∧ canPush s 2 0 = true ∧ (chanOf s 2 0).queue.length < 4 ∧ (engOf s 2).start = false) ∧
    (let s := put [(PLOT_LOOP_STAT_sat_out 2 0, 1)] (loopPut 2 0 { q0 := some 7, cfgF := 0x04022C04 } (pair 3 2))
     (loopOf s 2 0).q0 = some 7 ∧ (loopOf s 2 0).lateS = false ∧ (loopOf s 2 0).qlate = false ∧ canPush s 2 0 = true ∧
     fb s (PLOT_LOOP_STAT_sat_out 2 0) = true ∧ (loopOf s 2 0).qn < 1 ∧ loopRuns s 2 0 = true ∧ pairUpdates s 2 = true ∧
     quickAt 7 1 false + us < s.clk.now + 120000) := by decide +kernel
theorem met_LoopUpdateUnderComparison :
    (let s := loopPut 2 0 { restart := false } (pair 3 2)
     s.porOn = false ∧ updateDue s 2 0 = true ∧ markOf s 2 0 = none ∧ engUpdates s 2 0 = true ∧ engUpdates s 2 1 = true ∧
     s.clk.now + 0 ≤ slotOpen s 0 + 800 ∧ slotOpen s 0 + 800 < s.clk.now + 1000000 ∧
     tmplOf s 2 0 = 3 ∧ f s (PLOT_LOOP_STAT_mode 2 0) = 3 ∧ (loopOf s 2 0).restart = false ∧ trcSels s 2 0 = [] ∧
     ∀ n ∈ [1, 6, 7, 8, 47], sevOf s n < 4) ∧
    (let s := loopPut 2 0 { q0 := some 7 } (pair 3 2)
     loopRuns s 2 0 = true ∧ pairUpdates s 2 = true ∧ (loopOf s 2 0).q0 = some 7 ∧ (loopOf s 2 0).qn < 3) ∧
    (let s : State := { pair 3 2 with calMarks := [(wKey 2 0, some { at_ := 0 })] }
     (markOf s 2 0).isSome = true ∧ fb s (PLOT_ENG_CTRL_run 2) = true ∧ fb s (PLOT_LOOP_STAT_stale 2 0) = false ∧
     (loopOf s 2 0).doneAt ≠ some s.frameAt) ∧
    updateDue up 2 0 = false ∧ markOf up 2 0 = none := by decide +kernel
theorem met_TraceTriggersAndStops :
    (let s := put [(PLOT_TRC_CTRL_en 2, 1), (PLOT_TRC_CTRL_one_shot 2, 1), (PLOT_TRC_STAT_armed 2, 1), (PLOT_TRC_CTRL_trig 2, 4)] up
     s.porOn = false ∧ masterLive s 0 = true ∧ domOn s 2 = true ∧ fb s (PLOT_TRC_CTRL_en 2) = true ∧
     f s (PLOT_TRC_CTRL_trig 2) = 4 ∧ f up (PLOT_TRC_CTRL_trig 2) ≠ 4 ∧ f up (PLOT_TRC_CTRL_trig 2) ≠ 5 ∧
     fb s (PLOT_TRC_CTRL_one_shot 2) = true ∧ fb s (PLOT_TRC_STAT_armed 2) = true ∧ fb s (PLOT_TRC_STAT_triggered 2) = false ∧
     fb s (PLOT_TRC_STAT_stopped 2) = false ∧
     (let u := put [(PLOT_TRC_STAT_stopped 2, 1), (PLOT_TRC_STAT_armed 2, 0), (PLOT_TRC_STAT_triggered 2, 1)] s
      fb u (PLOT_TRC_STAT_stopped 2) = true ∧ sevOf u 47 < 4 ∧ (trcOf u 2).left = 0)) ∧
    fb up (PLOT_TRC_CTRL_en 2) = false := by decide +kernel

/-- A channel in a state. -/
def ch1 (w ch : Nat) (c : Chan) (s : State) : State := chanPut w ch c s
theorem met_CodeTickTakesTheNextCode :
    (let s := ch1 17 0 { queue := [0x2000], hold := none } up
     s.porOn = false ∧ domOn s 17 = true ∧ chOwn 17 0 = true ∧ (chanOf s 17 0).wave = [] ∧ chFallow s 17 0 = false ∧
     fb s (PLOT_DRL_CFG_slew_en 17 0) = false ∧ chGate 17 0 = true ∧ (chanOf s 17 0).hold = none ∧ chPockels 17 0 = true ∧
     (chanOf s 17 0).queue ≠ [] ∧ (chanOf s 17 0).qAt.headD 0 ≤ max s.clk.now (nextTick (elapse s 0) 17 0)) ∧
    (let s := ch1 17 0 { queue := [0x2000], qAt := [10 ^ 9] } up
     ¬ (chanOf s 17 0).qAt.headD 0 ≤ max s.clk.now (nextTick (elapse s 0) 17 0)) ∧
    (let s := put [(PLOT_DRL_CFG_slew_en 0 0, 1), (PLOT_DRL_SLEW_period 0 0, 1)] (ch1 0 0 { queue := [50] } up)
     chRt 0 0 = true ∧ (chanOf s 0 0).seg = f s (PLOT_DRL_CFG_seg 0 0) % 3 ∧ fb s (PLOT_DRL_CFG_slew_en 0 0) = true ∧
     f s (PLOT_DRL_SLEW_period 0 0) ≤ (chanOf s 0 0).ticks + 1 ∧ chFallow s 0 0 = false) ∧
    (chanOf (ch1 17 0 { wave := [1, 2] } up) 17 0).wave = [1, 2] ∧ (chanOf (ch1 17 0 { hold := some 3 } up) 17 0).hold = some 3 ∧
    chFallow ({ up with popMode := .p64 } : State) 8 0 = true := by decide +kernel
theorem met_SoftwareCodesRangesAndSegments :
    up.porOn = false ∧ domOn up 17 = true ∧ 0 < winChans 17 ∧ masterLive up 0 = true ∧ chOwn 0 720 = false ∧ 720 < winChans 0 ∧
    chOwn 17 0 = true ∧ swMay up 17 0 = true ∧ swMay (put [(PLOT_ENG_CTRL_run 17, 1), (PLOT_LOOP_CFG_enable 17 0, 1)] up) 17 0 = false ∧
    (chanOf (ch1 17 0 { queue := [1, 2, 3, 4] } up) 17 0).queue.length = 4 ∧ (chanOf (ch1 17 0 { wave := [1] } up) 17 0).wave ≠ [] ∧
    rangePend up 17 0 = false ∧ rangePend (put [(PLOT_DRL_CFG_range 17 0, 1)] up) 17 0 = true ∧ up.closed = none := by decide +kernel
theorem met_DriverMonitorsRaiseAndTakeOver :
    sevOf up 0 < 4 ∧ sevOf up 2 < 4 ∧ monJudges (elapse State.reset 0) 0 0 = false ∧ monOn State.reset 0 0 = false ∧
    (chanOf (ch1 17 0 { hold := some 3 } up) 17 0).hold.isSome = true ∧ htrSensed State.reset 0 1 = false ∧
    (let s := put [(PLOT_DRL_CFG_mon_en 0 720, 1), (PLOT_DRL_CFG_mon_en 17 0, 1), (PLOT_DRL_CFG_mon_en 0 1, 1)] up
     s.porOn = false ∧ monJudges (elapse s 0) 0 720 = true ∧ segIdx 0 720 = 1 ∧ (chanOf s 0 0).seg = 0 ∧ (chanOf s 0 0).bothBad = false ∧
     (chanOf (ch1 0 0 { seg := 2 } s) 0 0).seg = segIdx 0 720 + 1 ∧ (chanOf (ch1 0 0 { bothBad := true } s) 0 0).bothBad = true ∧
     monJudges (elapse s 0) 17 0 = true ∧ htrSensed s 0 1 = true ∧ heldBits (elapse s 0) (PLOT_DRL_STAT_htr_short 0 1).off = 0 ∧ masterLive s 0 = true ∧ domOn s 0 = true ∧ s.vhtrBad ≠ 3) := by decide +kernel
theorem met_TestPlaysAndTheSeedCommand :
    up.porOn = false ∧ masterLive up 0 = true ∧ domOn up 17 = true ∧
    (chOwn 17 0 = true ∧ chPockels 17 0 = true ∧ swMay up 17 0 = true ∧ winHeld up 17 = false ∧ up.closed = none ∧ up.commit = none ∧
      amGet (fun _ => none) up.playing 17 = none) ∧ chPockels 17 1 = false ∧ 1 < winChans 17 ∧
    f up (CAL_WIN_GEN_generation 0) = 0 ∧ fb up (PLOT_ENG_CTRL_run 0) = false ∧ fb up (PLOT_DRL_SEED_STAT_busy 0) = false ∧
    calActive up = false ∧
    (let s := put [(CAL_WIN_GEN_generation 0, 1), (CAL_STAT_active_valid, 1)] up
     f s (CAL_WIN_GEN_generation 0) ≠ 0 ∧ calActive s = true ∧ siteMissing s 0 = true ∧
     (let u := put [(GOV_SITE_TEMP_valid 0, 1)] s
      siteMissing u 0 = false ∧ fb u (PLOT_DRL_SEED_STAT_seeded 17) = false ∧
      (let x := put [(PLOT_DRL_SEED_STAT_seeded 17, 1)] u
       fb x (PLOT_DRL_SEED_STAT_seeded 17) = true ∧ chFallow x 0 0 = false ∧ (chanOf x 0 0).wave = [] ∧
       (chanOf x 0 0).queue.length < 4))) ∧
    (let s : State := { put [(PLOT_DRL_SEED_STAT_busy 0, 1)] up with seedLast := [(0, some 3)] }
     amGet (fun _ => none) s.seedLast 0 = some 3 ∧ fb s (PLOT_DRL_SEED_STAT_busy 0) = true ∧ seedsWait s 0 = false) := by
  decide +kernel

/-- A conversion of channel 3 of window 17 waits at its slice. -/
def waits (cls due at_ : Nat) : State :=
  convPut 17 (sliceOf 17 3) { wait := [{ cls := cls, chan := 3, due := due, rank := 0, at_ := at_, key := 5, isG1 := true, raw := 900, val := 700 }] } up
theorem met_SensingChannelsMissLeaveAndFail :
    up.porOn = false ∧ domOn up 17 = true ∧ 3 < winSensors 17 ∧ masterLive up 0 = true ∧ verWindow up 17 3 = false ∧
    ([0, 4].map (fun d => ({ cls := 2, chan := 3, due := d, rank := 0, at_ := 0, key := 0, isG1 := true, raw := 0, val := 0 } : Conv))).Pairwise
      (fun a b => convFirst a b = true) ∧
    carrierOf (waits 2 100 900) 17 (sliceOf 17 3) = sliceOf 17 3 ∧
    (∃ c, (convOf (waits 2 100 900) 17 (sliceOf 17 3)).wait = [c] ∧ c.chan = 3 ∧ c.cls ≠ 0 ∧ c.due < max 0 c.at_ ∧ c.due < 0 + 200) ∧
    (∃ c, (convOf (waits 1 1000 0) 17 (sliceOf 17 3)).wait = [c] ∧ c.chan = 3 ∧ c.cls = 1 ∧ max 0 c.at_ ≤ c.due ∧ max 0 c.at_ + 800 ≤ 0 + 900) ∧
    (convOf up 17 (sliceOf 17 3)).wait = [] ∧
    verWindow ({ up with closed := some { aPlan with changed := [{ aCirc with out := 3 }] } } : State) 17 3 = true ∧
    inBand up 17 3 1300 = true ∧ inBand up 17 3 99999 = false ∧ (snsOf up 17 3).left = false ∧ sevOf up 3 < 4 ∧
    electrodeKind (List.replicate 4 300) (List.replicate 4 0) = 1 ∧ electrodeKind (List.replicate 4 100) (List.replicate 4 2000) = 2 ∧ electrodeKind [] [] = 0 ∧
    (snsOf (snsPut 17 3 { smp := [(4, 9), (3, 8), (2, 7), (1, 6)] } up) 17 3).smp = (4, 9) :: (3, 8) :: (2, 7) :: (1, 6) :: [] ∧
    (let s := put [(PLOT_SNS_CFG_fdet_en 17 3, 1)] up
     fb s (PLOT_SNS_CFG_fdet_en 17 3) = true ∧ fb s (PLOT_SNS_STAT_failed 17 3) = false ∧ onReserve s 17 3 = false ∧
     (let u := put [(PLOT_SNS_STAT_on_reserve 17 3, 1)] s
      onReserve u 17 3 = true ∧ (snsOf u 17 3).rfail = none ∧ (snsOf (snsPut 17 3 { rfail := some 2 } u) 17 3).rfail ≠ none)) := by
  refine ⟨by decide +kernel, by decide +kernel, by decide +kernel, by decide +kernel, by decide +kernel, by decide +kernel,
    by decide +kernel, ⟨_, rfl, by decide, by decide, by decide, by decide⟩, ⟨_, rfl, by decide, by decide, by decide, by decide⟩, ?_⟩
  decide +kernel
theorem met_SlicesFailAndCalibrateInTurn :
    up.porOn = false ∧ domOn up 0 = true ∧ sevOf up 4 < 4 ∧ 3 < winSlices 0 ∧
    (let s := slcPut 0 { two := [3, 16] } up
     fb s (PLOT_SLC_STAT_failed 0 3) = false ∧ (slcOf s 0).two.contains 3 = true ∧ (slcOf s 0).two.contains 16 = true ∧
     spareOf 0 = 16 ∧ spareLost s 0 = false ∧ (slcOf s 0).failPend = [] ∧ spareLost (put [(PLOT_SNS_STAT_no_spare 0, 1)] s) 0 = true) ∧
    (let s := put [(PLOT_SLC_TRIM_otrim 0 3, 127)] (slcPut 0 { bgOn := some 3, bgAt := 40 } up)
     (slcOf s 0).bgOn = some 3 ∧ (slcOf s 0).bgDone = false ∧ trimEnd (f s (PLOT_SLC_TRIM_otrim 0 3)) (f s (PLOT_SLC_TRIM_gtrim 0 3)) = true ∧
     s.clk.now ≤ (slcOf s 0).bgAt + ms ∧ (slcOf s 0).bgAt + ms < s.clk.now + 2 * ms ∧ trimEnd 5 6 = false ∧
     (slcOf s 0).refCal.getD 3 (12, 13) = (12, 13)) ∧ (slcOf up 0).bgOn = none ∧ (slcOf up 0).two.contains 3 = false ∧
    (let s := put [(PLOT_SNS_CTRL_bg_en 0, 1)] up
     fb s (PLOT_SNS_CTRL_bg_en 0) = true ∧ spareLost s 0 = false ∧ (slcOf s 0).bgOn = none ∧ (slcOf s 0).failPend = [] ∧
     bgPick s 0 = 0 ∧ ∀ i < winSensors 0, chanQuick s 0 i = false) ∧
    fb (put [(PLOT_SNS_CTRL_bg_en 0, 0)] up) (PLOT_SNS_CTRL_bg_en 0) = false := by decide +kernel

theorem met_CalibrationBanksVerifyActivateInvalidate :
    up.porOn = false ∧ masterLive up 0 = true ∧ calIsBusy up = false ∧ domOn up 25 = true ∧ f up CAL_STAT_inactive_verified = 0 ∧
    calIsBusy (put [(CAL_STAT_busy, 1)] up) = true ∧ fb (put [(CAL_STAT_busy, 1)] up) CAL_STAT_busy = true ∧
    sevOf up 16 < 4 ∧ sevOf up 17 < 4 ∧ sevOf up 25 < 4 ∧ fb up CAL_STAT_busy = false ∧
    domOn (put [(GOV_DOM_STAT_on, 0)] up) 25 = false ∧
    (let s := put [(CAL_STAT_inactive_verified, 1), (CAL_INACTIVE_GEN_generation, 5)] up
     calIsBusy s = false ∧ f s CAL_STAT_inactive_verified ≠ 0 ∧ ¬ f s CAL_INACTIVE_GEN_generation ≤ f s CAL_ACTIVE_GEN_generation ∧
     f s CAL_CTRL_hold_flip ≠ 1) := by decide +kernel
theorem met_WorkingSetsLoadAndSensorHalvesSwap :
    (let s : State := { put [(CAL_STAT_active_valid, 1)] up with wsLoad := [(2, true)], snsSwap := [(3, true)] }
     s.porOn = false ∧ domOn s 2 = true ∧ domOn s 3 = true ∧ calActive s = true ∧ amGet (fun _ => false) s.wsLoad 2 = true ∧
     winHeld s 2 = false ∧ winHeld (put [(BOOT_HOLD_STAT_windows, 4)] s) 2 = true ∧ amGet (fun _ => false) s.wsLoad 3 = false ∧ amGet (fun _ => false) s.snsSwap 3 = true ∧
     amGet (fun _ => false) s.snsSwap 2 = false ∧ sramRead s 3 0x4004 1 < 2 ∧ sevOf s 16 < 4 ∧ sevOf s 17 < 4 ∧ sevOf s 25 < 4) := by
  decide +kernel
theorem met_CalibrationMarksBeginEndAndGrowStale :
    up.porOn = false ∧ masterLive up 0 = true ∧ markOf up 2 0 = none ∧ markCode up 2 0 false = 5 ∧
    (let s : State := { up with sram := memWrite [] (2 * 0x40000 + 0x4000) 4 7 }
     markCode s 2 0 false = 0 ∧ markOf s 2 0 = none) ∧
    (let s : State := { up with calMarks := [(wKey 2 0, some { at_ := 3 })] }
     (markOf s 2 0).isSome = true ∧ markOf s 2 0 = some { at_ := 3 } ∧ sevOf s 5 < 4) := by decide +kernel

/-- Both ports up, with a link, URP enabled. -/
def eth : State := put [(ETH_CTRL_enable 0, 1), (ETH_STAT_link 0, 1), (ETH_CTRL_urp_en 0, 1), (REQ_CTRL_urp_en, 1),
  (REQ_CTRL_udp_port, 7000), (ETH_MAC_LO_mac 0, 5), (ETH_IPV4_addr 0, 0x0A000001), (REQ_T_CFG_rpt_valid 3, 1)] up
theorem met_LinksAndTransmission :
    eth.porOn = false ∧ sevOf eth 28 < 4 ∧ sevOf eth 29 < 4 ∧ domOn eth (portDom 0) = true ∧ fb eth (ETH_CTRL_enable 0) = true ∧
    fb eth (ETH_STAT_link 0) = true ∧ fb up (ETH_STAT_link 0) = false ∧ txWaiting eth 0 = [] ∧ txPosted eth 0 = false ∧
    (let m : Msg := { port := 0, tenant := 3, slot := 0, body := .telem 0 0 [] }
     let s : State := { eth with txWait := [(0, [m])], keys := [(6, some 5)] }
     txWaiting s 0 = m :: [] ∧ keyLoaded s 3 0 = true ∧ keyBytes s 3 0 = some (beBytes 32 5) ∧ m.handle = none ∧
     keyLoaded ({ s with keys := [] } : State) 3 0 = false ∧ domOn s 21 = true ∧
     amGet (fun _ => false) ({ s with txRing := [(0, true)] } : State).txRing 0 = true ∧
     (let h := mkHandle 3 7 9; hValid h = true ∧ ({ m with handle := some h } : Msg).handle = some h)) ∧
    (let s := put [(ETH_TXR_TAIL_tail 0, 1)] eth
     txPosted s 0 = true ∧ pd24Up s = true ∧ amGet (fun _ => false) s.txRing 0 = false) := by decide +kernel
/-- A HEARTBEAT datagram of tenant 3 under the key of zeros, and a datagram with no URP header. -/
def hbFrame : List Nat := [0, 0, 0, 0, 0, 5, 0, 0, 0, 0, 0, 9, 8, 0, 69, 0, 0, 76, 0, 0, 0, 0, 64, 17, 102, 159, 10, 0, 0, 2, 10, 0, 0, 1, 35, 40, 27, 88, 0, 56, 0, 0, 85, 82, 1, 8, 3, 0, 0, 0, 0, 0, 0, 77, 0, 0, 0, 0, 0, 0, 0, 0, 0, 0, 0, 0, 0, 0, 0, 0, 0, 0, 0, 0, 182, 32, 176, 97, 32, 227, 0, 37, 17, 202, 85, 243, 37, 57, 193, 221]
def noUrp : List Nat := [0, 0, 0, 0, 0, 5, 0, 0, 0, 0, 0, 9, 8, 0, 69, 0, 0, 76, 0, 0, 0, 0, 64, 17, 102, 159, 10, 0, 0, 2, 10, 0, 0, 1, 35, 40, 27, 88, 0, 56, 0, 0, 0, 0, 0, 0, 0, 0, 0, 0, 0, 0, 0, 0, 0, 0, 0, 0, 0, 0, 0, 0, 0, 0, 0, 0, 0, 0, 0, 0, 0, 0, 0, 0, 0, 0, 0, 0, 0, 0, 0, 0, 0, 0, 0, 0, 0, 0, 0, 0]
set_option maxRecDepth 1000000 in
theorem met_ReceivedFramesAreSortedByTable_message :
    let s : State := { eth with keys := [(6, some 0)] }
    let r := rxFrame hbFrame
    let m := (hbFrame.drop (r.pay + 8)).take (r.ulen - 8)
    rxRow s 0 hbFrame true = 6 ∧ beAt m 0 2 = 0x5552 ∧ byteAt m 2 = 1 ∧ byteAt m 3 = 8 ∧ m.length = 48 + beAt m 6 2 ∧
    (∃ k, keyBytes s 3 0 = some k ∧ (hmac256 k (m.take 32)).take 16 = m.drop 32) ∧
    replayNext (amGet (fun _ => none) s.replay 3) (beAt m 8 4) = some (77, 1) ∧ bodyBad 8 ((m.drop 32).take 0) = none := by
  refine ⟨by decide +kernel, by decide +kernel, by decide +kernel, by decide +kernel, by decide +kernel, ⟨List.replicate 32 0, ?_⟩,
    by decide +kernel, by decide +kernel⟩
  decide +kernel
theorem met_ReceivedFramesAreSortedByTable :
    eth.porOn = false ∧ domOn eth (portDom 0) = true ∧ fb eth (ETH_CTRL_enable 0) = true ∧ fb eth (ETH_STAT_link 0) = true ∧
    fb eth (ETH_CTRL_urp_en 0) = true ∧ fb eth REQ_CTRL_urp_en = true ∧ domOn eth 21 = true ∧
    rxRow eth 0 noUrp true = 6 ∧ beAt ((noUrp.drop 42).take 48) 0 2 ≠ 0x5552 ∧ rxRow eth 0 hbFrame false = 1 ∧
    rxRow (put [(ETH_CTRL_vlan_en 0, 1)] eth) 0 hbFrame true = 2 ∧ rxRow (put [(ETH_MAC_LO_mac 0, 6)] eth) 0 hbFrame true = 3 ∧
    rxRow eth 0 (hbFrame.set 12 0x88 |>.set 13 8) true = 4 ∧ rxRow eth 0 (hbFrame.set 14 0x46) true = 5 ∧
    rxRow eth 0 (hbFrame.set 12 0x99) true = 12 ∧ rxRow eth 0 (hbFrame.set 13 6) true = 9 ∧
    f eth (ETH_RXR_HEAD_head 0) = f eth (ETH_RXR_TAIL_tail 0) := by decide +kernel
/-- A SHEAF_REQ message of tenant 3 with no operation, and other messages of it. -/
def reqMsg (type : Nat) (b : List Nat) : Urp := ⟨0, 0, false, type, 3, 0, 0, 1, b, 0, [0, 0, 0, 0]⟩
theorem met_SheafRequestsAreAdmittedMeteredAndQueued :
    let u := reqMsg 1 (List.replicate 20 0)
    let s : State := { put [(BPM_STAT_ready, 1), (REQ_T_CFG_weight 3, 5), (REQ_T_CFG_q_depth 3, 8), (REQ_T_MCFG_y_thresh 3, 4),
        (REQ_T_BURST_cbs 3, 9), (REQ_T_BURST_pbs 3, 9)] eth with
      urpIn := [u], bpmCache := [(0, [4])], keys := [(6, some 0)], tokC := [(3, 9 * 65536)], tokP := [(3, 9 * 65536)] }
    s.porOn = false ∧ domOn s 21 = true ∧ admitReason s 3 (sheafOf u 0).ops = 0 ∧
    (meter 3 0 0 (elapse s 0)).1 = .green ∧ (bpmAlloc (reqId 2 0) 32 (elapse s 0)).2.1 = 0 ∧ f s (REQ_T_CFG_weight 3) ≠ 0 ∧
    (queueOf s 3).length < f s (REQ_T_CFG_q_depth 3) ∧ (queueOf s 3).length + 1 ≤ f s (REQ_T_MCFG_y_thresh 3) ∧
    keyLoaded s 3 0 = true ∧ fb s (ETH_STAT_link 0) = true ∧ f (put [(REQ_T_CFG_weight 3, 0)] s) (REQ_T_CFG_weight 3) = 0 ∧
    (meter 3 0 0 (elapse { s with tokC := [], tokP := [] } 0)).1 = .red ∧
    admitReason (put [(FLT_STAT_safe, 1)] s) 3 (sheafOf u 0).ops ≠ 0 ∧ (reqMsg 3 []).type ≠ 1 := by decide +kernel
theorem met_QueriesHeartbeatsAndTelemetry :
    (let s : State := { eth with urpIn := [reqMsg 3 [3, 0, 0, 0]], keys := [(6, some 0)], telemQ := [(3, [⟨1, 2, 3, 4, 5, 6⟩])] }
     s.porOn = false ∧ domOn s 21 = true ∧ s.urpIn = reqMsg 3 [3, 0, 0, 0] :: [] ∧ keyLoaded s 3 0 = true ∧
     fb s (ETH_STAT_link 0) = true ∧ s.commit = none ∧ ctr s.queryCnt 3 < 8 ∧
     telemOf s 3 = ⟨1, 2, 3, 4, 5, 6⟩ :: [] ∧ fb s (REQ_T_CFG_rpt_valid 3) = true ∧ keyLoaded s 3 (f s (REQ_T_CFG_tx_slot 3)) = true ∧
     f s (REQ_T_CFG_rpt_port 3) = 0 ∧ telemOf s 4 = [] ∧ ∀ x < 64, hasReport s x = false) ∧
    (8 ≤ ctr ({ eth with queryCnt := [(3, 8)] } : State).queryCnt 3) ∧
    ({ eth with commit := some (aCommit .fired []) } : State).commit.isSome = true ∧ (reqMsg 8 []).type = 8 := by decide +kernel
theorem met_KeysInstanceWeightsAndSamples :
    up.porOn = false ∧ domOn up 21 = true ∧ masterLive up 0 = true ∧ queueOf up 3 = [] ∧ up.planAt = none ∧
    ({ up with planAt := some 5 } : State).planAt = some 5 := by decide +kernel

theorem met_TemperaturesAreConvertedOnDemand :
    up.porOn = false ∧ masterLive up 0 = true ∧ up.convSite = none ∧ demPend up = 0 ∧ sevOf up 32 < 4 ∧ sevOf (put [(FLT_SRC_CFG_severity 33, 3)] up) 33 < 4 ∧
    ({ up with convSite := some 5 } : State).convSite = some 5 ∧ domOn up 2 = true ∧ f up GOV_CTRL_timer ≠ 0 ∧
    ∀ v < 18, recentRep (elapse up 0) v = [] := by decide +kernel
theorem met_StepFloorTableAndHeaterBudget :
    up.porOn = false ∧ masterLive up 0 = true ∧ up.fallSince = none ∧ ({ up with fallSince := some 5 } : State).fallSince = some 5 ∧
    tableOk (putRow 0 true 0 (put [(GOV_STEP_RATE_rate 1, 5)] up)) = false ∧ tableOk (putRow 7 true 0 up) = true ∧
    sevOf up 34 < 4 ∧ [6, 5, 4, 3].find? (admitted up) ≠ none := by decide +kernel
theorem met_DomainsWakeSleepAndFail :
    let off (d : Nat) : State := put [(GOV_DOM_STAT_on, 2 ^ 30 - 1 - 2 ^ d)] up
    let w : State := { off 20 with wakeQ := [20, 21] }
    sevOf up 24 < 4 ∧ sevOf up 38 < 4 ∧ up.porOn = false ∧ up.commit = none ∧ masterLive up 0 = true ∧
    (w.wakeQ.head? = some 20 ∧ domOn w 20 = false ∧ w.clk.now + 0 ≤ wakeLimit 20 w ∧ wakeLimit 20 w < w.clk.now + 10 ^ 12) ∧
    (let s : State := { up with sleepQ := [2] }
     s.sleepQ.head? = some 2 ∧ domOn s 2 = true ∧ domOn s 17 = true ∧ fb s (PLOT_DRL_SEED_STAT_seeded 2) = false ∧
     fb (put [(PLOT_DRL_SEED_STAT_seeded 2, 1)] s) (PLOT_DRL_SEED_STAT_seeded 2) = true) ∧
    up.wakeQ.head? ≠ some 20 ∧ up.sleepQ.head? ≠ some 20 ∧ domOn up 20 = true ∧ domOn (off 20) 20 = false ∧
    sameCycle 38 (elapse up 0) = false ∧ domFailed up 20 = false ∧
    domFailed (put [(GOV_DOM_FAIL_fail, 2 ^ 20)] up) 20 = true ∧ heldBits (elapse up 0) GOV_DOM_FAIL_fail.off = 0 ∧
    (2 ^ 22 + 2 ^ 23).testBit 22 = true ∧ domFallow (put [(GOV_DOM_FALLOW_fallow, 2 ^ 28)] up) 28 = true ∧
    shouldOn (put [(GOV_DOM_FALLOW_fallow, 2 ^ 28)] up) 28 = true := by decide +kernel
/-- The module in a device state. -/
def dev (d : Nat) : State := put [(GOV_DEV_STAT_state, d)] up
theorem met_DeviceStatesFollowTheirTable :
    up.porOn = false ∧ (∀ d < 6, devState (dev d) = d ∧ masterLive (dev d) 0 = true ∧ regOpen (dev d) 0 GOV_DEV_CMD_req.off true = true) ∧
    (let z := put [(GOV_DOM_STAT_on, 2 ^ 24)] (dev 4); devState z = 4 ∧ masterLive z 6 = true ∧ regOpen z 6 GOV_DEV_CMD_req.off true = true) ∧
    inSafe (dev 0) = false ∧
    inSafe (put [(FLT_STAT_safe, 1)] (dev 0)) = true ∧ listsEmpty (dev 1) = true ∧ (dev 5).wakeQ = [] ∧ (dev 2).commit = none ∧
    (∀ x < 30, x ≠ 24 → domOn (put [(GOV_DOM_STAT_on, 2 ^ 24)] (dev 3)) x = false) ∧
    listsEmpty ({ dev 1 with accepted := [anAcc] } : State) = false := by decide +kernel

theorem met_FaultsEscalateAreAcknowledgedAndLeadToSafe :
    up.porOn = false ∧ masterLive up 0 = true ∧ atOf up.escAt 47 = none ∧ inSafe up = false ∧
    atOf ({ up with escAt := [(47, some 9)] } : State).escAt 47 = some 9 ∧ 9 ≤ up.clk.now + 9 ∧
    heldBits (elapse up 0) (pendBit 47).off = 0 ∧ heldBits (elapse up 0) (escdBit 47).off = 0 ∧
    (let z := elapse (raise 47 0 (put [(FLT_SRC_CFG_severity 47, 1)] up)) 0
     f z (pendBit 47) = 1 ∧ heldBits z (pendBit 47).off / 2 ^ (pendBit 47).lsb % 2 ^ (pendBit 47).wid ≠ 0) ∧
    sameCycle 45 (elapse up 0) = false ∧ inSafe (put [(FLT_STAT_safe, 1)] up) = true ∧
    mayRelease (put [(FLT_STAT_safe, 1)] up) = true ∧ masterLive (put [(FLT_STAT_safe, 1)] up) 0 = true ∧
    mayRelease (put [(FLT_STAT_safe, 1), (FLT_STAT_self_fault, 1)] up) = false ∧
    bootState (put [(BOOT_STAT_state, 5)] up) = 5 := by decide +kernel
/-- The supervisor cores in given states. -/
def cores (a b : Nat) : State := put [(FLT_SUP_STAT_a_state, a), (FLT_SUP_STAT_b_state, b)] up
theorem met_WatchedSuppliesAliveAndTheSupervisorPair :
    up.porOn = false ∧ up.supplyArmed = false ∧ ({ up with supplyArmed := true } : State).supplyArmed = true ∧
    atOf up.supplyOut 37 = none ∧ (atOf ({ up with supplyOut := [(35, some 0)] } : State).supplyOut 35).isSome = true ∧
    sameCycle 35 (elapse up 0) = false ∧ fb up FLT_STAT_self_fault = false ∧ up.pdEn = false ∧
    ({ up with pdEn := true } : State).pdEn = true ∧ fb (put [(FLT_CTRL_serve, 1)] up) FLT_CTRL_serve = true ∧
    inSafe up = false ∧ devState up < 2 ∧ sevOf (put [(FLT_SRC_CFG_severity 11, 3)] up) 11 < 4 ∧ sevOf up 10 < 4 ∧
    sameCycle 10 (elapse up 0) = false ∧ (∀ k < 2, supRuns (cores 3 2) k = true) ∧ supHeld (cores 3 2) = true ∧
    supHeld (cores 4 2) = false ∧ supState (cores 4 2) 1 = 2 ∧ bootState (cores 4 4) = 6 ∧
    fb (cores 4 4) FLT_SUP_STAT_no_holder = false ∧ masterLive (cores 3 4) 0 = true ∧ supState (cores 3 1) 1 = 1 := by
  decide +kernel

theorem met_ScratchpadAtomicsAndHarrow :
    let r := put [(BUS_MODE_mode, 0)] up
    let h := put [(BUS_HRW_STAT_active, 1), (BUS_HRW_STAT_region, 32767)] r
    let g := put [(BUS_MODE_mode, 1)] up
    up.porOn = false ∧ masterLive up 0 = true ∧ spmOpen up 0 0x7FFFF8 = true ∧ spmOpen up 6 0 = true ∧ domOn up 26 = true ∧
    domOn up 27 = true ∧ sevOf up 18 < 4 ∧ sevOf up 19 < 4 ∧ sevOf up 20 < 4 ∧
    f r BUS_MODE_mode = 0 ∧ fb r BUS_HRW_STAT_active = false ∧ fb h BUS_HRW_STAT_active = true ∧ hrwRegion h = 0x7FFFF8 / 256 ∧
    f g BUS_MODE_mode ≠ 0 ∧ 0x7FFFF9 % 8 ≠ 0 ∧ sameCycle 18 (elapse up 0) = false ∧
    hrwMay r = true ∧ hrwMay g = false ∧ fb h BUS_HRW_STAT_active = true ∧ f (put [(BUS_CONF_CFG_conf_rate, 0)] up) BUS_CONF_CFG_conf_rate = 0 ∧
    12 ≤ f (put [(BUS_QOS_qos 0, 15)] h) (BUS_QOS_qos 0) ∧ h.clk.now < h.hrwAt + 14200 ∧
    hrwFind (put [(BUS_HRW_LOG_valid 3, 1)] h) 0 0 = some 3 ∧ hrwFind h 15 511 = none ∧
    (List.range 16).find? (fun i => !fb h (BUS_HRW_LOG_valid i)) = some 0 := by decide +kernel
theorem met_DramDiesFencesRemapAndRepairFuses :
    let d := put [(DRC_STAT_d0_off, 1)] up
    let te := put [(BUS_MODE_mode, 2)] up
    up.porOn = false ∧ sevOf up 16 < 4 ∧ sevOf up 17 < 4 ∧ sevOf up 25 < 4 ∧ masterLive up 1 = true ∧ masterLive up 5 = true ∧ masterLive up 6 = true ∧
    (∀ i < 1024, inFreeRing (0x80000400 + i) = false) ∧ bootState up = 6 ∧ domOn up 25 = true ∧ dieOff up (dieOf 0xFFFFFFF8) = false ∧ dieOff d 0 = true ∧ calActive up = false ∧
    (∀ i < 8, inFreeRing (0xFFFFFFF8 + i) = false) ∧ isCopy0 0x80000400 = true ∧
    domOn (put [(GOV_DOM_STAT_on, 0)] up) 25 = false ∧ sameCycle 25 (elapse up 0) = false ∧
    regOpen up 6 BUS_HOST_FENCE_fences.off false = true ∧ up.hostFence = false ∧ supHeld State.reset = false ∧ supState State.reset 0 ≠ 2 ∧
    ({ up with hostFence := true } : State).hostFence = true ∧ masterLive State.reset 0 = false ∧
    f (put [(BUS_MODE_mode, 1)] up) BUS_MODE_mode = 1 ∧ f te BUS_MODE_mode = 2 ∧ fb te BUS_REPAIR_STAT_busy = false ∧
    repairOf te 15 3 = 0 ∧ repairOf ({ te with repairFuse := [(63, 5)] } : State) 15 3 ≠ 0 ∧
    f up BOOT_STAT_boot_mode ≠ 2 ∧ f (put [(BOOT_STAT_boot_mode, 2)] up) BOOT_STAT_boot_mode = 2 ∧
    ({ up with repairBusy := some (15, 3, 259) } : State).repairBusy = some (15, 3, 259) := by decide +kernel
set_option maxRecDepth 1000000 in
/-- Of both copies of a zero tile the CRC fails; of a tile whose bytes carry it, it passes. -/
theorem met_CheckedReads :
    tilePasses up 0x80000400 = false ∧
    tilePasses ({ up with dram := memBytes [] 0x80000400 (tileBytes []) } : State) 0x80000400 = true ∧
    tilePasses ({ up with dram := memBytes [] 0x80000400 (tileBytes []) } : State) (copyAddr 0x80000400 1) = false := by
  decide +kernel

theorem met_BufferPoolsLendAndTakeBack :
    let r := put [(BPM_STAT_ready, 1), (mFld 0 (BPM_REQ_SIZE_size 31), 65536)] up
    let c := { r with bpmCache := [(3, [5])], bpmBuf := [(3 * 16384 + 7, ⟨true, 31, 9⟩)] }
    let e := { r with bpmRing := [(6, []), (7, [])] }
    let h := mkHandle 3 7 9
    up.porOn = false ∧ masterLive up 0 = true ∧ masterLive up 2 = true ∧ domOn up 25 = true ∧ sevOf up 21 < 4 ∧ sevOf up 22 < 4 ∧
    sevOf up 23 < 4 ∧ regOpen up 0 (BPM_ALLOC_handle 31).off false = true ∧ regOpen up 6 (BPM_ALLOC_handle 31).off false = true ∧
    poolFor 0 = none ∧ poolFor 65536 = some 3 ∧ f r (mFld 0 (BPM_REQ_SIZE_size 31)) = 65536 ∧ fb r BPM_STAT_ready = true ∧
    fb up BPM_STAT_ready = false ∧ (cacheGet c 3).filter (fun i => !dieOff c (bufDie 3 i)) ≠ [] ∧ cacheGet r 3 = [] ∧
    (takeRing 3 (bpmArrive (reqId 0 31) (elapse r 0))).isSome = true ∧ takeRing 3 (bpmArrive (reqId 0 31) (elapse e 0)) = none ∧
    sameCycle 23 (bpmArrive (reqId 0 31) (elapse e 0)) = false ∧
    (let q : State := { c with bpmReq := 99, bpmFreed := [bufKey 3 5] }
     q.bpmCycle = (elapse q 0).clk.now / busPeriod ∧ reqId 0 31 < q.bpmReq ∧ (elapse q 0).clk.now < (bpmArrive (reqId 0 31) (elapse q 0)).clk.now) ∧
    (cacheGet ({ r with bpmCache := [(3, List.range 64)] } : State) 3).length = 64 ∧
    dieOff (put [(DRC_STAT_d0_off, 1)] up) (bufDie 3 7) = true ∧
    hValid h = true ∧ bufGet c (hPool h) (hIndex h) = ⟨true, reqId 0 31, hTag h⟩ ∧ hValid 0 = false ∧
    (bufGet r (hPool h) (hIndex h)).alloc = false ∧ bufGet c (hPool h) (hIndex h) ≠ ⟨true, reqId 0 30, hTag h⟩ ∧
    mayOwn (f (put [(mFld 0 (BPM_GIVE_TO_requester 31), 3 * 32)] c) (mFld 0 (BPM_GIVE_TO_requester 31))) = false ∧
    mayOwn (f c (mFld 0 (BPM_GIVE_TO_requester 31))) = true ∧ (cacheGet c 3).length < 16 := by decide +kernel

set_option maxRecDepth 1000000 in
theorem met_BootGoesFromFusesToReadyByItsCommands :
    let q := put [(FLT_SRC_CFG_severity 16, 1), (FLT_SRC_CFG_severity 17, 1), (FLT_SRC_CFG_severity 25, 1), (FLT_SRC_CFG_severity 40, 1),
      (FLT_SRC_CFG_severity 41, 1), (FLT_SRC_CFG_severity 42, 1), (FLT_SRC_CFG_severity 43, 1)]
    let s := q up
    let l := put [(BOOT_STAT_state, 2), (BOOT_FW_ADDR_addr, 1)] s
    let v := put [(BOOT_STAT_state, 4), (BOOT_PLAN_ADDR_addr, 1)] s
    (∀ n ∈ [16, 17, 25, 40, 41, 42, 43], sevOf s n < 4) ∧ s.porOn = false ∧
    bootState (q State.reset) = 0 ∧ fb State.reset ID_FUSE_STAT_sensed = false ∧ domOn State.reset 24 = false ∧
    domFailed State.reset 24 = false ∧ sameCycle 43 (elapse State.reset 0) = false ∧
    bootState (put [(BOOT_STAT_state, 1)] s) = 1 ∧ (∀ x ∈ romDomains, domOn s x = true) ∧
    masterLive l 6 = true ∧ regOpen l 6 BOOT_CMD_op.off true = true ∧ bootState l = 2 ∧ l.bootBusy = 0 ∧
    masterLive v 0 = true ∧ regOpen v 0 BOOT_CMD_op.off true = true ∧ bootState v = 4 ∧ f v BOOT_STAT_boot_mode ≠ 2 ∧
    bootState s = 6 ∧ contTile s s.planBase 0 = none ∧ ({ l with bootBusy := 1 } : State).bootBusy = 1 ∧
    contErr ({ l with bootBusy := 1 } : State) (f l BOOT_FW_ADDR_addr) 1 = some { code := 1 } ∧
    contErr ({ v with bootBusy := 2 } : State) (f v BOOT_PLAN_ADDR_addr) 2 = some { code := 1 } := by decide +kernel
/-- A container of one tile, its header, with no section, in the upper half of the scratchpad. -/
def oneTile : State :=
  { up with planBase := 0x10400000, spm := memBytes [] 0x400000 (tileBytes [0, 0, 0, 0, 0, 0, 0, 0, 1]) }
set_option maxRecDepth 1000000 in
theorem met_PlanIsReapplied :
    (contTile oneTile 0x10400000 0).isSome = true ∧ tileErr oneTile 0x10400000 1 = none ∧
    ((contTile oneTile 0x10400000 0).map (fun h => rangeErr (planSecs oneTile 0x10400000 h))) = some none := by decide +kernel
theorem met_FusesBurnAttestationSignsAndTheSealHolds :
    let l := put [(BOOT_STAT_state, 2)] up
    let a := put [(SEC_ATT_ADDR_addr, 0x89000000)] up
    let z := put [(ID_FUSE_STAT_seal, 1)] up
    up.porOn = false ∧ sevOf up 42 < 4 ∧ sevOf up 44 < 4 ∧ masterLive l 6 = true ∧ regOpen l 6 SEC_FUSE_CMD_op.off true = true ∧
    bootState l = 2 ∧ l.fuBusy = none ∧ l.fuProg.testBit 3 = false ∧ ({ l with fuProg := 15 } : State).fuProg.testBit 3 = true ∧
    usableWithout ({ l with fuProg := 8 } : State) 3 = false ∧ usableWithout ({ l with fuProg := 12 } : State) 3 = true ∧
    f (put [(BOOT_STAT_boot_mode, 2)] up) BOOT_STAT_boot_mode = 2 ∧ regOpen up 0 SEC_FUSE_CMD_op.off true = true ∧
    ({ l with fuBusy := some (1, 3, 5) } : State).fuBusy = some (1, 3, 5) ∧
    masterLive a 0 = true ∧ regOpen a 0 SEC_ATT_CMD_go.off true = true ∧ fb a SEC_ATT_STAT_busy = false ∧ 4 ≤ bootState a ∧
    domFallow a 29 = false ∧ a.attOpen = none ∧ nextEpoch a = some 0 ∧
    nextEpoch ({ a with useEpoch := BitVec.allOnes 4096 } : State) = none ∧
    inSingle (f a SEC_ATT_ADDR_addr) 3168 = true ∧ inSingle (f up SEC_ATT_ADDR_addr) 3168 = false ∧
    ({ a with attOpen := some (0, 1023) } : State).attOpen = some (0, 1023) ∧
    fb (put [(SEC_ATT_STAT_busy, 1)] a) SEC_ATT_STAT_busy = true ∧ pd24Up a = true ∧ domOn a 25 = true ∧
    dieOff a (dieOf 0x89000000) = false ∧ inFreeRing 0x89000000 = false ∧ calActive a = false ∧
    sealed up = false ∧ sealed z = true ∧ domOn z 29 = true ∧ sameCycle 44 (elapse z 0) = false ∧ debugMay z = false ∧
    debugMay (put [(SEC_DBG_CTRL_dbg_en, 0)] up) = false := by decide +kernel
theorem met_ResetsTreatTheStateAsTheirTable :
    let h := put [(BOOT_HOLD_STAT_windows, 7)] up
    up.porOn = false ∧ sevOf up 24 < 4 ∧ masterLive up 0 = true ∧ masterLive up 6 = true ∧ (∀ d ∈ [21, 22, 23, 28, 29], domOn up d = true) ∧
    regOpen up 6 BOOT_RST_sup_reset.off true = true ∧ up.perstLow = false ∧ ({ up with perstLow := true } : State).perstLow = true ∧
    pd24Up up = true ∧ pd24Up ({ up with perstLow := true } : State) = false ∧ up.rstLow = false ∧ bootState up ≠ 0 ∧
    regOpen up 0 BOOT_RST_warm.off true = true ∧ holdTaken false up = false ∧ holdTaken false h = true ∧ anyHeld h = true ∧
    anyHeld up = false ∧ holdTaken true h = false ∧ domOn up 17 = true ∧ domOn up 20 = true ∧ up.rot = none ∧
    ({ up with rstLow := true } : State).rstLow = true ∧ sameCycle 39 (elapseTo (elapse h 0) h.holdAt) = false ∧
    up.fuBusy = none ∧ up.repairBusy = none ∧ ({ up with porOn := true } : State).porOn = true ∧
    ({ up with porOn := true, porEnd := some 4 } : State).porEnd = some 4 := by decide +kernel

/-- A channel's ring in DRAM with one descriptor: flags, source, destination and length. -/
def ring (fl src dst len : Nat) : State :=
  { put [(DMA_CTRL_enable, 1), (DMA_CH_BASE_addr 15, 0x89E00000), (DMA_CH_CFG_entries 15, 16), (DMA_CH_TAIL_tail 15, 1)] up with
    dram := memBytes [] 0x89E00000 (leBytes 4 src ++ leBytes 4 dst ++ leBytes 4 len ++ leBytes 4 fl ++ leBytes 4 0x11223344) }
theorem met_SmbusTickPhaseAndDmaDescriptors :
    let a := 0x89E00000
    let d (s : State) := descOf (busGet s a 32)
    let plain (s : State) : Bool := d s |>.flags |>.testBit 0
    let z := put [(GOV_STAT_therm, 1)] up
    up.porOn = false ∧ bootState up ≠ 0 ∧ bootState State.reset = 0 ∧ up.convSite = none ∧ siteValid up 0 = false ∧
    siteValid (put [(GOV_SITE_TEMP_valid 47, 1)] up) 47 = true ∧ alertLow up = false ∧ alertLow z = true ∧ sevOf up 24 < 4 ∧
    domOn up 20 = true ∧ tbEnabled up 0 = true ∧ tbEnabled up 3 = false ∧ masterLive up 0 = true ∧
    (∀ c < 16, regOpen up 0 (DMA_CH_CTRL_reset c).off true = true) ∧
    masterLive (ring 9 0 0x8A000000 5) 5 = true ∧ fb (ring 9 0 0x8A000000 5) DMA_CTRL_enable = true ∧
    fb (ring 9 0 0x8A000000 5) (DMA_CH_STAT_halted 15) = false ∧
    f (ring 9 0 0x8A000000 5) (DMA_CH_BASE_addr 15) + 32 * f (ring 9 0 0x8A000000 5) (DMA_CH_HEAD_head 15) = a ∧
    f (ring 9 0 0x8A000000 5) (DMA_CH_HEAD_head 15) ≠ f (ring 9 0 0x8A000000 5) (DMA_CH_TAIL_tail 15) ∧
    descOk (ring 0 0 0x8A000000 5) (d (ring 0 0 0x8A000000 5)) = false ∧
    descOk (ring 9 0 0x8A000000 5) (d (ring 9 0 0x8A000000 5)) = true ∧
    (let z := put [(DRC_STAT_d1_off, 1)] (ring 9 0 0xCA000000 5); descOk z (d z) = true ∧ dmaGood z (d z).dst (d z).len < (d z).len ∧ masterLive z 5 = true ∧
      (∀ k < 0x20, (match targetOf z (a + k) with | .dram x => !dieOff z (dieOf x) | _ => false) = true) ∧
      (match targetOf z (d z).dst with | .reg _ => false | _ => true) = true) ∧
    (let z := put [(DRC_STAT_d1_off, 1)] (ring 9 0 0xBFFFFFFD 5); dmaGood z (d z).dst (d z).len = 3 ∧
      (∀ i < 3, inFreeRing (0xBFFFFFFD + i) = false) ∧ domOn z 25 = true ∧ calActive z = false) ∧
    (d (ring 9 0 0x8A000000 5)).flags.testBit 3 = true ∧ (d (ring 9 0 0x8A000000 5)).flags.testBit 2 = false ∧ plain (ring 9 0 0x8A000000 5) = true ∧
    (d (ring 9 0 0x8A000000 5)).dst = 0x8A000000 ∧ (d (ring 9 0 0x8A000000 5)).len = 5 ∧ calActive (ring 9 0 0x8A000000 5) = false ∧
    (∀ i < 5, inFreeRing (0x8A000000 + i) = false) ∧ dieOff (ring 9 0 0x8A000000 5) (dieOf 0x8A000000) = false ∧
    (d (ring 1 0x8B000000 0x8A000000 5)).flags.testBit 3 = false ∧ (d (ring 1 0x8B000000 0x8A000000 5)).src = 0x8B000000 ∧
    (d (ring 5 0x80000400 0x8A000000 1024)).flags.testBit 2 = true ∧ isCopy0 (d (ring 5 0x80000400 0x8A000000 1024)).src = true ∧
    (d (ring 5 0x80000400 0x8A000000 1024)).len = 1024 ∧ sevOf up 16 < 4 ∧ sevOf up 17 < 4 ∧ sevOf up 25 < 4 := by decide +kernel
/-- The module with a glean channel in a state, its buffer owned. -/
def gl (n st : Nat) (x : GlnX) : State :=
  { put [(BPM_STAT_ready, 1), (GLN_CH_STAT_state n, st), (GLN_CH_DEPTH_post n, 4)] up with
    gln := [(n, x)], bpmCache := [(3, [5])], bpmBuf := [(3 * 16384 + 7, ⟨true, 0x80 + n, 9⟩)] }
theorem met_GleanCapturesRecords :
    let e := { gl 7 0 {} with bpmCache := [], bpmRing := [(6, []), (7, [])] }
    let h := mkHandle 3 7 9
    let g (c : Nat) : GlnX := { trig := c, buf := some h, depth := 4 * 65536 + 2, preV := 2 }
    let q := { gl 7 2 (g 9) with fltRaised := [(3, some 0)] }
    let qf := put [(GLN_FLT_MASK_LO_mask, 8)] q
    up.porOn = false ∧ domOn (gl 7 0 {}) 28 = true ∧ domOn (gl 7 0 {}) 25 = true ∧ (∀ k ∈ [21, 22, 23, 46], sevOf up k < 4) ∧
    masterLive (gl 7 0 {}) 0 = true ∧ glnState (gl 7 0 {}) 7 = 0 ∧ glnArmReason (gl 7 0 {}) 7 = 0 ∧ glnArmReason (put [(GLN_CH_DEPTH_post 7, 0)] up) 7 ≠ 0 ∧
    fb (gl 7 0 {}) BPM_STAT_ready = true ∧ cacheGet (gl 7 0 {}) 3 = [5] ∧ dieOff (gl 7 0 {}) (bufDie 3 5) = false ∧
    cacheGet e 3 = [] ∧ takeRing 3 (bpmArrive (glnReq 7) (elapse e 0)) = none ∧ bufKey 3 5 ∉ (gl 7 0 {}).bpmFreed ∧
    hIndex h ∉ cacheGet (gl 7 3 (g 0)) 3 ∧ (∃ z, ({ g 0 with srcOff := some 4 } : GlnX).srcOff = some z ∧ z < 0 + 125) ∧ glnState (gl 7 1 (g 0)) 7 = 1 ∧ glnState (gl 7 4 (g 0)) 7 = 4 ∧
    (glnOf (gl 7 2 (g 130)) 7).trig % 32 = 2 ∧ (glnOf (gl 7 2 (g 130)) 7).trig / 32 % 4 = 0 ∧
    verWindow (gl 7 2 (g 8)) 0 0 = false ∧ (snsOf (snsPut 0 0 { left := true } (gl 7 2 (g 8))) 0 0).left = true ∧ glnFault (elapse q 0) = none ∧ glnFault (elapse qf 0) = some (3, 0) ∧
    (glnOf (gl 7 3 (g 0)) 7).buf = some h ∧ hValid h = true ∧ dieOff (gl 7 3 (g 0)) (bufDie (hPool h) (hIndex h)) = false ∧
    bufGet (gl 7 3 (g 0)) (hPool h) (hIndex h) = ⟨true, 0x87, hTag h⟩ ∧ mayOwn 0 = true ∧ glnLen (g 0) = 6 ∧
    (g 0).preV ≤ glnPre (g 0) ∧ (g 0).doneQ.length < 8 ∧ 8 ≤ (List.replicate 8 h).length ∧
    sameCycle 46 (elapse (gl 7 3 (g 0)) 0) = false := by decide +kernel

/-! ### Well-formedness -/

/-- One well-formed command per constructor, part 1. -/
def goodTerms1 : List Instr := [
  .registerWrite 0 0 0 4 0, .rcRead 0 0 0 4, .unassignedAccess 0 0 0 4 false, .bar2Access 0 0 4 none,
  .portEvaluation 0 0 () () (), .portLit 0 0 () () (), .portDark 0 0 () () (), .fairQueueSelect 0, .scheduledRelease 0,
  .solveComplete 0 0, .solveWatchdog 0, .fwSolveComplete 0 false, .hwEnWrite 0 0 0, .mapCapture 0 0 0,
  .mapCaptureCopy 0, .mapValidate 0 0 0, .membershipClose 0, .commitTick 0, .routingWaveformStart 0,
  .verifyStrobe 0 [] [], .verifyDecision 0, .gateOpen 0, .commitComplete 0, .unseenLateVerify 0 0 () (),
  .burstWrite 0 0 0, .tbCtrlWrite 0 0 0 0, .tbSnap 0 0, .tbFreqWrite 0 0 0 0, .tbAdjStep 0 0 0 0, .tbAdjSlew 0 0 0 0,
  .slewEnd 0 0, .tbCmdAcquire 0 0 0, .tbCmdLocked 0 0 0, .tbCmdHoldover 0 0 0, .tbCmdFree 0 0 0,
  .tbServoWatchdog 0 0, .ppsInEdge 0, .ppsMissing 0 0, .holdoverLimit 0 0, .tsqPop 0 0 0, .ppsOutPulse 0,
  .rotArm 0 0 0, .rotStart 0 0 0, .rotStopHold 0 0 0, .rotStopDark 0 0 0, .rotDiscard 0 0 0, .rotFirstCommit 0,
  .rotSlotBoundary 0, .rotLoadArm 0, .rotLoadStart 0, .rotLoadStopHold 0, .rotLoadStopDark 0, .rotLoadDiscard 0,
  .rotLoadWriteArm 0, .frameBoundary 0 [], .leaseExpire 0 0, .quarterBoundary 0 0 [] [],
  .loopUpdate 0 0 0 0 false false, .loopDeadlineMiss 0 0 0, .quickQuarter 0 0 1 [],
  .quickUpdate 0 0 0 1 0 false false, .engineRepair 0 0 0 0, .engineResyncDone 0 0 0 false, .pairRun 0 0 0,
  .pairStop 0 0 0, .traceArm 0 0 0, .traceForce 0 0 0, .traceTrigger 0 0, .tracePostDone 0 0, .codeTick 0 0 0,
  .deglitchRelease 0 0 0 false, .slewLimiterStep 0 0 0, .swCodePush 0 0 0 0 0, .rangeWrite 0 0 0 0 0,
  .rangeApply 0 0 0]
/-- One well-formed command per constructor, part 2. -/
def goodTerms2 : List Instr := [
  .segWrite 0 0 0 0 0, .segmentTakeover 0 0 0, .gateMonitorFail 0 0 0, .heaterOpen 0 0 0, .heaterShort 0 0 0,
  .htrShortClear 0 0 0 0, .testPlay 0 0 0 0 0 0, .seedGo 0 0 0 0, .seedSettled 0 0, .sampleMissed 0 0 0,
  .windowLeave 0 0 0 (0, 0), .sliceFail 0 0 0 false, .bgCalTurn 0 0, .bgCalDone 0 0 (0, 0) (0, 0), .electrodeFail 0 0 0 [] [],
  .reserveElectrodeFail 0 0 (0, [], []), .reserveSelect 0 0 0 0 false, .calVerify 0 0, .calVerifyDone 0, .calActivate 0 0,
  .calInvalidate 0 0, .workingSetLoad 0 0, .sensorHalfSwap 0 0, .calMark 0 0 0 0 false, .calEnd 0 0 0 0,
  .calAbandon 0 0 0 0, .calStaleLimit 0 0 0, .linkUp 0 0, .linkDown 0 0 false, .frameReceive 0 0 [] false,
  .frameTransmit 0 0, .sheafReq 0, .query 0, .heartbeat 0, .heartbeatPeriodic 0, .telemSend 0 0, .keyLoad 0 0 0 0,
  .keyErase 0 0 0 0, .instanceWrite 0 0 0, .tenantWeightZero 0 0 0, .queueSample 0, .histClear 0 0,
  .tempDemandWrite 0 0 false 0, .demandTimer 0, .tempConversionDone 0 0, .stepFall 0, .heaterBudgetEval 0,
  .floorWrite 0 0 0, .stepTableWrite 0 0 0 false 0, .domainWake 0 0, .domainSleep 0 0 0 0, .domainFail 0 0 0 0,
  .domainRetry 0 0 0, .fallowWrite 0 0 0, .devReqRun 0 0, .devReqPark 0 0, .devReqStandby 0 0, .parkEnter 0,
  .parkWaitTimeout 0, .standbyEnter 0, .wakeComplete 0, .vaonLoss 0, .escalationExpiry 0 0, .faultAck 0 0 0,
  .escalatedClear 0 0 0, .safeEnterCmd 0 0, .safeRelease 0 0, .fltLock 0 0,
  .collectorSelfFault 0 false false false false, .aliveToggle 0, .serveSet 0 0, .supplyOutOfRange 0 35,
  .supplyCheckArm 0, .supDiverge 0 false false false, .supLeaseRenew 0]
/-- One well-formed command per constructor, part 3. -/
def goodTerms3 : List Instr := [
  .supLeaseExpire 0, .supCoreRepair 0 0 false false, .supResyncDone 0 0 false, .hostFence 0, .hostFenceComplete 0,
  .barrier 0 0, .barrierComplete 0 0, .remapWrite 0 0 0, .remapApply 0, .busModeWrite 0 0 0, .busModeApply 0,
  .scratchpadAccess 0 0 0 4 none 0 false 0, .atomicOp 0 0 0 0 4 0, .conflictRateWindow 0, .harrowPass 0,
  .harrowPassDone 0 [], .repairFuseBlow 0 0 0 0 0, .dramAccess 0 0 0x80000000 4 none, .checkedRead 0 0 0x80000000,
  .dieCheck 0 false false, .bpmAlloc 0 0 0 0, .bpmFree 0 0 0 0, .bpmGive 0 0 0 0, .bpmCacheRefill 0 0, .bpmReady 0,
  .domainReset 0 0 21 0, .fuseSense 0 0 [], .romReady 0, .fwVerify 0 0, .fwVerifyDone 0, .planApply 0 0,
  .planApplyDone 0, .planReapply 0 0 0, .fuseProgramSlot 0 0 0, .fuseRevokeSlot 0 0 0, .fuseBlowSeal 0 0,
  .attest 0 0, .attestDone 0, .debugAttempt 0, .porAssert 0, .porEnd 0, .aonResetRelease 0 0,
  .warmReset 0 false 0 0 [], .holdExpire 0, .perst 0 0 0, .functionLevelReset 0 0 0, .supReset 0 0, .smbReadId 0,
  .smbReadStatus 0, .smbTempDemand 0, .smbReadSite 0 0, .smbAlertResponse 0, .dmaDescriptor 0 6, .dmaResume 0 0 0,
  .dmaChannelReset 0 0 0 0, .glnArm 0 0 0, .glnStop 0 0 0, .glnForce 0 0 0, .glnMuxSettled 0 0, .glnPreFilled 0 0,
  .glnTrigger 0 0 false, .glnRecordComplete 0 0 (0, 0) [], .glnDonePop 0 0 0, .glnSampleLost 0 0, .tickPhaseMeasurement 0,
  .supplyBackInRange 0 35, .vpkBelowPowerGood 0 false, .vhtrBelowPowerGood 0 0 false, .fuseCommandComplete 0 0,
  .repairBlowComplete 0 0, .rstNRelease 0 0, .perstNRelease 0, .dramReadTimeout 0 0 0, .heaterPowerReport 0 0 0 [] [],
  .tapInstruction 0 0]
/-- Commands with one operand outside its range, one for each check of `Instr.wf`, part 1. -/
def badTerms1 : List Instr := [
  .registerWrite 0 1 0 4 0, .registerWrite 0 0 0x4000000 4 0, .registerWrite 0 0 0 3 0, .registerWrite 0 0 2 4 0,
  .registerWrite 0 0 0 4 (2 ^ 32), .rcRead 0 1 0 4, .rcRead 0 0 0x4000000 4, .rcRead 0 0 0 3, .rcRead 0 0 2 4,
  .unassignedAccess 0 8 0 4 false, .unassignedAccess 0 0 (2 ^ 34) 4 false, .unassignedAccess 0 0 0 3 false,
  .unassignedAccess 0 0 2 4 false, .bar2Access 0 0x10000000 4 none, .bar2Access 0 0 3 none, .bar2Access 0 2 4 none,
  .portEvaluation 0 256 () () (), .portLit 0 256 () () (), .portDark 0 256 () () (), .solveComplete 0 3, .hwEnWrite 0 1 0,
  .hwEnWrite 0 0 (2 ^ 32), .mapCapture 0 1 0, .mapCapture 0 0 4096, .mapValidate 0 1 0, .mapValidate 0 0 4096,
  .verifyStrobe 0 (List.replicate 257 (0, 0)) [], .verifyStrobe 0 [] (List.replicate 257 ((0, 0), (0, 0))),
  .unseenLateVerify 0 256 () (), .burstWrite 0 1 0, .burstWrite 0 0 (2 ^ 32), .tbCtrlWrite 0 1 0 0,
  .tbCtrlWrite 0 0 4 0, .tbCtrlWrite 0 0 0 (2 ^ 32), .tbSnap 0 1, .tbFreqWrite 0 1 0 0, .tbFreqWrite 0 0 4 0,
  .tbFreqWrite 0 0 0 (2 ^ 32), .tbAdjStep 0 1 0 0, .tbAdjStep 0 0 4 0, .tbAdjStep 0 0 0 65536, .tbAdjSlew 0 1 0 0,
  .tbAdjSlew 0 0 4 0, .tbAdjSlew 0 0 0 65536, .slewEnd 0 4, .tbCmdAcquire 0 1 0, .tbCmdAcquire 0 0 4,
  .tbCmdLocked 0 1 0, .tbCmdLocked 0 0 4, .tbCmdHoldover 0 1 0]
/-- Commands with one operand outside its range, one for each check of `Instr.wf`, part 2. -/
def badTerms2 : List Instr := [
  .tbCmdHoldover 0 0 4, .tbCmdFree 0 1 0, .tbCmdFree 0 0 4, .tbServoWatchdog 0 4, .ppsMissing 0 4,
  .holdoverLimit 0 4, .tsqPop 0 1 0, .tsqPop 0 0 2, .rotArm 0 1 0, .rotArm 0 0 16, .rotStart 0 1 0, .rotStart 0 0 16,
  .rotStopHold 0 1 0, .rotStopHold 0 0 16, .rotStopDark 0 1 0, .rotStopDark 0 0 16, .rotDiscard 0 1 0,
  .rotDiscard 0 0 16, .frameBoundary 0 ([(18 * 4096, 0, 0)]), .frameBoundary 0 ([(0, 16384, 0)]),
  .frameBoundary 0 ([(0, 0, 16384)]), .leaseExpire 0 18, .quarterBoundary 0 4 [] [],
  .quarterBoundary 0 0 ([(18 * 4096, 0, 0)]) [], .quarterBoundary 0 0 ([(0, 16384, 0)]) [],
  .quarterBoundary 0 0 ([(0, 0, 16384)]) [], .quarterBoundary 0 0 [] ([(18 * 32, 0, 0)]),
  .quarterBoundary 0 0 [] ([(0, 16384, 0)]), .quarterBoundary 0 0 [] ([(0, 0, 16384)]),
  .loopUpdate 0 18 0 0 false false, .loopUpdate 0 0 720 0 false false, .loopUpdate 0 16 512 0 false false,
  .loopUpdate 0 17 2048 0 false false, .loopUpdate 0 0 0 3 false false, .loopDeadlineMiss 0 18 0,
  .loopDeadlineMiss 0 0 720, .loopDeadlineMiss 0 16 512, .loopDeadlineMiss 0 17 2048, .quickQuarter 0 0 (1 - 1) [],
  .quickQuarter 0 0 (8 + 1) [], .quickQuarter 0 0 1 ([(18 * 4096, 0, 0)]), .quickQuarter 0 0 1 ([(0, 16384, 0)]),
  .quickQuarter 0 0 1 ([(0, 0, 16384)]), .quickUpdate 0 18 0 1 0 false false, .quickUpdate 0 0 720 1 0 false false,
  .quickUpdate 0 16 512 1 0 false false, .quickUpdate 0 17 2048 1 0 false false,
  .quickUpdate 0 0 0 (1 - 1) 0 false false, .quickUpdate 0 0 0 (3 + 1) 0 false false,
  .quickUpdate 0 0 0 1 3 false false]
/-- Commands with one operand outside its range, one for each check of `Instr.wf`, part 3. -/
def badTerms3 : List Instr := [
  .engineRepair 0 1 0 0, .engineRepair 0 0 18 0, .engineRepair 0 0 0 2, .engineResyncDone 0 18 0 false,
  .engineResyncDone 0 0 2 false, .pairRun 0 1 0, .pairRun 0 0 18, .pairStop 0 1 0, .pairStop 0 0 18, .traceArm 0 1 0,
  .traceArm 0 0 18, .traceForce 0 1 0, .traceForce 0 0 18, .traceTrigger 0 18, .tracePostDone 0 18, .codeTick 0 18 0,
  .codeTick 0 0 960, .codeTick 0 16 512, .codeTick 0 17 2048, .deglitchRelease 0 18 0 false,
  .deglitchRelease 0 0 960 false, .deglitchRelease 0 16 512 false, .deglitchRelease 0 17 2048 false,
  .slewLimiterStep 0 18 0, .slewLimiterStep 0 0 960, .slewLimiterStep 0 16 512, .slewLimiterStep 0 17 2048,
  .swCodePush 0 1 0 0 0, .swCodePush 0 0 18 0 0, .swCodePush 0 0 0 960 0, .swCodePush 0 0 16 512 0,
  .swCodePush 0 0 17 2048 0, .swCodePush 0 0 0 0 (2 ^ 32), .rangeWrite 0 1 0 0 0, .rangeWrite 0 0 18 0 0,
  .rangeWrite 0 0 0 960 0, .rangeWrite 0 0 16 512 0, .rangeWrite 0 0 17 2048 0, .rangeWrite 0 0 0 0 (2 ^ 32),
  .rangeApply 0 18 0, .rangeApply 0 0 960, .rangeApply 0 16 512, .rangeApply 0 17 2048, .segWrite 0 1 0 0 0,
  .segWrite 0 0 18 0 0, .segWrite 0 0 0 960 0, .segWrite 0 0 16 512 0, .segWrite 0 0 17 2048 0,
  .segWrite 0 0 0 0 (2 ^ 32), .segmentTakeover 0 18 0]
/-- Commands with one operand outside its range, one for each check of `Instr.wf`, part 4. -/
def badTerms4 : List Instr := [
  .segmentTakeover 0 0 960, .segmentTakeover 0 16 512, .segmentTakeover 0 17 2048, .gateMonitorFail 0 18 0,
  .gateMonitorFail 0 0 960, .gateMonitorFail 0 16 512, .gateMonitorFail 0 17 2048, .heaterOpen 0 18 0,
  .heaterOpen 0 0 960, .heaterOpen 0 16 512, .heaterOpen 0 17 2048, .heaterShort 0 18 0, .heaterShort 0 0 960,
  .heaterShort 0 16 512, .heaterShort 0 17 2048, .htrShortClear 0 1 0 0, .htrShortClear 0 0 18 0,
  .htrShortClear 0 0 0 960, .htrShortClear 0 0 16 512, .htrShortClear 0 0 17 2048, .testPlay 0 1 0 0 0 0,
  .testPlay 0 0 18 0 0 0, .testPlay 0 0 0 960 0 0, .testPlay 0 0 16 512 0 0, .testPlay 0 0 17 2048 0 0,
  .testPlay 0 0 0 0 256 0, .testPlay 0 0 0 0 0 64, .seedGo 0 1 0 0, .seedGo 0 0 18 0, .seedGo 0 0 0 65536,
  .seedSettled 0 18, .sampleMissed 0 18 0, .sampleMissed 0 0 480, .sampleMissed 0 17 1024, .windowLeave 0 18 0 (0, 0),
  .windowLeave 0 0 480 (0, 0), .windowLeave 0 17 1024 (0, 0), .sliceFail 0 18 0 false, .sliceFail 0 0 17 false,
  .sliceFail 0 17 9 false, .bgCalTurn 0 18, .bgCalDone 0 18 (0, 0) (0, 0), .bgCalDone 0 0 (256, 0) (0, 0), .bgCalDone 0 0 (0, 256) (0, 0),
  .bgCalDone 0 0 (0, 0) (16384, 0), .bgCalDone 0 0 (0, 0) (0, 16384), .electrodeFail 0 18 0 [] [], .electrodeFail 0 0 480 [] [],
  .electrodeFail 0 17 1024 [] [], .electrodeFail 0 0 0 (List.replicate 5 0) (List.replicate 5 0), .electrodeFail 0 0 0 [0] [], .electrodeFail 0 0 0 [0] [16384],
  .reserveElectrodeFail 0 18 (0, [], [])]
/-- Commands with one operand outside its range, one for each check of `Instr.wf`, part 5. -/
def badTerms5 : List Instr := [
  .reserveElectrodeFail 0 0 (480, [], []), .reserveElectrodeFail 0 17 (1024, [], []), .reserveElectrodeFail 0 0 (0, List.replicate 5 0, List.replicate 5 0), .reserveElectrodeFail 0 0 (0, [0], []),
  .reserveElectrodeFail 0 0 (0, [0], [16384]), .reserveSelect 0 1 0 0 false,
  .reserveSelect 0 0 18 0 false, .reserveSelect 0 0 0 480 false, .reserveSelect 0 0 17 1024 false, .calVerify 0 1,
  .calActivate 0 1, .calInvalidate 0 1, .workingSetLoad 0 18, .sensorHalfSwap 0 18, .calMark 0 1 0 0 false,
  .calMark 0 0 32 0 false, .calMark 0 0 0 4096 false, .calEnd 0 1 0 0, .calEnd 0 0 32 0, .calEnd 0 0 0 4096,
  .calAbandon 0 1 0 0, .calAbandon 0 0 32 0, .calAbandon 0 0 0 4096, .calStaleLimit 0 18 0, .calStaleLimit 0 0 4096,
  .linkUp 0 2, .linkDown 0 2 false, .frameReceive 0 2 [] false, .frameReceive 0 0 ([256]) false, .frameTransmit 0 2,
  .telemSend 0 64, .keyLoad 0 1 0 0, .keyLoad 0 0 64 0, .keyLoad 0 0 0 2, .keyErase 0 1 0 0, .keyErase 0 0 64 0,
  .keyErase 0 0 0 2, .instanceWrite 0 1 0, .instanceWrite 0 0 (2 ^ 32), .tenantWeightZero 0 1 0,
  .tenantWeightZero 0 0 64, .histClear 0 1, .tempDemandWrite 0 1 false 0, .tempDemandWrite 0 0 false (2 ^ 32),
  .tempConversionDone 0 (-32768 - 1), .tempConversionDone 0 32768, .floorWrite 0 1 0, .floorWrite 0 0 8,
  .stepTableWrite 0 1 0 false 0, .stepTableWrite 0 0 8 false 0, .stepTableWrite 0 0 0 false (2 ^ 32),
  .domainWake 0 30, .domainSleep 0 30 0 0]
/-- Commands with one operand outside its range, one for each check of `Instr.wf`, part 6. -/
def badTerms6 : List Instr := [
  .domainSleep 0 0 (32 + 1) 0, .domainSleep 0 0 0 256, .domainFail 0 30 0 0, .domainFail 0 0 (32 + 1) 0,
  .domainFail 0 0 0 256, .domainRetry 0 1 0, .domainRetry 0 0 30, .fallowWrite 0 1 0, .fallowWrite 0 0 (2 ^ 32),
  .devReqRun 0 1, .devReqPark 0 1, .devReqStandby 0 1, .escalationExpiry 0 48, .faultAck 0 1 0, .faultAck 0 0 48,
  .escalatedClear 0 1 0, .escalatedClear 0 0 48, .safeEnterCmd 0 1, .safeRelease 0 1, .fltLock 0 1, .serveSet 0 1,
  .supplyOutOfRange 0 (35 - 1), .supplyOutOfRange 0 (37 + 1), .supCoreRepair 0 1 false false,
  .supResyncDone 0 2 false, .barrier 0 8, .barrierComplete 0 8, .remapWrite 0 1 0, .remapWrite 0 0 (2 ^ 32),
  .busModeWrite 0 1 0, .busModeWrite 0 0 (2 ^ 32), .scratchpadAccess 0 8 0 4 none 0 false 0,
  .scratchpadAccess 0 0 0x800000 4 none 0 false 0, .scratchpadAccess 0 0 0 3 none 0 false 0,
  .scratchpadAccess 0 0 0 4 none 0 false 4, .atomicOp 0 8 0 0 4 0, .atomicOp 0 0 0x800000 0 4 0,
  .atomicOp 0 0 0 0 2 0, .atomicOp 0 0 0 16 4 0, .harrowPassDone 0 (List.replicate 65 (0, 0)),
  .repairFuseBlow 0 1 0 0 0, .repairFuseBlow 0 0 16 0 0, .repairFuseBlow 0 0 0 4 0, .repairFuseBlow 0 0 0 0 512,
  .dramAccess 0 8 0x80000000 4 none, .dramAccess 0 0 (0x80000000 - 1) 4 none, .dramAccess 0 0 (2 ^ 32) 4 none,
  .dramAccess 0 0 0x80000000 3 none, .checkedRead 0 8 0x80000000, .checkedRead 0 0 (0x80000000 - 1)]
/-- Commands with one operand outside its range, one for each check of `Instr.wf`, part 7. -/
def badTerms7 : List Instr := [
  .checkedRead 0 0 (2 ^ 32), .bpmAlloc 0 8 0 0, .bpmAlloc 0 0 32 0, .bpmFree 0 1 0 0, .bpmFree 0 0 32 0,
  .bpmFree 0 0 0 (2 ^ 32), .bpmGive 0 1 0 0, .bpmGive 0 0 32 0, .bpmGive 0 0 0 (2 ^ 32), .bpmCacheRefill 0 4,
  .domainReset 0 1 21 0, .domainReset 0 0 20 0, .domainReset 0 0 21 (32 + 1), .fuseSense 0 512 [],
  .fuseSense 0 0 (List.replicate 513 0), .fuseSense 0 0 ([320]), .fwVerify 0 1, .planApply 0 1, .planReapply 0 1 0,
  .planReapply 0 0 4, .fuseProgramSlot 0 1 0, .fuseProgramSlot 0 0 4, .fuseRevokeSlot 0 1 0, .fuseRevokeSlot 0 0 4,
  .fuseBlowSeal 0 1, .attest 0 1, .aonResetRelease 0 4, .warmReset 0 false 1 0 [], .warmReset 0 false 0 4 [],
  .warmReset 0 false 0 0 (List.replicate 31 (0, 0, 0)), .warmReset 0 false 0 0 ([(30, 0, 0)]),
  .warmReset 0 false 0 0 ([(0, 33, 0)]), .warmReset 0 false 0 0 ([(0, 0, 256)]), .perst 0 (32 + 1) 0,
  .perst 0 0 (32 + 1), .functionLevelReset 0 (32 + 1) 0, .functionLevelReset 0 0 (32 + 1), .supReset 0 1,
  .smbReadSite 0 48, .dmaDescriptor 0 (6 - 1), .dmaDescriptor 0 16, .dmaResume 0 1 0, .dmaResume 0 0 16,
  .dmaChannelReset 0 1 0 0, .dmaChannelReset 0 0 16 0, .dmaChannelReset 0 0 0 (32 + 1), .glnArm 0 1 0, .glnArm 0 0 8,
  .glnStop 0 1 0, .glnStop 0 0 8]
/-- Commands with one operand outside its range, one for each check of `Instr.wf`, part 8. -/
def badTerms8 : List Instr := [
  .glnForce 0 1 0, .glnForce 0 0 8, .glnMuxSettled 0 8, .glnPreFilled 0 8, .glnTrigger 0 8 false,
  .glnRecordComplete 0 8 (0, 0) [], .glnRecordComplete 0 0 (16384, 0) [], .glnRecordComplete 0 0 (0, 16384) [],
  .glnRecordComplete 0 0 (0, 0) ([some 8192]),
  .glnDonePop 0 1 0, .glnDonePop 0 0 8, .glnSampleLost 0 8, .supplyBackInRange 0 (35 - 1),
  .supplyBackInRange 0 (37 + 1), .vhtrBelowPowerGood 0 2 false, .fuseCommandComplete 0 (2 ^ 256),
  .repairBlowComplete 0 (2 ^ 10), .rstNRelease 0 4, .dramReadTimeout 0 8 0, .dramReadTimeout 0 0 2,
  .heaterPowerReport 0 18 0 [] [], .heaterPowerReport 0 0 4096 [] [], .heaterPowerReport 0 0 0 [720] [0], .heaterPowerReport 0 0 0 [0] [],
  .heaterPowerReport 0 0 0 [0] [100000],
  .tapInstruction 0 6]
/-- Every constructor has a well-formed term. -/
theorem test_wf_accepts :
    (goodTerms1 ++ goodTerms2 ++ goodTerms3).all (fun c => c.wf) = true := by decide +kernel
/-- Each check refuses its ill-formed term. -/
theorem test_wf_refuses :
    (badTerms1 ++ badTerms2 ++ badTerms3 ++ badTerms4 ++ badTerms5 ++ badTerms6 ++ badTerms7 ++ badTerms8).all (fun c => !c.wf) = true := by decide +kernel
/-! ### Values the spec works out -/

/-- Table 3-3: the path of IN057 to OUT200 through middle row 106. -/
theorem test_path :
    (path 57 200 106).map (fun h => (hopCell h, h.inL, h.outL)) =
      [(57, 114, 115), (220, 185, 185), (366, 220, 220), (487, 206, 207), (619, 215, 214), (745, 211, 211), (874, 213, 212),
       (1002, 212, 213), (1131, 214, 214), (1258, 213, 212), (1388, 216, 217), (1513, 211, 210), (1650, 228, 228),
       (1764, 201, 200), (1864, 145, 145)] := by decide +kernel
/-- The projected map of Table 3-8. -/
def workedMap : MapSt :=
  [(⟨185, 10, 51, 5, false⟩ : Circuit), ⟨120, 72, 96, 5, false⟩, ⟨91, 90, 17, 5, false⟩].foldl (fun m c => placeCirc c m) {}
/-- The sheaf of the worked example after Table 3-8. -/
def workedSheaf : Sheaf :=
  { uid := 1, tenant := 5, port := 0, peer := 0, seq := 0, slot := 0,
    ops := [.release 90, .connect 57 200, .connect 33 34], allowMove := true, maxDefer := 0xFFFFFFFF }
/-- Table 3-9: X moves from 51 to 64, Y stays on 96, N takes 2 and C takes 0, by the full solve. -/
theorem test_solve_forces_move :
    (match solve .full 5 (fun _ => false) workedMap workedSheaf with
     | .ok w moved incs full => (w.map.circs.map (fun c => (c.inp, c.out, c.mid)), moved, incs, full)
     | .refused _ _ => ([], [], 0, false)) =
      ([(185, 10, 64), (33, 34, 0), (120, 72, 96), (57, 200, 2)], [⟨185, 10, 51, 64⟩], 0, true) := by decide +kernel
/-- The same sheaf without ALLOW_MOVE is refused with NEEDS_MOVE at operation 1 (R96). -/
theorem test_solve_needs_move :
    solve .full 5 (fun _ => false) workedMap { workedSheaf with allowMove := false } = .refused 0x05 1 := by decide +kernel
/-- Table 1-4: the coupler heater of plane B, column 9, row 77, and the gate-2 heater of OUT200 in plane A. -/
theorem test_element_numbers :
    cellPlot (9 * 128 + 77) = 9 ∧ cellSlot 1 (9 * 128 + 77) 2 = 593 ∧ slotCell 9 593 = 9 * 128 + 77 ∧ slotPlane 9 593 = 1 ∧
    gateSlot 0 200 3 = 803 := by decide +kernel
/-- The temperatures of the worked example of chapter 9. -/
def setTemps (i : Nat) : Int := [0, 160, 400, 640, 880, 1120, 1360, 1600].getD i 0
/-- Table 9-5: interpolation at 31 degrees. -/
theorem test_interpolate :
    let at_ (a b : Int) : Int := interpolate (fun i => if i = 2 then a else if i = 3 then b else 0) setTemps 496
    at_ 1590 1615 = 1600 ∧ at_ 24480 24660 = 24552 ∧ at_ 20940 21090 = 21000 ∧ at_ 6050 6140 = 6086 := by decide +kernel
/-- Table 7-6: the swing unit and the points of a BAR-to-CROSS transition, shared by two segments. -/
theorem test_waveform :
    swing 21000 30000 = 22938 ∧
    [0, 6144, 13312, 18432, 17408, 16896, 16640, 16384].map (fun p => 1638 + pointCode p 22938) =
      [1638, 10240, 20275, 27443, 26010, 25293, 24934, 24576] ∧
    [1638, 20275, 27443].map (fun c => (share 0 0 c, share 0 1 c)) = [(819, 819), (10138, 10137), (13722, 13721)] := by
  decide +kernel
/-- Table 6-10: a tie rounds toward plus infinity. -/
theorem test_round_centre : roundQ 861437952 = 13145 := by decide +kernel
/-- Table 11-8: the two rates (rise in 1/256 degree, span) and the levels of site 40 at 114 ms. -/
theorem test_site_rates :
    let l : List (Nat × Int) := [(114, 41), (112, 34), (110, 26), (108, 17), (106, 3), (104, 0), (102, 0), (100, 0)]
    let r := siteRates State.reset (l.map (fun e => (e.1 * 1000000 * nsUnit, e.2)))
    r = ((7, 2000000 * nsUnit), (41, 14000000 * nsUnit)) ∧ siteLevels State.reset 40 r = (4, 4) := by decide +kernel
/-- CRC-32C of RFC 3720: 32 bytes of zeros, and of ones. -/
theorem test_crc32c :
    crc32c (List.replicate 32 0) = 0x8A9136AA ∧ crc32c (List.replicate 32 0xFF) = 0x62A8AB43 := by decide +kernel
/-- SHA-256 of "abc" (FIPS 180-4). -/
theorem test_sha256 : sha256 [0x61, 0x62, 0x63] =
    [0xBA, 0x78, 0x16, 0xBF, 0x8F, 0x01, 0xCF, 0xEA, 0x41, 0x41, 0x40, 0xDE, 0x5D, 0xAE, 0x22, 0x23, 0xB0, 0x03, 0x61, 0xA3,
     0x96, 0x17, 0x7A, 0x9C, 0xB4, 0x10, 0xFF, 0x61, 0xF2, 0x00, 0x15, 0xAD] := by decide +kernel
/-- HMAC-SHA-256 of "Hi There" (RFC 4231, case 1; its key filled with zeros). -/
theorem test_hmac : hmac256 (List.replicate 20 0x0B ++ List.replicate 12 0) [0x48, 0x69, 0x20, 0x54, 0x68, 0x65, 0x72, 0x65] =
    [0xB0, 0x34, 0x4C, 0x61, 0xD8, 0xDB, 0x38, 0x53, 0x5C, 0xA8, 0xAF, 0xCE, 0xAF, 0x0B, 0xF1, 0x2B, 0x88, 0x1D, 0xC2, 0x00,
     0xC9, 0x83, 0x3D, 0xA7, 0x26, 0xE9, 0x37, 0x6C, 0x2E, 0x32, 0xCF, 0xF7] := by decide +kernel

/-! ### One step -/

/-- The state a command leaves, or the state itself where it stops. -/
def after (c : Instr) (s : State) : State := match exec c s with | .next t => t | _ => s
/-- Pool M with one free buffer, index 1500, of tag 0x11 (Table 13-9). -/
def poolM : State :=
  { put [(BPM_STAT_ready, 1), (mFld 0 (BPM_REQ_SIZE_size 3), 1500), (mFld 0 (BPM_REQ_SIZE_size 4), 1500)] up with
    bpmCache := [], bpmRing := [(2, []), (3, [(1500, 1)])], bpmBuf := [(16384 + 1500, ⟨false, 0, 0x11⟩)] }
/-- Table 13-9: SUP's window 3 receives 0x901205DC, at 0xC91EE000; the pool is then empty. -/
theorem test_bpm_alloc :
    let t := after (.bpmAlloc 0 0 3 1500) poolM
    t.resp.data = 0x901205DC ∧ hAddr t.resp.data = 0xC91EE000 ∧ (after (.bpmAlloc 0 0 4 1500) t).resp.data = 0 := by decide +kernel
/-- Table 13-9: a second free of a stale handle is refused, the buffer of its new owner untouched. -/
theorem test_bpm_stale_free :
    let s := { poolM with bpmRing := [(2, []), (3, [])], bpmBuf := [(16384 + 1500, ⟨true, 0x40, 0x13⟩)] }
    bpmCheck s 3 0x901205DC none = 4 ∧ bpmCheck s 3 0x901305DC none = 5 ∧
    (after (.bpmFree 0 0 3 0x901205DC) s).bpmBuf = s.bpmBuf := by decide +kernel
/-- A command at the front is taken and the rest waits. -/
theorem test_step_takes_front :
    step { up with pending := [.floorWrite 0 0 2, .floorWrite 0 0 1] } =
      .next (after (.floorWrite 0 0 2) { up with pending := [.floorWrite 0 0 1] }) := by rfl
/-- R45: with base 0x80000000 BAR2 offset 0x123400 reaches DRAM at 0x80123400. -/
theorem test_bar2 :
    memGet (after (.bar2Access 0 0x123400 4 (some 0x11223344)) up).dram 0x80123400 = 0x44 ∧
    memGet (after (.bar2Access 0 0x123400 4 (some 0x11223344)) up).dram 0x80123403 = 0x11 := by decide +kernel
/-- R365: a floor of 3 raises the governed step at once (chapter 11). -/
theorem test_floor : f (after (.floorWrite 0 0 3) up) GOV_STEP_step = 3 := by decide +kernel
/-- R13: BOOT_APT keeps its four writable bits. -/
theorem test_register_write : rd (after (.registerWrite 0 0 BOOT_APT_region.off 4 0xFFFFFFF9) up) BOOT_APT_region.off = 9 := by
  decide +kernel
/-- R39: an unassigned read answers 0 and is counted. -/
theorem test_unassigned :
    let t := after (.unassignedAccess 0 0 0x40200000 4 false) up
    t.resp = ⟨0, 0⟩ ∧ f t BUS_CNT_UNASSIGNED_count = 1 := by decide +kernel
/-- R527: under POR only time passes. -/
theorem test_por : (after (.floorWrite 5 0 3) { up with porOn := true }).regs = up.regs := by decide +kernel

end Sys2Proof.Tests
end

section
/-! What the bits the hardware set in the present cycle (R14) are after a write, and what each access code does to a field
(Table 0-5). -/
namespace Sys2Proof.Machine
open Sys2Proof.Config

/-! ### The bits the hardware set in the present cycle -/

/-- The bits of a field that the hardware set in the present cycle, at the field's place (R14). -/
def heldFld (s : State) (x : Fld) : Nat := heldBits s x.off / 2 ^ x.lsb % 2 ^ x.wid

/-- The union that `heldBits` takes over a list, whatever it starts from. -/
theorem foldl_or_start (p : Nat × Nat × Nat → Prop) [DecidablePred p] (l : List (Nat × Nat × Nat)) (m : Nat) :
    l.foldl (fun m e => if p e then m ||| e.2.2 else m) m = m ||| l.foldl (fun m e => if p e then m ||| e.2.2 else m) 0 := by
  induction l generalizing m with
  | nil => simp
  | cons e l ih =>
    simp only [List.foldl_cons]
    split
    · rw [ih (m ||| e.2.2), ih (0 ||| e.2.2), Nat.zero_or, Nat.or_assoc]
    · exact ih m

/-- What one note more adds to the bits held. -/
theorem heldBits_cons (s : State) (e : Nat × Nat × Nat) (o : Nat) :
    heldBits { s with hwSet := e :: s.hwSet } o =
      if e.2.1 = o ∧ e.1 / regCycle o = s.clk.now / regCycle o then e.2.2 ||| heldBits s o else heldBits s o := by
  unfold heldBits
  rw [List.foldl_cons, Nat.zero_or]
  split
  · exact foldl_or_start _ _ _
  · rfl
/-- A write that sets bits notes them as set in the present cycle. -/
theorem heldBits_setF_same (x : Fld) (v : Nat) (s : State) (h : v % 2 ^ x.wid ≠ 0) :
    heldBits (setF x v s) x.off = setMask s x v ||| heldBits s x.off := by
  unfold setF
  rw [if_neg h]
  exact (heldBits_cons (setRaw s x.off (fldPut (rd s x.off) x v)) (s.clk.now, x.off, setMask s x v) x.off).trans (if_pos ⟨rfl, rfl⟩)
/-- A write of a zero notes nothing. -/
theorem heldBits_setF_zero (x : Fld) (v : Nat) (s : State) (h : v % 2 ^ x.wid = 0) (o : Nat) :
    heldBits (setF x v s) o = heldBits s o := by
  unfold setF; rw [if_pos h]; rfl
/-- A write notes nothing of another register. -/
theorem heldBits_setF_off (x : Fld) (v : Nat) (s : State) {o : Nat} (h : o ≠ x.off) :
    heldBits (setF x v s) o = heldBits s o := by
  by_cases hv : v % 2 ^ x.wid = 0
  · exact heldBits_setF_zero x v s hv o
  · unfold setF
    rw [if_neg hv]
    exact (heldBits_cons (setRaw s x.off (fldPut (rd s x.off) x v)) (s.clk.now, x.off, setMask s x v) o).trans
      (if_neg (fun e => h e.1.symm))

/-- A write notes no bit outside its field. -/
theorem testBit_setMask_out (s : State) (x : Fld) (v : Nat) {i : Nat} (h : i < x.lsb ∨ x.lsb + x.wid ≤ i) :
    (setMask s x v).testBit i = false := by
  unfold setMask
  rw [Nat.testBit_mul_two_pow, Nat.testBit_and, Nat.testBit_mod_two_pow]
  rcases h with h | h
  · simp [Nat.not_le.2 h]
  · simp [show ¬ i - x.lsb < x.wid by omega]

/-- A write of a disjoint field leaves what is held of a field. -/
theorem heldFld_setF_disj (x y : Fld) (v : Nat) (s : State)
    (hd : y.off ≠ x.off ∨ y.lsb + y.wid ≤ x.lsb ∨ x.lsb + x.wid ≤ y.lsb) : heldFld (setF x v s) y = heldFld s y := by
  unfold heldFld
  by_cases ho : y.off = x.off
  · have hd := hd.resolve_left (fun e => e ho)
    by_cases hv : v % 2 ^ x.wid = 0
    · rw [heldBits_setF_zero x v s hv]
    · rw [ho, heldBits_setF_same x v s hv]
      apply Nat.eq_of_testBit_eq; intro i
      simp only [Nat.testBit_mod_two_pow, Nat.testBit_div_two_pow, Nat.testBit_or]
      by_cases hi : i < y.wid
      · rw [testBit_setMask_out s x v (by omega), Bool.false_or]
      · simp [hi]
  · rw [heldBits_setF_off x v s ho]

/-! ### Clearing bits -/

theorem f_clearBits_same (x : Fld) (n : Nat) (s : State) (h : x.lsb + x.wid ≤ 32) :
    f (clearBits x n s) x = f s x - (f s x &&& n &&& (2 ^ x.wid - 1 - heldFld s x)) := by
  unfold clearBits heldFld
  rw [f_setRaw_same, fldOf_fldPut_same _ _ _ h]
  exact Nat.mod_eq_of_lt (Nat.lt_of_le_of_lt (Nat.sub_le _ _) (f_lt s x))
theorem rd_clearBits_other (x : Fld) (n : Nat) (s : State) {o : Nat} (h : o ≠ x.off) : rd (clearBits x n s) o = rd s o :=
  rd_setRaw_other s h _
theorem f_clearBits_disj (x y : Fld) (n : Nat) (s : State) (h : x.lsb + x.wid ≤ 32)
    (hd : y.off ≠ x.off ∨ y.lsb + y.wid ≤ x.lsb ∨ x.lsb + x.wid ≤ y.lsb) : f (clearBits x n s) y = f s y := by
  by_cases ho : y.off = x.off
  · unfold f clearBits
    rw [ho, rd_setRaw_same, fldOf_fldPut_other _ _ _ _ h (hd.resolve_left (fun e => e ho))]
  · unfold f; rw [rd_clearBits_other x n s ho]
theorem onlyRegs_clearBits {s t : State} {dt : Nat} (x : Fld) (n : Nat) (h : OnlyRegs s dt t) : OnlyRegs s dt (clearBits x n t) :=
  onlyRegs_setRaw _ _ h
theorem regsKept_clearBits {l : List Nat} {s t : State} (x : Fld) (n : Nat) (h : RegsKept l s t) (ho : x.off ∈ l) :
    RegsKept l s (clearBits x n t) := regsKept_setRaw _ h ho

/-! ### A field under its access code -/

/-- What a field of a written register holds afterwards (Table 0-5, R14). -/
def accResult (s : State) (off v : Nat) (x : FldSpec) : Nat :=
  let y : Fld := ⟨off, x.lsb, x.wid⟩
  let n := v / 2 ^ x.lsb % 2 ^ x.wid
  match x.acc with
  | .rw => n
  | .wo => n
  | .rwl => if sealed s then f s y else n
  | .w1c => f s y - (f s y &&& n &&& (2 ^ x.wid - 1 - heldFld s y))
  | .ro => f s y
  | .rc => f s y

/-- The fields of a register lie within it and share no bit. -/
def FieldsApart (fs : List FldSpec) : Prop :=
  fs.Pairwise (fun x y => y.lsb + y.wid ≤ x.lsb ∨ x.lsb + x.wid ≤ y.lsb) ∧ ∀ x ∈ fs, x.lsb + x.wid ≤ 32

theorem f_putFld_same (off v : Nat) (x : FldSpec) (s : State) (h : x.lsb + x.wid ≤ 32) :
    f (putFld off v x s) ⟨off, x.lsb, x.wid⟩ = accResult s off v x := by
  have hset := f_setF_same s ⟨off, x.lsb, x.wid⟩ (v / 2 ^ x.lsb % 2 ^ x.wid) h
  unfold putFld accResult
  cases x.acc with
  | rw | wo => simpa using hset
  | rwl =>
    cases sealed s with
    | true => simp
    | false => simpa using hset
  | w1c => exact f_clearBits_same ⟨off, x.lsb, x.wid⟩ _ s h
  | ro | rc => rfl

/-- A field's write is a write of its own field, a clear of bits of it, or nothing. -/
theorem putFld_cases (off v : Nat) (x : FldSpec) (s : State) :
    (∃ n, putFld off v x s = setF ⟨off, x.lsb, x.wid⟩ n s) ∨ (∃ n, putFld off v x s = clearBits ⟨off, x.lsb, x.wid⟩ n s) ∨
      putFld off v x s = s := by
  unfold putFld
  cases x.acc with
  | rw | wo => exact .inl ⟨_, rfl⟩
  | rwl =>
    cases sealed s with
    | true => exact .inr (.inr rfl)
    | false => exact .inl ⟨_, rfl⟩
  | w1c => exact .inr (.inl ⟨_, rfl⟩)
  | ro | rc => exact .inr (.inr rfl)

theorem f_putFld_disj (off v : Nat) (x : FldSpec) (s : State) (y : Fld) (h : x.lsb + x.wid ≤ 32)
    (hd : y.off ≠ off ∨ y.lsb + y.wid ≤ x.lsb ∨ x.lsb + x.wid ≤ y.lsb) : f (putFld off v x s) y = f s y := by
  obtain ⟨n, e⟩ | ⟨n, e⟩ | e := putFld_cases off v x s
  · rw [e]; exact f_setF_ne s ⟨off, x.lsb, x.wid⟩ y n h hd
  · rw [e]; exact f_clearBits_disj ⟨off, x.lsb, x.wid⟩ y n s h hd
  · rw [e]
theorem heldFld_putFld_disj (off v : Nat) (x : FldSpec) (s : State) (y : Fld)
    (hd : y.off ≠ off ∨ y.lsb + y.wid ≤ x.lsb ∨ x.lsb + x.wid ≤ y.lsb) : heldFld (putFld off v x s) y = heldFld s y := by
  obtain ⟨n, e⟩ | ⟨n, e⟩ | e := putFld_cases off v x s
  · rw [e]; exact heldFld_setF_disj ⟨off, x.lsb, x.wid⟩ y n s hd
  · rw [e]; rfl
  · rw [e]
theorem sealed_putFld (off v : Nat) (x : FldSpec) (s : State) (h : x.lsb + x.wid ≤ 32) (ho : ID_FUSE_STAT_seal.off ≠ off) :
    sealed (putFld off v x s) = sealed s := by
  unfold sealed fb; rw [f_putFld_disj off v x s _ h (.inl ho)]
theorem onlyRegs_putFld {s t : State} {dt : Nat} (off v : Nat) (x : FldSpec) (h : OnlyRegs s dt t) :
    OnlyRegs s dt (putFld off v x t) := by
  obtain ⟨n, e⟩ | ⟨n, e⟩ | e := putFld_cases off v x t
  · rw [e]; exact onlyRegs_setF _ _ h
  · rw [e]; exact onlyRegs_clearBits _ _ h
  · rw [e]; exact h
theorem regsKept_putFld {l : List Nat} {s t : State} {off : Nat} (v : Nat) (x : FldSpec) (h : RegsKept l s t) (ho : off ∈ l) :
    RegsKept l s (putFld off v x t) := by
  obtain ⟨n, e⟩ | ⟨n, e⟩ | e := putFld_cases off v x t
  · rw [e]; exact regsKept_setF _ h ho
  · rw [e]; exact regsKept_clearBits _ _ h ho
  · rw [e]; exact h

/-- The write of one field leaves what the write of a disjoint one makes of it. -/
theorem accResult_putFld_disj (off v : Nat) (x y : FldSpec) (s : State) (h : x.lsb + x.wid ≤ 32)
    (ho : ID_FUSE_STAT_seal.off ≠ off) (hd : y.lsb + y.wid ≤ x.lsb ∨ x.lsb + x.wid ≤ y.lsb) :
    accResult (putFld off v x s) off v y = accResult s off v y := by
  unfold accResult
  simp only [f_putFld_disj off v x s ⟨off, y.lsb, y.wid⟩ h (.inr hd), heldFld_putFld_disj off v x s ⟨off, y.lsb, y.wid⟩ (.inr hd),
    sealed_putFld off v x s h ho]

/-- A field that no field of the list meets keeps its value while the list is written. -/
theorem f_putFlds_disj (off v : Nat) (y : Fld) (fs : List FldSpec) (s : State)
    (h : ∀ x ∈ fs, x.lsb + x.wid ≤ 32 ∧ (y.lsb + y.wid ≤ x.lsb ∨ x.lsb + x.wid ≤ y.lsb)) :
    f (forEach fs (putFld off v) s) y = f s y :=
  forEach_same (fun t => f t y) (putFld off v) fs
    (fun x hx t => f_putFld_disj off v x t y (h x hx).1 (.inr (h x hx).2)) s

/-- Every field of a register whose fields lie apart ends as its access code says. -/
theorem f_putFlds (off v : Nat) (ho : ID_FUSE_STAT_seal.off ≠ off) : ∀ (fs : List FldSpec), FieldsApart fs → ∀ (s : State),
    ∀ x ∈ fs, f (forEach fs (putFld off v) s) ⟨off, x.lsb, x.wid⟩ = accResult s off v x := by
  intro fs
  induction fs with
  | nil => intro _ s x hx; cases hx
  | cons a fs ih =>
    intro hfs s x hx
    obtain ⟨hpw, hin⟩ := hfs
    obtain ⟨ha, hpw⟩ := List.pairwise_cons.1 hpw
    have htail : FieldsApart fs := ⟨hpw, fun y hy => hin y (List.mem_cons_of_mem _ hy)⟩
    rw [forEach_cons]
    rcases List.mem_cons.1 hx with rfl | hx
    · rw [f_putFlds_disj off v _ fs _ (fun y hy => ⟨htail.2 y hy, (ha y hy).symm⟩)]
      exact f_putFld_same off v x s (hin x List.mem_cons_self)
    · rw [ih htail _ x hx]
      exact accResult_putFld_disj off v a x s (hin a List.mem_cons_self) ho (ha x hx)

end Sys2Proof.Machine
end

section
/-! Register writes and reads of a supervisor: a full write of a plain register (R13), a narrow write (R12), and a read of an
RC field (R542). -/
namespace Sys2Proof.Machine
open Sys2Proof.Config

/-! ### Writes -/

/-- A write of at most 4 bytes of a supervisor that reaches its block. -/
theorem regWriteBy_sup {g : Nat → Nat → State → State} {s : State} {a size v : Nat} (hm : masterLive s 0 = true)
    (hb : blockOn s a = true) (h8 : size ≠ 8) : regWriteBy g 0 a size v s = writePart g a size v s := by
  unfold regWriteBy
  rw [onIssue_live hm]
  simp [regOpen_sup hb, h8]
theorem writePart_word {g : Nat → Nat → State → State} {s : State} {a v : Nat} (hs : sramAt a = none) (ht : inTrace a = false)
    (ha : assigned a = true) (hv : v < 2 ^ 32) : writePart g a 4 v s = g a v s := by
  unfold writePart; rw [Nat.mod_eq_of_lt hv]; simp [hs, ht, ha]
/-- A narrower write of a register is discarded (R12). -/
theorem writePart_narrow {g : Nat → Nat → State → State} {s : State} {a size v : Nat} (hs : sramAt a = none)
    (ht : inTrace a = false) (ha : assigned a = true) (h4 : size ≠ 4) : writePart g a size v s = s := by
  unfold writePart; simp [hs, ht, ha, h4]

theorem plainWrite_eq {m off v : Nat} {r : Row} (s : State) (hr : rowFor off = some r) (hc : clampsAt off = [])
    (ho : ownOff m off = off) : plainWrite m off v s = forEach r.flds (putFld off v) s := by
  unfold plainWrite; simp [hr, hc, ho]

/-- None of the sampled registers has a rule of its own. -/
theorem topWord_samplePlain {off : Nat} (h : off ∈ samplePlain) (v : Nat) (s : State) :
    topWord 0 off v s = plainWrite 0 off v s := by
  simp only [samplePlain, List.mem_cons, List.not_mem_nil, or_false] at h
  rcases h with rfl | rfl | rfl | rfl | rfl | rfl | rfl | rfl | rfl | rfl | rfl | rfl <;> rfl
/-- The sampled registers are words of the register tables that no table brings into a range. -/
theorem samplePlain_places : ∀ off ∈ samplePlain, sramAt off = none ∧ inTrace off = false ∧ assigned off = true ∧
    clampsAt off = [] ∧ ownOff 0 off = off ∧ off ≠ ID_FUSE_STAT_seal.off ∧ off ≠ DMA_MSIX_PEND_pending.off := by
  decide +kernel
/-- The fields of the sampled registers share no bit. -/
theorem samplePlain_fieldsApart {off : Nat} (h : off ∈ samplePlain) {r : Row} (hr : rowFor off = some r) :
    FieldsApart r.flds := by
  have key : ∀ o ∈ samplePlain, ∀ q ∈ (rowFor o).toList, FieldsApart q.flds := by
    unfold FieldsApart; decide +kernel
  exact key off h r (by simp [hr])

/-- A full write of a sampled register by a supervisor writes its fields in turn. -/
theorem regWrite_samplePlain {s : State} {off v : Nat} {r : Row} (hm : masterLive s 0 = true) (hb : blockOn s off = true)
    (hoff : off ∈ samplePlain) (hr : rowFor off = some r) (hv : v < 2 ^ 32) :
    regWrite 0 off 4 v s = forEach r.flds (putFld off v) s := by
  obtain ⟨hs, ht, ha, hc, hown, -, -⟩ := samplePlain_places off hoff
  unfold regWrite
  rw [regWriteBy_sup hm hb (by decide), writePart_word hs ht ha hv, topWord_samplePlain hoff, plainWrite_eq s hr hc hown]

/-! ### Reads of two RC fields -/

/-- A read of a word of the register tables by a supervisor that has no rule of its own but its effect. -/
theorem regRead_word {s : State} {a : Nat} (hm : masterLive s 0 = true) (hb : blockOn s a = true) (hw : offWin a = none)
    (hs : sramAt a = none) (ht : inTrace a = false) (ha : assigned a = true) :
    regRead 0 a 4 s = narrow a 4 (readWord 0 (a / 4 * 4) s) := by
  unfold regRead
  rw [onIssue_live hm]
  have hu : senseUp a s = s := by unfold senseUp; simp [hw]
  simp [hu, regOpen_sup hb, readPart, hs, ht, ha]

theorem readWord_schedStat (s : State) : readWord 0 0x6000C s =
    setF CMT_SCHED_STAT_high_water s.sched.length { s with resp := ⟨regValue s 0 0x6000C, 0⟩ } := rfl
theorem readWord_solveTmax (s : State) : readWord 0 0x60020 s = clearRc 0x60020 { s with resp := ⟨regValue s 0 0x60020, 0⟩ } := rfl

/-- CMT_SCHED_STAT shows the list's length beside its stored watermark. -/
theorem regValue_schedStat (s : State) :
    regValue s 0 0x6000C = (fldPut (rd s 0x6000C) CMT_SCHED_STAT_occupancy s.sched.length).toNat := rfl
theorem regValue_solveTmax (s : State) : regValue s 0 0x60020 = (rd s 0x60020).toNat := rfl

/-- CMT_SOLVE_TMAX's one RC field restarts unless the hardware set it in this cycle. -/
theorem clearRc_solveTmax (s : State) : clearRc 0x60020 s =
    if heldFld s CMT_SOLVE_TMAX_tmax_ns = 0 then setF CMT_SOLVE_TMAX_tmax_ns 0 s else s := by
  have hrow : rowFor 0x60020 = some ⟨0x20, 1, 1, 1, 1, [⟨0, 16, .rc, 0⟩]⟩ := by decide +kernel
  unfold clearRc
  rw [hrow]
  by_cases h : heldFld s CMT_SOLVE_TMAX_tmax_ns = 0
  · have h' : heldBits s 0x60020 / 2 ^ 0 % 2 ^ 16 = 0 := h
    simp only [List.filter, h', h, if_true, decide_true]; rfl
  · have h' : ¬ heldBits s 0x60020 / 2 ^ 0 % 2 ^ 16 = 0 := h
    simp only [List.filter, h', h, if_false, decide_false]; rfl

/-- A read of CMT_SCHED_STAT by a supervisor. -/
theorem regRead_schedStat {s : State} (hm : masterLive s 0 = true) (hd : domOn s 20 = true) :
    regRead 0 0x6000C 4 s = narrow 0x6000C 4 (setF CMT_SCHED_STAT_high_water s.sched.length
      { s with resp := ⟨(fldPut (rd s 0x6000C) CMT_SCHED_STAT_occupancy s.sched.length).toNat, 0⟩ }) := by
  rw [regRead_word (a := 0x6000C) hm hd rfl rfl rfl (by decide +kernel), readWord_schedStat, regValue_schedStat]
/-- A read of CMT_SOLVE_TMAX by a supervisor. -/
theorem regRead_solveTmax {s : State} (hm : masterLive s 0 = true) (hd : domOn s 20 = true) :
    regRead 0 0x60020 4 s = narrow 0x60020 4 (clearRc 0x60020 { s with resp := ⟨(rd s 0x60020).toNat, 0⟩ }) := by
  rw [regRead_word (a := 0x60020) hm hd rfl rfl rfl (by decide +kernel), readWord_solveTmax, regValue_solveTmax]

theorem narrow_regs (a size : Nat) (s : State) : (narrow a size s).regs = s.regs := rfl
theorem regsKept_resp {l : List Nat} {s t : State} (q : Resp) (h : RegsKept l s t) : RegsKept l s { t with resp := q } :=
  regsKept_congr h rfl
theorem narrow_code (a size : Nat) (s : State) : (narrow a size s).resp.code = s.resp.code := rfl
/-- A whole word of a register is read as it stands. -/
theorem narrow_word (a : Nat) (s : State) (ha : a % 4 = 0) {w : Word} (hw : s.resp.data = w.toNat) :
    (narrow a 4 s).resp.data = w.toNat := by
  unfold narrow
  simp only [ha, hw, Nat.pow_zero, Nat.div_one]
  exact Nat.mod_eq_of_lt w.isLt

theorem clearRc_solveTmax_resp (s : State) : (clearRc 0x60020 s).resp = s.resp := by
  rw [clearRc_solveTmax]; split <;> rfl
theorem onlyRegsResp_clearRc_solveTmax {s t : State} {dt : Nat} (h : OnlyRegsResp s dt t) :
    OnlyRegsResp s dt (clearRc 0x60020 t) := by
  rw [clearRc_solveTmax]; split
  · exact onlyRegsResp_setF _ _ h
  · exact h
theorem regsKept_clearRc_solveTmax {l : List Nat} {s t : State} (h : RegsKept l s t) (hl : 0x60020 ∈ l) :
    RegsKept l s (clearRc 0x60020 t) := by
  rw [clearRc_solveTmax]; split
  · exact regsKept_setF _ h hl
  · exact h
theorem f_clearRc_solveTmax (s : State) : f (clearRc 0x60020 s) CMT_SOLVE_TMAX_tmax_ns =
    if heldFld s CMT_SOLVE_TMAX_tmax_ns = 0 then 0 else f s CMT_SOLVE_TMAX_tmax_ns := by
  rw [clearRc_solveTmax]; split
  · exact f_setF_same s CMT_SOLVE_TMAX_tmax_ns 0 (by decide)
  · rfl

/-- The answer of a read of CMT_SCHED_STAT. -/
theorem resp_schedStat (s : State) (hlen : s.sched.length ≤ 1024) (w : Word)
    (hw : w = fldPut (rd s 0x6000C) CMT_SCHED_STAT_occupancy s.sched.length) :
    w.toNat % 2 ^ 11 = s.sched.length ∧ w.toNat / 2 ^ 16 % 2 ^ 11 = f s CMT_SCHED_STAT_high_water := by
  constructor
  · have h := fldOf_fldPut_same (rd s 0x6000C) CMT_SCHED_STAT_occupancy s.sched.length (by decide)
    rw [← hw] at h
    unfold fldOf CMT_SCHED_STAT_occupancy at h
    simp only [Nat.pow_zero, Nat.div_one] at h
    rw [h]; omega
  · have h := fldOf_fldPut_other (rd s 0x6000C) CMT_SCHED_STAT_occupancy CMT_SCHED_STAT_high_water s.sched.length (by decide)
      (.inr (by decide))
    rw [← hw] at h
    exact h

/-- A narrow write of a register leaves everything. -/
theorem registerWrite_narrow_completes (s : State) (dt a size v : Nat) (hp : s.porOn = false) (hm : masterLive s 0 = true)
    (hb : blockOn s a = true) (hs : sramAt a = none) (ht : inTrace a = false) (ha : assigned a = true) (hz : size = 1 ∨ size = 2) :
    Completes (.registerWrite dt 0 a size v) s fun t => OnlyRegs s dt t ∧ RegsKept [] s t := by
  refine completes_run rfl hp ?_
  unfold regWrite
  rw [regWriteBy_sup (s := elapse s dt) hm hb (by omega), writePart_narrow hs ht ha (by omega)]
  exact ⟨onlyRegs_settle s (onlyRegs_elapse s dt), regsKept_settle s (regsKept_elapse _ s dt)⟩

/-- A read of CMT_SCHED_STAT restarts its watermark from the list's present length (R542). -/
theorem rcRead_schedStat_completes (s : State) (dt : Nat) (hp : s.porOn = false) (hm : masterLive s 0 = true)
    (hd : domOn s 20 = true) (hlen : s.sched.length ≤ 1024) :
    Completes (.rcRead dt 0 0x6000C 4) s fun t =>
      OnlyRegsResp s dt t ∧ RegsKept [0x6000C] s t ∧
      t.resp.data % 2 ^ 11 = s.sched.length ∧ t.resp.data / 2 ^ 16 % 2 ^ 11 = f s CMT_SCHED_STAT_high_water ∧
      t.resp.code = 0 ∧ f t CMT_SCHED_STAT_high_water = s.sched.length := by
  refine completes_run rfl hp ?_
  rw [regRead_schedStat (s := elapse s dt) hm hd]
  obtain ⟨hocc, hhigh⟩ := resp_schedStat (elapse s dt) hlen _ rfl
  refine ⟨onlyRegsResp_settle s (onlyRegsResp_resp _ (onlyRegsResp_setF _ _ (onlyRegsResp_resp _
      (onlyRegsResp_of (onlyRegs_elapse s dt))))),
    regsKept_settle s (regsKept_resp _ (regsKept_setF _ (regsKept_resp _ (regsKept_elapse _ s dt)) List.mem_cons_self)), ?_, ?_, ?_, ?_⟩
  · rw [settle_resp, narrow_word _ _ rfl rfl]; exact hocc
  · rw [settle_resp, narrow_word _ _ rfl rfl]; exact hhigh
  · rw [settle_resp]; rfl
  · rw [f_settle _ _ (by decide), f_congr (narrow_regs _ _ _), f_setF_same _ _ _ (by decide)]
    exact Nat.mod_eq_of_lt (Nat.lt_of_le_of_lt hlen (by decide))

/-- A read of CMT_SOLVE_TMAX restarts it at 0 unless the hardware set it in this cycle (R542, R14). -/
theorem rcRead_solveTmax_completes (s : State) (dt : Nat) (hp : s.porOn = false) (hm : masterLive s 0 = true)
    (hd : domOn s 20 = true) :
    Completes (.rcRead dt 0 0x60020 4) s fun t =>
      OnlyRegsResp s dt t ∧ RegsKept [0x60020] s t ∧
      t.resp.data % 65536 = f s CMT_SOLVE_TMAX_tmax_ns ∧ t.resp.code = 0 ∧
      f t CMT_SOLVE_TMAX_tmax_ns = if heldBits (elapse s dt) 0x60020 % 65536 = 0 then 0 else f s CMT_SOLVE_TMAX_tmax_ns := by
  refine completes_run rfl hp ?_
  rw [regRead_solveTmax (s := elapse s dt) hm hd]
  refine ⟨onlyRegsResp_settle s (onlyRegsResp_resp _ (onlyRegsResp_clearRc_solveTmax (onlyRegsResp_resp _
      (onlyRegsResp_of (onlyRegs_elapse s dt))))),
    regsKept_settle s (regsKept_resp _ (regsKept_clearRc_solveTmax (regsKept_resp _ (regsKept_elapse _ s dt)) List.mem_cons_self)),
    ?_, ?_, ?_⟩
  · rw [settle_resp, narrow_word _ _ rfl (by rw [clearRc_solveTmax_resp])]
    unfold f fldOf; simp [CMT_SOLVE_TMAX_tmax_ns]
  · rw [settle_resp, narrow_code, clearRc_solveTmax_resp]
  · rw [f_settle _ _ (by decide), f_congr (narrow_regs _ _ _), f_clearRc_solveTmax]
    have hheld : heldFld (elapse s dt) CMT_SOLVE_TMAX_tmax_ns = heldBits (elapse s dt) 0x60020 % 65536 :=
      congrArg (· % 65536) (Nat.div_one _)
    rw [← hheld]; rfl

end Sys2Proof.Machine

open Sys2Proof Sys2Proof.Machine Sys2Proof.Config

/-- Settles O5: a full write writes the fields in turn, and fields that lie apart do not meet. -/
theorem registerWriteActsByAccessCode : Obligations.RegisterWriteActsByAccessCode := by
  intro s dt off v r hp hm hoff hb hr hv
  obtain ⟨-, -, -, -, -, hseal, hpend⟩ := samplePlain_places off hoff
  refine completes_run rfl hp ?_
  rw [regWrite_samplePlain (s := elapse s dt) hm hb hoff hr hv]
  refine ⟨onlyRegs_settle s (onlyRegs_forEach _ _ (fun x _ t ht => onlyRegs_putFld off v x ht) (onlyRegs_elapse s dt)),
    regsKept_settle s (regsKept_forEach _ _ (fun x _ t ht => regsKept_putFld v x ht List.mem_cons_self) (regsKept_elapse _ s dt)),
    fun x hx => ?_⟩
  exact (f_settle s _ hpend).trans
    (f_putFlds off v hseal.symm r.flds (samplePlain_fieldsApart hoff hr) (elapse s dt) x hx)

/-- Settles O6: nothing acts on a narrow write, and each read's effect is one field of the register read. -/
theorem narrowWriteDiscardedAndCountsRestartOnRead : Obligations.NarrowWriteDiscardedAndCountsRestartOnRead :=
  ⟨registerWrite_narrow_completes, rcRead_schedStat_completes, rcRead_solveTmax_completes⟩
end

section
/-! What the updates that entry into the safe state consists of (R402 to R404) leave: everything below the blocks they act on,
which are those of ID, BOOT, FLT and GOV, the clock, the collector's own state, and every part of the maps and lists but the
one each update is about. -/
namespace Sys2Proof.Machine
open Sys2Proof.Config

/-- Nothing of the blocks in the always-on clock (ID, BOOT, FLT, GOV), of the clock, the collector, the maps and lists of
chapters 3 and 4, the rotation and the tenant queues differs. -/
structure LowKept (s t : State) : Prop where
  clk : t.clk = s.clk
  flt : t.toFaultPart = s.toFaultPart
  commits : t.toCommitPart = s.toCommitPart
  rot : t.rot = s.rot
  queues : t.queues = s.queues
  low : ∀ o < 0x40000, rd t o = rd s o ∧ heldBits t o = heldBits s o

theorem lowKept_refl (s : State) : LowKept s s := ⟨rfl, rfl, rfl, rfl, rfl, fun _ _ => ⟨rfl, rfl⟩⟩
theorem lowKept_trans {s t u : State} (h : LowKept s t) (k : LowKept t u) : LowKept s u :=
  ⟨k.clk.trans h.clk, k.flt.trans h.flt, k.commits.trans h.commits, k.rot.trans h.rot, k.queues.trans h.queues,
    fun o ho => ⟨(k.low o ho).1.trans (h.low o ho).1, (k.low o ho).2.trans (h.low o ho).2⟩⟩
theorem lowKept_forEach {α : Type} (g : α → State → State) (l : List α) (h : ∀ a ∈ l, ∀ s, LowKept s (g a s)) (s : State) :
    LowKept s (forEach l g s) :=
  forEach_keeps (fun t => LowKept s t) g l (fun a ha t ht => lowKept_trans ht (h a ha t)) s (lowKept_refl s)
theorem lowKept_onlyIf (c : Bool) {g : State → State} {s : State} (h : LowKept s (g s)) : LowKept s (onlyIf c g s) := by
  unfold onlyIf; split
  · exact h
  · exact lowKept_refl s
theorem lowKept_setF (x : Fld) (v : Nat) (s : State) (h : 0x40000 ≤ x.off) : LowKept s (setF x v s) :=
  ⟨rfl, rfl, rfl, rfl, rfl, fun o ho => ⟨rd_setF_other s x v (by omega), heldBits_setF_off x v s (by omega)⟩⟩
theorem lowKept_setF' {s t : State} (x : Fld) (v : Nat) (k : LowKept s t) (h : 0x40000 ≤ x.off) : LowKept s (setF x v t) :=
  lowKept_trans k (lowKept_setF x v t h)

/-! ### Messages and buffers -/

theorem poolNote_lowKept (p : Nat) (s : State) : LowKept s (poolNote p s) := by
  unfold poolNote
  simp only
  refine lowKept_trans (lowKept_setF' _ _ (lowKept_setF _ _ s ?_) ?_) (lowKept_onlyIf _ (lowKept_setF _ _ _ (by decide))) <;>
  simp only [BPM_POOL_FREE_free, BPM_POOL_FREE_low_water] <;> omega
theorem spillOne_lowKept (p : Nat) (s : State) : LowKept s (spillOne p s) := by
  unfold spillOne; split
  · exact lowKept_refl s
  · exact ⟨rfl, rfl, rfl, rfl, rfl, fun _ _ => ⟨rfl, rfl⟩⟩
theorem bpmSync_lowKept (s : State) : LowKept s (bpmSync s) := by
  unfold bpmSync; split
  · exact lowKept_refl s
  · exact ⟨rfl, rfl, rfl, rfl, rfl, fun _ _ => ⟨rfl, rfl⟩⟩
theorem giveBack_lowKept (p i : Nat) (s : State) : LowKept s (giveBack p i s) := by
  unfold giveBack
  simp only
  generalize hs1 : bufPut p i { bufGet s p i with alloc := false }
    { bpmSync s with bpmFreed := bufKey p i :: (bpmSync s).bpmFreed } = s1
  have h1 : LowKept s s1 := by
    rw [← hs1]
    exact lowKept_trans (bpmSync_lowKept s) ⟨rfl, rfl, rfl, rfl, rfl, fun _ _ => ⟨rfl, rfl⟩⟩
  split
  · exact h1
  · generalize hs2 : (if (cacheGet s1 p).length < 64 then s1 else forEach (List.range 16) (fun _ => spillOne p) s1) = s2
    have h2 : LowKept s s2 := by
      rw [← hs2]; split
      · exact h1
      · exact lowKept_trans h1 (lowKept_forEach _ _ (fun _ _ t => spillOne_lowKept p t) s1)
    have h3 : LowKept s2 (cachePut p (cacheGet s2 p ++ [i]) s2) := ⟨rfl, rfl, rfl, rfl, rfl, fun _ _ => ⟨rfl, rfl⟩⟩
    exact lowKept_trans (lowKept_trans h2 h3) (poolNote_lowKept p _)
theorem releaseHandle_lowKept (h : Option Nat) (s : State) : LowKept s (releaseHandle h s) := by
  unfold releaseHandle
  repeat' split
  · exact giveBack_lowKept _ _ s
  all_goals exact lowKept_refl s
theorem unsent_lowKept (s : State) : LowKept s (unsent s) := by
  unfold unsent inc; split
  · exact lowKept_setF' _ _ (lowKept_setF _ _ s (by decide)) (by decide)
  · exact lowKept_refl s
theorem deliver_lowKept (m : Msg) (s : State) : LowKept s (deliver m s) := by
  unfold deliver; split
  · exact ⟨rfl, rfl, rfl, rfl, rfl, fun _ _ => ⟨rfl, rfl⟩⟩
  · exact lowKept_trans (unsent_lowKept s) (releaseHandle_lowKept _ _)
/-- A refusal for another reason than a full queue counts nothing and sends its response. -/
theorem refuseSheaf_lowKept {reason : Nat} (h : reason ≠ 0x08) (index : Nat) (fw : Bool) (sh : Sheaf) (s : State) :
    LowKept s (refuseSheaf reason index fw sh s) := by
  unfold refuseSheaf sheafRsp
  simp only [if_neg h]
  exact lowKept_forEach _ _ (fun _ _ t => deliver_lowKept _ t) s
theorem telem_lowKept (t code port a b : Nat) (s : State) : LowKept s (telem t code port a b s) := by
  unfold telem
  simp only
  repeat' split
  all_goals exact ⟨rfl, rfl, rfl, rfl, rfl, fun _ _ => ⟨rfl, rfl⟩⟩
theorem reportOuts_lowKept (s0 s : State) : LowKept s (reportOuts s0 s) :=
  lowKept_forEach _ _ (fun _ _ _ => lowKept_forEach _ _ (fun _ _ t => telem_lowKept _ _ _ _ _ t) _) s

/-! ### Windows -/

/-- Every register of a window stands above the blocks. -/
theorem winBase_above (w : Nat) : 0x1000000 ≤ winBase w := by unfold winBase; split <;> omega

theorem abandonMark_lowKept (w sl : Nat) (s : State) : LowKept s (abandonMark w sl s) := by
  unfold abandonMark; split
  · unfold endMark
    have hmark : LowKept s { s with calMarks := amSet (fun _ => none) s.calMarks (wKey w sl) none } :=
      ⟨rfl, rfl, rfl, rfl, rfl, fun _ _ => ⟨rfl, rfl⟩⟩
    have hstale := lowKept_setF' (PLOT_LOOP_STAT_stale w sl) 0 hmark
      (by have := winBase_above w; simp only [PLOT_LOOP_STAT_stale]; omega)
    have hloop : LowKept s (restartLoop w sl (setF (PLOT_LOOP_STAT_stale w sl) 0
        { s with calMarks := amSet (fun _ => none) s.calMarks (wKey w sl) none })) :=
      lowKept_trans hstale ⟨rfl, rfl, rfl, rfl, rfl, fun _ _ => ⟨rfl, rfl⟩⟩
    exact lowKept_setF' CAL_CNT_ABANDON_count _ hloop (by decide)
  · exact lowKept_refl s
theorem abandonWindow_lowKept (w : Nat) (s : State) : LowKept s (abandonWindow w s) :=
  lowKept_forEach _ _ (fun _ _ t => abandonMark_lowKept w _ t) s
theorem freezeLoops_lowKept (s : State) : LowKept s (freezeLoops s) := ⟨rfl, rfl, rfl, rfl, rfl, fun _ _ => ⟨rfl, rfl⟩⟩
theorem chanPut_lowKept (w ch : Nat) (c : Chan) (s : State) : LowKept s (chanPut w ch c s) :=
  ⟨rfl, rfl, rfl, rfl, rfl, fun _ _ => ⟨rfl, rfl⟩⟩
theorem cutHold_lowKept (w ch : Nat) (s : State) : LowKept s (cutHold w ch s) := by
  unfold cutHold; split
  · exact lowKept_setF' _ _ (chanPut_lowKept w ch _ s) (by have := winBase_above w; simp only [PLOT_DRL_STAT_dg_cut]; omega)
  · exact lowKept_refl s
theorem startWave_lowKept (w ch : Nat) (codes : List Int) (test : Bool) (s : State) : LowKept s (startWave w ch codes test s) := by
  have hw := winBase_above w
  unfold startWave
  simp only
  generalize hs1 : incBy (PLOT_DRL_CNT_FLUSH_count w) (chanOf s w ch).queue.length s = s1
  have h1 : LowKept s s1 := by
    rw [← hs1]; exact lowKept_setF _ _ s (by simp only [PLOT_DRL_CNT_FLUSH_count]; omega)
  generalize hs2 : onlyIf (chRt w ch) (cutHold w (seg1Of ch)) (cutHold w ch s1) = s2
  have h2 : LowKept s s2 := by
    rw [← hs2]
    exact lowKept_trans h1 (lowKept_trans (cutHold_lowKept w ch s1) (lowKept_onlyIf _ (cutHold_lowKept w _ _)))
  generalize hs3 : onlyIf (codes.any fun v => satInt 16 v != v) (setF (PLOT_DRL_STAT_clip w ch) 1) s2 = s3
  have h3 : LowKept s s3 := by
    rw [← hs3]
    exact lowKept_trans h2 (lowKept_onlyIf _ (lowKept_setF _ _ s2 (by simp only [PLOT_DRL_STAT_clip]; omega)))
  refine lowKept_trans (lowKept_trans h3 ?_) (chanPut_lowKept w ch _ _)
  split
  · exact ⟨rfl, rfl, rfl, rfl, rfl, fun _ _ => ⟨rfl, rfl⟩⟩
  · exact lowKept_refl s3
theorem playWave_lowKept (r : WaveRead) (s : State) : LowKept s (playWave r s) := by
  unfold playWave; split
  · exact lowKept_trans (startWave_lowKept r.win r.slot _ false s) ⟨rfl, rfl, rfl, rfl, rfl, fun _ _ => ⟨rfl, rfl⟩⟩
  · exact lowKept_refl s

/-! ### Gates -/

theorem getLsbD_putBit_same (v : BitVec 256) {i : Nat} (hi : i < 256) (x : Bool) : (putBit v i x).getLsbD i = x := by
  unfold putBit
  split
  · next h => exact h
  · next h =>
    rw [BitVec.getLsbD_xor, BitVec.getLsbD_ofNat]
    simp only [hi, decide_true, Bool.true_and, Nat.testBit_two_pow_self]
    cases hv : v.getLsbD i <;> cases x <;> simp_all
theorem getLsbD_putBit_other (v : BitVec 256) {i j : Nat} (h : j ≠ i) (x : Bool) : (putBit v i x).getLsbD j = v.getLsbD j := by
  unfold putBit
  split
  · rfl
  · rw [BitVec.getLsbD_xor, BitVec.getLsbD_ofNat, Nat.testBit_two_pow_of_ne h.symm]
    simp

/-- Driving one output dark. -/
def darkOut (o : Nat) (t : State) : State :=
  setGate o false (forEach ((gateSlots o).map (fun sl => readWave t 17 sl false)) playWave t)
theorem lowKept_withGates {s t : State} (h : LowKept s t) (g : BitVec 256) :
    LowKept { s with gateOpen := g } { t with gateOpen := g } :=
  ⟨h.clk, h.flt, congrArg (fun p : CommitPart => { p with gateOpen := g }) h.commits, h.rot, h.queues, h.low⟩
theorem darkOut_lowKept (o : Nat) (t : State) : LowKept { t with gateOpen := putBit t.gateOpen o false } (darkOut o t) := by
  have h := lowKept_forEach playWave ((gateSlots o).map (fun sl => readWave t 17 sl false)) (fun r _ u => playWave_lowKept r u) t
  unfold darkOut setGate
  rw [congrArg CommitPart.gateOpen h.commits]
  exact lowKept_withGates h _
theorem darkOuts_lowKept (l : List Nat) (s : State) :
    LowKept { s with gateOpen := l.foldl (fun g o => putBit g o false) s.gateOpen } (forEach l darkOut s) := by
  induction l generalizing s with
  | nil => exact lowKept_refl s
  | cons o l ih =>
    have h := darkOut_lowKept o s
    have k := ih (darkOut o s)
    rw [congrArg CommitPart.gateOpen h.commits] at k
    exact lowKept_trans (lowKept_withGates h _) k
/-- The bits of the listed outputs are cleared, the others stand. -/
theorem getLsbD_darkBits (l : List Nat) (v : BitVec 256) {i : Nat} (hi : i < 256) :
    (l.foldl (fun g o => putBit g o false) v).getLsbD i = (v.getLsbD i && !l.contains i) := by
  induction l generalizing v with
  | nil => simp
  | cons o l ih =>
    rw [List.foldl_cons, ih]
    by_cases h : i = o
    · subst h; simp [getLsbD_putBit_same v hi]
    · simp [getLsbD_putBit_other v h, h]
/-- Driving the gates dark writes the gates alone of what is kept, and leaves none open (R265). -/
theorem gatesDark_lowKept (s : State) : ∃ g : BitVec 256, LowKept { s with gateOpen := g } (gatesDark s) ∧
    ∀ o < 256, g.getLsbD o = false := by
  refine ⟨_, darkOuts_lowKept _ s, fun o ho => ?_⟩
  rw [getLsbD_darkBits _ _ ho]
  by_cases h : s.gateOpen.getLsbD o = true
  · simp [ho, h]
  · simp [Bool.eq_false_iff.2 h]

end Sys2Proof.Machine
end

section
/-! Entry into the safe state (R402 to R404), in two parts: what it marks in FLT and GOV, and what it does to the lists, the
rotation, the gates and the map. -/
namespace Sys2Proof.Machine
open Sys2Proof.Config

/-! ### The lists, the rotation, the gates and the map -/

theorem refuseAccepted_lowKept {reason : Nat} (h : reason ≠ 0x08) (s : State) :
    LowKept { restartSolve s with accepted := [], closed := none, projected := settledMap s } (refuseAccepted reason s) :=
  lowKept_forEach _ _ (fun _ _ t => refuseSheaf_lowKept h 0 _ _ t) _
theorem refuseWaiting_lowKept {reason : Nat} (h : reason ≠ 0x08) (s : State) :
    LowKept { s with ready := [], sched := [], queues := [], solving := s.solving.map (fun v => { v with dead := reason }) }
      (refuseWaiting reason s) :=
  lowKept_forEach _ _ (fun _ _ t => refuseSheaf_lowKept h 0 _ _ t) _
theorem passCircuits_lowKept (s : State) :
    LowKept { s with present := clearByRot s.present, projected := clearByRot s.projected } (passCircuits s) :=
  lowKept_forEach _ _ (fun _ _ t => telem_lowKept _ _ _ _ _ t) _
theorem rotEvent_lowKept (table a : Nat) (s : State) : LowKept s (rotEvent table a s) := by
  unfold rotEvent; split
  · exact telem_lowKept _ _ _ _ _ s
  · exact lowKept_refl s
theorem rotIdle_lowKept (s : State) : LowKept { s with rot := none } (rotIdle s) := by
  unfold rotIdle
  split
  · next h => exact ⟨rfl, rfl, rfl, h, rfl, fun _ _ => ⟨rfl, rfl⟩⟩
  · next r h =>
    have harm : LowKept { s with rot := none } { s with rot := none, rotArmed := s.rotArmed &&& ~~~(BitVec.ofNat 16 (2 ^ r.table)) } :=
      ⟨rfl, rfl, rfl, rfl, rfl, fun _ _ => ⟨rfl, rfl⟩⟩
    exact lowKept_setF' ROT_STAT_armed 0 (lowKept_setF' ROT_STAT_state 0 harm (by decide)) (by decide)

/-- What two states agree in, they agree in when the same lists, map and gates are put in both. -/
theorem lowKept_withCommits {s t : State} (h : LowKept s t) (φ : CommitPart → CommitPart) :
    LowKept { s with toCommitPart := φ s.toCommitPart } { t with toCommitPart := φ t.toCommitPart } :=
  ⟨h.clk, h.flt, congrArg φ h.commits, h.rot, h.queues, h.low⟩
theorem lowKept_noRot {s t : State} (h : LowKept s t) : LowKept { s with rot := none } { t with rot := none } :=
  ⟨h.clk, h.flt, h.commits, rfl, h.queues, h.low⟩
theorem lowKept_noQueues {s t : State} (h : LowKept s t) : LowKept { s with queues := [] } { t with queues := [] } :=
  ⟨h.clk, h.flt, h.commits, h.rot, rfl, h.low⟩

theorem stopHold_of_none {s : State} (h : s.rot = none) : stopHold s = s := by unfold stopHold; simp only [h]
theorem stopHold_of_some {s : State} {r : RotRun} (h : s.rot = some r) (hc : s.closed = none) :
    stopHold s = rotEvent r.table 3 (rotIdle (passCircuits s)) := by unfold stopHold; simp only [h, hc]
/-- A stop with hold while no membership is closed: no rotation remains, and the map is touched only where one ran. -/
theorem stopHold_lowKept (s : State) (hc : s.closed = none) :
    ∃ p q, LowKept { s with rot := none, present := p, projected := q } (stopHold s) ∧ (s.rot = none → p = s.present) := by
  cases h : s.rot with
  | none =>
    rw [stopHold_of_none h]
    exact ⟨s.present, s.projected, ⟨rfl, rfl, rfl, h, rfl, fun _ _ => ⟨rfl, rfl⟩⟩, fun _ => rfl⟩
  | some r =>
    rw [stopHold_of_some h hc]
    refine ⟨clearByRot s.present, clearByRot s.projected, ?_, fun e => by simp at e⟩
    exact lowKept_trans (lowKept_trans (lowKept_noRot (passCircuits_lowKept s)) (rotIdle_lowKept _)) (rotEvent_lowKept _ _ _)

/-- The state with every list empty and no rotation, and with a given map, projected map and solver. -/
def emptied (p q : MapSt) (v : Option Solving) (s : State) : State :=
  { s with accepted := [], ready := [], sched := [], queues := [], closed := none, rot := none, present := p, projected := q, solving := v }

theorem refuseAll_lowKept (s : State) : ∃ q v,
    LowKept { s with accepted := [], closed := none, ready := [], sched := [], queues := [], projected := q, solving := v }
      (refuseWaiting 0x0B (refuseAccepted 0x0B s)) := by
  have h1 := refuseAccepted_lowKept (reason := 0x0B) (by decide) s
  have h2 := refuseWaiting_lowKept (reason := 0x0B) (by decide) (refuseAccepted 0x0B s)
  have h3 := lowKept_noQueues (lowKept_withCommits h1
    (fun c => { c with ready := [], sched := [], solving := c.solving.map (fun v => { v with dead := 0x0B }) }))
  exact ⟨_, _, lowKept_trans h3 h2⟩

/-- The stop dark that was to come is cancelled: its rotation's circuits pass to their tenants. -/
def stopUndone (s : State) : Bool := match s.closed with | some p => p.dark | none => false

/-- What entry does before the dark form: all is refused, the rotation stops, marks are abandoned. -/
def emptyLists (s : State) : State :=
  forEach (List.range 18) abandonWindow
    (onlyIf (stopUndone s) passCircuits (stopHold (refuseWaiting 0x0B (refuseAccepted 0x0B s))))

theorem emptyLists_lowKept (s : State) : ∃ p q v, LowKept (emptied p q v s) (emptyLists s) ∧
    (s.rot = none → stopUndone s = false → p = s.present) := by
  obtain ⟨q1, v, h1⟩ := refuseAll_lowKept s
  have hclosed := congrArg CommitPart.closed h1.commits
  have hpres := congrArg CommitPart.present h1.commits
  obtain ⟨p2, q2, h2, hp2⟩ := stopHold_lowKept _ hclosed
  have h12 := lowKept_trans (lowKept_noRot (lowKept_withCommits h1 (fun c => { c with present := p2, projected := q2 }))) h2
  have hwin := lowKept_forEach abandonWindow (List.range 18) (fun w _ t => abandonWindow_lowKept w t)
    (onlyIf (stopUndone s) passCircuits (stopHold (refuseWaiting 0x0B (refuseAccepted 0x0B s))))
  unfold emptyLists
  generalize stopHold (refuseWaiting 0x0B (refuseAccepted 0x0B s)) = c at h12 hwin ⊢
  cases hu : stopUndone s with
  | false =>
    rw [hu] at hwin
    exact ⟨p2, q2, v, lowKept_trans h12 hwin, fun hr _ => (hp2 (h1.rot.trans hr)).trans hpres⟩
  | true =>
    rw [hu] at hwin
    exact ⟨_, _, v, lowKept_trans (lowKept_withCommits h12
        (fun x => { x with present := clearByRot c.present, projected := clearByRot c.projected }))
      (lowKept_trans (passCircuits_lowKept c) hwin), fun _ e => by simp at e⟩

/-- The dark form: no circuit and no open gate remains. -/
theorem goDark_lowKept (s : State) : ∃ p q v g x,
    LowKept { s with present := p, projected := q, solving := v, gateOpen := g, unseen := x } (goDark s) ∧ p.circs = [] ∧ ∀ o < 256, g.getLsbD o = false := by
  obtain ⟨g, h, hg⟩ := gatesDark_lowKept s
  unfold goDark
  simp only
  refine ⟨_, _, _, g, _, lowKept_trans (lowKept_withCommits h (fun c => { c with
      solving := (gatesDark s).solving.map (fun v => { v with since := (gatesDark s).clk.now })
      present := { (gatesDark s).present with circs := [] }, projected := { (gatesDark s).projected with circs := [] }, unseen := [] }))
    (reportOuts_lowKept s _), rfl, hg⟩

/-- What entry does beside its marks. -/
def safeActs (dark : Bool) (s : State) : State :=
  let t := emptyLists s
  if t.commit.isNone then onlyIf dark goDark (freezeLoops t) else t

/-- The always-on blocks, the clock and the collector stand, the lists are empty, no rotation remains; the gates and the map are
as the form says (R403, R404). -/
structure Emptied (dark : Bool) (s t : State) : Prop where
  clk : t.clk = s.clk
  flt : t.toFaultPart = s.toFaultPart
  low : ∀ o < 0x40000, rd t o = rd s o ∧ heldBits t o = heldBits s o
  commit : t.commit = s.commit
  lists : t.accepted = [] ∧ t.ready = [] ∧ t.sched = [] ∧ t.queues = [] ∧ t.closed = none ∧ t.rot = none
  darkened : dark = true → s.commit = none → t.present.circs = [] ∧ ∀ o < 256, t.gateOpen.getLsbD o = false
  held : dark = false → t.gateOpen = s.gateOpen ∧ (s.rot = none → stopUndone s = false → t.present = s.present)

theorem emptyLists_emptied (s : State) : Emptied false s (emptyLists s) := by
  obtain ⟨p, q, v, h, hp⟩ := emptyLists_lowKept s
  have field {β : Type} (φ : CommitPart → β) : φ (emptyLists s).toCommitPart = φ (emptied p q v s).toCommitPart :=
    congrArg φ h.commits
  exact ⟨h.clk, h.flt, h.low, field (·.commit),
    ⟨field (·.accepted), field (·.ready), field (·.sched), h.queues, field (·.closed), h.rot⟩,
    fun e => by simp at e, fun _ => ⟨field (·.gateOpen), fun hr hu => (field (·.present)).trans (hp hr hu)⟩⟩
/-- What keeps the low parts keeps the lists empty. -/
theorem emptied_lowKept {dark : Bool} {s t u : State} (h : Emptied dark s t) (k : LowKept t u) : Emptied dark s u := by
  have field {β : Type} (φ : CommitPart → β) : φ u.toCommitPart = φ t.toCommitPart := congrArg φ k.commits
  obtain ⟨ha, hr, hs, hq, hc, ho⟩ := h.lists
  exact ⟨k.clk.trans h.clk, k.flt.trans h.flt, fun o hl => ⟨(k.low o hl).1.trans (h.low o hl).1, (k.low o hl).2.trans (h.low o hl).2⟩,
    (field (·.commit)).trans h.commit,
    ⟨(field (·.accepted)).trans ha, (field (·.ready)).trans hr, (field (·.sched)).trans hs, k.queues.trans hq,
      (field (·.closed)).trans hc, k.rot.trans ho⟩,
    fun e n => by
      rw [show u.present = t.present from field (·.present), show u.gateOpen = t.gateOpen from field (·.gateOpen)]
      exact h.darkened e n,
    fun e => ⟨(field (·.gateOpen)).trans (h.held e).1, fun hr hu => (field (·.present)).trans ((h.held e).2 hr hu)⟩⟩
/-- The dark form after the lists are emptied. -/
theorem emptied_goDark {s t : State} (h : Emptied false s t) : Emptied true s (goDark t) := by
  obtain ⟨p, q, v, g, x, k, hp, hg⟩ := goDark_lowKept t
  have hdark : Emptied true s { t with present := p, projected := q, solving := v, gateOpen := g, unseen := x } :=
    ⟨h.clk, h.flt, h.low, h.commit, h.lists, fun _ _ => ⟨hp, hg⟩, fun e => by simp at e⟩
  exact emptied_lowKept hdark k
/-- While a commit is in progress the dark form waits. -/
theorem emptied_waits {s t : State} (h : Emptied false s t) (hc : s.commit ≠ none) (dark : Bool) : Emptied dark s t :=
  ⟨h.clk, h.flt, h.low, h.commit, h.lists, fun _ e => absurd e hc, fun _ => h.held rfl⟩

theorem safeActs_emptied (dark : Bool) (s : State) : Emptied dark s (safeActs dark s) := by
  have h := emptyLists_emptied s
  have hf := emptied_lowKept h (freezeLoops_lowKept _)
  unfold safeActs
  simp only
  split
  · cases dark with
    | true => exact emptied_goDark hf
    | false => exact hf
  · next hn => exact emptied_waits h (fun e => hn (by rw [h.commit, e]; rfl)) dark

end Sys2Proof.Machine
end

section
/-! What entry into the safe state does as a whole (R402 to R404): the marks in FLT and GOV beside what the lists, the rotation,
the gates and the map become. -/
namespace Sys2Proof.Machine
open Sys2Proof.Config

/-! ### Updates that write some registers alone -/

/-- Outside the registers `A` nothing differs but the bits noted as set and the log's stamps. -/
structure WritesOnly (A : Nat → Prop) (s t : State) : Prop where
  same : t = { s with regs := t.regs, hwSet := t.hwSet, fltLogged := t.fltLogged }
  others : ∀ o, ¬ A o → rd t o = rd s o ∧ heldBits t o = heldBits s o

section
variable {A : Nat → Prop} {s t u : State}

theorem writesOnly_refl (A : Nat → Prop) (s : State) : WritesOnly A s s := ⟨rfl, fun _ _ => ⟨rfl, rfl⟩⟩
theorem writesOnly_trans (h : WritesOnly A s t) (k : WritesOnly A t u) : WritesOnly A s u :=
  ⟨by rw [k.same, h.same], fun o ho => ⟨(k.others o ho).1.trans (h.others o ho).1, (k.others o ho).2.trans (h.others o ho).2⟩⟩
theorem writesOnly_setF (x : Fld) (v : Nat) (h : WritesOnly A s t) (hx : A x.off) : WritesOnly A s (setF x v t) := by
  refine writesOnly_trans h ⟨rfl, fun o ho => ?_⟩
  have hne : o ≠ x.off := fun e => ho (e ▸ hx)
  exact ⟨rd_setF_other t x v hne, heldBits_setF_off x v t hne⟩
theorem writesOnly_setRaw (o : Nat) (w : Word) (h : WritesOnly A s t) (ho : A o) : WritesOnly A s (setRaw t o w) :=
  writesOnly_trans h ⟨rfl, fun p hp => ⟨rd_setRaw_other t (fun e : p = o => hp (e ▸ ho)) w, rfl⟩⟩
theorem writesOnly_forEach {α : Type} (g : α → State → State) (l : List α)
    (hg : ∀ a ∈ l, ∀ v, WritesOnly A s v → WritesOnly A s (g a v)) (h : WritesOnly A s t) : WritesOnly A s (forEach l g t) := forEach_keeps _ g l hg t h
theorem writesOnly_mono {B : Nat → Prop} (h : WritesOnly A s t) (hab : ∀ o, A o → B o) : WritesOnly B s t :=
  ⟨h.same, fun o ho => h.others o (fun ha => ho (hab o ha))⟩
theorem f_writesOnly (h : WritesOnly A s t) (x : Fld) (hx : ¬ A x.off) : f t x = f s x := by
  unfold f; rw [(h.others _ hx).1]
theorem heldFld_writesOnly (h : WritesOnly A s t) (x : Fld) (hx : ¬ A x.off) : heldFld t x = heldFld s x := by
  unfold heldFld; rw [(h.others _ hx).2]
theorem clk_writesOnly (h : WritesOnly A s t) : t.clk = s.clk := by rw [h.same]
theorem escAt_writesOnly (h : WritesOnly A s t) : t.escAt = s.escAt := by rw [h.same]
end

/-! ### The marks of entry -/

/-- The registers that entry marks. -/
def safeRegs : List Nat := [FLT_STAT_safe.off, FLT_SAFE_NS_ns.off, FLT_SAFE_SL_sec_low.off, GOV_DEV_STAT_state.off, GOV_STAT_dev_chg.off]

/-- Entry's marks in FLT. -/
def safeStamp (cause src : Nat) (dark : Bool) (s : State) : State :=
  setF FLT_SAFE_SL_sec_low (tSec (tbNow s 0)) (setF FLT_SAFE_NS_ns (tNs (tbNow s 0))
    (setF FLT_STAT_cause_src src (setF FLT_STAT_cause cause (setB FLT_STAT_dark_active dark (setF FLT_STAT_safe 1 s)))))
/-- A request to park is refused and the device returns to RUN (R384, Table 12-4). -/
def parkRefused (s : State) : State := if devState s = 1 then devGo 0 (setF GOV_DEV_STAT_refused 1 s) else s
/-- Entry's marks in FLT and GOV. -/
def safeMarks (cause src : Nat) (dark : Bool) (s : State) : State := parkRefused (safeStamp cause src dark s)

theorem safeEnter_inSafe {cause src : Nat} {dark : Bool} {s : State} (h : inSafe s = true) : safeEnter cause src dark s = s := by
  unfold safeEnter; rw [if_pos h]
theorem safeEnter_eq {cause src : Nat} {dark : Bool} {s : State} (h : inSafe s = false) :
    safeEnter cause src dark s = safeActs dark (safeMarks cause src dark s) := by
  unfold safeEnter
  rw [if_neg (by simp [h])]
  simp only
  unfold safeMarks parkRefused safeStamp
  generalize (if devState (setF FLT_SAFE_SL_sec_low (tSec (tbNow s 0)) _) = 1 then _ else _) = s2
  cases hc : s2.closed <;> simp only [safeActs, emptyLists, stopUndone, hc]

theorem safeStamp_writesOnly (cause src : Nat) (dark : Bool) (s : State) : WritesOnly (· ∈ safeRegs) s (safeStamp cause src dark s) := by
  unfold safeStamp setB
  refine writesOnly_setF _ _ (writesOnly_setF _ _ (writesOnly_setF _ _ (writesOnly_setF _ _ (writesOnly_setF _ _ (writesOnly_setF _ _
    (writesOnly_refl _ s) ?_) ?_) ?_) ?_) ?_) ?_ <;> decide
theorem parkRefused_writesOnly (s : State) :
    WritesOnly (fun o => o = GOV_DEV_STAT_state.off ∨ o = GOV_STAT_dev_chg.off) s (parkRefused s) := by
  have hr := writesOnly_setF (A := fun o => o = GOV_DEV_STAT_state.off ∨ o = GOV_STAT_dev_chg.off) GOV_DEV_STAT_refused 1
    (writesOnly_refl _ s) (by decide)
  unfold parkRefused devGo
  repeat' split
  · exact hr
  · exact writesOnly_setF _ _ (writesOnly_setF _ _ hr (by decide)) (by decide)
  · exact writesOnly_refl _ s
theorem safeMarks_writesOnly (cause src : Nat) (dark : Bool) (s : State) : WritesOnly (· ∈ safeRegs) s (safeMarks cause src dark s) :=
  writesOnly_trans (safeStamp_writesOnly cause src dark s)
    (writesOnly_mono (parkRefused_writesOnly _) (fun o ho => by rcases ho with rfl | rfl <;> decide))
theorem safeStamp_flt (cause src : Nat) (dark : Bool) (s : State) : (safeStamp cause src dark s).toFaultPart = s.toFaultPart := by
  unfold safeStamp setB; simp only [setF_toFaultPart]
theorem parkRefused_flt (s : State) : (parkRefused s).toFaultPart = s.toFaultPart := by
  unfold parkRefused devGo
  repeat' split
  all_goals simp only [setF_toFaultPart]
theorem devState_parkRefused (s : State) : devState (parkRefused s) = if devState s = 1 then 0 else devState s := by
  unfold parkRefused
  split
  · next h =>
    have hd : devState (setF GOV_DEV_STAT_refused 1 s) = 1 := by
      unfold devState at h ⊢; rw [f_setF_ne _ _ _ _ (by decide) (by decide), h]
    unfold devGo
    rw [if_neg (by omega)]
    unfold devState
    rw [f_setF_ne _ _ _ _ (by decide) (by decide), f_setF_same _ _ _ (by decide)]
    rfl
  · rfl

/-- The fields of FLT that entry marks, what it marks in them, and that it leaves a fault inside the collector marked. -/
theorem safeStamp_fields {cause src : Nat} (hc : cause < 8) (hs : src < 64) (dark : Bool) (s : State) :
    let t := safeStamp cause src dark s
    f t FLT_STAT_safe = 1 ∧ f t FLT_STAT_cause = cause ∧ f t FLT_STAT_cause_src = src ∧ f t FLT_STAT_dark_active = dark.toNat ∧
      f t FLT_SAFE_NS_ns = tNs (tbNow s 0) ∧ f t FLT_SAFE_SL_sec_low = tSec (tbNow s 0) % 2 ^ 32 ∧
      devState t = devState s ∧ f t FLT_STAT_self_fault = f s FLT_STAT_self_fault := by
  have hns : tNs (tbNow s 0) < 2 ^ 32 := Nat.lt_trans (Nat.mod_lt _ (by decide)) (by decide)
  have hdark : dark.toNat < 2 := by cases dark <;> decide
  unfold safeStamp setB devState
  simp (disch := decide) only [f_setF_ne, f_setF_same]
  exact ⟨rfl, Nat.mod_eq_of_lt hc, Nat.mod_eq_of_lt hs, Nat.mod_eq_of_lt hdark, Nat.mod_eq_of_lt hns, rfl, trivial, trivial⟩
theorem f_safeMarks (cause src : Nat) (dark : Bool) (s : State) {x : Fld}
    (hx : ¬ (x.off = GOV_DEV_STAT_state.off ∨ x.off = GOV_STAT_dev_chg.off)) :
    f (safeMarks cause src dark s) x = f (safeStamp cause src dark s) x := f_writesOnly (parkRefused_writesOnly _) x hx

/-! ### Entry as a whole -/

theorem f_emptied {dark : Bool} {s t : State} (h : Emptied dark s t) (x : Fld) (hx : x.off < 0x40000) : f t x = f s x := by
  unfold f; rw [(h.low _ hx).1]

/-- What entry leaves of the always-on blocks, the clock and the collector. -/
theorem safeEnter_frame {cause src : Nat} (hc : cause < 8) (hs : src < 64) (dark : Bool) (s : State) :
    let t := safeEnter cause src dark s
    t.clk = s.clk ∧ t.toFaultPart = s.toFaultPart ∧ f t FLT_STAT_self_fault = f s FLT_STAT_self_fault ∧
      ∀ o < 0x40000, o ∉ safeRegs → rd t o = rd s o ∧ heldBits t o = heldBits s o := by
  cases h : inSafe s with
  | true => rw [safeEnter_inSafe h]; exact ⟨rfl, rfl, rfl, fun _ _ _ => ⟨rfl, rfl⟩⟩
  | false =>
    rw [safeEnter_eq h]
    have hm := safeMarks_writesOnly cause src dark s
    have he := safeActs_emptied dark (safeMarks cause src dark s)
    obtain ⟨-, -, -, -, -, -, -, hself⟩ := safeStamp_fields hc hs dark s
    refine ⟨he.clk.trans (clk_writesOnly hm), he.flt.trans ?_,
      ((f_emptied he _ (by decide)).trans (f_safeMarks _ _ _ _ (by decide))).trans hself,
      fun o hl ho => ⟨(he.low o hl).1.trans (hm.others o ho).1, (he.low o hl).2.trans (hm.others o ho).2⟩⟩
    exact (parkRefused_flt _).trans (safeStamp_flt cause src dark s)

/-- Entry into the safe state (R402 to R404). -/
theorem safeEnter_entersSafe {cause src : Nat} (hc : cause < 8) (hs : src < 64) (dark : Bool) (s : State) :
    EntersSafe s (safeEnter cause src dark s) cause src dark := by
  cases h : inSafe s with
  | true =>
    rw [safeEnter_inSafe h]
    exact ⟨h, fun _ => ⟨rfl, rfl, rfl, rfl, rfl⟩, fun e => by simp [h] at e⟩
  | false =>
    rw [safeEnter_eq h]
    have hm := safeMarks_writesOnly cause src dark s
    have he := safeActs_emptied dark (safeMarks cause src dark s)
    obtain ⟨hsafe, hcause, hsrc, hdark, hns, hsl, hdev, -⟩ := safeStamp_fields hc hs dark s
    have marked (x : Fld) (hl : x.off < 0x40000) (hx : ¬ (x.off = GOV_DEV_STAT_state.off ∨ x.off = GOV_STAT_dev_chg.off)) :
        f (safeActs dark (safeMarks cause src dark s)) x = f (safeStamp cause src dark s) x :=
      (f_emptied he x hl).trans (f_safeMarks cause src dark s hx)
    obtain ⟨ha, hr, hsc, hq, hcl, hro⟩ := he.lists
    have hcommit : (safeMarks cause src dark s).commit = s.commit := by rw [hm.same]
    have hgate : (safeMarks cause src dark s).gateOpen = s.gateOpen := by rw [hm.same]
    have hrot : (safeMarks cause src dark s).rot = s.rot := by rw [hm.same]
    have hpres : (safeMarks cause src dark s).present = s.present := by rw [hm.same]
    have hundone : stopUndone (safeMarks cause src dark s) = stopUndone s := by unfold stopUndone; rw [hm.same]
    refine ⟨?_, fun e => by simp [h] at e, fun _ =>
      ⟨(marked _ (by decide) (by decide)).trans hcause, (marked _ (by decide) (by decide)).trans hsrc,
        (marked _ (by decide) (by decide)).trans hdark, (marked _ (by decide) (by decide)).trans hns,
        (marked _ (by decide) (by decide)).trans hsl, ha, hr, hsc, hq, hcl, hro, he.commit.trans hcommit, ?_,
        fun hd hn => he.darkened hd (hcommit.trans hn), fun hd => ⟨(he.held hd).1.trans hgate, fun hn hp => ?_⟩⟩⟩
    · unfold inSafe fb; rw [marked _ (by decide) (by decide), hsafe]; rfl
    · exact (f_emptied he GOV_DEV_STAT_state (by decide)).trans ((devState_parkRefused _).trans (by rw [hdev]))
    · refine ((he.held hd).2 (hrot.trans hn) ?_).trans hpres
      rw [hundone]
      unfold stopUndone
      cases hclosed : s.closed with
      | none => rfl
      | some p => exact hp p hclosed

/-! ### The same entry seen through other updates -/

/-- The fields in which entry is seen. -/
def safeFlds : List Fld :=
  [FLT_STAT_safe, FLT_STAT_cause, FLT_STAT_cause_src, FLT_STAT_dark_active, FLT_SAFE_NS_ns, FLT_SAFE_SL_sec_low, GOV_DEV_STAT_state]

/-- Two states look the same to `EntersSafe`. -/
structure SafeSame (s t : State) : Prop where
  clk : t.clk = s.clk
  commits : t.toCommitPart = s.toCommitPart
  rot : t.rot = s.rot
  queues : t.queues = s.queues
  fields : ∀ x ∈ safeFlds, f t x = f s x

theorem inSafe_safeSame {s t : State} (h : SafeSame s t) : inSafe t = inSafe s := by
  unfold inSafe fb; rw [h.fields _ (by decide)]
theorem devState_safeSame {s t : State} (h : SafeSame s t) : devState t = devState s := h.fields _ (by decide)

/-- Entry is seen alike in states that look the same. -/
theorem entersSafe_congr {u u' t t' : State} {cause src : Nat} {dark : Bool} (hu : SafeSame u u') (ht : SafeSame t t')
    (h : EntersSafe u t cause src dark) : EntersSafe u' t' cause src dark := by
  have field {β : Type} (φ : CommitPart → β) : φ t'.toCommitPart = φ t.toCommitPart := congrArg φ ht.commits
  have field' {β : Type} (φ : CommitPart → β) : φ u'.toCommitPart = φ u.toCommitPart := congrArg φ hu.commits
  have htb : tbNow u' 0 = tbNow u 0 := by unfold tbNow; rw [hu.clk]; rfl
  unfold EntersSafe at h ⊢
  rw [inSafe_safeSame hu, inSafe_safeSame ht, devState_safeSame hu, devState_safeSame ht, htb, hu.rot, ht.rot, ht.queues,
    ht.fields FLT_STAT_cause (by decide), ht.fields FLT_STAT_cause_src (by decide), ht.fields FLT_STAT_dark_active (by decide),
    ht.fields FLT_SAFE_NS_ns (by decide), ht.fields FLT_SAFE_SL_sec_low (by decide),
    hu.fields FLT_STAT_cause (by decide), hu.fields FLT_STAT_dark_active (by decide),
    show t'.present = t.present from field (·.present), show t'.accepted = t.accepted from field (·.accepted),
    show t'.ready = t.ready from field (·.ready), show t'.sched = t.sched from field (·.sched),
    show t'.closed = t.closed from field (·.closed), show t'.commit = t.commit from field (·.commit),
    show t'.gateOpen = t.gateOpen from field (·.gateOpen), show u'.present = u.present from field' (·.present),
    show u'.accepted = u.accepted from field' (·.accepted), show u'.commit = u.commit from field' (·.commit),
    show u'.gateOpen = u.gateOpen from field' (·.gateOpen), show u'.closed = u.closed from field' (·.closed)]
  exact h

theorem safeSame_refl (s : State) : SafeSame s s := ⟨rfl, rfl, rfl, rfl, fun _ _ => rfl⟩
theorem safeSame_symm {s t : State} (h : SafeSame s t) : SafeSame t s :=
  ⟨h.clk.symm, h.commits.symm, h.rot.symm, h.queues.symm, fun x hx => (h.fields x hx).symm⟩
theorem safeSame_trans {s t u : State} (h : SafeSame s t) (k : SafeSame t u) : SafeSame s u :=
  ⟨k.clk.trans h.clk, k.commits.trans h.commits, k.rot.trans h.rot, k.queues.trans h.queues,
    fun x hx => (k.fields x hx).trans (h.fields x hx)⟩
/-- Settling the vectors is not seen. -/
theorem safeSame_settle (s0 s : State) : SafeSame s (settle s0 s) :=
  ⟨settle_clk s0 s, settle_toCommitPart s0 s, settle_rot s0 s, settle_queues s0 s,
    fun x hx => f_settle s0 s ((show ∀ y ∈ safeFlds, y.off ≠ DMA_MSIX_PEND_pending.off by decide) x hx)⟩
/-- Writes of other registers are not seen. -/
theorem safeSame_writesOnly {A : Nat → Prop} {s t : State} (h : WritesOnly A s t) (hx : ∀ x ∈ safeFlds, ¬ A x.off) : SafeSame s t :=
  ⟨by rw [h.same], by rw [h.same], by rw [h.same], by rw [h.same], fun x hm => f_writesOnly h x (hx x hm)⟩
/-- Nor is the write of a field that shares no bit with those. -/
theorem safeSame_setF {x : Fld} (v : Nat) (hx : x.lsb + x.wid ≤ 32)
    (h : ∀ y ∈ safeFlds, y.off ≠ x.off ∨ y.lsb + y.wid ≤ x.lsb ∨ x.lsb + x.wid ≤ y.lsb) (s : State) :
    SafeSame s (setF x v s) :=
  ⟨rfl, rfl, rfl, rfl, fun y hy => f_setF_ne s x y v hx (h y hy)⟩
/-- Nor is the collector's own state. -/
theorem safeSame_part (s : State) (p : FaultPart) : SafeSame s { s with toFaultPart := p } :=
  ⟨rfl, rfl, rfl, rfl, fun _ _ => rfl⟩

end Sys2Proof.Machine
end

section
/-! Escalation, acknowledgement and faults of the collector itself (R399, R400, R406): the fault log, the bits of a source, and
what an expiry, an acknowledgement and a clear do. -/
namespace Sys2Proof.Machine
open Sys2Proof.Config

/-! ### The fault log -/

/-- The registers of the fault log (Table 12-13). -/
def isLog (o : Nat) : Prop := o = FLT_LOG_STAT_wptr.off ∨ (0x21000 ≤ o ∧ o < 0x22000)

section
variable {A : Nat → Prop} {s t : State}

theorem writesOnly_logged (h : WritesOnly A s t) (l : AMap (Option Nat)) : WritesOnly A s { t with fltLogged := l } :=
  writesOnly_trans h ⟨rfl, fun _ _ => ⟨rfl, rfl⟩⟩
end

theorem logPut_writesOnly {e : Nat} (he : e < 256) (n sev : Nat) (escd entered : Bool) (d : Nat) (s : State) :
    WritesOnly isLog s (logPut e n sev escd entered d s) := by
  unfold logPut setB
  refine writesOnly_setF _ _ (writesOnly_setF _ _ (writesOnly_setF _ _ (writesOnly_setF _ _ (writesOnly_setF _ _ (writesOnly_setF _ _
    (writesOnly_setF _ _ (writesOnly_refl _ s) ?_) ?_) ?_) ?_) ?_) ?_) ?_ <;>
  simp only [isLog, FLT_LOG0_source, FLT_LOG0_severity, FLT_LOG0_escalated, FLT_LOG0_entered_safe, FLT_LOG1_detail, FLT_LOG2_ns,
    FLT_LOG3_sec_low] <;> omega
theorem logTaken_writesOnly (n : Nat) (s : State) : WritesOnly isLog s (logTaken n s) := by
  unfold logTaken
  refine writesOnly_logged (writesOnly_setF _ _ ?_ (.inl rfl)) _
  split
  · exact writesOnly_setF _ _ (writesOnly_refl _ s) (.inl rfl)
  · exact writesOnly_refl _ s
theorem logRecord_writesOnly (n sev : Nat) (escd entered : Bool) (d : Nat) (s : State) :
    WritesOnly isLog s (logRecord n sev escd entered d s) :=
  writesOnly_trans (logPut_writesOnly (f_lt s FLT_LOG_STAT_wptr) n sev escd entered d s) (logTaken_writesOnly n _)
theorem logShift_writesOnly (e : Nat) (s : State) : WritesOnly isLog s (logShift e s) := by
  have he : e % 256 < 256 := Nat.mod_lt _ (by decide)
  refine writesOnly_forEach _ _ (fun x hx t ht => writesOnly_setRaw _ _ ht (.inr ?_)) (writesOnly_refl _ s)
  simp only [List.mem_cons, List.not_mem_nil, or_false] at hx
  rcases hx with rfl | rfl | rfl | rfl <;>
    simp only [FLT_LOG0_source, FLT_LOG1_detail, FLT_LOG2_ns, FLT_LOG3_sec_low] <;> omega
theorem logRaise_writesOnly (n sev : Nat) (entered : Bool) (d : Nat) (s : State) :
    WritesOnly isLog s (logRaise n sev entered d s) := by
  unfold logRaise
  simp only
  exact writesOnly_trans (writesOnly_trans
    (writesOnly_forEach _ _ (fun i _ t ht => writesOnly_trans ht (logShift_writesOnly _ t)) (writesOnly_refl _ s))
    (logPut_writesOnly (Nat.mod_lt _ (by decide)) n sev false entered d _)) (logTaken_writesOnly n _)

/-! ### The bits of a source -/

theorem atOf_atPut_same (m : AMap (Option Nat)) (n : Nat) (v : Option Nat) : atOf (atPut m n v) n = v := amGet_amSet_same _ m n v
theorem atOf_atPut_other (m : AMap (Option Nat)) {n k : Nat} (h : k ≠ n) (v : Option Nat) : atOf (atPut m n v) k = atOf m k :=
  amGet_amSet_other _ m h v

theorem pendBit_fits (n : Nat) : (pendBit n).lsb + (pendBit n).wid ≤ 32 := by simp only [pendBit, srcBit]; omega
theorem escdBit_fits (n : Nat) : (escdBit n).lsb + (escdBit n).wid ≤ 32 := by simp only [escdBit, srcBit]; omega
theorem pendBit_off {n : Nat} (hn : n < 48) : (pendBit n).off = 0x20010 ∨ (pendBit n).off = 0x20014 := by
  simp only [pendBit, srcBit, FLT_PEND_LO_pending]; omega
theorem escdBit_off {n : Nat} (hn : n < 48) : (escdBit n).off = 0x20028 ∨ (escdBit n).off = 0x2002C := by
  simp only [escdBit, srcBit, FLT_ESCD_LO_escalated]; omega
/-- An entry is not seen in the bits of a source. -/
theorem pendBit_notSafe {n : Nat} (hn : n < 48) : ∀ x ∈ safeFlds, x.off ≠ (pendBit n).off := by
  rcases pendBit_off hn with h | h <;> rw [h] <;> decide
theorem escdBit_notSafe {n : Nat} (hn : n < 48) : ∀ x ∈ safeFlds, x.off ≠ (escdBit n).off := by
  rcases escdBit_off hn with h | h <;> rw [h] <;> decide
theorem safeSame_clearBits {x : Fld} (v : Nat) (hx : ∀ y ∈ safeFlds, y.off ≠ x.off) (s : State) : SafeSame s (clearBits x v s) :=
  ⟨rfl, rfl, rfl, rfl, fun y hy => by unfold f; rw [rd_clearBits_other x v s (hx y hy)]⟩
theorem pendBit_apart {n k : Nat} (h : k ≠ n) : (pendBit k).off ≠ (pendBit n).off ∨
    (pendBit k).lsb + (pendBit k).wid ≤ (pendBit n).lsb ∨ (pendBit n).lsb + (pendBit n).wid ≤ (pendBit k).lsb := by
  simp only [pendBit, srcBit]; omega
theorem escdBit_apart {n k : Nat} (h : k ≠ n) : (escdBit k).off ≠ (escdBit n).off ∨
    (escdBit k).lsb + (escdBit k).wid ≤ (escdBit n).lsb ∨ (escdBit n).lsb + (escdBit n).wid ≤ (escdBit k).lsb := by
  simp only [escdBit, srcBit]; omega
theorem pendBit_ne_escdBit {n k : Nat} (hn : n < 48) (hk : k < 48) : (pendBit n).off ≠ (escdBit k).off := by
  have hp := pendBit_off hn
  have he := escdBit_off hk
  omega

/-- A one-bit field that nothing holds is cleared. -/
theorem f_clearBits_unheld {s : State} {x : Fld} (hw : x.wid = 1) (hx : x.lsb + x.wid ≤ 32) (h : heldFld s x = 0) :
    f (clearBits x 1 s) x = 0 := by
  have hlt := f_lt s x
  rw [f_clearBits_same x 1 s hx, h, hw]
  rw [hw] at hlt
  have : f s x = 0 ∨ f s x = 1 := by omega
  rcases this with e | e <;> rw [e] <;> decide
/-- A one-bit field that the hardware set in this cycle stands. -/
theorem f_clearBits_held {s : State} {x : Fld} (hw : x.wid = 1) (hx : x.lsb + x.wid ≤ 32) (h : heldFld s x ≠ 0) :
    f (clearBits x 1 s) x = f s x := by
  have hlt : heldFld s x < 2 ^ x.wid := Nat.mod_lt _ (Nat.two_pow_pos _)
  rw [hw] at hlt
  rw [f_clearBits_same x 1 s hx, hw, show heldFld s x = 1 by omega]
  simp
/-- Setting a one-bit field holds it for the cycle. -/
theorem heldFld_setF_one (x : Fld) (s : State) (hw : x.wid = 1) : heldFld (setF x 1 s) x ≠ 0 := by
  unfold heldFld
  rw [heldBits_setF_same x 1 s (by rw [hw]; decide), hw]
  have hbit : (setMask s x 1 ||| heldBits s x.off).testBit x.lsb = true := by
    unfold setMask
    simp [hw, Nat.testBit_or]
  rw [Nat.testBit_eq_decide_div_mod_eq, decide_eq_true_eq] at hbit
  omega

/-! ### An expiry -/

/-- An expiry's own mark and record, before the entry. -/
def escNoted (n : Nat) (s : State) : State :=
  logRecord n 3 true (!inSafe s) (amGet (fun _ => 0) s.escDet n) (setF (escdBit n) 1 { s with escAt := atPut s.escAt n none })
theorem escalate_eq (n : Nat) (s : State) : escalate n s = safeEnter 2 n (fb (escNoted n s) FLT_CTRL_dark) (escNoted n s) := rfl
theorem escNoted_writesOnly (n : Nat) (s : State) :
    WritesOnly (fun o => o = (escdBit n).off ∨ isLog o) { s with escAt := atPut s.escAt n none } (escNoted n s) :=
  writesOnly_trans (writesOnly_setF _ _ (writesOnly_refl _ _) (.inl rfl))
    (writesOnly_mono (logRecord_writesOnly n 3 true _ _ _) (fun _ h => .inr h))

theorem notLog_of_lt {o : Nat} (h : o < 0x20040) : ¬ isLog o := by
  have hw : FLT_LOG_STAT_wptr.off = 0x20040 := rfl
  unfold isLog; omega

theorem escNoted_safeSame {n : Nat} (hn : n < 48) (s : State) : SafeSame s (escNoted n s) := by
  refine safeSame_trans (safeSame_part s { s.toFaultPart with escAt := atPut s.escAt n none })
    (safeSame_writesOnly (escNoted_writesOnly n s) (fun x hx => ?_))
  have hlog : ∀ y ∈ safeFlds, ¬ (y.off = FLT_LOG_STAT_wptr.off ∨ (0x21000 ≤ y.off ∧ y.off < 0x22000)) := by decide
  exact fun e => e.elim (escdBit_notSafe hn x hx) (hlog x hx)

/-- What an expiry does (R399): the source is escalated, its timer has ended, and the module enters the safe state. -/
theorem escalate_spec {n : Nat} (hn : n < 48) (s : State) :
    let t := escalate n s
    t.clk = s.clk ∧ t.escAt = atPut s.escAt n none ∧ f t (escdBit n) = 1 ∧ heldFld t (escdBit n) ≠ 0 ∧
      f t (pendBit n) = f s (pendBit n) ∧ heldFld t (pendBit n) = heldFld s (pendBit n) ∧
      EntersSafe s t 2 n (fb s FLT_CTRL_dark) := by
  have hp := pendBit_off hn
  have he := escdBit_off hn
  have hpe := pendBit_ne_escdBit hn hn
  have hw := escNoted_writesOnly n s
  have hpn : ¬ ((pendBit n).off = (escdBit n).off ∨ isLog (pendBit n).off) := fun e => e.elim hpe (notLog_of_lt (by omega))
  have hsafe : ∀ o, o = 0x20010 ∨ o = 0x20014 ∨ o = 0x20028 ∨ o = 0x2002C → o ∉ safeRegs := by
    rintro o (rfl | rfl | rfl | rfl) <;> decide
  obtain ⟨hclk, hflt, -, hkeep⟩ := safeEnter_frame (cause := 2) (src := n) (by decide) (by omega)
    (fb (escNoted n s) FLT_CTRL_dark) (escNoted n s)
  obtain ⟨hpr, hph⟩ := hkeep (pendBit n).off (by omega) (hsafe _ (by omega))
  obtain ⟨her, heh⟩ := hkeep (escdBit n).off (by omega) (hsafe _ (by omega))
  have hlog := logRecord_writesOnly n 3 true (!inSafe s) (amGet (fun _ => 0) s.escDet n)
    (setF (escdBit n) 1 { s with escAt := atPut s.escAt n none })
  have hdark : fb (escNoted n s) FLT_CTRL_dark = fb s FLT_CTRL_dark := by
    have hctrl : FLT_CTRL_dark.off ≠ (escdBit n).off := by rcases he with h | h <;> rw [h] <;> decide
    unfold fb
    rw [f_writesOnly hw _ (fun e => e.elim hctrl (notLog_of_lt (by decide)))]; rfl
  rw [escalate_eq]
  have hclk' := clk_writesOnly hw
  have hesc := escAt_writesOnly hw
  refine ⟨hclk.trans hclk', (congrArg FaultPart.escAt hflt).trans hesc, ?_, ?_, ?_, ?_, ?_⟩
  · unfold f; rw [her]
    exact (f_writesOnly hlog (escdBit n) (notLog_of_lt (by omega))).trans (f_setF_same _ _ _ (escdBit_fits n))
  · unfold heldFld; rw [heh]
    have := heldFld_writesOnly hlog (escdBit n) (notLog_of_lt (by omega))
    exact fun e => heldFld_setF_one (escdBit n) { s with escAt := atPut s.escAt n none } rfl (this.symm.trans e)
  · unfold f; rw [hpr]; exact f_writesOnly hw (pendBit n) hpn
  · unfold heldFld; rw [hph]; exact heldFld_writesOnly hw (pendBit n) hpn
  · rw [← hdark]
    exact entersSafe_congr (safeSame_symm (escNoted_safeSame hn s)) (safeSame_refl _) (safeEnter_entersSafe (by decide) (by omega) _ _)

/-! ### An acknowledgement and a clear -/

/-- The state in which an acknowledgement clears: after an expiry that has come by then (R399). -/
def ackFrom (n : Nat) (s : State) : State :=
  match atOf s.escAt n with
  | some t => if t ≤ s.clk.now then escalate n s else s
  | none => s
/-- The timer of a source has run out. -/
def EscDue (n : Nat) (s : State) : Prop := ∃ x, atOf s.escAt n = some x ∧ x ≤ s.clk.now

theorem ackFrom_due {n : Nat} {s : State} (h : EscDue n s) : ackFrom n s = escalate n s := by
  obtain ⟨x, hx, hle⟩ := h
  unfold ackFrom; rw [hx]; exact if_pos hle
theorem ackFrom_notDue {n : Nat} {s : State} (h : ¬ EscDue n s) : ackFrom n s = s := by
  unfold ackFrom
  split
  · next x hx => exact if_neg (fun hle => h ⟨x, hx, hle⟩)
  · rfl

theorem ackOne_regs (n : Nat) (s : State) : (ackOne n s).regs = (clearBits (pendBit n) 1 (ackFrom n s)).regs := by
  unfold ackOne ackFrom
  simp only
  split <;> rfl
/-- An acknowledgement of a bit that no raise of this cycle holds stops the timer. -/
theorem ackOne_unheld {n : Nat} {s : State} (h : heldFld (ackFrom n s) (pendBit n) = 0) :
    ackOne n s = { clearBits (pendBit n) 1 (ackFrom n s) with escAt := atPut (ackFrom n s).escAt n none } := by
  have hz : fb (clearBits (pendBit n) 1 (ackFrom n s)) (pendBit n) = false := by
    unfold fb; rw [f_clearBits_unheld rfl (pendBit_fits n) h]; rfl
  unfold ackFrom at hz ⊢
  unfold ackOne
  cases hx : atOf s.escAt n with
  | none => simp only [hx] at hz ⊢; simp only [hz, Bool.and_false]; rfl
  | some x => simp only [hx] at hz ⊢; simp only [hz, Bool.and_false]; rfl

end Sys2Proof.Machine
end

section
/-! Writes of FLT_CTRL (R401, R402, R405, R407): the configuration bits, the lock, the release and the entry, and what may
hold a release back. -/
namespace Sys2Proof.Machine
open Sys2Proof.Config

/-- The registers that a write of FLT_CTRL can reach, an entry apart. -/
def ctrlRegs : List Nat := [FLT_CTRL_serve.off, FLT_STAT_safe.off, BOOT_STAT_state.off, BOOT_T_READY_us.off]

/-! ### Fields that FLT_CTRL's writes leave -/

/-- A test of some element of a list sees only its elements. -/
theorem any_congr_mem {α : Type} {l : List α} {p q : α → Bool} (h : ∀ a ∈ l, p a = q a) : l.any p = l.any q := by
  induction l with
  | nil => rfl
  | cons a l ih => rw [List.any_cons, List.any_cons, h a (by simp), ih (fun b hb => h b (List.mem_cons_of_mem _ hb))]

/-- A field above FLT_STAT, in another register than the vectors' pending bits, is none that those writes reach. -/
theorem f_ctrlKept {s t : State} (h : RegsKept ctrlRegs s t) (x : Fld) (hx : 0x20010 ≤ x.off) (hp : x.off ≠ 0xEF800) :
    f t x = f s x := by
  have he : ctrlRegs = [0x20000, 0x20004, 0x10000, 0x10030] := rfl
  have hm : x.off ∉ ctrlRegs := by
    rw [he]
    simp only [List.mem_cons, List.not_mem_nil, or_false]
    omega
  unfold f; rw [h _ hm hp]

/-- The conditions that last (R397) do not depend on FLT_CTRL. -/
theorem fltActive_ctrl {s t : State} (h : RegsKept ctrlRegs s t) (ho : t.supplyOut = s.supplyOut) (n : Nat) :
    fltActive t n = fltActive s n := by
  have keep := f_ctrlKept h
  have keepB (x : Fld) (hx : 0x20010 ≤ x.off) (hp : x.off ≠ 0xEF800) : fb t x = fb s x := by unfold fb; rw [keep x hx hp]
  have keepI (x : Fld) (hx : 0x20010 ≤ x.off) (hp : x.off ≠ 0xEF800) : fInt t x = fInt s x := by unfold fInt; rw [keep x hx hp]
  unfold fltActive
  split
  · refine any_congr_mem (fun w _ => ?_)
    have hw := winBase_above w
    exact keepB _ (by simp only [PLOT_ENG_STAT_no_holder]; omega) (by simp only [PLOT_ENG_STAT_no_holder]; omega)
  · exact keepB _ (by decide) (by decide)
  · rw [keepB _ (by decide) (by decide), keep _ (by decide) (by decide), keepB _ (by decide) (by decide)]
  · rw [keepB _ (by decide) (by decide), keep _ (by decide) (by decide), keepB _ (by decide) (by decide)]
  · refine any_congr_mem (fun i hi => ?_)
    have hi := List.mem_range.1 hi
    unfold siteValid
    rw [keepB _ (by simp only [GOV_SITE_TEMP_valid]; omega) (by simp only [GOV_SITE_TEMP_valid]; omega),
      keepI _ (by simp only [GOV_SITE_TEMP_temp]; omega) (by simp only [GOV_SITE_TEMP_temp]; omega)]
  · rw [keep _ (by decide) (by decide), keep _ (by decide) (by decide)]
  · rw [ho]
  · rw [ho]
  · rw [ho]
  · rw [keep _ (by decide) (by decide)]
  · rfl

/-- Nor does the permission to leave the safe state, a fault inside the collector apart (R405). -/
theorem mayRelease_ctrl {s t : State} (h : RegsKept ctrlRegs s t) (ho : t.supplyOut = s.supplyOut)
    (hs : f t FLT_STAT_self_fault = f s FLT_STAT_self_fault) : mayRelease t = mayRelease s := by
  have keep := f_ctrlKept h
  have hall : (List.range 48).all (fun n => !fb t (escdBit n) && !(sevOf t n == 4 && (fb t (pendBit n) || fltActive t n))) =
      (List.range 48).all (fun n => !fb s (escdBit n) && !(sevOf s n == 4 && (fb s (pendBit n) || fltActive s n))) := by
    rw [List.all_eq_not_any_not, List.all_eq_not_any_not]
    refine congrArg _ (any_congr_mem (fun n hn => ?_))
    have hn := List.mem_range.1 hn
    have hp := pendBit_off hn
    have he := escdBit_off hn
    unfold fb sevOf
    rw [keep (escdBit n) (by omega) (by omega), keep (pendBit n) (by omega) (by omega),
      keep (FLT_SRC_CFG_severity n) (by simp only [FLT_SRC_CFG_severity]; omega) (by simp only [FLT_SRC_CFG_severity]; omega),
      fltActive_ctrl h ho n]
  unfold mayRelease
  rw [hall]
  unfold fb
  rw [hs]

/-! ### The configuration bits and the lock -/

/-- The first write of `serve` in APPLY moves the boot state to READY (Table 14-1). -/
def serveStarts (b : Bool) (s : State) : Bool := b && bootState s == 5
theorem serveStarts_iff (b : Bool) (s : State) : serveStarts b s = true ↔ b = true ∧ bootState s = 5 := by
  unfold serveStarts; rw [Bool.and_eq_true, beq_iff_eq]
theorem serveSet_eq (b : Bool) (s : State) : serveSet b s =
    if serveStarts b s then sendMsix 10 (setF BOOT_STAT_state 6
      (setF BOOT_T_READY_us (min ((s.clk.now - s.resetEnd) / us) (2 ^ 32 - 1)) (setB FLT_CTRL_serve b s)))
    else setB FLT_CTRL_serve b s := by
  have hb : bootState (setB FLT_CTRL_serve b s) = bootState s := f_setF_off _ _ _ _ (by decide)
  unfold serveSet serveStarts
  simp only [hb]
  split
  · next h =>
    have h5 : bootState s = 5 := ((serveStarts_iff b s).1 h).2
    unfold bootGo
    rw [if_neg]
    · rfl
    · have hstay : ∀ v, bootState (setF BOOT_T_READY_us v (setB FLT_CTRL_serve b s)) = bootState s := fun v =>
        (f_setF_off _ _ _ _ (by decide)).trans hb
      rw [hstay, h5]; decide
  · rfl

/-- A write of `serve` reaches the registers of FLT_CTRL's writes alone. -/
theorem serveSet_frame (b : Bool) (s : State) : OnlyMsix s (serveSet b s) ∧ RegsKept ctrlRegs s (serveSet b s) := by
  have h1 : OnlyMsix s (setB FLT_CTRL_serve b s) ∧ RegsKept ctrlRegs s (setB FLT_CTRL_serve b s) :=
    ⟨onlyMsix_setF _ _ (onlyMsix_refl s), regsKept_setF _ (regsKept_refl _ s) (by decide)⟩
  rw [serveSet_eq]
  split
  · exact ⟨onlyMsix_trans (onlyMsix_setF _ _ (onlyMsix_setF _ _ h1.1)) (dueMsix_eq _ _ _),
      regsKept_dueMsix _ _ (regsKept_setF _ (regsKept_setF _ h1.2 (by decide)) (by decide))⟩
  · exact h1
/-- It leaves every field of FLT that it does not name. -/
theorem f_serveSet_keep (b : Bool) (s : State) (x : Fld) (h1 : x.off ≠ BOOT_STAT_state.off) (h2 : x.off ≠ BOOT_T_READY_us.off)
    (h3 : x.off ≠ DMA_MSIX_PEND_pending.off)
    (h4 : x.off ≠ FLT_CTRL_serve.off ∨ x.lsb + x.wid ≤ 0 ∨ 1 ≤ x.lsb) : f (serveSet b s) x = f s x := by
  have h := f_setF_ne s FLT_CTRL_serve x b.toNat (by decide) h4
  rw [serveSet_eq]
  split
  · exact (congrArg (fldOf · x) (rd_dueMsix true 10 _ h3)).trans ((f_setF_off _ _ _ _ h1).trans ((f_setF_off _ _ _ _ h2).trans h))
  · exact h
theorem f_serveSet_serve (b : Bool) (s : State) : f (serveSet b s) FLT_CTRL_serve = b.toNat := by
  have h : f (setB FLT_CTRL_serve b s) FLT_CTRL_serve = b.toNat :=
    (f_setF_same _ _ _ (by decide)).trans (Nat.mod_eq_of_lt (by cases b <;> decide))
  rw [serveSet_eq]
  split
  · exact (congrArg (fldOf · _) (rd_dueMsix true 10 _ (by decide))).trans
      ((f_setF_off _ _ _ _ (by decide)).trans ((f_setF_off _ _ _ _ (by decide)).trans h))
  · exact h
/-- The boot state after it, and the instant of READY. -/
theorem serveSet_boot (b : Bool) (s : State) :
    bootState (serveSet b s) = (if serveStarts b s then 6 else bootState s) ∧
    (serveStarts b s = true → f (serveSet b s) BOOT_T_READY_us = min ((s.clk.now - s.resetEnd) / us) (2 ^ 32 - 1)) := by
  rw [serveSet_eq]
  cases hs : serveStarts b s with
  | false => exact ⟨f_setF_off _ _ _ _ (by decide), fun e => by simp at e⟩
  | true =>
    refine ⟨?_, fun _ => ?_⟩
    · exact (congrArg (fldOf · _) (rd_dueMsix true 10 _ (by decide))).trans (f_setF_same _ _ _ (by decide))
    · exact (congrArg (fldOf · _) (rd_dueMsix true 10 _ (by decide))).trans
        ((f_setF_off _ _ _ _ (by decide)).trans ((f_setF_same _ _ _ (by decide)).trans
          (Nat.mod_eq_of_lt (Nat.lt_of_le_of_lt (Nat.min_le_right _ _) (by decide)))))

/-- `intn_en` and, while it is not locked, `dark` (R401). -/
def ctrlBits (v : Nat) (s : State) : State :=
  if fb (setF FLT_CTRL_intn_en (v / 4) s) FLT_STAT_locked then setF FLT_CTRL_intn_en (v / 4) s
  else setF FLT_CTRL_dark (v / 2) (setF FLT_CTRL_intn_en (v / 4) s)
/-- The lock (R401). -/
def ctrlLock (v : Nat) (s : State) : State :=
  onlyIf (v / 8 % 2 == 1) (fun t => setF FLT_CTRL_lock 1 (setF FLT_STAT_locked 1 t)) s
/-- What a write of FLT_CTRL configures, before it releases or enters. -/
def ctrlConfig (v : Nat) (s : State) : State := ctrlLock v (ctrlBits v (serveSet (v % 2 == 1) s))
theorem fltCtrlWrite_eq (v : Nat) (s : State) : fltCtrlWrite v s =
    onlyIf (v / 256 % 2 == 1) (fun t => safeEnter 4 0 (fb t FLT_CTRL_dark) t)
      (onlyIf (v / 512 % 2 == 1) safeRelease (ctrlConfig v s)) := by
  unfold fltCtrlWrite ctrlConfig ctrlLock ctrlBits
  rfl

theorem ctrlConfig_frame (v : Nat) (s : State) : OnlyMsix s (ctrlConfig v s) ∧ RegsKept ctrlRegs s (ctrlConfig v s) := by
  obtain ⟨h, k⟩ := serveSet_frame (v % 2 == 1) s
  have h1 := onlyMsix_setF FLT_CTRL_intn_en (v / 4) h
  have k1 := regsKept_setF (x := FLT_CTRL_intn_en) (v / 4) k (by decide)
  have h2 : OnlyMsix s (ctrlBits v (serveSet (v % 2 == 1) s)) ∧ RegsKept ctrlRegs s (ctrlBits v (serveSet (v % 2 == 1) s)) := by
    unfold ctrlBits; split
    · exact ⟨h1, k1⟩
    · exact ⟨onlyMsix_setF _ _ h1, regsKept_setF _ k1 (by decide)⟩
  unfold ctrlConfig ctrlLock onlyIf
  split
  · exact ⟨onlyMsix_setF _ _ (onlyMsix_setF _ _ h2.1), regsKept_setF _ (regsKept_setF _ h2.2 (by decide)) (by decide)⟩
  · exact h2

theorem f_ctrlBits_off (v : Nat) (s : State) (x : Fld) (h : x.off ≠ FLT_CTRL_serve.off) : f (ctrlBits v s) x = f s x := by
  have h1 : f (setF FLT_CTRL_intn_en (v / 4) s) x = f s x := f_setF_off s FLT_CTRL_intn_en x _ h
  unfold ctrlBits; split
  · exact h1
  · exact (f_setF_off _ FLT_CTRL_dark x _ h).trans h1
theorem f_ctrlLock_ne (v : Nat) (s : State) (x : Fld)
    (h1 : x.off ≠ FLT_CTRL_lock.off ∨ x.lsb + x.wid ≤ FLT_CTRL_lock.lsb ∨ FLT_CTRL_lock.lsb + 1 ≤ x.lsb)
    (h2 : x.off ≠ FLT_STAT_locked.off ∨ x.lsb + x.wid ≤ FLT_STAT_locked.lsb ∨ FLT_STAT_locked.lsb + 1 ≤ x.lsb) :
    f (ctrlLock v s) x = f s x := by
  unfold ctrlLock onlyIf; split
  · exact (f_setF_ne _ FLT_CTRL_lock x 1 (by decide) h1).trans (f_setF_ne s FLT_STAT_locked x 1 (by decide) h2)
  · rfl
/-- A write of FLT_CTRL leaves the fields of FLT_STAT but `locked`, and every field of another register that it cannot reach. -/
theorem f_ctrlConfig_keep (v : Nat) (s : State) (x : Fld) (h1 : x.off ≠ BOOT_STAT_state.off) (h2 : x.off ≠ BOOT_T_READY_us.off)
    (h3 : x.off ≠ DMA_MSIX_PEND_pending.off) (h4 : x.off ≠ FLT_CTRL_serve.off)
    (h5 : x.off ≠ FLT_STAT_locked.off ∨ x.lsb + x.wid ≤ FLT_STAT_locked.lsb ∨ FLT_STAT_locked.lsb + 1 ≤ x.lsb) :
    f (ctrlConfig v s) x = f s x :=
  (f_ctrlLock_ne v _ x (.inl h4) h5).trans ((f_ctrlBits_off v _ x h4).trans (f_serveSet_keep _ s x h1 h2 h3 (.inl h4)))

/-- The configuration bits after a write. -/
theorem ctrlConfig_bits (v : Nat) (s : State) :
    let t := ctrlConfig v s
    f t FLT_CTRL_serve = v % 2 ∧
    f t FLT_CTRL_dark = (if f s FLT_STAT_locked ≠ 0 then f s FLT_CTRL_dark else v / 2 % 2) ∧
    (v / 8 % 2 = 1 → f t FLT_CTRL_lock = 1 ∧ f t FLT_STAT_locked = 1) := by
  have hserve : f (serveSet (v % 2 == 1) s) FLT_CTRL_serve = v % 2 := by
    rw [f_serveSet_serve]
    rcases Nat.mod_two_eq_zero_or_one v with e | e <;> rw [e] <;> rfl
  have hdark := f_serveSet_keep (v % 2 == 1) s FLT_CTRL_dark (by decide) (by decide) (by decide) (by decide)
  have hlocked := f_serveSet_keep (v % 2 == 1) s FLT_STAT_locked (by decide) (by decide) (by decide) (by decide)
  unfold ctrlConfig
  generalize serveSet (v % 2 == 1) s = u at hserve hdark hlocked
  refine ⟨?_, ?_, fun h8 => ?_⟩
  · rw [f_ctrlLock_ne _ _ _ (by decide) (by decide)]
    unfold ctrlBits; split <;> simp (disch := decide) only [f_setF_ne] <;> exact hserve
  · rw [f_ctrlLock_ne _ _ _ (by decide) (by decide)]
    unfold ctrlBits fb
    simp (disch := decide) only [f_setF_ne, decide_eq_true_eq, hlocked]
    split
    · exact (f_setF_ne _ _ _ _ (by decide) (by decide)).trans hdark
    · exact f_setF_same _ _ _ (by decide)
  · unfold ctrlLock onlyIf
    rw [if_pos (by simpa using h8)]
    exact ⟨f_setF_same _ _ _ (by decide), (f_setF_off _ _ _ _ (by decide)).trans (f_setF_same _ _ _ (by decide))⟩
/-- The boot state after a write, and the instant of READY. -/
theorem ctrlConfig_boot (v : Nat) (s : State) :
    bootState (ctrlConfig v s) = (if serveStarts (v % 2 == 1) s then 6 else bootState s) ∧
    (serveStarts (v % 2 == 1) s = true → f (ctrlConfig v s) BOOT_T_READY_us = min ((s.clk.now - s.resetEnd) / us) (2 ^ 32 - 1)) := by
  have keep (x : Fld) (h : x.off ≠ FLT_CTRL_serve.off) (h' : x.off ≠ FLT_STAT_locked.off) :
      f (ctrlConfig v s) x = f (serveSet (v % 2 == 1) s) x :=
    (f_ctrlLock_ne v _ x (.inl h) (.inl h')).trans (f_ctrlBits_off v _ x h)
  obtain ⟨hb, hr⟩ := serveSet_boot (v % 2 == 1) s
  exact ⟨(keep BOOT_STAT_state (by decide) (by decide)).trans hb, fun e => (keep _ (by decide) (by decide)).trans (hr e)⟩

/-- What a write of FLT_CTRL configures is not seen by an entry. -/
theorem ctrlConfig_safeSame (v : Nat) (s : State) : SafeSame s (ctrlConfig v s) := by
  obtain ⟨⟨r, m, d, h, e⟩, -⟩ := ctrlConfig_frame v s
  have hf : ∀ x ∈ safeFlds, x.off ≠ BOOT_STAT_state.off ∧ x.off ≠ BOOT_T_READY_us.off ∧ x.off ≠ DMA_MSIX_PEND_pending.off ∧
      x.off ≠ FLT_CTRL_serve.off ∧
      (x.off ≠ FLT_STAT_locked.off ∨ x.lsb + x.wid ≤ FLT_STAT_locked.lsb ∨ FLT_STAT_locked.lsb + 1 ≤ x.lsb) := by decide
  refine ⟨by rw [e], by rw [e], by rw [e], by rw [e], fun x hx => ?_⟩
  obtain ⟨h1, h2, h3, h4, h5⟩ := hf x hx
  exact f_ctrlConfig_keep v s x h1 h2 h3 h4 h5

/-! ### The value written -/

/-- What a command that sets the bits of `c` writes to FLT_CTRL: the configuration bits keep their values. -/
def ctrlVal (c : Nat) (s : State) : Nat := c ||| (rd s FLT_CTRL_serve.off).toNat % 16

theorem f_ctrl_bits (s : State) : f s FLT_CTRL_serve = (rd s FLT_CTRL_serve.off).toNat % 16 % 2 ∧
    f s FLT_CTRL_dark = (rd s FLT_CTRL_serve.off).toNat % 16 / 2 % 2 := by
  have h : ∀ w : Nat, w / 2 ^ 0 % 2 ^ 1 = w % 16 % 2 ∧ w / 2 ^ 1 % 2 ^ 1 = w % 16 / 2 % 2 := by intro w; omega
  exact h _
/-- The bits of that value. -/
theorem ctrlVal_bits (s : State) :
    (ctrlVal 1 s % 2 = 1 ∧ ctrlVal 8 s % 2 = f s FLT_CTRL_serve) ∧
    (∀ c ∈ [1, 8, 256, 512], ctrlVal c s / 2 % 2 = f s FLT_CTRL_dark ∧ (ctrlVal c s / 256 % 2 = 1 ↔ c = 256) ∧
      (ctrlVal c s / 512 % 2 = 1 ↔ c = 512) ∧ (c = 8 → ctrlVal c s / 8 % 2 = 1)) := by
  obtain ⟨hs, hd⟩ := f_ctrl_bits s
  rw [hs, hd]
  unfold ctrlVal
  have hw : (rd s FLT_CTRL_serve.off).toNat % 16 < 16 := Nat.mod_lt _ (by decide)
  generalize (rd s FLT_CTRL_serve.off).toNat % 16 = w at hw
  revert w
  decide

/-! ### The commands -/

theorem blockOn_flt (s : State) {o : Nat} (h : 0x20000 ≤ o ∧ o < 0x30000) : blockOn s o = true := by
  have hw : offWin o = none := by unfold offWin; exact if_neg (by omega)
  have hd : o / 0x10000 = 2 := by omega
  simp only [blockOn, blockDomain, hw, hd]
/-- A supervisor's command on FLT_CTRL. -/
theorem fltCtrlSet_sup {s : State} (hm : masterLive s 0 = true) (c : Nat) :
    fltCtrlSet 0 c s = fltCtrlWrite (ctrlVal c s) s := by
  unfold fltCtrlSet
  exact regCmd_open hm (regOpen_sup (blockOn_flt s (by decide)))
/-- One that neither releases nor enters. -/
theorem fltCtrlSet_config {s : State} (hm : masterLive s 0 = true) {c : Nat} (hc : c = 1 ∨ c = 8) :
    fltCtrlSet 0 c s = ctrlConfig (ctrlVal c s) s := by
  obtain ⟨-, h256, h512, -⟩ := (ctrlVal_bits s).2 c (by rcases hc with rfl | rfl <;> decide)
  rw [fltCtrlSet_sup hm, fltCtrlWrite_eq]
  unfold onlyIf
  rw [if_neg (by simp [h256]; omega), if_neg (by simp [h512]; omega)]
/-- The release. -/
theorem fltCtrlSet_release {s : State} (hm : masterLive s 0 = true) :
    fltCtrlSet 0 512 s = safeRelease (ctrlConfig (ctrlVal 512 s) s) := by
  obtain ⟨-, h256, h512, -⟩ := (ctrlVal_bits s).2 512 (by decide)
  rw [fltCtrlSet_sup hm, fltCtrlWrite_eq]
  unfold onlyIf
  rw [if_neg (by simp [h256]), if_pos (by simp [h512])]
/-- The entry. -/
theorem fltCtrlSet_enter {s : State} (hm : masterLive s 0 = true) :
    fltCtrlSet 0 256 s = safeEnter 4 0 (fb (ctrlConfig (ctrlVal 256 s) s) FLT_CTRL_dark) (ctrlConfig (ctrlVal 256 s) s) := by
  obtain ⟨-, h256, h512, -⟩ := (ctrlVal_bits s).2 256 (by decide)
  rw [fltCtrlSet_sup hm, fltCtrlWrite_eq]
  unfold onlyIf
  rw [if_pos (by simp [h256]), if_neg (by simp [h512])]
/-- Commands of FLT_CTRL leave the form of dark. -/
theorem f_ctrlConfig_dark (s : State) {c : Nat} (hc : c ∈ [1, 8, 256, 512]) :
    f (ctrlConfig (ctrlVal c s) s) FLT_CTRL_dark = f s FLT_CTRL_dark := by
  obtain ⟨hd, -⟩ := (ctrlVal_bits s).2 c hc
  obtain ⟨-, h, -⟩ := ctrlConfig_bits (ctrlVal c s) s
  rw [h, hd]; exact ite_self _

end Sys2Proof.Machine
end

section
/-! The collector's commands as they complete (R399 to R407): an expiry, an acknowledgement, a clear, the commands of FLT_CTRL
and a fault of the collector itself. -/
namespace Sys2Proof.Machine
open Sys2Proof.Config

/-- An entry is seen alike after the vectors have settled. -/
theorem entersSafe_settle {u t : State} {cause src : Nat} {dark : Bool} (s0 : State) (h : EntersSafe u t cause src dark) :
    EntersSafe u (settle s0 t) cause src dark := entersSafe_congr (safeSame_refl u) (safeSame_settle s0 t) h
theorem pendBit_notPend {n : Nat} (hn : n < 48) : (pendBit n).off ≠ DMA_MSIX_PEND_pending.off := by
  rcases pendBit_off hn with h | h <;> rw [h] <;> decide
theorem escdBit_notPend {n : Nat} (hn : n < 48) : (escdBit n).off ≠ DMA_MSIX_PEND_pending.off := by
  rcases escdBit_off hn with h | h <;> rw [h] <;> decide

/-! ### Expiry -/

/-- Nothing expires where no timer runs. -/
theorem escalationExpiry_idle {s : State} {dt n : Nat} (hp : s.porOn = false) (hx : atOf s.escAt n = none) :
    Completes (.escalationExpiry dt n) s fun t => RegsKept [] s t ∧ OnlyRegs s dt t := by
  refine completes_run rfl hp ?_
  have h : escExpiry n (elapse s dt) = elapse s dt := by
    unfold escExpiry
    rw [show atOf (elapse s dt).escAt n = none from hx]
  rw [h]
  exact ⟨regsKept_settle s (regsKept_elapse _ s dt), onlyRegs_settle s (onlyRegs_elapse s dt)⟩

theorem escalationExpiry_runs {s : State} {dt n x : Nat} (hp : s.porOn = false) (hn : n < 48) (hx : atOf s.escAt n = some x) :
    Completes (.escalationExpiry dt n) s fun t =>
      t.clk = (elapseTo (elapse s dt) x).clk ∧ f t (escdBit n) = 1 ∧ atOf t.escAt n = none ∧
      (∀ k ≠ n, atOf t.escAt k = atOf s.escAt k) ∧ f t (pendBit n) = f s (pendBit n) ∧
      EntersSafe (elapseTo (elapse s dt) x) t 2 n (fb s FLT_CTRL_dark) := by
  refine completes_run rfl hp ?_
  have h : escExpiry n (elapse s dt) = escalate n (elapseTo (elapse s dt) x) := by
    unfold escExpiry
    rw [show atOf (elapse s dt).escAt n = some x from hx]
  rw [h]
  obtain ⟨hclk, hesc, hescd, -, hpend, -, hsafe⟩ := escalate_spec hn (elapseTo (elapse s dt) x)
  refine ⟨(settle_clk s _).trans hclk, (f_settle s _ (escdBit_notPend hn)).trans hescd, ?_, fun k hk => ?_,
    (f_settle s _ (pendBit_notPend hn)).trans hpend, entersSafe_settle s hsafe⟩
  · rw [settle_escAt, hesc]; exact atOf_atPut_same _ n none
  · rw [settle_escAt, hesc]; exact atOf_atPut_other _ hk none

/-! ### Acknowledgement and clear -/

/-- A write of one source's bit names that source alone. -/
theorem srcBits_single : ∀ n < 48, srcBits (decide (32 ≤ n)) (2 ^ (n % 32)) = [n] := by decide +kernel
theorem faultAck_sup {s : State} {n : Nat} (hn : n < 48) (hm : masterLive s 0 = true) :
    regCmd 0 (pendBit n).off (pendWrite (decide (32 ≤ n)) (2 ^ (n % 32))) s = ackOne n s := by
  rw [regCmd_open hm (regOpen_sup (blockOn_flt s (by have := pendBit_off hn; omega)))]
  unfold pendWrite; rw [srcBits_single n hn]; rfl
theorem escalatedClear_sup {s : State} {n : Nat} (hn : n < 48) (hm : masterLive s 0 = true) :
    regCmd 0 (escdBit n).off (escdWrite (decide (32 ≤ n)) (2 ^ (n % 32))) s = clearBits (escdBit n) 1 (ackOne n s) := by
  rw [regCmd_open hm (regOpen_sup (blockOn_flt s (by have := escdBit_off hn; omega)))]
  unfold escdWrite; rw [srcBits_single n hn]; rfl

/-- Beside registers and messages, the source's escalation timer alone has changed: it has stopped. -/
def TimerStopped (n : Nat) (u t : State) : Prop :=
  atOf t.escAt n = none ∧ (∀ k ≠ n, atOf t.escAt k = atOf u.escAt k) ∧
    t = { u with regs := t.regs, hwSet := t.hwSet, msix := t.msix, msixDue := t.msixDue, escAt := t.escAt }
theorem timerStopped_settle {n : Nat} {u t : State} (s0 : State) (h : OnlyMsix { u with escAt := atPut u.escAt n none } t) :
    TimerStopped n u (settle s0 t) := by
  obtain ⟨r, m, d, x, e⟩ := onlyMsix_settle s0 h
  rw [e]
  exact ⟨atOf_atPut_same _ n none, fun k hk => atOf_atPut_other _ hk none, rfl⟩

/-- A raise in the cycle of the acknowledgement prevails (R14). -/
theorem faultAck_held {s : State} {dt n : Nat} (hp : s.porOn = false) (hn : n < 48) (hm : masterLive s 0 = true)
    (hdue : ¬ EscDue n (elapse s dt)) (hheld : ¬ Unheld (elapse s dt) (pendBit n)) (hone : f s (pendBit n) = 1) :
    Completes (.faultAck dt 0 n) s fun t => f t (pendBit n) = 1 := by
  refine completes_run rfl hp ?_
  rw [faultAck_sup (s := elapse s dt) hn hm, f_settle s _ (pendBit_notPend hn), f_congr (ackOne_regs n _), ackFrom_notDue hdue,
    f_clearBits_held rfl (pendBit_fits n) hheld]
  exact hone

/-- An acknowledgement after an expiry: the source is escalated first. -/
theorem ackOne_due_spec {s : State} {n : Nat} (hn : n < 48) (hun : Unheld s (pendBit n)) (hdue : EscDue n s) :
    let t := ackOne n s
    f t (pendBit n) = 0 ∧ f t (escdBit n) = 1 ∧ heldFld t (escdBit n) ≠ 0 ∧ EntersSafe s t 2 n (fb s FLT_CTRL_dark) := by
  obtain ⟨-, -, hescd, hheld, -, hpheld, hsafe⟩ := escalate_spec hn s
  have ha := ackFrom_due hdue
  have hz : heldFld (escalate n s) (pendBit n) = 0 := hpheld.trans hun
  rw [ackOne_unheld (by rw [ha]; exact hz), ha]
  have hkeep : ∀ x : Fld, x.off ≠ (pendBit n).off → f (clearBits (pendBit n) 1 (escalate n s)) x =
      f (escalate n s) x := fun x hx => f_clearBits_disj (pendBit n) x 1 _ (pendBit_fits n) (.inl hx)
  refine ⟨f_clearBits_unheld rfl (pendBit_fits n) hz, (hkeep _ (pendBit_ne_escdBit hn hn).symm).trans hescd, hheld,
    entersSafe_congr (safeSame_refl _) (safeSame_trans (safeSame_clearBits 1 (pendBit_notSafe hn) _) (safeSame_part _ _)) hsafe⟩

section
variable {s : State} {dt n : Nat} (hp : s.porOn = false) (hn : n < 48) (hm : masterLive s 0 = true)
  (hun : Unheld (elapse s dt) (pendBit n))
include hp hn hm hun

theorem faultAck_clears (hdue : ¬ EscDue n (elapse s dt)) :
    Completes (.faultAck dt 0 n) s fun t => f t (pendBit n) = 0 ∧ TimerStopped n (elapse s dt) t ∧
      (∀ k < 48, k ≠ n → f t (pendBit k) = f s (pendBit k)) ∧ RegsKept [(pendBit n).off] s t := by
  refine completes_run rfl hp ?_
  have ha := ackFrom_notDue hdue
  rw [faultAck_sup (s := elapse s dt) hn hm, ackOne_unheld (by rw [ha]; exact hun), ha]
  refine ⟨?_, timerStopped_settle s (onlyMsix_setRaw _ _ (onlyMsix_refl _)), fun k hk hkn => ?_,
    regsKept_settle s (regsKept_congr (regsKept_clearBits (pendBit n) 1 (regsKept_elapse _ s dt) List.mem_cons_self) rfl)⟩
  · rw [f_settle s _ (pendBit_notPend hn)]
    exact f_clearBits_unheld rfl (pendBit_fits n) hun
  · rw [f_settle s _ (pendBit_notPend hk)]
    exact f_clearBits_disj (pendBit n) (pendBit k) 1 (elapse s dt) (pendBit_fits n) (pendBit_apart hkn)

theorem escalatedClear_clears (hdue : ¬ EscDue n (elapse s dt)) (hun' : Unheld (elapse s dt) (escdBit n)) :
    Completes (.escalatedClear dt 0 n) s fun t => f t (pendBit n) = 0 ∧ f t (escdBit n) = 0 ∧ TimerStopped n (elapse s dt) t ∧
      (∀ k < 48, k ≠ n → f t (pendBit k) = f s (pendBit k) ∧ f t (escdBit k) = f s (escdBit k)) ∧
      RegsKept [(pendBit n).off, (escdBit n).off] s t := by
  refine completes_run rfl hp ?_
  have ha := ackFrom_notDue hdue
  rw [escalatedClear_sup (s := elapse s dt) hn hm, ackOne_unheld (by rw [ha]; exact hun), ha]
  have hpend : ∀ k < 48, ∀ u : State, f (clearBits (escdBit n) 1 u) (pendBit k) = f u (pendBit k) := fun k hk u =>
    f_clearBits_disj (escdBit n) (pendBit k) 1 u (escdBit_fits n) (.inl (pendBit_ne_escdBit hk hn))
  have hescd : ∀ k < 48, ∀ u : State, f (clearBits (pendBit n) 1 u) (escdBit k) = f u (escdBit k) := fun k hk u =>
    f_clearBits_disj (pendBit n) (escdBit k) 1 u (pendBit_fits n) (.inl (pendBit_ne_escdBit hn hk).symm)
  refine ⟨?_, ?_, timerStopped_settle s (onlyMsix_setRaw _ _ (onlyMsix_setRaw _ _ (onlyMsix_refl _))), fun k hk hkn => ⟨?_, ?_⟩,
    regsKept_settle s (regsKept_clearBits _ _ (regsKept_congr (regsKept_clearBits (pendBit n) 1 (regsKept_elapse _ s dt)
      List.mem_cons_self) rfl) (by simp))⟩
  · rw [f_settle s _ (pendBit_notPend hn), hpend n hn]
    exact f_clearBits_unheld rfl (pendBit_fits n) hun
  · rw [f_settle s _ (escdBit_notPend hn)]
    exact f_clearBits_unheld rfl (escdBit_fits n) hun'
  · rw [f_settle s _ (pendBit_notPend hk), hpend k hk]
    exact f_clearBits_disj (pendBit n) (pendBit k) 1 (elapse s dt) (pendBit_fits n) (pendBit_apart hkn)
  · rw [f_settle s _ (escdBit_notPend hk), f_clearBits_disj (escdBit n) (escdBit k) 1 _ (escdBit_fits n) (escdBit_apart hkn)]
    exact hescd k hk (elapse s dt)

theorem faultAck_due (hdue : EscDue n (elapse s dt)) :
    Completes (.faultAck dt 0 n) s fun t =>
      f t (pendBit n) = 0 ∧ f t (escdBit n) = 1 ∧ EntersSafe (elapse s dt) t 2 n (fb s FLT_CTRL_dark) := by
  refine completes_run rfl hp ?_
  rw [faultAck_sup (s := elapse s dt) hn hm]
  obtain ⟨hpend, hescd, -, hsafe⟩ := ackOne_due_spec hn hun hdue
  exact ⟨(f_settle s _ (pendBit_notPend hn)).trans hpend, (f_settle s _ (escdBit_notPend hn)).trans hescd, entersSafe_settle s hsafe⟩
theorem escalatedClear_due (hdue : EscDue n (elapse s dt)) :
    Completes (.escalatedClear dt 0 n) s fun t =>
      f t (pendBit n) = 0 ∧ f t (escdBit n) = 1 ∧ EntersSafe (elapse s dt) t 2 n (fb s FLT_CTRL_dark) := by
  refine completes_run rfl hp ?_
  rw [escalatedClear_sup (s := elapse s dt) hn hm]
  obtain ⟨hpend, hescd, hheld, hsafe⟩ := ackOne_due_spec hn hun hdue
  have hkeep : ∀ x : Fld, x.off ≠ (escdBit n).off → f (clearBits (escdBit n) 1 (ackOne n (elapse s dt))) x =
      f (ackOne n (elapse s dt)) x := fun x hx => f_clearBits_disj (escdBit n) x 1 _ (escdBit_fits n) (.inl hx)
  refine ⟨(f_settle s _ (pendBit_notPend hn)).trans ((hkeep _ (pendBit_ne_escdBit hn hn)).trans hpend),
    (f_settle s _ (escdBit_notPend hn)).trans ((f_clearBits_held rfl (escdBit_fits n) hheld).trans hescd),
    entersSafe_settle s (entersSafe_congr (safeSame_refl _) (safeSame_clearBits 1 (escdBit_notSafe hn) _) hsafe)⟩
end

/-! ### FLT_CTRL -/

/-- What a release finds: the safe state and the permission to leave it are those of before the write. -/
theorem release_finds (s : State) (dt : Nat) : let c := ctrlConfig (ctrlVal 512 (elapse s dt)) (elapse s dt)
    inSafe c = inSafe s ∧ mayRelease c = mayRelease s ∧ OnlyRegs s dt c ∧ RegsKept ctrlRegs s c ∧
      f c FLT_STAT_cause = f s FLT_STAT_cause ∧ f c FLT_STAT_dark_active = f s FLT_STAT_dark_active ∧
      f c FLT_STAT_release_refused = f s FLT_STAT_release_refused := by
  obtain ⟨honly, hregs⟩ := ctrlConfig_frame (ctrlVal 512 (elapse s dt)) (elapse s dt)
  have hsame := ctrlConfig_safeSame (ctrlVal 512 (elapse s dt)) (elapse s dt)
  have hself := f_ctrlConfig_keep (ctrlVal 512 (elapse s dt)) (elapse s dt) FLT_STAT_self_fault (by decide) (by decide) (by decide)
    (by decide) (by decide)
  have hrefused := f_ctrlConfig_keep (ctrlVal 512 (elapse s dt)) (elapse s dt) FLT_STAT_release_refused (by decide) (by decide)
    (by decide) (by decide) (by decide)
  have hsupply : (ctrlConfig (ctrlVal 512 (elapse s dt)) (elapse s dt)).supplyOut = s.supplyOut := by
    obtain ⟨r, m, d, h, e⟩ := honly; rw [e]; rfl
  exact ⟨(inSafe_safeSame hsame).trans (inSafe_elapse s dt), mayRelease_ctrl (s := s) hregs hsupply hself, onlyRegs_iff.2 honly, hregs,
    hsame.fields _ (by decide), hsame.fields _ (by decide), hrefused⟩

section
variable {s : State} {dt : Nat} (hp : s.porOn = false) (hm : masterLive s 0 = true)
include hp hm

theorem safeEnterCmd_enters : Completes (.safeEnterCmd dt 0) s fun t =>
    t.clk = (elapse s dt).clk ∧ EntersSafe (elapse s dt) t 4 0 (fb s FLT_CTRL_dark) := by
  refine completes_run rfl hp ?_
  have hdark : fb (ctrlConfig (ctrlVal 256 (elapse s dt)) (elapse s dt)) FLT_CTRL_dark = fb s FLT_CTRL_dark := by
    unfold fb; rw [f_ctrlConfig_dark _ (by decide)]; rfl
  rw [fltCtrlSet_enter (s := elapse s dt) hm, hdark]
  have hsame := ctrlConfig_safeSame (ctrlVal 256 (elapse s dt)) (elapse s dt)
  obtain ⟨hclk, -⟩ := safeEnter_frame (cause := 4) (src := 0) (by decide) (by decide) (fb s FLT_CTRL_dark)
    (ctrlConfig (ctrlVal 256 (elapse s dt)) (elapse s dt))
  exact ⟨(settle_clk s _).trans (hclk.trans hsame.clk), entersSafe_settle s (entersSafe_congr (safeSame_symm hsame) (safeSame_refl _)
    (safeEnter_entersSafe (by decide) (by decide) _ _))⟩

theorem safeRelease_leaves (hs : inSafe s = true) (hr : mayRelease s = true) : Completes (.safeRelease dt 0) s fun t =>
    inSafe t = false ∧ f t FLT_STAT_dark_active = 0 ∧ f t FLT_STAT_cause = f s FLT_STAT_cause ∧
    OnlyRegs s dt t ∧ RegsKept ctrlRegs s t := by
  refine completes_run rfl hp ?_
  rw [fltCtrlSet_release (s := elapse s dt) hm]
  obtain ⟨hin, hmay, honly, hregs, hcause, -, -⟩ := release_finds s dt
  generalize ctrlConfig (ctrlVal 512 (elapse s dt)) (elapse s dt) = c at hin hmay honly hregs hcause ⊢
  have he : safeRelease c = setF FLT_STAT_dark_active 0 (setF FLT_STAT_safe 0 c) := by
    unfold safeRelease; rw [hin, hs, hmay, hr]; rfl
  rw [he]
  refine ⟨?_, ?_, ?_, onlyRegs_settle s (onlyRegs_setF _ _ (onlyRegs_setF _ _ honly)),
    regsKept_settle s (regsKept_setF _ (regsKept_setF _ hregs (by decide)) (by decide))⟩
  · unfold inSafe
    rw [fb_settle s _ (by decide)]
    unfold fb
    rw [f_setF_ne _ _ _ _ (by decide) (by decide), f_setF_same _ _ _ (by decide)]
    rfl
  · rw [f_settle s _ (by decide), f_setF_same _ _ _ (by decide)]; rfl
  · rw [f_settle s _ (by decide), f_setF_ne _ _ _ _ (by decide) (by decide), f_setF_ne _ _ _ _ (by decide) (by decide)]
    exact hcause

theorem safeRelease_refused (hs : inSafe s = true) (hr : mayRelease s = false) : Completes (.safeRelease dt 0) s fun t =>
    inSafe t = true ∧ f t FLT_STAT_release_refused = 1 ∧ f t FLT_STAT_dark_active = f s FLT_STAT_dark_active ∧
    OnlyRegs s dt t ∧ RegsKept ctrlRegs s t := by
  refine completes_run rfl hp ?_
  rw [fltCtrlSet_release (s := elapse s dt) hm]
  obtain ⟨hin, hmay, honly, hregs, -, hdark, -⟩ := release_finds s dt
  generalize ctrlConfig (ctrlVal 512 (elapse s dt)) (elapse s dt) = c at hin hmay honly hregs hdark ⊢
  have he : safeRelease c = setF FLT_STAT_release_refused 1 c := by
    unfold safeRelease; rw [hin, hs, hmay, hr]; rfl
  rw [he]
  refine ⟨?_, ?_, ?_, onlyRegs_settle s (onlyRegs_setF _ _ honly), regsKept_settle s (regsKept_setF _ hregs (by decide))⟩
  · refine Eq.trans ?_ (hin.trans hs)
    unfold inSafe
    rw [fb_settle s _ (by decide)]
    unfold fb
    rw [f_setF_ne _ _ _ _ (by decide) (by decide)]
  · rw [f_settle s _ (by decide), f_setF_same _ _ _ (by decide)]; rfl
  · rw [f_settle s _ (by decide), f_setF_ne _ _ _ _ (by decide) (by decide)]
    exact hdark

theorem safeRelease_outside (hs : inSafe s = false) : Completes (.safeRelease dt 0) s fun t =>
    inSafe t = false ∧ f t FLT_STAT_release_refused = f s FLT_STAT_release_refused ∧ OnlyRegs s dt t ∧ RegsKept ctrlRegs s t := by
  refine completes_run rfl hp ?_
  rw [fltCtrlSet_release (s := elapse s dt) hm]
  obtain ⟨hin, -, honly, hregs, -, -, hrefused⟩ := release_finds s dt
  generalize ctrlConfig (ctrlVal 512 (elapse s dt)) (elapse s dt) = c at hin honly hregs hrefused ⊢
  have he : safeRelease c = c := by unfold safeRelease; rw [hin, hs]; rfl
  rw [he]
  exact ⟨(fb_settle s c (by decide)).trans (hin.trans hs), (f_settle s c (by decide)).trans hrefused, onlyRegs_settle s honly,
    regsKept_settle s hregs⟩

theorem fltLock_locks : Completes (.fltLock dt 0) s fun t =>
    f t FLT_CTRL_lock = 1 ∧ f t FLT_STAT_locked = 1 ∧ f t FLT_CTRL_dark = f s FLT_CTRL_dark ∧
    f t FLT_CTRL_serve = f s FLT_CTRL_serve ∧ inSafe t = inSafe s ∧ OnlyRegs s dt t ∧ RegsKept ctrlRegs s t := by
  refine completes_run rfl hp ?_
  rw [fltCtrlSet_config (s := elapse s dt) hm (.inr rfl)]
  obtain ⟨⟨-, h8⟩, hv⟩ := ctrlVal_bits (elapse s dt)
  obtain ⟨-, -, -, hlockbit⟩ := hv 8 (by decide)
  obtain ⟨hserve, -, hlock⟩ := ctrlConfig_bits (ctrlVal 8 (elapse s dt)) (elapse s dt)
  obtain ⟨hl, hl'⟩ := hlock (hlockbit rfl)
  obtain ⟨honly, hregs⟩ := ctrlConfig_frame (ctrlVal 8 (elapse s dt)) (elapse s dt)
  have hsame := ctrlConfig_safeSame (ctrlVal 8 (elapse s dt)) (elapse s dt)
  exact ⟨(f_settle s _ (by decide)).trans hl, (f_settle s _ (by decide)).trans hl',
    (f_settle s _ (by decide)).trans (f_ctrlConfig_dark (elapse s dt) (by decide)),
    (f_settle s _ (by decide)).trans (hserve.trans h8),
    (fb_settle s _ (by decide)).trans ((inSafe_safeSame hsame).trans (inSafe_elapse s dt)),
    onlyRegs_settle s (onlyRegs_iff.2 honly), regsKept_settle s hregs⟩

theorem serveSet_serves : Completes (.serveSet dt 0) s fun t =>
    f t FLT_CTRL_serve = 1 ∧ f t FLT_CTRL_dark = f s FLT_CTRL_dark ∧ inSafe t = inSafe s ∧
    bootState t = (if bootState s = 5 then 6 else bootState s) ∧
    (bootState s = 5 → f t BOOT_T_READY_us = min (((elapse s dt).clk.now - s.resetEnd) / us) (2 ^ 32 - 1)) ∧
    OnlyRegs s dt t ∧ RegsKept ctrlRegs s t := by
  refine completes_run rfl hp ?_
  rw [fltCtrlSet_config (s := elapse s dt) hm (.inl rfl)]
  obtain ⟨⟨h1, -⟩, -⟩ := ctrlVal_bits (elapse s dt)
  obtain ⟨hserve, -, -⟩ := ctrlConfig_bits (ctrlVal 1 (elapse s dt)) (elapse s dt)
  obtain ⟨hboot, hready⟩ := ctrlConfig_boot (ctrlVal 1 (elapse s dt)) (elapse s dt)
  obtain ⟨honly, hregs⟩ := ctrlConfig_frame (ctrlVal 1 (elapse s dt)) (elapse s dt)
  have hsame := ctrlConfig_safeSame (ctrlVal 1 (elapse s dt)) (elapse s dt)
  have hstarts : serveStarts (ctrlVal 1 (elapse s dt) % 2 == 1) (elapse s dt) = true ↔ bootState s = 5 := by
    rw [serveStarts_iff, h1]; exact ⟨fun h => h.2, fun h => ⟨rfl, h⟩⟩
  refine ⟨(f_settle s _ (by decide)).trans (hserve.trans h1),
    (f_settle s _ (by decide)).trans (f_ctrlConfig_dark (elapse s dt) (by decide)),
    (fb_settle s _ (by decide)).trans ((inSafe_safeSame hsame).trans (inSafe_elapse s dt)), ?_,
    fun h5 => (f_settle s _ (by decide)).trans (hready (hstarts.2 h5)),
    onlyRegs_settle s (onlyRegs_iff.2 honly), regsKept_settle s hregs⟩
  refine (f_settle s _ (by decide)).trans (hboot.trans ?_)
  simp only [hstarts]
  rfl
end

/-! ### A fault of the collector itself -/

/-- After a fault inside the collector a raise acts on its count and the log alone (R406). -/
theorem raise_selfFault {n d : Nat} {s : State} (hf : fb s FLT_STAT_self_fault = true) (hn : n < 48) (hc : sameCycle n s = false) :
    WritesOnly (fun o => o = (FLT_CNT_count n).off ∨ isLog o) { s with fltRaised := atPut s.fltRaised n (some s.clk.now) }
      (raise n d s) ∧
      f (raise n d s) (FLT_CNT_count n) = (f s (FLT_CNT_count n) + 1) % 2 ^ (FLT_CNT_count n).wid := by
  have hoff : ¬ isLog (FLT_CNT_count n).off := by unfold isLog; simp only [FLT_CNT_count, FLT_LOG_STAT_wptr]; omega
  have hlog : ∀ s1 : State, WritesOnly isLog s1 (if loggedSoon n s1 then incSat FLT_LOG_STAT_merged s1
      else logRaise n (sevOf s n) (sevOf s n == 4 && !fb s FLT_STAT_self_fault && !inSafe s) d s1) := by
    intro s1; split
    · exact writesOnly_setF _ _ (writesOnly_refl _ s1) (.inl rfl)
    · exact logRaise_writesOnly _ _ _ _ s1
  unfold raise
  rw [if_neg (by simp [hc])]
  simp only [hf, if_true] at hlog ⊢
  refine ⟨writesOnly_trans (writesOnly_setF _ _ (writesOnly_refl _ _) (.inl rfl)) (writesOnly_mono (hlog _) fun _ h => .inr h), ?_⟩
  exact (f_writesOnly (hlog _) _ hoff).trans (f_setF_same _ _ _ (by simp [FLT_CNT_count]))

/-- What is left after a fault of the collector is marked and counted, before entry. -/
def selfNoted (s : State) : State := incSat FLT_SELF_errors (setF FLT_STAT_self_fault 1 s)
theorem selfFault_eq (p0 v0 p1 v1 : Bool) (s : State) :
    selfFault p0 v0 p1 v1 s = raise 45 0 (safeEnter 3 0 (selfDark p0 v0 p1 v1) (selfNoted s)) := rfl
theorem selfNoted_safeSame (s : State) : SafeSame s (selfNoted s) :=
  safeSame_trans (safeSame_setF (x := FLT_STAT_self_fault) 1 (by decide) (by decide) s)
    (safeSame_setF (x := FLT_SELF_errors) _ (by decide) (by decide) _)
theorem selfNoted_fields (s : State) : f (selfNoted s) FLT_STAT_self_fault = 1 ∧
    f (selfNoted s) FLT_SELF_errors = min (f s FLT_SELF_errors + 1) (2 ^ FLT_SELF_errors.wid - 1) := by
  have h : f (setF FLT_STAT_self_fault 1 s) FLT_SELF_errors = f s FLT_SELF_errors := f_setF_off _ _ _ _ (by decide)
  unfold selfNoted incSat
  rw [h]
  refine ⟨(f_setF_off _ _ _ _ (by decide)).trans (f_setF_same _ _ _ (by decide)), (f_setF_same _ _ _ (by decide)).trans ?_⟩
  exact Nat.mod_eq_of_lt (Nat.lt_of_le_of_lt (Nat.min_le_right _ _) (by decide))

/-- The raise of source 45 after the entry: what it leaves, and that it counts. -/
theorem raise45_selfFault {e : State} (hf : fb e FLT_STAT_self_fault = true) :
    SafeSame e (raise 45 0 e) ∧ f (raise 45 0 e) FLT_STAT_self_fault = f e FLT_STAT_self_fault ∧
      f (raise 45 0 e) FLT_SELF_errors = f e FLT_SELF_errors ∧
      (sameCycle 45 e = false → f (raise 45 0 e) (FLT_CNT_count 45) = (f e (FLT_CNT_count 45) + 1) % 2 ^ (FLT_CNT_count 45).wid) := by
  cases hc : sameCycle 45 e with
  | true =>
    have he : raise 45 0 e = e := by unfold raise; rw [if_pos hc]
    rw [he]
    exact ⟨safeSame_refl e, rfl, rfl, fun h => by simp at h⟩
  | false =>
    obtain ⟨hw, hcount⟩ := raise_selfFault (d := 0) hf (by decide : 45 < 48) hc
    have hoff : ∀ x ∈ FLT_STAT_self_fault :: FLT_SELF_errors :: safeFlds,
        ¬ (x.off = (FLT_CNT_count 45).off ∨ x.off = FLT_LOG_STAT_wptr.off ∨ (0x21000 ≤ x.off ∧ x.off < 0x22000)) := by decide
    refine ⟨safeSame_trans (safeSame_part e { e.toFaultPart with fltRaised := atPut e.fltRaised 45 (some e.clk.now) })
        (safeSame_writesOnly hw (fun x hx => hoff x (List.mem_cons_of_mem _ (List.mem_cons_of_mem _ hx)))), ?_, ?_, fun _ => hcount⟩
    · exact f_writesOnly hw _ (hoff _ (by simp))
    · exact f_writesOnly hw _ (hoff _ (by simp))

theorem collectorSelfFault_enters {s : State} {dt : Nat} (hp : s.porOn = false) (p0 v0 p1 v1 : Bool) :
    Completes (.collectorSelfFault dt p0 v0 p1 v1) s fun t =>
      fb t FLT_STAT_self_fault = true ∧ f t FLT_SELF_errors = min (f s FLT_SELF_errors + 1) (2 ^ FLT_SELF_errors.wid - 1) ∧
      EntersSafe (elapse s dt) t 3 0 ((p0 || p1) && (!p0 || v0) && (!p1 || v1)) ∧ t.clk = (elapse s dt).clk ∧
      (sameCycle 45 (elapse s dt) = false →
        f t (FLT_CNT_count 45) = (f s (FLT_CNT_count 45) + 1) % 2 ^ (FLT_CNT_count 45).wid) := by
  refine completes_run rfl hp ?_
  rw [selfFault_eq]
  obtain ⟨hself, herr⟩ := selfNoted_fields (elapse s dt)
  have hsame := selfNoted_safeSame (elapse s dt)
  obtain ⟨hclk, hflt, hkeepSelf, hkeep⟩ := safeEnter_frame (cause := 3) (src := 0) (by decide) (by decide) (selfDark p0 v0 p1 v1)
    (selfNoted (elapse s dt))
  have henter := safeEnter_entersSafe (cause := 3) (src := 0) (by decide) (by decide) (selfDark p0 v0 p1 v1) (selfNoted (elapse s dt))
  have hcnt : f (selfNoted (elapse s dt)) (FLT_CNT_count 45) = f s (FLT_CNT_count 45) :=
    (f_setF_off _ _ _ _ (by decide)).trans (f_setF_off _ _ _ _ (by decide))
  have hcyc : sameCycle 45 (selfNoted (elapse s dt)) = sameCycle 45 (elapse s dt) := rfl
  generalize selfNoted (elapse s dt) = u at hself herr hsame hclk hflt hkeepSelf hkeep henter hcnt hcyc ⊢
  generalize safeEnter 3 0 (selfDark p0 v0 p1 v1) u = e at hclk hflt hkeepSelf hkeep henter ⊢
  have keep (x : Fld) (hl : x.off < 0x40000) (hx : x.off ∉ safeRegs) : f e x = f u x := by unfold f; rw [(hkeep _ hl hx).1]
  have hcyc' : sameCycle 45 e = sameCycle 45 u := by unfold sameCycle; rw [hclk, hflt]
  obtain ⟨hsame', hself', herr', hcount⟩ := raise45_selfFault (e := e) (by unfold fb; rw [hkeepSelf, hself]; rfl)
  refine ⟨?_, ?_, entersSafe_settle s (entersSafe_congr (safeSame_symm hsame) hsame' henter),
    (settle_clk s _).trans (hsame'.clk.trans (hclk.trans hsame.clk)), fun hc => ?_⟩
  · rw [fb_settle s _ (by decide)]
    unfold fb
    rw [hself', hkeepSelf, hself]; rfl
  · rw [f_settle s _ (by decide), herr', keep _ (by decide) (by decide)]; exact herr
  · rw [f_settle s _ (by decide), hcount (hcyc'.trans (hcyc.trans hc)), keep _ (by decide) (by decide), hcnt]

end Sys2Proof.Machine

open Sys2Proof Sys2Proof.Machine Sys2Proof.Config

/-- Settles O51: every entry is `safeEnter`, between writes that its marks, the lists, the rotation and the map do not see. -/
theorem faultsEscalateAreAcknowledgedAndLeadToSafe : Obligations.FaultsEscalateAreAcknowledgedAndLeadToSafe := by
  intro s dt n hp hn
  refine ⟨escalationExpiry_idle hp, fun x hx => escalationExpiry_runs hp hn hx, fun hm => ?_, collectorSelfFault_enters hp⟩
  refine ⟨fun hdue hheld hone => faultAck_held hp hn hm hdue hheld hone,
    fun hdue hun => ⟨faultAck_clears hp hn hm hun hdue, escalatedClear_clears hp hn hm hun hdue⟩, fun hdue hun c hc => ?_,
    safeEnterCmd_enters hp hm, safeRelease_leaves hp hm, safeRelease_refused hp hm, safeRelease_outside hp hm, fltLock_locks hp hm,
    serveSet_serves hp hm⟩
  simp only [List.mem_cons, List.not_mem_nil, or_false] at hc
  rcases hc with rfl | rfl
  · exact faultAck_due hp hn hm hun hdue
  · exact escalatedClear_due hp hn hm hun hdue
end

section
/-! The messages of the vectors (R541): what sending the pending ones leaves, and that every command ends by sending them, leaves
the vectors alone, or puts the module under POR. -/
namespace Sys2Proof.Machine
open Sys2Proof.Config

/-! ### Taking a bit out of a number -/

/-- Taking a set bit away clears it and sets no other. -/
theorem testBit_sub_two_pow {n v : Nat} (h : n.testBit v = true) (i : Nat) :
    (n - 2 ^ v).testBit i = (n.testBit i && decide (i ≠ v)) := by
  have hle : 2 ^ v ≤ n := Nat.ge_two_pow_of_testBit h
  obtain ⟨x, rfl⟩ := Nat.exists_eq_add_of_le hle
  rw [Nat.add_sub_cancel_left]
  rcases Nat.lt_trichotomy i v with hi | rfl | hi
  · rw [Nat.testBit_two_pow_add_gt hi, decide_eq_true (Nat.ne_of_lt hi), Bool.and_true]
  · rw [Nat.testBit_two_pow_add_eq] at h
    simpa using h
  · have hx : x / 2 ^ v % 2 = 0 := by
      rw [Nat.testBit_two_pow_add_eq, Bool.not_eq_true', Nat.testBit_eq_decide_div_mod_eq] at h
      have := of_decide_eq_false h
      omega
    have hdiv : (2 ^ v + x) / 2 ^ v / 2 = x / 2 ^ v / 2 := by
      rw [Nat.add_div_left x (Nat.two_pow_pos v)]; omega
    have high (m : Nat) : m.testBit i = (m / 2 ^ v / 2).testBit (i - (v + 1)) := by
      rw [Nat.div_div_eq_div_mul, ← Nat.pow_succ, Nat.testBit_div_two_pow]
      congr 1; omega
    rw [high, high (2 ^ v + x), hdiv, decide_eq_true (Nat.ne_of_gt hi), Bool.and_true]

/-! ### Sending the pending messages -/

/-- The vector owes no message that could leave: while PD24 is up, it is masked where its pending bit stands. -/
def Served (s : State) (v : Nat) : Prop :=
  pd24Up s = true → (f s DMA_MSIX_PEND_pending).testBit v = true → f s (DMA_MSIX_word v 3) % 2 = 1

theorem owedMasked_iff {s : State} : OwedMasked s ↔ ∀ v < 32, Served s v :=
  ⟨fun h v hv hup => h hup v hv, fun h hup v hv => h v hv hup⟩
theorem served_congr {s t : State} {v : Nat} (hup : pd24Up t = pd24Up s)
    (hpend : f t DMA_MSIX_PEND_pending = f s DMA_MSIX_PEND_pending) (hmask : f t (DMA_MSIX_word v 3) = f s (DMA_MSIX_word v 3))
    (h : Served s v) : Served t v := by
  unfold Served; rw [hup, hpend, hmask]; exact h
/-- The vectors see registers and the level of PERST_N alone. -/
theorem owedMasked_congr {s t : State} (hr : t.regs = s.regs) (hp : t.perstLow = s.perstLow) (h : OwedMasked s) : OwedMasked t := by
  have hup : pd24Up t = pd24Up s := by unfold pd24Up domOn; rw [f_congr hr, hp]
  exact owedMasked_iff.2 fun v hv => served_congr hup (f_congr hr _) (f_congr hr _) (owedMasked_iff.1 h v hv)

theorem msixWord_off_ne (v : Nat) : (DMA_MSIX_word v 3).off ≠ DMA_MSIX_PEND_pending.off := by
  simp only [DMA_MSIX_word, DMA_MSIX_PEND_pending]; omega

/-- Sending leaves PD24 and every mask, and clears at most the vector's own pending bit. -/
theorem flushPending_frame (v : Nat) (s : State) : pd24Up (flushPending v s) = pd24Up s ∧
    (∀ w, f (flushPending v s) (DMA_MSIX_word w 3) = f s (DMA_MSIX_word w 3)) ∧
    (∀ w, (f (flushPending v s) DMA_MSIX_PEND_pending).testBit w = true → (f s DMA_MSIX_PEND_pending).testBit w = true) := by
  have hrd {o : Nat} (ho : o ≠ DMA_MSIX_PEND_pending.off) := rd_flushPending v s ho
  refine ⟨?_, fun w => ?_, fun w => ?_⟩
  · obtain ⟨r, m, d, h, e⟩ := flushPending_eq v s
    have hperst : (flushPending v s).perstLow = s.perstLow := by rw [e]
    unfold pd24Up domOn f
    rw [hrd (by decide), hperst]
  · unfold f; rw [hrd (msixWord_off_ne w)]
  · unfold flushPending
    split
    next hc =>
      simp only [Bool.and_eq_true] at hc
      obtain ⟨⟨-, hbit⟩, -⟩ := hc
      intro hw
      have hf : f (setF DMA_MSIX_PEND_pending (f s DMA_MSIX_PEND_pending - 2 ^ v) s) DMA_MSIX_PEND_pending =
          f s DMA_MSIX_PEND_pending - 2 ^ v := by
        rw [f_setF_same _ _ _ (by decide)]
        exact Nat.mod_eq_of_lt (Nat.lt_of_le_of_lt (Nat.sub_le _ _) (f_lt s DMA_MSIX_PEND_pending))
      have hw' : (f s DMA_MSIX_PEND_pending - 2 ^ v).testBit w = true := hf ▸ hw
      rw [testBit_sub_two_pow hbit, Bool.and_eq_true] at hw'
      exact hw'.1
    next => exact id

/-- A vector whose messages were just sent owes none that could leave. -/
theorem flushPending_served (v : Nat) (s : State) : Served (flushPending v s) v := by
  intro hup hbit
  obtain ⟨hup', hmask, -⟩ := flushPending_frame v s
  rw [hup'] at hup
  rw [hmask]
  by_contra hm
  have hset : (f s DMA_MSIX_PEND_pending).testBit v = true := (flushPending_frame v s).2.2 v hbit
  have hsent : flushPending v s = { setF DMA_MSIX_PEND_pending (f s DMA_MSIX_PEND_pending - 2 ^ v) s with
      msix := s.msix ++ [v], msixDue := { s.msixDue with ev := vecOff s.msixDue.ev v } } := by
    unfold flushPending
    rw [if_pos]
    rw [hup, hset, decide_eq_true (by omega)]; rfl
  have hclear : f (flushPending v s) DMA_MSIX_PEND_pending = f s DMA_MSIX_PEND_pending - 2 ^ v := by
    rw [hsent]
    exact (f_setF_same s DMA_MSIX_PEND_pending _ (by decide)).trans
      (Nat.mod_eq_of_lt (Nat.lt_of_le_of_lt (Nat.sub_le _ _) (f_lt s DMA_MSIX_PEND_pending)))
  rw [hclear, testBit_sub_two_pow hset] at hbit
  simp at hbit
theorem served_flushPending {s : State} {w : Nat} (v : Nat) (h : Served s w) : Served (flushPending v s) w := by
  obtain ⟨hup, hmask, hpend⟩ := flushPending_frame v s
  intro hu hb
  rw [hmask]
  exact h (hup ▸ hu) (hpend w hb)

/-- Once every vector of a list was served, none of them owes a message that could leave. -/
theorem forEach_flushPending_served (l : List Nat) (s : State) : ∀ v ∈ l, Served (forEach l flushPending s) v := by
  induction l generalizing s with
  | nil => simp
  | cons a l ih =>
    intro v hv
    rcases List.mem_cons.1 hv with rfl | hv
    · exact forEach_keeps (fun t => Served t v) flushPending l (fun w _ t ht => served_flushPending w ht) _ (flushPending_served v s)
    · exact ih _ v hv

/-- Settling sends every message that could leave, whatever stood before. -/
theorem settle_owedMasked (s0 s : State) : OwedMasked (settle s0 s) :=
  owedMasked_iff.2 fun v hv => forEach_flushPending_served (List.range 32) _ v (List.mem_range.2 hv)

/-! ### How a command ends -/

/-- How a command leaves the vectors: settled, as time alone leaves them, or by one of the commands of POR. -/
inductive Ends (s : State) : State → Prop
  | settled (s0 u : State) : Ends s (settle s0 u)
  | timed (dt : Nat) : Ends s (elapse s dt)
  | nacked (dt : Nat) (q : Resp) : Ends s { elapse s dt with resp := q }
  | porBegun (dt : Nat) (vaon : Bool) : Ends s (porBegin vaon (elapse s dt))
  | porCleared (dt : Nat) : Ends s (porClear (elapse s dt))
  | aonReleased (dt bm : Nat) : Ends s (aonRelease bm (elapse s dt))

theorem ends_run {s t : State} {dt : Nat} {g : State → State} (h : run s dt g = .next t) : Ends s t := by
  unfold run at h
  split at h <;> cases h
  · exact .timed dt
  · exact .settled s _
theorem ends_smb {s t : State} {dt : Nat} {g : State → State} (h : smb s dt g = .next t) : Ends s t := by
  unfold smb at h
  split at h
  · cases h; exact .nacked dt _
  · exact ends_run h

theorem exec_ends {c : Instr} {s t : State} (h : exec c s = .next t) : Ends s t := by
  cases c
  case porAssert dt => cases h; exact .porBegun dt false
  case vaonLoss dt => cases h; exact .porBegun dt true
  case porEnd dt => cases h; exact .porCleared dt
  case aonResetRelease dt bm => cases h; exact .aonReleased dt bm
  case smbReadId => exact ends_smb h
  case smbReadStatus => exact ends_smb h
  case smbTempDemand => exact ends_smb h
  case smbReadSite => exact ends_smb h
  case smbAlertResponse => exact ends_smb h
  case tapInstruction dt k =>
    change (if decide (4 ≤ k) && debugMay s then _ else run s dt (tapGo k)) = _ at h
    split at h
    · cases h
    · exact ends_run h
  all_goals
    unfold exec at h
    exact ends_run h

/-! ### The commands of POR -/

theorem domOn_congr {s t : State} (h : t.regs = s.regs) (d : Nat) : domOn t d = domOn s d := by unfold domOn; rw [f_congr h]
theorem pd24Up_of_off {s : State} (h : domOn s 24 = false) : pd24Up s = false := by unfold pd24Up; rw [h]; rfl
theorem porBegin_regs (vaon : Bool) (s : State) : (porBegin vaon s).regs = State.reset.regs := by simp only [porBegin]
theorem domOn_reset : domOn State.reset 24 = false := by decide +kernel
/-- Under POR PD24 is off. -/
theorem porBegin_owedMasked (vaon : Bool) (s : State) : OwedMasked (porBegin vaon s) := by
  intro hup
  rw [pd24Up_of_off ((domOn_congr (porBegin_regs vaon s) 24).trans domOn_reset)] at hup
  cases hup
theorem porClear_owedMasked {s : State} (h : OwedMasked s) : OwedMasked (porClear s) := by
  unfold porClear; split
  · exact owedMasked_congr rfl rfl h
  · exact h
theorem owedMasked_setF {s : State} {x : Fld} (v : Nat) (hd : x.off ≠ GOV_DOM_STAT_on.off) (hlow : x.off < 0xEF000)
    (h : OwedMasked s) : OwedMasked (setF x v s) := by
  have keep (y : Fld) (hy : y.off ≠ x.off) : f (setF x v s) y = f s y := f_setF_off s x y v hy
  have hup : pd24Up (setF x v s) = pd24Up s := by
    unfold pd24Up domOn; rw [keep _ (Ne.symm hd)]; rfl
  have hpend := keep DMA_MSIX_PEND_pending (by simp only [DMA_MSIX_PEND_pending]; omega)
  exact owedMasked_iff.2 fun v hv => served_congr hup hpend (keep _ (by simp only [DMA_MSIX_word]; omega)) (owedMasked_iff.1 h v hv)
/-- What the release of the AON reset makes of the state at its instant. -/
def aonUp (u : State) : State := { u with porOn := false, porEnd := none, resetEnd := u.clk.now, clk := { now := u.clk.now } }
theorem aonUp_regs (u : State) : (aonUp u).regs = u.regs := rfl
theorem aonUp_perstLow (u : State) : (aonUp u).perstLow = u.perstLow := rfl
theorem aonRelease_cases (bm : Nat) (s : State) :
    aonRelease bm s = s ∨ ∃ dt, aonRelease bm s = setF BOOT_STAT_boot_mode bm (aonUp (elapse s dt)) := by
  unfold aonRelease; split
  next t _ _ => exact .inr ⟨_, rfl⟩
  next => exact .inl rfl
theorem elapse_owedMasked {s : State} (dt : Nat) (h : OwedMasked s) : OwedMasked (elapse s dt) :=
  owedMasked_congr (elapse_regs s dt) (elapse_perstLow s dt) h
theorem aonRelease_owedMasked {s : State} (bm : Nat) (h : OwedMasked s) : OwedMasked (aonRelease bm s) := by
  rcases aonRelease_cases bm s with e | ⟨dt, e⟩ <;> rw [e]
  · exact h
  · exact owedMasked_setF _ (by decide) (by decide)
      (owedMasked_congr (aonUp_regs _) (aonUp_perstLow _) (elapse_owedMasked dt h))

theorem exec_owedMasked {c : Instr} {s t : State} (h : OwedMasked s) (e : exec c s = .next t) : OwedMasked t := by
  cases exec_ends e with
  | settled s0 u => exact settle_owedMasked s0 u
  | timed dt => exact elapse_owedMasked dt h
  | nacked dt q => exact owedMasked_congr rfl rfl (elapse_owedMasked dt h)
  | porBegun dt vaon => exact porBegin_owedMasked vaon _
  | porCleared dt => exact porClear_owedMasked (elapse_owedMasked dt h)
  | aonReleased dt bm => exact aonRelease_owedMasked bm (elapse_owedMasked dt h)

end Sys2Proof.Machine

open Sys2Proof Sys2Proof.Machine

/-- Settles O4: a command that settles sends every message that could leave; the others leave the vectors or turn PD24 off. -/
theorem noUnmaskedMessageIsOwed : Obligations.NoUnmaskedMessageIsOwed := by
  intro s t h e
  unfold step at e
  split at e
  next => cases e; exact h
  next c rest _ => exact exec_owedMasked (s := { s with pending := rest }) (owedMasked_congr rfl rfl h) e
end

section
/-! Accesses to unassigned offsets of BAR0 (R39). -/
namespace Sys2Proof.Machine
open Sys2Proof.Config

/-- The supervisor addresses of BAR0 select its registers, whatever the remap. -/
theorem targetOf_bar0 (s : State) {off : Nat} (h : off < 0x4000000) : targetOf s (0x40000000 + off) = .reg off := by
  unfold targetOf targetAt
  rw [if_neg (by omega), if_neg (by omega), if_neg (by omega), if_neg (by omega), if_neg (by omega), if_pos (by omega),
    Nat.add_sub_cancel_left]

/-- Between the blocks and the windows no offset is assigned. -/
theorem assigned_gap {off : Nat} (hlo : 0x100000 ≤ off) (hhi : off < 0x1000000) : assigned off = false := by
  have hwin : offWin off = none := if_neg (by omega)
  have hrows : rowsAt (off / 4 * 4) = ([], off / 4 * 4) := by
    unfold rowsAt; rw [if_neg (by omega), if_pos (by omega)]
  have hsram : sramAt off = none := by unfold sramAt; rw [hwin]
  have htrace : inTrace off = false := by unfold inTrace; rw [hwin]
  have hrow : rowFor (off / 4 * 4) = none := by unfold rowFor; rw [hrows]; rfl
  unfold assigned
  rw [hsram, htrace, hrow]; rfl

theorem regOpen_of_off {s : State} {m off : Nat} {w : Bool} (h : blockOn s off = false) : regOpen s m off w = false := by
  unfold regOpen; rw [h, Bool.false_and]

/-- An access of a live master to an offset of BAR0 that selects no open register is counted; a read answers 0. -/
theorem strayAccess_bar0 {s : State} {m off size : Nat} {write : Bool} (hm : masterLive s m = true) (hoff : off < 0x4000000)
    (hno : (regOpen s m off write && assigned off) = false) :
    strayAccess m (0x40000000 + off) size write s = if write then countUnassigned s else noTarget s := by
  have hmiss : hitsTarget s m (0x40000000 + off) write = false := by
    unfold hitsTarget; rw [targetOf_bar0 s hoff]; exact hno
  unfold strayAccess
  rw [onIssue_live hm, if_neg (by omega), hmiss]; rfl

end Sys2Proof.Machine

open Sys2Proof Sys2Proof.Machine Sys2Proof.Config

/-- Settles O7: the offset selects no open register, so that the access does nothing but count, and answer 0 to a read. -/
theorem unassignedAccessCompletesAndCounts : Obligations.UnassignedAccessCompletesAndCounts := by
  unfold Obligations.UnassignedAccessCompletesAndCounts
  intro s dt off size write hpor hlive hoff
  have hno : (regOpen s 0 off write && assigned off) = false := by
    rcases hoff with ⟨hlo, hhi⟩ | ⟨-, hblock⟩
    · rw [assigned_gap hlo hhi, Bool.and_false]
    · rw [regOpen_of_off hblock, Bool.false_and]
  refine completes_run rfl hpor ?_
  rw [strayAccess_bar0 (s := elapse s dt) hlive (by omega) hno]
  have hcount (u : State) (hu : u.regs = s.regs) :
      f (settle s (countUnassigned u)) BUS_CNT_UNASSIGNED_count = (f s BUS_CNT_UNASSIGNED_count + 1) % 2 ^ 32 := by
    rw [f_settle _ _ (by decide)]
    exact (f_setF_same u BUS_CNT_UNASSIGNED_count _ (by decide)).trans (by rw [f_congr hu]; rfl)
  have hkept {u : State} (h : RegsKept [] s u) : RegsKept [BUS_CNT_UNASSIGNED_count.off] s (settle s (countUnassigned u)) :=
    regsKept_settle s (regsKept_setF _ (fun o ho hp => h o (List.not_mem_nil) hp) (List.mem_singleton.2 rfl))
  cases write
  · exact ⟨onlyRegsResp_settle s (onlyRegsResp_setF _ _ (onlyRegsResp_resp _ (onlyRegsResp_of (onlyRegs_elapse s dt)))),
      hkept (regsKept_elapse [] s dt), hcount _ rfl, settle_resp s _⟩
  · exact ⟨onlyRegsResp_settle s (onlyRegsResp_setF _ _ (onlyRegsResp_of (onlyRegs_elapse s dt))),
      hkept (regsKept_elapse [] s dt), hcount _ rfl, settle_resp s _⟩
end

section
/-! Stores to DRAM (R316, R442): byte by byte, what a store leaves in the bytes it reaches and in all others, and what it does to
the rest of the state. -/
namespace Sys2Proof.Machine
open Sys2Proof.Config

/-- Bytes of DRAM, registers and the vectors' messages alone differ; of the registers CAL_STAT alone, and it still says the same
about the active calibration set. -/
structure DramOnly (s t : State) : Prop where
  same : ∃ d, OnlyMsix { s with dram := d } t
  regs : RegsKept [CAL_STAT_active.off] s t
  active : calActive t = calActive s

namespace DramOnly
variable {s t u : State}

protected theorem refl (s : State) : DramOnly s s := ⟨⟨_, onlyMsix_refl s⟩, fun _ _ _ => rfl, rfl⟩
protected theorem trans (h : DramOnly s t) (k : DramOnly t u) : DramOnly s u := by
  obtain ⟨d, r, m, x, y, e⟩ := h.same
  obtain ⟨d', r', m', x', y', e'⟩ := k.same
  exact ⟨⟨d', r', m', x', y', by rw [e', e]⟩, fun o ho hp => (k.regs o ho hp).trans (h.regs o ho hp), k.active.trans h.active⟩
theorem store (d : List Host.Cell) (h : DramOnly s t) : DramOnly s { t with dram := d } :=
  h.trans ⟨⟨d, onlyMsix_refl _⟩, fun _ _ _ => rfl, rfl⟩
/-- A mark in CAL_STAT beside the one of the active set. -/
theorem mark {x : Fld} (v : Nat) (hoff : x.off = CAL_STAT_active.off) (hw : x.lsb + x.wid ≤ 32)
    (hd : CAL_STAT_active_valid.lsb + CAL_STAT_active_valid.wid ≤ x.lsb ∨ x.lsb + x.wid ≤ CAL_STAT_active_valid.lsb)
    (h : DramOnly s t) : DramOnly s (setF x v t) :=
  h.trans ⟨⟨t.dram, onlyMsix_setF x v (onlyMsix_refl t)⟩, regsKept_setF v (regsKept_refl _ t) (List.mem_singleton.2 hoff), by
    unfold calActive fb; rw [f_setF_ne t x _ v hw (.inr hd)]⟩
theorem sent (v : Nat) (h : DramOnly s t) : DramOnly s (sendMsix v t) :=
  h.trans ⟨⟨t.dram, dueMsix_eq true v t⟩, regsKept_dueMsix true v (regsKept_refl _ t), by
    unfold calActive fb f sendMsix; rw [rd_dueMsix true v t (by decide)]⟩
theorem mems (h : DramOnly s t) : t.spm = s.spm ∧ t.sram = s.sram ∧ t.rom = s.rom := by
  obtain ⟨d, r, m, x, y, e⟩ := h.same; rw [e]; exact ⟨rfl, rfl, rfl⟩
end DramOnly

/-! ### One byte -/

theorem calWriteNote_dramOnly (b : Nat) (s : State) : DramOnly s (calWriteNote b s) := by
  unfold calWriteNote
  split
  · split
    · exact .refl s
    · exact ((DramOnly.refl s).mark (x := CAL_STAT_wr_blocked) 1 rfl (by decide) (by decide)).sent 9
  · split
    · exact (DramOnly.refl s).mark (x := CAL_STAT_inactive_verified) 0 rfl (by decide) (by decide)
    · exact .refl s
theorem calWriteNote_dram (b : Nat) (s : State) : (calWriteNote b s).dram = s.dram := by
  unfold calWriteNote
  split
  · split
    · rfl
    · obtain ⟨r, m, x, y, e⟩ := dueMsix_eq true 9 (setF CAL_STAT_wr_blocked 1 s)
      unfold sendMsix; rw [e]; rfl
  · split <;> rfl

/-- Store one byte of DRAM for a master: the step of `dramPut`. -/
def bytePut (m : Nat) (e : Nat × Nat) (t : State) : State :=
  if inFreeRing e.2 && m != 3 then t
  else
    let t1 := calWriteNote e.2 t
    if calBlocked t e.2 then t1 else { t1 with dram := memSet t1.dram e.2 (BitVec.ofNat 8 e.1) }
theorem dramPut_cons (m a v : Nat) (l : List Nat) (s : State) :
    dramPut m a (v :: l) s = dramPut m (a + 1) l (bytePut m (v, a) s) := rfl

theorem bytePut_dramOnly (m : Nat) (e : Nat × Nat) (t : State) : DramOnly t (bytePut m e t) := by
  unfold bytePut
  split
  · exact .refl t
  · simp only
    split
    · exact calWriteNote_dramOnly e.2 t
    · exact (calWriteNote_dramOnly e.2 t).store _
theorem memGet_bytePut_other (m v : Nat) {a b : Nat} (h : b ≠ a) (t : State) :
    memGet (bytePut m (v, a) t).dram b = memGet t.dram b := by
  unfold bytePut
  split
  · rfl
  · simp only
    split
    · rw [calWriteNote_dram]
    · exact (memGet_memSet_other _ h _).trans (by rw [calWriteNote_dram])
/-- A byte outside the free rings is stored while no calibration set is active. -/
theorem memGet_bytePut_same (m v : Nat) {a : Nat} {t : State} (hcal : calActive t = false) (hfree : inFreeRing a = false) :
    memGet (bytePut m (v, a) t).dram a = BitVec.ofNat 8 v := by
  have hblock : calBlocked t a = false := by unfold calBlocked; rw [hcal, Bool.false_and]
  unfold bytePut
  rw [hfree, hblock]
  exact memGet_memSet_same _ _ _

/-! ### A store of bytes -/

theorem dramPut_dramOnly (m : Nat) (l : List Nat) (a : Nat) (s : State) : DramOnly s (dramPut m a l s) :=
  forEach_keeps (DramOnly s) (bytePut m) (l.zipIdx a) (fun e _ _ ht => ht.trans (bytePut_dramOnly m e _)) s (.refl s)
/-- A store leaves every byte outside its range. -/
theorem memGet_dramPut_out (m : Nat) (l : List Nat) : ∀ (a : Nat) (s : State) {b : Nat}, b < a ∨ a + l.length ≤ b →
    memGet (dramPut m a l s).dram b = memGet s.dram b := by
  induction l with
  | nil => intros; rfl
  | cons v l ih =>
    intro a s b h
    rw [List.length_cons] at h
    rw [dramPut_cons, ih _ _ (by omega), memGet_bytePut_other m v (by omega)]
/-- Byte `i` of a store that meets neither a free ring nor an active bank. -/
theorem memGet_dramPut_in (m : Nat) (l : List Nat) : ∀ (a : Nat) {s : State}, calActive s = false →
    (∀ i < l.length, inFreeRing (a + i) = false) → ∀ i, (h : i < l.length) →
    memGet (dramPut m a l s).dram (a + i) = BitVec.ofNat 8 l[i] := by
  induction l with
  | nil => intro a s _ _ i h; exact absurd h (Nat.not_lt_zero i)
  | cons v l ih =>
    intro a s hcal hfree i hi
    rw [dramPut_cons]
    cases i with
    | zero =>
      exact (memGet_dramPut_out m l _ _ (.inl (Nat.lt_succ_self a))).trans (memGet_bytePut_same m v hcal (hfree 0 hi))
    | succ i =>
      have hnext := ih (a + 1) (((bytePut_dramOnly m (v, a) s).active).trans hcal)
        (fun j hj => by rw [Nat.add_assoc, Nat.add_comm 1]; exact hfree (j + 1) (Nat.succ_lt_succ hj)) i (Nat.lt_of_succ_lt_succ hi)
      rw [Nat.add_assoc, Nat.add_comm 1] at hnext
      exact hnext

/-! ### What a read returns -/

/-- The bytes read depend on DRAM and on the rings' buffers alone. -/
theorem dramVal_congr {s t : State} (hd : t.dram = s.dram) (hr : t.bpmRing = s.bpmRing) (a n : Nat) : dramVal t a n = dramVal s a n := by
  induction n generalizing a with
  | zero => rfl
  | succ n ih => unfold dramVal dramByte; rw [ih, hd, hr]
/-- Outside the free rings they are the stored bytes. -/
theorem dramVal_plain (s : State) (n : Nat) : ∀ a, (∀ i < n, inFreeRing (a + i) = false) → dramVal s a n = memRead s.dram a n := by
  induction n with
  | zero => intros; rfl
  | succ n ih =>
    intro a h
    have hnext := ih (a + 1) fun i hi => by rw [Nat.add_assoc, Nat.add_comm 1]; exact h (i + 1) (Nat.succ_lt_succ hi)
    have hfirst : inFreeRing a = false := h 0 (Nat.succ_pos n)
    unfold dramVal memRead dramByte
    rw [hfirst, hnext]; rfl

/-- Cutting a value to a byte first leaves the byte. -/
theorem ofNat_byte_mod (n : Nat) : BitVec.ofNat 8 (n % 256) = BitVec.ofNat 8 n :=
  BitVec.eq_of_toNat_eq (by simp only [BitVec.toNat_ofNat]; omega)

end Sys2Proof.Machine
end

section
/-! Accesses through BAR2 to DRAM (R45). -/
namespace Sys2Proof.Machine
open Sys2Proof.Config

/-- The supervisor addresses of DRAM select DRAM, whatever the remap. -/
theorem targetOf_dram (s : State) {a : Nat} (hlo : 0x80000000 ≤ a) (hhi : a < 0x100000000) : targetOf s a = .dram a := by
  unfold targetOf targetAt
  rw [if_neg (by omega), if_neg (by omega), if_neg (by omega), if_neg (by omega), if_neg (by omega), if_neg (by omega),
    if_neg (by omega), if_pos (by omega)]

/-- The path of PCIE to DRAM is open from START on. -/
theorem dramOpen_pcie {s : State} (a : Nat) (hboot : 4 ≤ bootState s) :
    (reachDram 6 && (6 != 6 || bar2Open s (.dram a))) = true := by
  have hopen : bar2Open s (.dram a) = true := if_pos hboot
  rw [hopen]; rfl
theorem dramAccess_read {s : State} {m a size : Nat} (hlive : masterLive s m = true)
    (hopen : (reachDram m && (m != 6 || bar2Open s (.dram a))) = true) :
    dramAccess m a size none s = dramReadBy m a size s := by
  unfold dramAccess; rw [onIssue_live hlive, if_pos hopen]
theorem dramAccess_write {s : State} {m a size v : Nat} (hlive : masterLive s m = true)
    (hopen : (reachDram m && (m != 6 || bar2Open s (.dram a))) = true) :
    dramAccess m a size (some v) s = dramWriteBy m a ((List.range size).map fun i => v / 256 ^ i % 256) s := by
  unfold dramAccess; rw [onIssue_live hlive, if_pos hopen]

/-- A read of an online die answers the bytes with code 0. -/
theorem dramReadBy_online {s : State} {m a n : Nat} (hdom : domOn s 25 = true) (hdie : dieOff s (dieOf a) = false) :
    dramReadBy m a n s = { s with resp := ⟨dramVal s a n, 0⟩ } := by
  unfold dramReadBy; rw [hdom, hdie]; rfl
/-- A write to an online die outside the free rings stores its bytes and answers 0. -/
theorem dramWriteBy_online {s : State} {m a : Nat} {l : List Nat} (hdom : domOn s 25 = true) (hdie : dieOff s (dieOf a) = false)
    (hfree : inFreeRing a = false) : dramWriteBy m a l s = { dramPut m a l s with resp := ⟨0, 0⟩ } := by
  unfold dramWriteBy; rw [hdom, hdie, hfree]; rfl

/-- The byte of a write at each place. -/
theorem getElem_valueBytes {v size : Nat} {l : List Nat} (hl : l = (List.range size).map fun i => v / 256 ^ i % 256) {i : Nat}
    (h : i < l.length) : BitVec.ofNat 8 l[i] = BitVec.ofNat 8 (v / 256 ^ i) := by
  subst hl
  rw [List.getElem_map, List.getElem_range, ofNat_byte_mod]

section
variable {s : State} {x a : Nat} (hlive : masterLive s 6 = true) (hboot : 4 ≤ bootState s) (hreg : 8 ≤ f s BOOT_APT_region)
  (hx : x < 0x10000000) (ha : f s BOOT_APT_region * 0x10000000 + x = a)
include hlive hreg hx ha

/-- With a region of DRAM selected, a BAR2 access is a DRAM access of PCIE at the region's address. -/
theorem bar2Go_dram (size : Nat) (w : Option Nat) : bar2Go x size w s = dramAccess 6 a size w s := by
  have hmax : f s BOOT_APT_region < 16 := f_lt s BOOT_APT_region
  unfold bar2Go
  simp only [ha]
  rw [targetOf_dram s (by omega) (by omega), hlive]
  rfl

variable (hdom : domOn s 25 = true) (hdie : dieOff s (dieOf a) = false)
include hboot hdom hdie

theorem bar2Go_read (size : Nat) : bar2Go x size none s = { s with resp := ⟨dramVal s a size, 0⟩ } := by
  rw [bar2Go_dram hlive hreg hx ha, dramAccess_read hlive (dramOpen_pcie a hboot), dramReadBy_online hdom hdie]
theorem bar2Go_write {size : Nat} (v : Nat) (hfree : inFreeRing a = false) : bar2Go x size (some v) s =
    { dramPut 6 a ((List.range size).map fun i => v / 256 ^ i % 256) s with resp := ⟨0, 0⟩ } := by
  rw [bar2Go_dram hlive hreg hx ha, dramAccess_write hlive (dramOpen_pcie a hboot), dramWriteBy_online hdom hdie hfree]
end

end Sys2Proof.Machine

open Sys2Proof Sys2Proof.Machine Sys2Proof.Config

/-- Settles O8: with a region of DRAM selected the access is a DRAM access of PCIE at the region's address; its bytes are those
that DRAM and the rings hold, and its stores are the bytes of the write, one by one. -/
theorem bar2AccessReachesTheSelectedRegion : Obligations.Bar2AccessReachesTheSelectedRegion := by
  unfold Obligations.Bar2AccessReachesTheSelectedRegion
  intro s dt x size hpor hup hbar hboot hdom hreg hx hsize hdie
  have hlive : masterLive s 6 = true := by unfold masterLive; rw [hbar, hup]; rfl
  have hstart : 4 ≤ bootState s := hboot ▸ by decide
  have hlow : x < 0x10000000 := by omega
  refine ⟨completes_run rfl hpor ?_, fun v hcal hfree => completes_run rfl hpor ?_⟩
  · rw [bar2Go_read (s := elapse s dt) hlive hstart hreg hlow rfl hdom hdie]
    have hval : (settle s { elapse s dt with resp := ⟨dramVal (elapse s dt) (f s BOOT_APT_region * 0x10000000 + x) size, 0⟩ }).resp =
        ⟨dramVal s (f s BOOT_APT_region * 0x10000000 + x) size, 0⟩ :=
      (settle_resp s _).trans (congrArg (Resp.mk · 0) (dramVal_congr (s := s) (t := elapse s dt) rfl rfl _ _))
    refine ⟨onlyRegsResp_settle s (onlyRegsResp_resp _ (onlyRegsResp_of (onlyRegs_elapse s dt))),
      regsKept_settle s (regsKept_resp _ (regsKept_elapse [] s dt)), hval, fun hplain => ?_⟩
    exact (congrArg Resp.data hval).trans (dramVal_plain s size _ hplain)
  · have hfirst := hfree 0 hsize
    rw [Nat.add_zero] at hfirst
    rw [bar2Go_write (s := elapse s dt) hlive hstart hreg hlow rfl hdom hdie v hfirst]
    generalize hl : (List.range size).map (fun i => v / 256 ^ i % 256) = l
    obtain rfl : l.length = size := by rw [← hl, List.length_map, List.length_range]
    rw [settle_dram, settle_spm, settle_sram, settle_rom]
    obtain ⟨hspm, hsram, hrom⟩ := (dramPut_dramOnly 6 l (f s BOOT_APT_region * 0x10000000 + x) (elapse s dt)).mems
    refine ⟨fun i hi => ?_, fun b hb => memGet_dramPut_out 6 l _ (elapse s dt) hb, hspm, hsram, hrom⟩
    exact (memGet_dramPut_in 6 l _ (s := elapse s dt) hcal hfree i hi).trans (getElem_valueBytes hl.symm _)
end

section
/-! What a raise leaves of the DMA block (R391 to R404): whatever its severity, and whatever entry into the safe state does to the
lists, the rotation, the windows and the gates, the channels' registers stand, and so does what PD24 hangs on. -/
namespace Sys2Proof.Machine
open Sys2Proof.Config

/-- The registers a DMA channel works by: those of the DMA block below the vectors, and the one that shows PD24. -/
def DmaOwn (o : Nat) : Prop := o = GOV_DOM_STAT_on.off ∨ (0xE0000 ≤ o ∧ o < 0xEF000)
/-- The channels' registers stand as they stood, and PD24 with them. -/
structure DmaKept (s t : State) : Prop where
  regs : ∀ o, DmaOwn o → rd t o = rd s o
  perst : t.perstLow = s.perstLow

/-- No register above the DMA block is one of its own. -/
theorem notOwn_high {o : Nat} (h : 0xEF000 ≤ o) : ¬ DmaOwn o := by
  unfold DmaOwn; simp only [GOV_DOM_STAT_on]; omega
/-- No register below the DMA block is one of its own but the one that shows PD24. -/
theorem notOwn_low {o : Nat} (h : o < 0xE0000) (hd : o ≠ 0x30210) : ¬ DmaOwn o := by
  unfold DmaOwn; simp only [GOV_DOM_STAT_on]; omega
theorem notOwn_flt {o : Nat} (h : 0x20000 ≤ o ∧ o < 0x30000) : ¬ DmaOwn o := notOwn_low (by omega) (by omega)
/-- No register of a window is. -/
theorem notOwn_win (w a : Nat) : ¬ DmaOwn (winBase w + a) := notOwn_high (by have := winBase_above w; omega)
theorem notOwn_win2 (w a b : Nat) : ¬ DmaOwn (winBase w + a + b) := by rw [Nat.add_assoc]; exact notOwn_win w _
theorem notOwn_win3 (w a b c : Nat) : ¬ DmaOwn (winBase w + a + b + c) := by rw [Nat.add_assoc]; exact notOwn_win2 w _ _

namespace DmaKept
variable {s t u : State}

protected theorem refl (s : State) : DmaKept s s := ⟨fun _ _ => rfl, rfl⟩
protected theorem trans (h : DmaKept s t) (k : DmaKept t u) : DmaKept s u :=
  ⟨fun o ho => (k.regs o ho).trans (h.regs o ho), k.perst.trans h.perst⟩
/-- What changes no register and not the level of PERST_N. -/
theorem of_regs (hr : t.regs = s.regs) (hp : t.perstLow = s.perstLow) : DmaKept s t := ⟨fun o _ => rd_congr hr o, hp⟩
theorem setRaw {o : Nat} (w : Word) (h : DmaKept s t) (ho : ¬ DmaOwn o) : DmaKept s (setRaw t o w) :=
  h.trans ⟨fun p hp => rd_setRaw_other t (fun e : p = o => ho (e ▸ hp)) w, rfl⟩
theorem setF {x : Fld} (v : Nat) (h : DmaKept s t) (hx : ¬ DmaOwn x.off) : DmaKept s (setF x v t) :=
  h.trans ⟨fun o ho => rd_setF_other t x v (fun e : o = x.off => hx (e ▸ ho)), rfl⟩
theorem forEach {α : Type} {g : α → State → State} {l : List α} (h : DmaKept s t) (hg : ∀ a ∈ l, ∀ v, DmaKept v (g a v)) :
    DmaKept s (forEach l g t) :=
  forEach_keeps (DmaKept s) g l (fun a ha v hv => hv.trans (hg a ha v)) t h
theorem onlyIf {c : Bool} {g : State → State} (h : DmaKept s t) (hg : ∀ v, DmaKept v (g v)) : DmaKept s (onlyIf c g t) := by
  unfold Machine.onlyIf; split
  · exact h.trans (hg t)
  · exact h
theorem f_eq (h : DmaKept s t) (x : Fld) (hx : DmaOwn x.off) : f t x = f s x := by unfold f; rw [h.regs _ hx]
theorem pd24 (h : DmaKept s t) : pd24Up t = pd24Up s := by
  unfold pd24Up domOn; rw [h.f_eq _ (.inl rfl), h.perst]
theorem of_onlyFlt (h : OnlyFlt s t) : DmaKept s t := by
  obtain ⟨⟨r, x, p, e⟩, h⟩ := h
  exact ⟨fun o ho => h o (fun hf => notOwn_flt hf ho), by rw [e]⟩
theorem of_writesOnly {A : Nat → Prop} (h : WritesOnly A s t) (ha : ∀ o, A o → ¬ DmaOwn o) : DmaKept s t :=
  ⟨fun o ho => (h.others o (fun hA => ha o hA ho)).1, by rw [h.same]⟩
end DmaKept

/-! ### Messages and buffers -/

theorem poolNote_dmaKept {p : Nat} (hp : p < 4) (s : State) : DmaKept s (poolNote p s) := by
  have hoff : ¬ DmaOwn (0xA0100 + 16 * p) := notOwn_low (by omega) (by omega)
  exact ((DmaKept.refl s).setF _ hoff |>.setF _ hoff).onlyIf fun v => (DmaKept.refl v).setF _ (notOwn_low (by decide) (by decide))
theorem spillOne_dmaKept (p : Nat) (s : State) : DmaKept s (spillOne p s) := by
  unfold spillOne; split <;> exact .of_regs rfl rfl
theorem bpmSync_dmaKept (s : State) : DmaKept s (bpmSync s) := by
  unfold bpmSync; split <;> exact .of_regs rfl rfl
theorem giveBack_dmaKept {p : Nat} (hp : p < 4) (i : Nat) (s : State) : DmaKept s (giveBack p i s) := by
  have hmarked : DmaKept s (bufPut p i { bufGet s p i with alloc := false }
      { bpmSync s with bpmFreed := bufKey p i :: (bpmSync s).bpmFreed }) := (bpmSync_dmaKept s).trans (.of_regs rfl rfl)
  unfold giveBack
  simp only
  generalize bufPut p i _ _ = s1 at hmarked ⊢
  split
  · exact hmarked
  · refine .trans (t := cachePut p _ _) ?_ (poolNote_dmaKept hp _)
    refine .trans (t := if (cacheGet s1 p).length < 64 then s1 else forEach (List.range 16) (fun _ => spillOne p) s1) ?_
      (.of_regs rfl rfl)
    split
    · exact hmarked
    · exact hmarked.forEach fun _ _ v => spillOne_dmaKept p v
theorem releaseHandle_dmaKept (h : Option Nat) (s : State) : DmaKept s (releaseHandle h s) := by
  unfold releaseHandle
  repeat' split
  · exact giveBack_dmaKept (Nat.mod_lt _ (by decide)) _ s
  all_goals exact .refl s
theorem unsent_dmaKept (s : State) : DmaKept s (unsent s) := by
  unfold unsent; split
  · exact ((DmaKept.refl s).setF _ (notOwn_low (by decide) (by decide))).setF _ (notOwn_low (by decide) (by decide))
  · exact .refl s
theorem deliver_dmaKept (m : Msg) (s : State) : DmaKept s (deliver m s) := by
  unfold deliver; split
  · exact .of_regs rfl rfl
  · exact (unsent_dmaKept s).trans (releaseHandle_dmaKept _ _)
theorem refuseSheaf_dmaKept {reason : Nat} (h : reason ≠ 0x08) (index : Nat) (fw : Bool) (sh : Sheaf) (s : State) :
    DmaKept s (refuseSheaf reason index fw sh s) := by
  unfold refuseSheaf sheafRsp
  simp only [if_neg h]
  exact (DmaKept.refl s).forEach fun _ _ v => deliver_dmaKept _ v
theorem telem_dmaKept (t code port a b : Nat) (s : State) : DmaKept s (telem t code port a b s) := by
  unfold telem
  simp only
  repeat' split
  all_goals exact .of_regs rfl rfl
theorem reportOuts_dmaKept (s0 s : State) : DmaKept s (reportOuts s0 s) :=
  (DmaKept.refl s).forEach fun _ _ v => (DmaKept.refl v).forEach fun _ _ u => telem_dmaKept _ _ _ _ _ u

/-! ### Windows and gates -/

theorem abandonMark_dmaKept (w sl : Nat) (s : State) : DmaKept s (abandonMark w sl s) := by
  unfold abandonMark; split
  · have hended : DmaKept s (endMark w sl s) := by
      unfold endMark
      exact (DmaKept.setF (x := PLOT_LOOP_STAT_stale w sl) 0 (.of_regs rfl rfl) (notOwn_win3 w _ _ _)).trans (.of_regs rfl rfl)
    exact hended.setF _ (notOwn_low (by decide) (by decide))
  · exact .refl s
theorem abandonWindow_dmaKept (w : Nat) (s : State) : DmaKept s (abandonWindow w s) :=
  (DmaKept.refl s).forEach fun sl _ v => abandonMark_dmaKept w sl v
theorem cutHold_dmaKept (w ch : Nat) (s : State) : DmaKept s (cutHold w ch s) := by
  unfold cutHold; split
  · exact DmaKept.setF _ (.of_regs rfl rfl) (notOwn_win3 w _ _ _)
  · exact .refl s
theorem startWave_dmaKept (w ch : Nat) (codes : List Int) (test : Bool) (s : State) : DmaKept s (startWave w ch codes test s) := by
  unfold startWave
  simp only
  have hflush : DmaKept s (incBy (PLOT_DRL_CNT_FLUSH_count w) (chanOf s w ch).queue.length s) :=
    (DmaKept.refl s).setF _ (notOwn_win2 w _ _)
  have hcut := (hflush.trans (cutHold_dmaKept w ch _)).onlyIf (c := chRt w ch) (cutHold_dmaKept w (seg1Of ch))
  have hclip := hcut.onlyIf (c := codes.any fun v => satInt 16 v != v) (g := setF (PLOT_DRL_STAT_clip w ch) 1)
    fun v => (DmaKept.refl v).setF _ (notOwn_win3 w _ _ _)
  refine hclip.trans (.trans ?_ (.of_regs rfl rfl))
  split <;> exact .of_regs rfl rfl
theorem playWave_dmaKept (r : WaveRead) (s : State) : DmaKept s (playWave r s) := by
  unfold playWave; split
  · exact (startWave_dmaKept r.win r.slot _ false s).trans (.of_regs rfl rfl)
  · exact .refl s
theorem gatesDark_dmaKept (s : State) : DmaKept s (gatesDark s) :=
  (DmaKept.refl s).forEach fun _ _ v => ((DmaKept.refl v).forEach fun r _ u => playWave_dmaKept r u).trans (.of_regs rfl rfl)

/-! ### Entry into the safe state -/

theorem passCircuits_dmaKept (s : State) : DmaKept s (passCircuits s) := by
  refine DmaKept.forEach ?_ fun _ _ v => telem_dmaKept _ _ _ _ _ v
  exact .of_regs rfl rfl
theorem rotNote_dmaKept {s : State} (h : s.rot = none) : DmaKept s (rotNote s) := by
  unfold rotNote
  rw [h]
  exact ((DmaKept.refl s).setF _ (notOwn_low (by decide) (by decide))).setF _ (notOwn_low (by decide) (by decide))
theorem stopHold_dmaKept (s : State) : DmaKept s (stopHold s) := by
  have hevent (table a : Nat) (v : State) : DmaKept v (rotEvent table a v) := by
    unfold rotEvent; split
    · exact telem_dmaKept _ _ _ _ _ v
    · exact .refl v
  have hidle (v : State) : DmaKept v (rotIdle v) := by
    unfold rotIdle; split
    · exact .refl v
    · refine .trans ?_ (rotNote_dmaKept rfl)
      exact .of_regs rfl rfl
  unfold stopHold; split
  · exact .refl s
  · refine .trans (.trans (.trans ?_ (passCircuits_dmaKept _)) (hidle _)) (hevent _ _ _)
    repeat' split
    all_goals exact .of_regs rfl rfl
theorem emptyLists_dmaKept (s : State) : DmaKept s (emptyLists s) := by
  have haccepted : DmaKept s (refuseAccepted 0x0B s) := by
    refine DmaKept.forEach ?_ fun _ _ v => refuseSheaf_dmaKept (by decide) 0 _ _ v
    exact .of_regs rfl rfl
  have hwaiting (v : State) : DmaKept v (refuseWaiting 0x0B v) := by
    refine DmaKept.forEach ?_ fun _ _ v => refuseSheaf_dmaKept (by decide) 0 _ _ v
    exact .of_regs rfl rfl
  exact (((haccepted.trans (hwaiting _)).trans (stopHold_dmaKept _)).onlyIf passCircuits_dmaKept).forEach
    fun w _ v => abandonWindow_dmaKept w v
theorem goDark_dmaKept (s : State) : DmaKept s (goDark s) := by
  unfold goDark
  simp only
  refine .trans ?_ (reportOuts_dmaKept s _)
  exact (gatesDark_dmaKept s).trans (.of_regs rfl rfl)
theorem freezeLoops_dmaKept (s : State) : DmaKept s (freezeLoops s) := .of_regs rfl rfl
theorem safeEnter_dmaKept (cause src : Nat) (dark : Bool) (s : State) : DmaKept s (safeEnter cause src dark s) := by
  cases hs : inSafe s with
  | true => rw [safeEnter_inSafe hs]; exact .refl s
  | false =>
    rw [safeEnter_eq hs]
    have hmarks : DmaKept s (safeMarks cause src dark s) :=
      .of_writesOnly (safeMarks_writesOnly cause src dark s) fun o (ho : o ∈ safeRegs) => by
        simp only [safeRegs, List.mem_cons, List.not_mem_nil, or_false] at ho
        rcases ho with rfl | rfl | rfl | rfl | rfl <;> exact notOwn_low (by decide) (by decide)
    have hlists := hmarks.trans (emptyLists_dmaKept _)
    unfold safeActs
    simp only
    split
    · exact (hlists.trans (freezeLoops_dmaKept _)).onlyIf goDark_dmaKept
    · exact hlists

/-! ### A raise -/

theorem supReset_dmaKept (k : Nat) (s : State) : DmaKept s (supReset k s) := by
  unfold supReset supPut; split
  · exact (DmaKept.refl s).setF _ (by split <;> exact notOwn_low (by decide) (by decide))
  · exact .refl s
theorem remedy_dmaKept (n d : Nat) (degrade : Bool) (s : State) : DmaKept s (remedy n d degrade s) := by
  unfold remedy
  simp only
  split
  · exact .of_regs rfl rfl
  · exact .of_regs rfl rfl
  · split <;> exact .of_regs rfl rfl
  · split
    · exact supReset_dmaKept _ s
    · exact .refl s
  · exact .refl s
theorem pendBit_notOwn {n : Nat} (hn : n < 48) : ¬ DmaOwn (pendBit n).off := by
  rcases pendBit_off hn with h | h <;> rw [h] <;> exact notOwn_low (by decide) (by decide)
theorem actSeverity_dmaKept {n : Nat} (hn : n < 48) (sev d : Nat) (s : State) : DmaKept s (actSeverity n sev d s) := by
  unfold actSeverity
  simp only
  have hpend : DmaKept s (if sev = 0 then s else setF (pendBit n) 1 s) := by
    split
    · exact .refl s
    · exact (DmaKept.refl s).setF _ (pendBit_notOwn hn)
  have hremedy := hpend.trans (remedy_dmaKept n d (sev == 2) _)
  generalize remedy n d (sev == 2) _ = s2 at hremedy ⊢
  have htimer : DmaKept s (if sev = 3 then startTimer n d s2 else s2) := by
    split
    · exact hremedy.trans (.of_onlyFlt (startTimer_onlyFlt n d s2))
    · exact hremedy
  split
  · exact htimer.trans (safeEnter_dmaKept _ _ _ _)
  · exact htimer
/-- A raise of any source, of any severity. -/
theorem raise_dmaKept {n : Nat} (hn : n < 48) (d : Nat) (s : State) : DmaKept s (raise n d s) := by
  unfold raise
  simp only
  split
  · exact .refl s
  · generalize hs1 : inc (FLT_CNT_count n) { s with fltRaised := atPut s.fltRaised n (some s.clk.now) } = s1
    have hcount : DmaKept s s1 := by
      rw [← hs1]
      exact DmaKept.setF (x := FLT_CNT_count n) _ (.of_regs rfl rfl) (notOwn_flt (by simp only [FLT_CNT_count]; omega))
    have hlog (e : Bool) : DmaKept s (if loggedSoon n s1 = true then incSat FLT_LOG_STAT_merged s1 else logRaise n (sevOf s n) e d s1) := by
      split
      · exact hcount.setF _ (notOwn_low (by decide) (by decide))
      · exact hcount.trans (.of_onlyFlt (logRaise_onlyFlt _ _ _ _ _))
    split
    · exact hlog _
    · exact (hlog _).trans (actSeverity_dmaKept hn _ _ _)

end Sys2Proof.Machine
end

section
/-! What master DMA's accesses of registers leave of the DMA block (R12 to R15, R420): it reaches the windows and SEC alone, and
neither a write of a register there nor a read of one changes a channel's registers or PD24. -/
namespace Sys2Proof.Machine
open Sys2Proof.Config

namespace DmaKept
variable {s t u : State}

theorem ite {c : Prop} [Decidable c] (h : DmaKept s t) (k : DmaKept s u) : DmaKept s (if c then t else u) := by
  split
  · exact h
  · exact k
end DmaKept

/-! ### Sensing channels -/

theorem bandLeft_dmaKept (w i : Nat) (s : State) : DmaKept s (bandLeft w i s) :=
  DmaKept.setF (x := PLOT_SNS_STAT_win_out w i) 1 (.of_regs rfl rfl) (notOwn_win3 w _ _ _)
theorem bandJudge_dmaKept (w i : Nat) (s : State) : DmaKept s (bandJudge w i s) := by
  unfold bandJudge
  exact (DmaKept.refl s).ite ((bandLeft_dmaKept w i s).ite (.of_regs rfl rfl))
theorem snsCfgWrite_dmaKept (w i v : Nat) (s : State) : DmaKept s (snsCfgWrite w i v s) := by
  have hcfg : ¬ DmaOwn (PLOT_SNS_CFG_win_en w i).off := notOwn_win3 w _ _ _
  unfold snsCfgWrite
  simp only
  generalize hs1 : setF (PLOT_SNS_CFG_win_lo w i) _ _ = s1
  have hfields : DmaKept s s1 := by
    rw [← hs1]
    exact .setF _ (.setF _ (.setF _ (.setF _ (.setF _ (.setF _ (.refl s) hcfg) hcfg) hcfg) hcfg) hcfg) hcfg
  have hband := hfields.onlyIf (c := decide (v / 256 % 65536 ≠ (rd s (PLOT_SNS_CFG_win_en w i).off).toNat / 256 % 65536))
    (bandJudge_dmaKept w i)
  generalize onlyIf _ _ s1 = s2 at hband ⊢
  exact .ite (hband.trans (.of_regs rfl rfl)) (hband.trans (.of_regs rfl rfl))

theorem refCheck_dmaKept (w k low high : Nat) (s : State) : DmaKept s (refCheck w k low high s) := by
  unfold refCheck
  simp only
  split
  · exact .setF _ (.of_regs rfl rfl) (notOwn_win3 w _ _ _)
  · exact .of_regs rfl rfl
theorem showSample_dmaKept (w : Nat) (c : Conv) (s : State) : DmaKept s (showSample w c s) := by
  have hval : ¬ DmaOwn (PLOT_SNS_VAL_over w c.chan).off := notOwn_win3 w _ _ _
  unfold showSample setB
  simp only
  generalize hs1 : setF (PLOT_SNS_VAL_over w c.chan) _ _ = s1
  have hshown : DmaKept s s1 := by
    rw [← hs1]; exact .setF _ (.setF _ (.setF _ (.setF _ (.refl s) hval) hval) hval) hval
  refine .setF (x := PLOT_SNS_CNT_samples w c.chan) _ (hshown.trans ?_) (notOwn_win3 w _ _ _)
  exact .of_regs rfl rfl
theorem convDone_dmaKept (w k : Nat) (c : Conv) (s : State) : DmaKept s (convDone w k c s) := by
  have hcount : DmaKept s (inc (PLOT_SLC_CNT_CONV_count w k) s) := .setF _ (.refl s) (notOwn_win3 w _ _ _)
  unfold convDone
  simp only
  generalize inc (PLOT_SLC_CNT_CONV_count w k) s = s1 at hcount ⊢
  refine .ite (.setF _ hcount (notOwn_win3 w _ _ _)) (.ite (.trans ?_ (refCheck_dmaKept w k _ _ _)) (.ite ?_ ?_))
  · exact .setF _ hcount (notOwn_win3 w _ _ _)
  · exact .setF _ hcount (notOwn_win3 w _ _ _)
  · exact hcount.trans (showSample_dmaKept w c s1)
theorem convMiss_dmaKept (w k : Nat) (c : Conv) (s : State) : DmaKept s (convMiss w k c s) := by
  unfold convMiss
  exact .ite (.refl s) (.setF _ (.setF _ (.setF _ (.refl s) (notOwn_win3 w _ _ _)) (notOwn_win3 w _ _ _)) (notOwn_win3 w _ _ _))
theorem runSlice_dmaKept (w k t n : Nat) (s : State) : DmaKept s (runSlice w k t n s) := by
  induction n generalizing s with
  | zero => exact .refl s
  | succ n ih =>
    unfold runSlice
    simp only
    split
    · exact .refl s
    · split
      · refine .trans (.trans ?_ (DmaKept.forEach (.refl _) fun c _ v => convMiss_dmaKept w k c v)) (ih _)
        exact .of_regs rfl rfl
      · split
        · split
          · refine .trans (.trans ?_ (convDone_dmaKept w k _ _)) (ih _)
            exact .of_regs rfl rfl
          · exact .refl s
        · exact .refl s
theorem runConv_dmaKept (w : Nat) (s : State) : DmaKept s (runConv w s) :=
  (DmaKept.refl s).forEach fun k _ v => runSlice_dmaKept w k _ _ v

/-! ### Traces and engine pairs -/

theorem trcTrigger_dmaKept (w : Nat) (s : State) : DmaKept s (trcTrigger w s) := by
  unfold trcTrigger
  refine .ite (.refl s) (.ite (.trans ?_ (raise_dmaKept (by decide) _ _)) (.ite (.refl s) ?_))
  · exact .setF _ (.refl s) (notOwn_win2 w _ _)
  · exact .setF _ (.setF _ (.of_regs rfl rfl) (notOwn_win2 w _ _)) (notOwn_win2 w _ _)
theorem trcArm_dmaKept (w : Nat) (s : State) : DmaKept s (trcArm w s) := by
  have hstat : ¬ DmaOwn (PLOT_TRC_STAT_armed w).off := notOwn_win2 w _ _
  unfold trcArm
  exact .setF _ (.setF _ (.setF _ (.of_regs rfl rfl) hstat) hstat) hstat
theorem trcCtrlWrite_dmaKept (w v : Nat) (s : State) : DmaKept s (trcCtrlWrite w v s) := by
  have hctrl : ¬ DmaOwn (PLOT_TRC_CTRL_en w).off := notOwn_win2 w _ _
  exact .onlyIf (.onlyIf (.setF _ (.setF _ (.setF _ (.setF _ (.setF _ (.refl s) hctrl) hctrl) hctrl) hctrl) hctrl)
    (trcArm_dmaKept w)) (trcTrigger_dmaKept w)
theorem engSet_dmaKept (w k n : Nat) (s : State) : DmaKept s (engSet w k n s) := by
  unfold engSet
  exact (DmaKept.refl s).setF _ (by split <;> exact notOwn_win w _)
theorem engReset_dmaKept (w k : Nat) (s : State) : DmaKept s (engReset w k s) := by
  unfold engReset
  exact (engSet_dmaKept w k _ s).ite (.refl s)
theorem pairStart_dmaKept (w : Nat) (s : State) : DmaKept s (pairStart w s) := by
  have hstat : ¬ DmaOwn (PLOT_ENG_STAT_no_holder w).off := notOwn_win w _
  have hleave : DmaKept s (forEach [0, 1] (fun k t => if engState t w k = 0 then engSet w k 2 t else t) s) :=
    (DmaKept.refl s).forEach fun k _ v => (engSet_dmaKept w k 2 v).ite (.refl v)
  unfold pairStart
  simp only
  generalize forEach [0, 1] _ s = s1 at hleave ⊢
  have hhold : ¬ DmaOwn 0x10020 := notOwn_low (by decide) (by decide)
  generalize hs2 : setF (PLOT_ENG_FRAME_frames w) 0 _ = s2
  have hmarks : DmaKept s s2 := by
    rw [← hs2]
    exact .setF _ (.setF _ (.setF _ (.setF _ (.setF _ hleave (notOwn_win w _)) hstat) hstat) hstat) (notOwn_win w _)
  refine .forEach (.setF _ (hmarks.trans ?_) hhold) fun _ _ _ => ?_ <;> exact .of_regs rfl rfl
theorem pairStop_dmaKept (w : Nat) (s : State) : DmaKept s (pairStop w s) := by
  unfold pairStop
  simp only
  have hrun : DmaKept s (setF (PLOT_ENG_CTRL_run w) 0 s) := .setF _ (.refl s) (notOwn_win w _)
  have hengines := (hrun.trans (engSet_dmaKept w 0 0 _)).trans (engSet_dmaKept w 1 0 _)
  generalize hs1 : setF (PLOT_ENG_STAT_no_holder w) 0 _ = s1
  have hoff : DmaKept s s1 := by rw [← hs1]; exact .setF _ (.setF _ hengines (notOwn_win w _)) (notOwn_win w _)
  refine .forEach (hoff.trans ?_) fun _ _ _ => ?_ <;> exact .of_regs rfl rfl
theorem engCtrlWrite_dmaKept (w v : Nat) (s : State) : DmaKept s (engCtrlWrite w v s) := by
  have hctrl : ¬ DmaOwn (PLOT_ENG_CTRL_run w).off := notOwn_win w _
  have hset : DmaKept s (setF (PLOT_ENG_CTRL_quick_en w) (v / 4) (setF (PLOT_ENG_CTRL_auto_repair w) (v / 2) s)) :=
    .setF _ (.setF _ (.refl s) hctrl) hctrl
  unfold engCtrlWrite
  simp only
  refine .onlyIf (.onlyIf ?_ (engReset_dmaKept w 0)) (engReset_dmaKept w 1)
  exact .ite (.ite hset (.ite (.setF _ hset (notOwn_win w _)) (hset.trans (pairStart_dmaKept w _))))
    (.ite (hset.trans (pairStop_dmaKept w _)) hset)

/-! ### Drill channels -/

theorem pushAt_dmaKept (at_ w ch : Nat) (v : Int) (s : State) : DmaKept s (pushAt at_ w ch v s) := by
  unfold pushAt
  exact .ite (.setF _ (.refl s) (notOwn_win2 w _ _)) (.ite (.setF _ (.refl s) (notOwn_win3 w _ _ _))
    (.setF _ (.of_regs rfl rfl) (notOwn_win3 w _ _ _)))
theorem swPush_dmaKept (w ch v : Nat) (s : State) : DmaKept s (swPush w ch v s) := by
  unfold swPush
  exact .ite (.refl s) (.ite (pushAt_dmaKept _ w ch _ s) (.setF _ (.refl s) (notOwn_win2 w _ _)))
theorem drlCfgWrite_dmaKept (w ch v : Nat) (s : State) : DmaKept s (drlCfgWrite w ch v s) := by
  have hcfg : ¬ DmaOwn (PLOT_DRL_CFG_range w ch).off := notOwn_win3 w _ _ _
  have keep {c : Bool} {x : Fld} {n : Nat} {t : State} (hx : ¬ DmaOwn x.off) (h : DmaKept s t) :
      DmaKept s (if c then setF x n t else t) := .ite (h.setF n hx) h
  unfold drlCfgWrite
  simp only
  generalize hs2 : onlyIf _ _ _ = s2
  have hset : DmaKept s s2 := by
    rw [← hs2]
    refine .onlyIf (keep hcfg (keep hcfg (keep hcfg (.setF _ (keep hcfg (.refl s)) hcfg)))) fun u => .setF _ (.refl u) hcfg
  exact .ite (hset.trans (.of_regs rfl rfl)) hset
theorem playWrite_dmaKept (w v : Nat) (s : State) : DmaKept s (playWrite w v s) := by
  have hplay : ¬ DmaOwn (PLOT_DRL_PLAY_len w).off := notOwn_win2 w _ _
  unfold playWrite
  simp only
  generalize hs1 : setF (PLOT_DRL_PLAY_len w) _ _ = s1
  have hset : DmaKept s s1 := by
    rw [← hs1]; exact .setF _ (.setF _ (.setF _ (.refl s) hplay) hplay) hplay
  exact .ite hset (.ite ((hset.trans (startWave_dmaKept w _ _ true s1)).trans (.of_regs rfl rfl))
    (.setF _ hset (notOwn_win2 w _ _)))
theorem noTempNote_dmaKept (w : Nat) (s : State) : DmaKept s (noTempNote w s) :=
  .onlyIf (.refl s) fun v => .setF _ (.refl v) (notOwn_win w _)
theorem seedOne_dmaKept (w ch : Nat) (s : State) : DmaKept s (seedOne w ch s) := by
  have hpush : DmaKept s (pushCode w ch (seedCode s w ch) s) := pushAt_dmaKept _ w ch _ s
  unfold seedOne
  exact (DmaKept.refl s).ite (.ite (hpush.trans (.of_regs rfl rfl)) hpush)
theorem seedGo_dmaKept (w : Nat) (s : State) : DmaKept s (seedGo w s) := by
  have hstat : ¬ DmaOwn (PLOT_DRL_SEED_STAT_busy w).off := notOwn_win2 w _ _
  have mark (x : Fld) (hx : ¬ DmaOwn x.off) (v : State) : DmaKept v (setF x 1 v) := (DmaKept.refl v).setF 1 hx
  unfold seedGo
  simp only
  refine .ite (.refl s) (.ite ?_ ?_)
  · exact .onlyIf (.onlyIf (.onlyIf (.refl s) (mark (PLOT_DRL_SEED_STAT_err_cal w) hstat))
      (mark (PLOT_DRL_SEED_STAT_err_temp w) hstat)) (mark (PLOT_DRL_SEED_STAT_err_order w) hstat)
  · exact .forEach (.setF _ (.of_regs rfl rfl) hstat) fun ch _ v => seedOne_dmaKept w ch v
theorem seedWrite_dmaKept (w v : Nat) (s : State) : DmaKept s (seedWrite w v s) := by
  have hset : DmaKept s (setF (PLOT_DRL_SEED_settle_us w) (v / 2 ^ 16) s) := .setF _ (.refl s) (notOwn_win2 w _ _)
  unfold seedWrite
  exact (hset.trans (seedGo_dmaKept w _)).ite hset

/-! ### Plain registers -/

theorem putFld_dmaKept {off : Nat} (ho : ¬ DmaOwn off) (v : Nat) (x : FldSpec) (s : State) : DmaKept s (putFld off v x s) := by
  have hset (n : Nat) : DmaKept s (setF ⟨off, x.lsb, x.wid⟩ n s) := (DmaKept.refl s).setF n ho
  unfold putFld
  simp only
  split
  · exact hset _
  · exact hset _
  · exact (DmaKept.refl s).ite (hset _)
  · exact (DmaKept.refl s).setRaw _ ho
  · exact .refl s
  · exact .refl s
/-- A value is brought into a range in registers of the same block. -/
theorem clampsAt_high {off : Nat} (h : 0xF0000 ≤ off) : ∀ c ∈ clampsAt off, 0xF0000 ≤ c.1.off := by
  unfold clampsAt
  split
  next w _ =>
    simp only
    repeat' split
    · simp [h]
    · have hw := winBase_above w
      simp only [List.forall_mem_cons, PLOT_SNS_CTRL_bg_period_ms, PLOT_SNS_CTRL_persist, List.not_mem_nil, false_imp_iff,
        implies_true, and_true]
      omega
    · simp
  next =>
    split <;> first | omega | skip
    rw [if_neg (by omega)]; simp
theorem ownOff_high {m off : Nat} (h : 0xF0000 ≤ off) : ownOff m off = off := by unfold ownOff; rw [if_neg (by omega)]
theorem plainWrite_dmaKept (m : Nat) {off : Nat} (h : 0xF0000 ≤ off) (v : Nat) (s : State) : DmaKept s (plainWrite m off v s) := by
  unfold plainWrite
  split
  · refine .forEach (.forEach (.refl s) fun x _ t => putFld_dmaKept ?_ v x t) fun c hc t => ?_
    · rw [ownOff_high h]; exact notOwn_high (by omega)
    · exact (DmaKept.refl t).setF _ (notOwn_high (by have := clampsAt_high h c hc; omega))
  · exact .refl s
theorem recordWrite_dmaKept (w : Nat) {off : Nat} (h : 0xF0000 ≤ off) (v : Nat) (s : State) : DmaKept s (recordWrite w off v s) := by
  have hplain := (plainWrite_dmaKept 0 h v s).trans (noTempNote_dmaKept w _)
  have henabled (s0 : State) (sl : Nat) (t : State) : DmaKept t (loopEnabled s0 w sl t) := by
    unfold loopEnabled Machine.onlyIf
    exact DmaKept.ite (.of_regs rfl rfl) (.refl t)
  unfold recordWrite
  simp only
  have hloop := hplain.trans (henabled s ((off - winBase w - 0x10000) / 64) _)
  split
  · exact hloop.trans (.of_regs rfl rfl)
  · exact hloop

/-! ### Writes of registers -/

theorem writeWin_dmaKept (w : Nat) {off : Nat} (h : 0xF0000 ≤ off) (v : Nat) (s : State) : DmaKept s (writeWin w off v s) := by
  have hplain := plainWrite_dmaKept 0 h v s
  unfold writeWin
  refine .ite (engCtrlWrite_dmaKept w v s) (.ite (trcCtrlWrite_dmaKept w v s) (.ite (recordWrite_dmaKept w h v s) (.ite ?_
    (.ite (seedWrite_dmaKept w v s) (.ite (playWrite_dmaKept w v s) (.ite (snsCfgWrite_dmaKept w _ v s) hplain))))))
  split
  · exact drlCfgWrite_dmaKept w _ v s
  · exact hplain.ite (.refl s)
  · exact swPush_dmaKept w _ v s
  · exact hplain
theorem fuseCmd_dmaKept (m v : Nat) (s : State) : DmaKept s (fuseCmd m v s) := by
  have hset : DmaKept s (setF SEC_FUSE_CMD_slot (v / 16 % 4) (setF SEC_FUSE_CMD_op (v % 16) s)) :=
    .setF _ (.setF _ (.refl s) (notOwn_high (by decide))) (notOwn_high (by decide))
  unfold fuseCmd
  simp only
  exact hset.ite (.ite (hset.setF _ (notOwn_high (by decide))) (hset.trans (.of_regs rfl rfl)))
theorem attCmd_dmaKept (v : Nat) (s : State) : DmaKept s (attCmd v s) := by
  have hopen : DmaKept s (epochOpen s) := by
    unfold epochOpen
    split
    · unfold epochsNote
      refine .ite (.trans ?_ (raise_dmaKept (by decide) _ _)) ?_ <;> exact .of_regs rfl rfl
    · exact .refl s
  unfold attCmd
  exact (DmaKept.refl s).ite (((DmaKept.refl s).setF _ (notOwn_high (by decide))).ite (hopen.setF _ (notOwn_high (by decide))))
/-- The registers of SEC: two commands, and plain ones. -/
theorem writeHigh_sec {off : Nat} (h : 0xF0000 ≤ off) (m v : Nat) (s : State) : writeHigh m off v s =
    if off = SEC_FUSE_CMD_op.off then fuseCmd m v s else if off = SEC_ATT_CMD_go.off then attCmd v s else plainWrite m off v s := by
  obtain ⟨hmode, hremap, hrepair, hcal, helem⟩ : BUS_MODE_mode.off < 0xF0000 ∧ BUS_REMAP_remap.off < 0xF0000 ∧
    BUS_REPAIR_CMD_go.off < 0xF0000 ∧ CAL_CMD_op.off < 0xF0000 ∧ CAL_ELEM_CMD_go.off < 0xF0000 := by decide
  unfold writeHigh
  rw [if_neg, if_neg, if_neg, if_neg, if_neg, if_neg, if_neg, if_neg, if_neg, if_neg, if_neg]
  all_goals omega
theorem topWord_dmaKept (m : Nat) {off : Nat} (h : 0xF0000 ≤ off) (v : Nat) (s : State) : DmaKept s (topWord m off v s) := by
  unfold topWord
  rw [if_neg (by simp only [BOOT_CMD_op]; omega)]
  unfold writeWord
  split
  · exact writeWin_dmaKept _ h v s
  · rw [if_neg (by omega), if_neg (by omega), writeHigh_sec h]
    exact (fuseCmd_dmaKept m v s).ite ((attCmd_dmaKept v s).ite (plainWrite_dmaKept m h v s))

/-! ### Accesses -/

theorem countUnassigned_dmaKept (s : State) : DmaKept s (countUnassigned s) :=
  (DmaKept.refl s).setF _ (notOwn_low (by decide) (by decide))
theorem noTarget_dmaKept (s : State) : DmaKept s (noTarget s) :=
  DmaKept.trans (t := { s with resp := ⟨0, 0⟩ }) (.of_regs rfl rfl) (countUnassigned_dmaKept _)
/-- What another master than a supervisor does through the matrix: `g`, or nothing. -/
theorem onIssue_dmaKept {m : Nat} (hm : m ≠ 0) {g : State → State} {s : State} (h : DmaKept s (g s)) : DmaKept s (onIssue m g s) := by
  have hstall : supStall m s = s := by unfold supStall; simp [hm]
  unfold onIssue
  rw [hstall]
  exact h.ite (.refl s)
/-- The registers that master DMA reaches stand above its own (Table 13-1). -/
theorem regOpen_dma {s : State} {a : Nat} {write : Bool} (h : regOpen s 5 a write = true) : 0xF0000 ≤ a := by
  unfold regOpen offWin at h
  simp only [Bool.and_eq_true, Bool.or_eq_true, decide_eq_true_eq] at h
  obtain ⟨-, h | h⟩ := h
  · split at h
    · omega
    · simp at h
  · exact h.1
theorem writePart_dmaKept (m : Nat) {a : Nat} (h : 0xF0000 ≤ a) (size v : Nat) (s : State) :
    DmaKept s (writePart (topWord m) a size v s) := by
  unfold writePart
  split
  · exact .of_regs rfl rfl
  · refine .ite (.forEach (.refl s) fun i _ t => ?_) (.ite (.ite (topWord_dmaKept m h _ s) (.refl s)) (countUnassigned_dmaKept s))
    exact (DmaKept.refl t).setF _ (notOwn_high (by simp only; omega))
theorem regWrite_dmaKept {size : Nat} (hsize : size ≠ 8) (a v : Nat) (s : State) : DmaKept s (regWrite 5 a size v s) := by
  unfold regWrite regWriteBy
  refine onIssue_dmaKept (by decide) ?_
  rw [if_neg hsize]
  split
  · exact countUnassigned_dmaKept s
  next h => exact writePart_dmaKept 5 (regOpen_dma (by simpa using h)) size v s

theorem readWord_dmaKept (m : Nat) {off : Nat} (h : 0xF0000 ≤ off) (s : State) : DmaKept s (readWord m off s) := by
  have hq : tsqPort off = none := by unfold tsqPort; rw [if_neg (by omega)]
  have hg : glnDone off = none := by unfold glnDone; rw [if_neg (by omega)]
  unfold readWord
  simp only [hq, hg]
  rw [if_neg (by omega), if_neg (by omega)]
  unfold readEffect
  rw [if_neg (by simp only [CMT_SCHED_STAT_high_water]; omega), if_neg (by omega)]
  unfold clearRc
  split
  · refine .forEach (.of_regs rfl rfl) fun x _ t => ?_
    exact (DmaKept.refl t).setF _ (notOwn_high (by simp only; omega))
  · exact .of_regs rfl rfl
theorem readPart_dmaKept (m : Nat) {a : Nat} (h : 0xF0000 ≤ a) (size : Nat) (s : State) : DmaKept s (readPart m a size s) := by
  unfold readPart
  split
  · exact .of_regs rfl rfl
  · refine .ite (.of_regs rfl rfl) (.ite ?_ (noTarget_dmaKept s))
    exact (readWord_dmaKept m (off := a / 4 * 4) (by omega) s).trans (.of_regs rfl rfl)
theorem senseUp_dmaKept (a : Nat) (s : State) : DmaKept s (senseUp a s) := by
  unfold senseUp
  split
  · exact (DmaKept.refl s).onlyIf (runConv_dmaKept _)
  · exact .refl s
theorem regRead_dmaKept {size : Nat} (hsize : size ≠ 8) (a : Nat) (s : State) : DmaKept s (regRead 5 a size s) := by
  refine onIssue_dmaKept (m := 5) (by decide) ?_
  simp only
  rw [if_neg hsize]
  refine (senseUp_dmaKept a s).trans ?_
  split
  · exact noTarget_dmaKept _
  next h => exact readPart_dmaKept 5 (regOpen_dma (by simpa using h)) size _

end Sys2Proof.Machine
end

section
/-! The SMBus target (R489): when it answers, what it reads, and its demand of every site (R358, R359). -/
namespace Sys2Proof.Machine
open Sys2Proof.Config

/-! ### When it answers -/

theorem completes_smb_nack {c : Instr} {s : State} {dt : Nat} {g : State → State} {P : State → Prop} (he : exec c s = smb s dt g)
    (hoff : s.porOn = true ∨ bootState s = 0) (hpor : P { elapse s dt with resp := ⟨0, 2⟩ })
    (hfuse : P (settle s { elapse s dt with resp := ⟨0, 2⟩ })) : Completes c s P := by
  unfold smb at he
  by_cases hp : s.porOn = true
  · rw [if_pos hp] at he; exact ⟨_, he, hpor⟩
  · rw [if_neg hp] at he
    have hboot : bootState (elapse s dt) = 0 := hoff.resolve_left hp
    refine completes_run he (Bool.eq_false_iff.2 hp) ?_
    rw [if_pos hboot]; exact hfuse
theorem completes_smb {c : Instr} {s : State} {dt : Nat} {g : State → State} {P : State → Prop} (he : exec c s = smb s dt g)
    (hp : s.porOn = false) (hboot : bootState s ≠ 0) (h : P (settle s (g (elapse s dt)))) : Completes c s P := by
  unfold smb at he
  rw [hp, if_neg Bool.false_ne_true] at he
  refine completes_run he hp ?_
  rw [if_neg (show ¬ bootState (elapse s dt) = 0 from hboot)]; exact h

/-- A command of the target whose answer alone differs. -/
def Answers (s : State) (dt : Nat) (c : Instr) (P : Nat → Nat → Prop) : Prop :=
  Completes c s fun t => P t.resp.data t.resp.code ∧ RegsKept [] s t ∧ OnlyRegsResp s dt t

theorem resp_kept (s : State) (dt : Nat) (q : Resp) :
    RegsKept [] s (settle s { elapse s dt with resp := q }) ∧ OnlyRegsResp s dt (settle s { elapse s dt with resp := q }) :=
  ⟨regsKept_settle s (regsKept_resp _ (regsKept_elapse [] s dt)),
    onlyRegsResp_settle s (onlyRegsResp_resp _ (onlyRegsResp_of (onlyRegs_elapse s dt)))⟩
/-- In FUSE and under POR every command is a NACK. -/
theorem answers_nack {c : Instr} {s : State} {dt : Nat} {g : State → State} (he : exec c s = smb s dt g)
    (hoff : s.porOn = true ∨ bootState s = 0) : Answers s dt c fun d r => d = 0 ∧ r = 2 :=
  completes_smb_nack he hoff
    ⟨⟨rfl, rfl⟩, regsKept_resp _ (regsKept_elapse [] s dt), onlyRegsResp_resp _ (onlyRegsResp_of (onlyRegs_elapse s dt))⟩
    ⟨by rw [settle_resp]; exact ⟨rfl, rfl⟩, resp_kept s dt _⟩
/-- From the end of FUSE on a read answers what it reads. -/
theorem answers_smb {c : Instr} {s : State} {dt : Nat} {g : State → State} {P : Nat → Nat → Prop} (q : Resp)
    (he : exec c s = smb s dt g) (hg : g (elapse s dt) = { elapse s dt with resp := q }) (hp : s.porOn = false)
    (hboot : bootState s ≠ 0) (h : P q.data q.code) : Answers s dt c P :=
  completes_smb he hp hboot (by rw [hg]; exact ⟨by rw [settle_resp]; exact h, resp_kept s dt q⟩)

/-! ### What it reads -/

/-- The identity registers show their stored values. -/
theorem regValue_id (s : State) (m : Nat) {off : Nat} (h : off < 0x20) : regValue s m off = (hideWo off (rd s off)).toNat := by
  have hwin : offWin off = none := if_neg (by omega)
  have hview : viewsAt s m off = [] := by
    have hblock : off / 0x10000 = 0 := by omega
    unfold viewsAt viewBoot
    rw [hwin]
    simp only [hblock]
    rw [if_neg (by omega), if_neg (by omega), if_neg (by omega), if_neg (by omega), if_neg (by omega), if_neg (by omega),
      if_neg (by omega), if_neg (by omega), if_neg (by omega)]
  have hstored : storedWord s m off = rd s off := by
    unfold storedWord ownOff
    rw [hwin, if_neg (by omega)]
  unfold regValue
  rw [hview, hstored]; rfl
/-- Five digits of a base at their places, the first lowest. -/
theorem fiveDigits (b : Nat) (r : Nat → Nat) : ((List.range 5).map fun i => r ([0, 4, 8, 0x10, 0x14].getD i 0) * b ^ i).sum =
    r 0 + b * (r 4 + b * (r 8 + b * (r 16 + b * r 20))) := by
  have hrange : List.range 5 = [0, 1, 2, 3, 4] := rfl
  rw [hrange]
  simp only [List.map_cons, List.map_nil, List.sum_cons, List.sum_nil, List.getD_cons_zero, List.getD_cons_succ]
  ring
/-- The identity is five words. -/
theorem fiveWords (r : Nat → Nat) : ((List.range 5).map fun i => r ([0, 4, 8, 0x10, 0x14].getD i 0) * 2 ^ (32 * i)).sum =
    r 0 + 2 ^ 32 * (r 4 + 2 ^ 32 * (r 8 + 2 ^ 32 * (r 16 + 2 ^ 32 * r 20))) := by
  simp only [pow_mul]
  exact fiveDigits (2 ^ 32) r

/-- The status word's digits at their places (Table 14-13). -/
theorem statusDigits {boot safe dev step therm held : Nat} (hboot : boot < 8) (hsafe : safe < 2) (hdev : dev < 8) (hstep : step < 8)
    (htherm : therm < 2) {d : Nat} (hd : d = boot + 8 * safe + 16 * dev + 128 * step + 1024 * therm + 2048 * held) :
    d % 8 = boot ∧ d / 8 % 2 = safe ∧ d / 16 % 8 = dev ∧ d / 128 % 8 = step ∧ d / 1024 % 2 = therm ∧ d / 2048 = held := by
  omega

/-! ### A demand of every site -/

/-- The set of all sites. -/
def allSites : Nat := 2 ^ 48 - 1

theorem demPend_lt (s : State) : demPend s < 2 ^ 48 := by
  have hlo : f s GOV_PEND_LO_sites < 2 ^ 32 := f_lt s GOV_PEND_LO_sites
  have hhi : f s GOV_PEND_HI_sites < 2 ^ 16 := f_lt s GOV_PEND_HI_sites
  unfold demPend; omega
theorem demPend_congr {s t : State} (hlo : rd t GOV_PEND_LO_sites.off = rd s GOV_PEND_LO_sites.off)
    (hhi : rd t GOV_PEND_HI_sites.off = rd s GOV_PEND_HI_sites.off) : demPend t = demPend s := by
  unfold demPend f; rw [hlo, hhi]
theorem demPend_conv (s : State) (c : Option Nat) (l a : Nat) :
    demPend { s with convSite := c, lastSite := l, convAt := a } = demPend s := demPend_congr rfl rfl
theorem demPend_putPend {p : Nat} (hp : p < 2 ^ 48) (s : State) : demPend (putPend p s) = p := by
  have hlo : f (putPend p s) GOV_PEND_LO_sites = p % 2 ^ 32 :=
    (f_setF_off _ _ _ _ (by decide)).trans (f_setF_same s GOV_PEND_LO_sites p (by decide))
  have hhi : f (putPend p s) GOV_PEND_HI_sites = p / 2 ^ 32 % 2 ^ 16 := f_setF_same _ GOV_PEND_HI_sites _ (by decide)
  unfold demPend
  rw [hlo, hhi]; omega
/-- A set of sites and every site is every site. -/
theorem or_allSites {p : Nat} (hp : p < 2 ^ 48) : p ||| allSites % 2 ^ 48 = allSites := by
  apply Nat.eq_of_testBit_eq
  intro i
  unfold allSites
  rw [Nat.mod_eq_of_lt (by decide), Nat.testBit_or, Nat.testBit_two_pow_sub_one]
  by_cases hi : i < 48
  · simp [hi]
  · rw [Nat.testBit_lt_two_pow (Nat.lt_of_lt_of_le hp (Nat.pow_le_pow_right (by decide) (Nat.le_of_not_lt hi)))]
    simp [hi]
/-- Taking one site out of all. -/
theorem xor_allSites {i : Nat} (hi : i < 48) : allSites ^^^ 2 ^ i = allSites - 2 ^ i := by
  have hset : allSites.testBit i = true := by unfold allSites; rw [Nat.testBit_two_pow_sub_one, decide_eq_true hi]
  apply Nat.eq_of_testBit_eq
  intro j
  rw [testBit_sub_two_pow hset, Nat.testBit_xor, Nat.testBit_two_pow]
  by_cases hij : i = j
  · subst hij; simp [hset]
  · simp [hij, Ne.symm hij]
theorem allSites_sub_lt (n : Nat) : allSites - n < 2 ^ 48 := Nat.lt_of_le_of_lt (Nat.sub_le _ _) (by decide)
/-- With every site pending the next is the one after the last. -/
theorem nextSite_all {s : State} (h : demPend s = allSites) : nextSite s = some ((s.lastSite + 1) % 48) := by
  have hset : (demPend s).testBit ((s.lastSite + 1 + 0) % 48) = true := by
    rw [h, allSites, Nat.testBit_two_pow_sub_one, decide_eq_true (Nat.mod_lt _ (by decide))]
  unfold nextSite
  rw [List.range_succ_eq_map, List.map_cons, List.find?_cons_of_pos hset, Nat.add_zero]

/-- Every site is pending and the demand is counted. -/
def demanded (s : State) : State := inc (GOV_CNT_DEM_count 0) (putPend allSites s)
theorem demandSites_all (s : State) : demandSites 0 (2 ^ 48 - 1) s = convStart (demanded s) := by
  have hall := or_allSites (demPend_lt s)
  unfold allSites at hall
  unfold demandSites demanded
  rw [hall]; rfl
theorem demPend_demanded (s : State) : demPend (demanded s) = allSites :=
  (demPend_congr (rd_setF_other _ _ _ (by decide)) (rd_setF_other _ _ _ (by decide))).trans (demPend_putPend (by decide) s)
/-- The registers of a demand. -/
abbrev demandRegs : List Nat := [(GOV_CNT_DEM_count 0).off, GOV_PEND_LO_sites.off, GOV_PEND_HI_sites.off]
theorem regsKept_putPend {s t : State} (p : Nat) (h : RegsKept demandRegs s t) : RegsKept demandRegs s (putPend p t) :=
  regsKept_setF _ (regsKept_setF _ h (by decide)) (by decide)
theorem f_putPend_count (p : Nat) (s : State) : f (putPend p s) (GOV_CNT_DEM_count 0) = f s (GOV_CNT_DEM_count 0) :=
  (f_setF_off _ _ _ _ (by decide)).trans (f_setF_off _ _ _ _ (by decide))
theorem f_demanded_count (s : State) : f (demanded s) (GOV_CNT_DEM_count 0) = (f s (GOV_CNT_DEM_count 0) + 1) % 2 ^ 32 := by
  refine (f_setF_same _ (GOV_CNT_DEM_count 0) _ (by decide)).trans ?_
  rw [f_putPend_count]; rfl
theorem demanded_kept (s : State) : RegsKept demandRegs s (demanded s) ∧ OnlyMsix s (demanded s) :=
  ⟨regsKept_setF _ (regsKept_putPend _ (regsKept_refl _ s)) (by decide),
    onlyMsix_setF _ _ (onlyMsix_setF _ _ (onlyMsix_setF _ _ (onlyMsix_refl s)))⟩

theorem convStart_busy {s : State} (h : s.convSite.isSome = true) : convStart s = s := by
  obtain ⟨i, hi⟩ := Option.isSome_iff_exists.1 h
  unfold convStart; rw [hi]
/-- With every site pending the conversion of the site after the last begins. -/
theorem convStart_all {s : State} (h : s.convSite = none) (hp : demPend s = allSites) : convStart s =
    { putPend (allSites - 2 ^ ((s.lastSite + 1) % 48)) s with
      convSite := some ((s.lastSite + 1) % 48), lastSite := (s.lastSite + 1) % 48, convAt := s.clk.now } := by
  unfold convStart
  rw [h, nextSite_all hp, hp, ← xor_allSites (Nat.mod_lt _ (by decide))]

theorem onlyMsix_putPend (p : Nat) (s : State) : OnlyMsix s (putPend p s) := onlyMsix_setF _ _ (onlyMsix_setF _ _ (onlyMsix_refl s))
/-- Registers, messages, the answer and the conversion under way alone differ. -/
def OnlyDemand (s t : State) : Prop := ∃ r h m d q c l a, t =
  { s with regs := r, hwSet := h, msix := m, msixDue := d, resp := q, convSite := c, lastSite := l, convAt := a }

theorem convStart_demanded_frame (s : State) :
    RegsKept demandRegs s (convStart (demanded s)) ∧ OnlyDemand s (convStart (demanded s)) ∧
      f (convStart (demanded s)) (GOV_CNT_DEM_count 0) = (f s (GOV_CNT_DEM_count 0) + 1) % 2 ^ 32 := by
  obtain ⟨hkept, r, m, d, h, e⟩ := demanded_kept s
  have hcount := f_demanded_count s
  have hpend := demPend_demanded s
  generalize demanded s = v at *
  cases hsite : v.convSite with
  | some i =>
    rw [convStart_busy (by rw [hsite]; rfl)]
    exact ⟨hkept, ⟨r, h, m, d, s.resp, s.convSite, s.lastSite, s.convAt, e⟩, hcount⟩
  | none =>
    rw [convStart_all hsite hpend]
    generalize (v.lastSite + 1) % 48 = i
    generalize allSites - 2 ^ i = p
    obtain ⟨r', m', d', h', e'⟩ := onlyMsix_putPend p v
    have hkept' := regsKept_putPend p hkept
    have hcount' := (f_putPend_count p v).trans hcount
    generalize putPend p v = w at e' hkept' hcount' ⊢
    subst e
    refine ⟨regsKept_congr hkept' rfl, ⟨r', h', m', d', s.resp, some i, i, s.clk.now, ?_⟩, ?_⟩
    · subst e'; rfl
    · exact (f_congr (s := w) (by rfl) _).trans hcount'

/-- What the target leaves of a demand: one count, every site pending but the one whose conversion it begins. -/
theorem smbDemand_frame (s0 s : State) :
    let t := settle s0 { demandSites 0 (2 ^ 48 - 1) s with resp := ⟨0, 0⟩ }
    let i := (s.lastSite + 1) % 48
    t.resp = ⟨0, 0⟩ ∧ f t (GOV_CNT_DEM_count 0) = (f s (GOV_CNT_DEM_count 0) + 1) % 2 ^ 32 ∧
      (s.convSite.isSome = true → demPend t = allSites ∧ t.convSite = s.convSite) ∧
      (s.convSite = none → demPend t = allSites - 2 ^ i ∧ t.convSite = some i ∧ t.lastSite = i ∧ t.convAt = s.clk.now) ∧
      RegsKept demandRegs s t ∧ OnlyDemand s t := by
  intro t i
  obtain ⟨hkept, honly, hcount⟩ := convStart_demanded_frame s
  have ht : t = settle s0 { convStart (demanded s) with resp := ⟨0, 0⟩ } := by rw [← demandSites_all]
  clear_value t
  subst ht
  have hdem (w : State) : demPend (settle s0 { w with resp := ⟨0, 0⟩ }) = demPend w :=
    demPend_congr (rd_settle _ _ (by decide)) (rd_settle _ _ (by decide))
  obtain ⟨-, r, m, d, h, e⟩ := demanded_kept s
  refine ⟨settle_resp _ _, (f_settle _ _ (by decide)).trans ((f_congr (s := convStart (demanded s)) (by rfl) _).trans hcount),
    fun hsome => ?_, fun hnone => ?_, regsKept_settle _ (regsKept_congr hkept rfl), ?_⟩
  · rw [hdem, settle_convSite, convStart_busy (by rw [e]; exact hsome)]
    exact ⟨demPend_demanded s, by rw [e]⟩
  · rw [hdem, settle_convSite, settle_lastSite, settle_convAt,
      convStart_all (by rw [e]; exact hnone) (demPend_demanded s)]
    refine ⟨?_, by rw [e], by rw [e], by rw [e]⟩
    have hlast : (demanded s).lastSite = s.lastSite := by rw [e]
    rw [hlast]
    exact (demPend_conv _ _ _ _).trans (demPend_putPend (allSites_sub_lt _) _)
  · obtain ⟨r, h, m, d, q, c, l, a, e⟩ := honly
    obtain ⟨r', m', d', h', e'⟩ := settle_eq s0 { convStart (demanded s) with resp := ⟨0, 0⟩ }
    rw [e', e]; exact ⟨r', h', m', d', _, c, l, a, rfl⟩

/-! ### The commands -/

section
variable {s : State} (dt : Nat) (hpor : s.porOn = false) (hboot : bootState s ≠ 0)
include hpor hboot

theorem answers_readId : Answers s dt (.smbReadId dt) fun d r => r = 0 ∧
    d = regValue s 6 0 + 2 ^ 32 * (regValue s 6 4 + 2 ^ 32 * (regValue s 6 8 + 2 ^ 32 * (regValue s 6 16 + 2 ^ 32 * regValue s 6 20))) := by
  refine answers_smb (g := smbId) ⟨_, 0⟩ rfl rfl hpor hboot ⟨rfl, ?_⟩
  have helapse {off : Nat} (h : off < 0x20) : regValue (elapse s dt) 6 off = regValue s 6 off := by
    rw [regValue_id _ 6 h, regValue_id s 6 h, rd_elapse]
  refine (fiveWords (regValue (elapse s dt) 6)).trans ?_
  rw [helapse (by decide), helapse (by decide), helapse (by decide), helapse (by decide), helapse (by decide)]
theorem answers_readStatus : Answers s dt (.smbReadStatus dt) fun d r => r = 0 ∧ d % 8 = bootState s ∧ d / 8 % 2 = (inSafe s).toNat ∧
    d / 16 % 8 = devState s ∧ d / 128 % 8 = f s GOV_STEP_step ∧ d / 1024 % 2 = f s GOV_STAT_therm ∧ d / 2048 = (anyHeld s).toNat := by
  refine answers_smb (g := smbStatus) ⟨_, 0⟩ rfl rfl hpor hboot ⟨rfl, ?_⟩
  exact statusDigits (f_lt s BOOT_STAT_state) (Bool.toNat_lt _) (f_lt s GOV_DEV_STAT_state) (f_lt s GOV_STEP_step) (f_lt s GOV_STAT_therm) rfl
theorem answers_readSite (n : Nat) : Answers s dt (.smbReadSite dt n) fun d r =>
    r = 0 ∧ d = if siteValid s n then f s (GOV_SITE_TEMP_temp n) else 0x8000 :=
  answers_smb (g := fun t => { t with resp := ⟨if siteValid t n then f t (GOV_SITE_TEMP_temp n) else 0x8000, 0⟩ }) ⟨_, 0⟩ rfl rfl hpor hboot
    ⟨rfl, rfl⟩
theorem answers_alert : Answers s dt (.smbAlertResponse dt) fun d r =>
    (alertLow s = true → d = 0x52 ∧ r = 0) ∧ (alertLow s = false → d = 0 ∧ r = 2) := by
  refine answers_smb (g := fun t => { t with resp := if alertLow t then ⟨0x52, 0⟩ else ⟨0, 2⟩ })
    (if alertLow s then ⟨0x52, 0⟩ else ⟨0, 2⟩) rfl rfl hpor hboot ?_
  exact ⟨fun h => by rw [h]; exact ⟨rfl, rfl⟩, fun h => by rw [h]; exact ⟨rfl, rfl⟩⟩
theorem completes_tempDemand : Completes (.smbTempDemand dt) s fun t => t.resp = ⟨0, 0⟩ ∧
    f t (GOV_CNT_DEM_count 0) = (f s (GOV_CNT_DEM_count 0) + 1) % 2 ^ 32 ∧
    (s.convSite.isSome = true → demPend t = allSites ∧ t.convSite = s.convSite) ∧
    (s.convSite = none → demPend t = allSites - 2 ^ ((s.lastSite + 1) % 48) ∧ t.convSite = some ((s.lastSite + 1) % 48) ∧
      t.lastSite = (s.lastSite + 1) % 48 ∧ t.convAt = (elapse s dt).clk.now) ∧
    RegsKept demandRegs s t ∧ t = { elapse s dt with
      regs := t.regs, hwSet := t.hwSet, msix := t.msix, msixDue := t.msixDue, resp := t.resp, convSite := t.convSite,
      lastSite := t.lastSite, convAt := t.convAt } := by
  obtain ⟨hresp, hcount, hbusy, hidle, hkept, r, h, m, d, q, c, l, a, e⟩ := smbDemand_frame s (elapse s dt)
  exact completes_smb (g := fun t => { demandSites 0 (2 ^ 48 - 1) t with resp := ⟨0, 0⟩ }) rfl hpor hboot
    ⟨hresp, hcount, hbusy, hidle, hkept, by rw [e]⟩
end

end Sys2Proof.Machine
end

section
/-! The phase of CK_TICK against the time bases (R35, R36), and a DMA channel's resume and reset (R428, R492). -/
namespace Sys2Proof.Machine
open Sys2Proof.Config

/-! ### The phase of CK_TICK -/

/-- Record a base's phase. -/
def phaseMark (v : Nat → Nat) (b : Nat) (s : State) : State := setF (CMT_TICK_PHASE_valid b) 1 (setF (CMT_TICK_PHASE_phase b) (v b) s)

theorem phaseMark_valid (v : Nat → Nat) (b : Nat) (s : State) : f (phaseMark v b s) (CMT_TICK_PHASE_valid b) = 1 :=
  f_setF_same _ (CMT_TICK_PHASE_valid b) 1 (Nat.le_of_ble_eq_true rfl)
theorem phaseMark_phase (v : Nat → Nat) (b : Nat) (s : State) : f (phaseMark v b s) (CMT_TICK_PHASE_phase b) = v b % 2 ^ 15 := by
  unfold phaseMark
  rw [f_setF_disj _ (CMT_TICK_PHASE_valid b) (CMT_TICK_PHASE_phase b) 1 rfl (Nat.le_of_ble_eq_true rfl)
    (.inl (Nat.le_of_ble_eq_true rfl))]
  exact f_setF_same s (CMT_TICK_PHASE_phase b) (v b) (Nat.le_of_ble_eq_true rfl)
theorem rd_phaseMark_other (v : Nat → Nat) {b o : Nat} (h : o ≠ 0x61200 + 4 * b) (s : State) : rd (phaseMark v b s) o = rd s o :=
  (rd_setF_other _ (CMT_TICK_PHASE_valid b) _ h).trans (rd_setF_other _ (CMT_TICK_PHASE_phase b) _ h)
/-- A base that is not measured keeps its record. -/
theorem rd_phaseMarks_out (v : Nat → Nat) {l : List Nat} {o : Nat} (h : ∀ b ∈ l, o ≠ 0x61200 + 4 * b) (s : State) :
    rd (forEach l (phaseMark v) s) o = rd s o :=
  forEach_same (fun t => rd t o) (phaseMark v) l (fun b hb t => rd_phaseMark_other v (h b hb) t) s
/-- A base that is measured shows its phase. -/
theorem phaseMarks_in (v : Nat → Nat) {b : Nat} {l : List Nat} (h : b ∈ l) (s : State) :
    f (forEach l (phaseMark v) s) (CMT_TICK_PHASE_valid b) = 1 ∧
    f (forEach l (phaseMark v) s) (CMT_TICK_PHASE_phase b) = v b % 2 ^ 15 := by
  induction l generalizing s with
  | nil => exact absurd h List.not_mem_nil
  | cons a l ih =>
    rw [forEach_cons]
    by_cases hl : b ∈ l
    · exact ih hl _
    · obtain rfl : b = a := (List.mem_cons.1 h).resolve_right hl
      have hout : ∀ c ∈ l, 0x61200 + 4 * b ≠ 0x61200 + 4 * c := fun c hc he => by
        obtain rfl : b = c := by omega
        exact hl hc
      have hrd : rd (forEach l (phaseMark v) (phaseMark v b s)) (0x61200 + 4 * b) = rd (phaseMark v b s) (0x61200 + 4 * b) :=
        rd_phaseMarks_out v hout _
      have hvalid := phaseMark_valid v b s
      have hphase := phaseMark_phase v b s
      generalize phaseMark v b s = t at hrd hvalid hphase ⊢
      generalize forEach l (phaseMark v) t = u at hrd ⊢
      have hf (x : Fld) (hx : x.off = 0x61200 + 4 * b) : f u x = f t x := by unfold f; rw [hx, hrd]
      exact ⟨(hf (CMT_TICK_PHASE_valid b) rfl).trans hvalid, (hf (CMT_TICK_PHASE_phase b) rfl).trans hphase⟩

/-- The phase of a base, in 2^-10 ns. -/
def phaseOf (s : State) (b : Nat) : Nat := tickTime s b (tickAtOrAfter s.clk.now) % (20 * nsUnit) / 2 ^ 30
/-- The measurement records the enabled bases. -/
theorem tickPhase_eq {s : State} (h : domOn s 20 = true) :
    tickPhase s = forEach ([0, 1, 2, 3].filter (tbEnabled s)) (phaseMark (phaseOf s)) s := by
  unfold tickPhase; rw [if_pos h]; rfl
theorem tickPhase_off {s : State} (h : domOn s 20 = false) : tickPhase s = s := by
  unfold tickPhase; rw [h]; rfl
theorem phaseMarks_onlyRegs (v : Nat → Nat) (l : List Nat) (s : State) (dt : Nat) :
    OnlyRegs s dt (forEach l (phaseMark v) (elapse s dt)) :=
  onlyRegs_forEach _ l (fun _ _ _ h => onlyRegs_setF _ _ (onlyRegs_setF _ _ h)) (onlyRegs_elapse s dt)
theorem phaseMarks_regsKept (v : Nat → Nat) {l offs : List Nat} (h : ∀ b ∈ l, 0x61200 + 4 * b ∈ offs) {s t : State} (k : RegsKept offs s t) :
    RegsKept offs s (forEach l (phaseMark v) t) :=
  regsKept_forEach _ l (fun b hb _ hu => regsKept_setF _ (regsKept_setF _ hu (h b hb)) (h b hb)) k

/-! ### Resume and reset of a channel -/

theorem dmaCtrlWrite_host {c : Nat} (h : c < 6) (n v : Nat) (s : State) : dmaCtrlWrite c n v s = s := if_pos h
theorem dmaCtrlWrite_resume {c : Nat} (h : 6 ≤ c) (n : Nat) (s : State) : dmaCtrlWrite c n 1 s = setF (DMA_CH_STAT_halted c) 0 s := by
  unfold dmaCtrlWrite; rw [if_neg (by omega), if_neg (by decide), if_pos (by decide)]
/-- Empty a channel's ring and let it run. -/
def ringEmptied (c : Nat) (s : State) : State :=
  setF (DMA_CH_STAT_halted c) 0 (setF (DMA_CH_TAIL_tail c) 0 (setF (DMA_CH_HEAD_head c) 0 s))
theorem dmaCtrlWrite_reset {c : Nat} (h : 6 ≤ c) (n : Nat) (s : State) : dmaCtrlWrite c n 2 s = ringEmptied c (dmaDrain c n s) := by
  unfold dmaCtrlWrite ringEmptied; rw [if_neg (by omega), if_pos (by decide)]

/-- What a drain of outstanding bursts leaves, while source 24 is below SAFE. -/
structure Drained (c n : Nat) (s t : State) : Prop where
  same : ∃ r h p, t = { s with regs := r, hwSet := h, toFaultPart := p }
  regs : ∀ o, ¬ (0x20000 ≤ o ∧ o < 0x30000) → o ≠ BUS_CNT_ABANDON_count.off → o ≠ BUS_ABANDON_LAST_requester.off → rd t o = rd s o
  count : 0 < n → f t BUS_CNT_ABANDON_count = (f s BUS_CNT_ABANDON_count + n) % 2 ^ 32 ∧ f t BUS_ABANDON_LAST_requester = 0xA0 + c

theorem dmaDrain_drained {c : Nat} (hc : c < 16) (n : Nat) {s : State} (hsev : sevOf s 24 < 4) : Drained c n s (dmaDrain c n s) := by
  unfold dmaDrain
  split
  next h => exact ⟨⟨_, _, _, rfl⟩, fun _ _ _ _ => rfl, fun hn => absurd h (Nat.ne_of_gt hn)⟩
  next =>
    generalize hs1 : incBy BUS_CNT_ABANDON_count n s = s1
    have hcount : f s1 BUS_CNT_ABANDON_count = (f s BUS_CNT_ABANDON_count + n) % 2 ^ 32 := by
      rw [← hs1]; exact f_setF_same s BUS_CNT_ABANDON_count _ (by decide)
    have hrd1 {o : Nat} (ho : o ≠ BUS_CNT_ABANDON_count.off) : rd s1 o = rd s o := by rw [← hs1]; exact rd_setF_other s _ _ ho
    have hsame1 : ∃ r h, s1 = { s with regs := r, hwSet := h } := ⟨_, _, hs1.symm⟩
    generalize hs2 : setF BUS_ABANDON_LAST_requester (0xA0 + c) s1 = s2
    have hlast : f s2 BUS_ABANDON_LAST_requester = 0xA0 + c := by
      rw [← hs2, f_setF_same _ _ _ (by decide)]; exact Nat.mod_eq_of_lt (by simp only [BUS_ABANDON_LAST_requester]; omega)
    have hrd2 {o : Nat} (ho : o ≠ BUS_ABANDON_LAST_requester.off) : rd s2 o = rd s1 o := by rw [← hs2]; exact rd_setF_other s1 _ _ ho
    have hsame2 : ∃ r h, s2 = { s with regs := r, hwSet := h } := by
      obtain ⟨r, h, e⟩ := hsame1
      rw [← hs2, e]; exact ⟨_, _, rfl⟩
    have hsev2 : sevOf s2 24 < 4 := by
      unfold sevOf f
      rw [hrd2 (by decide), hrd1 (by decide)]
      exact hsev
    obtain ⟨⟨r, h, p, e⟩, hflt⟩ := raise_onlyFlt (d := 0xA0 + c) (by decide) hsev2 (by decide)
    refine ⟨?_, fun o ho h1 h2 => (hflt o ho).trans ((hrd2 h2).trans (hrd1 h1)), fun _ => ?_⟩
    · obtain ⟨r', h', e'⟩ := hsame2
      rw [e, e']; exact ⟨_, _, _, rfl⟩
    · unfold f at hcount hlast ⊢
      rw [hflt _ (by decide), hflt _ (by decide), hrd2 (by decide)]
      exact ⟨hcount, hlast⟩

end Sys2Proof.Machine
end

section
/-! The commands of O59 that touch registers alone: what the measurement of the tick phase, a resume and a reset leave. -/
namespace Sys2Proof.Machine
open Sys2Proof.Config

theorem settle_f {s0 s : State} {x : Fld} {n : Nat} (h : x.off ≠ DMA_MSIX_PEND_pending.off) (hf : f s x = n) : f (settle s0 s) x = n :=
  (f_settle s0 s h).trans hf

/-- The measurement records the phase of every enabled base. -/
theorem completes_tickPhase {s : State} (dt : Nat) (hp : s.porOn = false) (hdom : domOn s 20 = true) :
    Completes (.tickPhaseMeasurement dt) s fun t =>
      (∀ b < 4, (tbEnabled s b = true → fb t (CMT_TICK_PHASE_valid b) = true ∧ f t (CMT_TICK_PHASE_phase b) =
          tickTime (elapse s dt) b (tickAtOrAfter (elapse s dt).clk.now) % (20 * nsUnit) / 2 ^ 30 % 2 ^ (CMT_TICK_PHASE_phase b).wid) ∧
        (tbEnabled s b = false → f t (CMT_TICK_PHASE_valid b) = f s (CMT_TICK_PHASE_valid b))) ∧
      RegsKept ([0, 1, 2, 3].map (fun b => (CMT_TICK_PHASE_phase b).off)) s t ∧ OnlyRegs s dt t := by
  refine completes_run rfl hp ?_
  rw [tickPhase_eq (s := elapse s dt) hdom]
  have hmem (b : Nat) (hb : b < 4) : b ∈ [0, 1, 2, 3].filter (tbEnabled (elapse s dt)) ↔ tbEnabled s b = true := by
    have hrange : b ∈ [0, 1, 2, 3] := by simp only [List.mem_cons, List.not_mem_nil, or_false]; omega
    rw [List.mem_filter]
    exact ⟨fun h => h.2, fun h => ⟨hrange, h⟩⟩
  have hlist : ∀ b ∈ [0, 1, 2, 3].filter (tbEnabled (elapse s dt)), 
      0x61200 + 4 * b ∈ [0, 1, 2, 3].map (fun b => (CMT_TICK_PHASE_phase b).off) :=
    fun b hb => List.mem_map.2 ⟨b, (List.mem_filter.1 hb).1, rfl⟩
  have hkept := phaseMarks_regsKept (phaseOf (elapse s dt)) hlist (regsKept_elapse _ s dt)
  have honly := phaseMarks_onlyRegs (phaseOf (elapse s dt)) ([0, 1, 2, 3].filter (tbEnabled (elapse s dt))) s dt
  refine ⟨fun b hb => ?_, regsKept_settle s hkept, onlyRegs_settle s honly⟩
  have hoff : 0x61200 + 4 * b ≠ DMA_MSIX_PEND_pending.off := by simp only [DMA_MSIX_PEND_pending]; omega
  refine ⟨fun hen => ?_, fun hdis => settle_f hoff ?_⟩
  · obtain ⟨hvalid, hphase⟩ := phaseMarks_in (phaseOf (elapse s dt)) ((hmem b hb).2 hen) (elapse s dt)
    exact ⟨by unfold fb; rw [settle_f hoff hvalid]; rfl, settle_f hoff hphase⟩
  · have hout := rd_phaseMarks_out (phaseOf (elapse s dt)) (l := [0, 1, 2, 3].filter (tbEnabled (elapse s dt))) (o := 0x61200 + 4 * b)
      (fun c hc he => by
        obtain rfl : b = c := by omega
        rw [(hmem b hb).1 hc] at hdis; exact Bool.noConfusion hdis) (elapse s dt)
    unfold f CMT_TICK_PHASE_valid
    rw [hout, rd_elapse]

/-- A command of DMA_CH_CTRL of a master that reaches it. -/
theorem completes_dmaCtrl {i : Instr} {c m dt : Nat} {s : State} {g : State → State} {P : State → Prop}
    (he : exec i s = run s dt (regCmd m (DMA_CH_CTRL_reset c).off g)) (hp : s.porOn = false) (hm : masterLive s m = true)
    (ho : regOpen s m (DMA_CH_CTRL_reset c).off true = true) (h : P (settle s (g (elapse s dt)))) : Completes i s P :=
  completes_run he hp (by rw [regCmd_open (s := elapse s dt) hm ho]; exact h)

/-- The channels of the ports discard both commands. -/
theorem completes_dmaHost {c : Nat} (hc : c < 6) {s : State} {m : Nat} (dt n : Nat) (hp : s.porOn = false)
    (hm : masterLive s m = true) (ho : regOpen s m (DMA_CH_CTRL_reset c).off true = true) :
    (Completes (.dmaResume dt m c) s fun t => RegsKept [] s t ∧ OnlyRegs s dt t) ∧
      Completes (.dmaChannelReset dt m c n) s fun t => RegsKept [] s t ∧ OnlyRegs s dt t := by
  refine ⟨completes_dmaCtrl (g := dmaCtrlWrite c 0 1) rfl hp hm ho ?_, completes_dmaCtrl (g := dmaCtrlWrite c n 2) rfl hp hm ho ?_⟩
  all_goals
    rw [dmaCtrlWrite_host hc]
    exact ⟨regsKept_settle s (regsKept_elapse [] s dt), onlyRegs_settle s (onlyRegs_elapse s dt)⟩

theorem completes_dmaResume {c : Nat} (hc : 6 ≤ c) (hc' : c < 16) {s : State} {m : Nat} (dt : Nat) (hp : s.porOn = false)
    (hm : masterLive s m = true) (ho : regOpen s m (DMA_CH_CTRL_reset c).off true = true) :
    Completes (.dmaResume dt m c) s fun t => f t (DMA_CH_STAT_halted c) = 0 ∧
      f t (DMA_CH_STAT_result c) = f s (DMA_CH_STAT_result c) ∧ RegsKept [(DMA_CH_STAT_halted c).off] s t ∧ OnlyRegs s dt t := by
  refine completes_dmaCtrl (g := dmaCtrlWrite c 0 1) rfl hp hm ho ?_
  rw [dmaCtrlWrite_resume hc]
  have hoff : (DMA_CH_STAT_halted c).off ≠ DMA_MSIX_PEND_pending.off := by
    simp only [DMA_CH_STAT_halted, DMA_MSIX_PEND_pending]; omega
  refine ⟨settle_f hoff (f_setF_same _ (DMA_CH_STAT_halted c) 0 (Nat.le_of_ble_eq_true rfl)), settle_f hoff ?_,
    regsKept_settle s (regsKept_setF _ (regsKept_elapse _ s dt) (List.mem_singleton.2 rfl)),
    onlyRegs_settle s (onlyRegs_setF _ _ (onlyRegs_elapse s dt))⟩
  exact f_setF_disj _ (DMA_CH_STAT_halted c) (DMA_CH_STAT_result c) 0 rfl (Nat.le_of_ble_eq_true rfl) (.inr (Nat.le_of_ble_eq_true rfl))

theorem ringEmptied_f (c : Nat) (s : State) : f (ringEmptied c s) (DMA_CH_HEAD_head c) = 0 ∧ f (ringEmptied c s) (DMA_CH_TAIL_tail c) = 0 ∧
    f (ringEmptied c s) (DMA_CH_STAT_halted c) = 0 := by
  have hht : (DMA_CH_HEAD_head c).off ≠ (DMA_CH_TAIL_tail c).off := by simp only [DMA_CH_HEAD_head, DMA_CH_TAIL_tail]; omega
  have hhs : (DMA_CH_HEAD_head c).off ≠ (DMA_CH_STAT_halted c).off := by simp only [DMA_CH_HEAD_head, DMA_CH_STAT_halted]; omega
  have hts : (DMA_CH_TAIL_tail c).off ≠ (DMA_CH_STAT_halted c).off := by simp only [DMA_CH_TAIL_tail, DMA_CH_STAT_halted]; omega
  unfold ringEmptied
  refine ⟨?_, ?_, f_setF_same _ (DMA_CH_STAT_halted c) 0 (Nat.le_of_ble_eq_true rfl)⟩
  · rw [f_setF_off _ _ _ _ hhs, f_setF_off _ _ _ _ hht]
    exact f_setF_same s (DMA_CH_HEAD_head c) 0 (Nat.le_of_ble_eq_true rfl)
  · rw [f_setF_off _ _ _ _ hts]
    exact f_setF_same _ (DMA_CH_TAIL_tail c) 0 (Nat.le_of_ble_eq_true rfl)
theorem rd_ringEmptied {c o : Nat} (h1 : o ≠ (DMA_CH_HEAD_head c).off) (h2 : o ≠ (DMA_CH_TAIL_tail c).off)
    (h3 : o ≠ (DMA_CH_STAT_halted c).off) (s : State) : rd (ringEmptied c s) o = rd s o :=
  (rd_setF_other _ _ _ h3).trans ((rd_setF_other _ _ _ h2).trans (rd_setF_other _ _ _ h1))

theorem completes_dmaChannelReset {c : Nat} (hc : 6 ≤ c) (hc' : c < 16) {s : State} {m : Nat} (dt n : Nat) (hp : s.porOn = false)
    (hsev : sevOf s 24 < 4) (hm : masterLive s m = true) (ho : regOpen s m (DMA_CH_CTRL_reset c).off true = true) :
    Completes (.dmaChannelReset dt m c n) s fun t => f t (DMA_CH_HEAD_head c) = 0 ∧ f t (DMA_CH_TAIL_tail c) = 0 ∧
      f t (DMA_CH_STAT_halted c) = 0 ∧
      (0 < n → f t BUS_CNT_ABANDON_count = (f s BUS_CNT_ABANDON_count + n) % 2 ^ 32 ∧ f t BUS_ABANDON_LAST_requester = 0xA0 + c) ∧
      RegsKeptFlt [(DMA_CH_HEAD_head c).off, (DMA_CH_TAIL_tail c).off, (DMA_CH_STAT_halted c).off, BUS_CNT_ABANDON_count.off,
        BUS_ABANDON_LAST_requester.off] s t ∧
      t = { elapse s dt with regs := t.regs, hwSet := t.hwSet, msix := t.msix, msixDue := t.msixDue, toFaultPart := t.toFaultPart } := by
  have hdrain := dmaDrain_drained (c := c) hc' n (s := elapse s dt) hsev
  refine completes_dmaCtrl (g := dmaCtrlWrite c n 2) rfl hp hm ho ?_
  rw [dmaCtrlWrite_reset hc]
  generalize dmaDrain c n (elapse s dt) = u at hdrain ⊢
  obtain ⟨hhead, htail, hhalt⟩ := ringEmptied_f c u
  obtain ⟨r, h, p, hsame⟩ := hdrain.same
  have hring : OnlyMsix u (ringEmptied c u) := onlyMsix_setF _ _ (onlyMsix_setF _ _ (onlyMsix_setF _ _ (onlyMsix_refl u)))
  obtain ⟨r', m', d', h', e⟩ := onlyMsix_settle s hring
  have hoff {k : Nat} (hk : k < 0xef800) : k ≠ DMA_MSIX_PEND_pending.off := by simp only [DMA_MSIX_PEND_pending]; omega
  have hbus {x : Fld} (hx : x.off < 0xA0000) : f (ringEmptied c u) x = f u x := by
    unfold f
    rw [rd_ringEmptied] <;> simp only [DMA_CH_HEAD_head, DMA_CH_TAIL_tail, DMA_CH_STAT_halted] <;> omega
  refine ⟨settle_f (hoff ?_) hhead, settle_f (hoff ?_) htail, settle_f (hoff ?_) hhalt, fun hn => ?_, fun o ho hpend hflt => ?_, ?_⟩
  · simp only [DMA_CH_HEAD_head]; omega
  · simp only [DMA_CH_TAIL_tail]; omega
  · simp only [DMA_CH_STAT_halted]; omega
  · obtain ⟨hcount, hlast⟩ := hdrain.count hn
    exact ⟨settle_f (by decide) ((hbus (by decide)).trans hcount), settle_f (by decide) ((hbus (by decide)).trans hlast)⟩
  · simp only [List.mem_cons, List.not_mem_nil, or_false, not_or] at ho
    obtain ⟨h1, h2, h3, h4, h5⟩ := ho
    exact (rd_settle s _ hpend).trans ((rd_ringEmptied h1 h2 h3 u).trans (hdrain.regs o hflt h4 h5))
  · rw [e, hsame]

end Sys2Proof.Machine
end

section
/-! What a descriptor leaves of the DMA block (R491, R492): whatever it moves and wherever it stops, the channels' registers stand
until its completion writes them. -/
namespace Sys2Proof.Machine
open Sys2Proof.Config

/-! ### Bytes in the memories -/

theorem DramOnly.dmaKept {s t : State} (h : DramOnly s t) : DmaKept s t := by
  obtain ⟨d, r, m, x, y, e⟩ := h.same
  refine ⟨fun o ho => h.regs o (fun hl => ?_) (fun hp => ?_), by rw [e]⟩
  · rw [List.mem_singleton.1 hl] at ho
    exact notOwn_low (by decide) (by decide) ho
  · rw [hp] at ho
    exact notOwn_high (by decide) ho
theorem spmPut_dmaKept (a : Nat) (l : List Nat) (s : State) : DmaKept s (spmPut a l s) :=
  (DmaKept.refl s).forEach fun _ _ t => .ite (.of_regs rfl rfl) (.refl t)
theorem hwErr_dmaKept (s : State) : DmaKept s (hwErr s) := (DmaKept.refl s).setF _ (notOwn_low (by decide) (by decide))
theorem busNote_dmaKept (a : Nat) (s : State) : DmaKept s (busNote a s) := by
  unfold busNote
  have hstray := countUnassigned_dmaKept s
  split
  · exact .ite (.refl s) hstray
  · exact .ite hstray (.ite (hwErr_dmaKept s) (.refl s))
  · exact .ite (.refl s) hstray
  · exact hstray
theorem busPut_dmaKept (a : Nat) (l : List Nat) (s : State) : DmaKept s (busPut a l s) := by
  unfold busPut
  have hnote := busNote_dmaKept a s
  split
  · exact hnote.trans (spmPut_dmaKept _ l _)
  · exact .ite hnote (.ite (countUnassigned_dmaKept s) (dramPut_dramOnly 5 l _ s).dmaKept)
  · split
    · exact .ite (.of_regs rfl rfl) hnote
    · exact hnote
  · exact hnote

/-! ### Reads and writes of DMA -/

/-- The pieces of a register range are words and bytes. -/
theorem pieces_size {k : Nat} : ∀ {a n : Nat} {e : Nat × Nat}, e ∈ pieces k a n → e.2 ≠ 8 := by
  induction k with
  | zero => intro a n e h; exact absurd h List.not_mem_nil
  | succ k ih =>
    intro a n e h
    unfold pieces at h
    split at h
    · exact absurd h List.not_mem_nil
    · split at h
      · rcases List.mem_cons.1 h with rfl | h
        · exact (by decide : 4 ≠ 8)
        · exact ih h
      · rcases List.mem_cons.1 h with rfl | h
        · exact (by decide : 1 ≠ 8)
        · exact ih h
theorem dmaWrite_dmaKept (a : Nat) (l : List Nat) (s : State) : DmaKept s (dmaWrite a l s) := by
  unfold dmaWrite
  split
  · exact (DmaKept.refl s).forEach fun e he t => regWrite_dmaKept (pieces_size he) _ _ t
  · exact busPut_dmaKept a l s
theorem readPieces_dmaKept {s : State} (q : Resp) {l : List (Nat × Nat)} (hl : ∀ e ∈ l, e.2 ≠ 8) :
    ∀ p : List Nat × State, DmaKept s p.2 → DmaKept s (l.foldl (fun p e =>
      let t := regRead 5 e.1 e.2 p.2
      (p.1 ++ leBytes e.2 t.resp.data, { t with resp := q })) p).2 := by
  induction l with
  | nil => exact fun p h => h
  | cons e l ih =>
    intro p h
    refine ih (fun x hx => hl x (List.mem_cons_of_mem _ hx)) _ ?_
    exact h.trans ((regRead_dmaKept (hl e List.mem_cons_self) e.1 p.2).trans (.of_regs rfl rfl))
theorem dmaRead_dmaKept (a n : Nat) (s : State) : DmaKept s (dmaRead a n s).2 := by
  unfold dmaRead
  split
  · exact readPieces_dmaKept s.resp (fun e he => pieces_size he) _ (.refl s)
  · exact busNote_dmaKept a s

/-! ### Checked reads -/

theorem dieFail_dmaKept (d : Nat) (s : State) : DmaKept s (dieFail d s) := by
  have hbpm : ¬ DmaOwn (if d = 0 then BPM_STAT_d0_off else BPM_STAT_d1_off).off := by split <;> exact notOwn_low (by decide) (by decide)
  have hdrc : ¬ DmaOwn (if d = 0 then DRC_STAT_d0_off else DRC_STAT_d1_off).off := by split <;> exact notOwn_low (by decide) (by decide)
  unfold dieFail
  refine .ite (.refl s) ?_
  refine .trans (.forEach (.setF 1 (.setF 1 (.refl s) hdrc) hbpm) fun p hp t => ?_) (raise_dmaKept (by decide) _ _)
  have hlt : p < 4 := by simp only [List.mem_cons, List.not_mem_nil, or_false] at hp; omega
  refine .trans ?_ (poolNote_dmaKept hlt _)
  exact .of_regs rfl rfl
theorem noteCrc_dmaKept {d : Nat} (hd : d < 2) (a : Nat) (o : Bool) (s : State) : DmaKept s (noteCrc d a o s) := by
  have hcount : DmaKept s (inc (DRC_CNT_CRC_count d) s) :=
    (DmaKept.refl s).setF _ (notOwn_low (by simp only [DRC_CNT_CRC_count]; omega) (by simp only [DRC_CNT_CRC_count]; omega))
  unfold noteCrc
  simp only
  generalize inc (DRC_CNT_CRC_count d) s = s0 at hcount ⊢
  refine .ite (.ite (.trans ?_ (dieFail_dmaKept d _)) ?_) hcount
  · exact hcount.trans (.of_regs rfl rfl)
  · exact hcount.trans (.of_regs rfl rfl)
theorem repairTile_dmaKept (a c : Nat) (s : State) : DmaKept s (repairTile a c s) := by
  unfold repairTile
  refine .ite (.setF _ ?_ (notOwn_low (by decide) (by decide))) (.refl s)
  exact .of_regs rfl rfl
theorem raiseTile_dmaKept {n : Nat} (hn : n < 48) (detail : Nat) (s : State) : DmaKept s (raiseTile n detail s) :=
  .ite (raise_dmaKept hn detail s) (.refl s)
theorem checkedNote_dmaKept (a : Nat) (s : State) : DmaKept s (checkedNote a s) := by
  have hcount : DmaKept s (inc DRC_CNT_CHECKED_count s) := (DmaKept.refl s).setF _ (notOwn_low (by decide) (by decide))
  unfold checkedNote
  simp only
  generalize inc DRC_CNT_CHECKED_count s = s0 at hcount ⊢
  have hbad : DmaKept s (setF DRC_LAST_TILE_addr a s0) := hcount.setF _ (notOwn_low (by decide) (by decide))
  have hnone : DmaKept s (inc DRC_CNT_NOCOPY_count (setF DRC_LAST_TILE_addr a s0)) := hbad.setF _ (notOwn_low (by decide) (by decide))
  generalize setF DRC_LAST_TILE_addr a s0 = s1 at hbad hnone ⊢
  generalize inc DRC_CNT_NOCOPY_count s1 = s2 at hnone ⊢
  have hcrc {t : State} (h : DmaKept s t) {d : Nat} (hd : d < 2) (o : Bool) : DmaKept s (noteCrc d a o t) := h.trans (noteCrc_dmaKept hd a o t)
  have hraise {t : State} (h : DmaKept s t) (w : Nat) : DmaKept s (raiseTile 16 w t) := h.trans (raiseTile_dmaKept (by decide) w t)
  split
  · exact hnone
  · exact .ite hbad (hraise (hcrc hnone (by decide) _) _)
  · exact .ite hbad (hraise (hcrc hnone (by decide) _) _)
  · split
    · split
      · exact (hbad.setF _ (notOwn_low (by decide) (by decide))).trans (raiseTile_dmaKept (by decide) _ _)
      · exact .ite hcount (hbad.setF _ (notOwn_low (by decide) (by decide)))
    · exact hraise (hcrc (hbad.trans (repairTile_dmaKept _ _ _)) (by decide) _) _
    · exact hraise (hcrc (hbad.trans (repairTile_dmaKept _ _ _)) (by decide) _) _
    · exact hraise (hcrc (hcrc hnone (by decide) _) (by decide) _) _

/-! ### A descriptor -/

theorem dmaTiles_dmaKept (src dst k : Nat) : ∀ (i : Nat) (s : State),
    DmaKept s (dmaTiles src dst k i s).2.2 ∧ (dmaTiles src dst k i s).1 < 8 := by
  induction k with
  | zero => exact fun i s => ⟨.refl s, Nat.zero_lt_succ _⟩
  | succ k ih =>
    intro i s
    have hnote := checkedNote_dmaKept (src + 1024 * i) s
    unfold dmaTiles
    simp only
    split
    · split
      · exact ⟨hnote.trans (hwErr_dmaKept _), (by decide : 1 < 8)⟩
      · obtain ⟨hkept, hres⟩ := ih (i + 1)
          (dmaWrite (dst + 1024 * i) (dramList s (copyAddr (src + 1024 * i) _) 1024) (checkedNote (src + 1024 * i) s))
        exact ⟨hnote.trans ((dmaWrite_dmaKept _ _ _).trans hkept), hres⟩
    · exact ⟨hnote, (by decide : 2 < 8)⟩
    · exact ⟨hnote, (by decide : 3 < 8)⟩
theorem descRun_dmaKept (d : Desc) (s : State) : DmaKept s (descRun d s).2.2 ∧ (descRun d s).1 < 8 := by
  unfold descRun
  split
  · exact ⟨.refl s, (by decide : 4 < 8)⟩
  · split
    · exact dmaTiles_dmaKept d.src d.dst _ 0 s
    · simp only
      generalize min (dmaGood s d.dst d.len) _ = n
      generalize hmoved : (if n = 0 then s else _) = t
      have ht : DmaKept s t := by
        rw [← hmoved]
        exact .ite (.refl s) (.ite (dmaWrite_dmaKept _ _ s) ((dmaRead_dmaKept _ _ s).trans (dmaWrite_dmaKept _ _ _)))
      split
      · exact ⟨ht.trans (hwErr_dmaKept t), (by decide : 1 < 8)⟩
      · exact ⟨ht, (by decide : 0 < 8)⟩

end Sys2Proof.Machine
end

section
/-! How a descriptor ends (R492): its result, the channel's head, count and marks, and that settling keeps them. -/
namespace Sys2Proof.Machine
open Sys2Proof.Config

/-- A channel's descriptor `d`, begun in state `s`, has ended with result `r`. -/
def DescEnds (c : Nat) (d : Desc) (s t : State) (r : Nat) : Prop :=
  f t (DMA_CH_STAT_result c) = r ∧
  (r ≠ 0 → fb t (DMA_CH_STAT_halted c) = true ∧ (f t DMA_ERR_halted).testBit c = true) ∧
  (r = 0 → fb t (DMA_CH_STAT_halted c) = false) ∧
  f t (DMA_CH_HEAD_head c) = (f s (DMA_CH_HEAD_head c) + 1) % max 1 (f s (DMA_CH_CFG_entries c)) % 1024 ∧
  f t (DMA_CH_CNT_count c) = (f s (DMA_CH_CNT_count c) + 1) % 2 ^ 32 ∧
  (d.flags.testBit 4 = true → (f t DMA_DONE_done).testBit c = true) ∧
  (d.flags.testBit 4 = false → f t DMA_DONE_done = f s DMA_DONE_done)

/-! ### The fields of a channel -/

theorem dmaOwn_head {c : Nat} (hc : c < 16) : DmaOwn (DMA_CH_HEAD_head c).off := .inr (by simp only [DMA_CH_HEAD_head]; omega)
theorem dmaOwn_cfg {c : Nat} (hc : c < 16) : DmaOwn (DMA_CH_CFG_entries c).off := .inr (by simp only [DMA_CH_CFG_entries]; omega)
theorem dmaOwn_done : DmaOwn DMA_DONE_done.off := .inr (by decide)

/-- A mark of a channel is set, and the others of its register stand. -/
theorem testBit_chanBit {x : Fld} {c : Nat} (hw : x.wid = 16) (hx : x.lsb + x.wid ≤ 32) (hc : c < 16) (s : State) :
    (f (chanBit x c s) x).testBit c = true := by
  unfold chanBit
  rw [f_setF_same s x _ hx, hw, Nat.testBit_mod_two_pow, decide_eq_true hc, Nat.testBit_or, Nat.testBit_two_pow_self]
  simp
theorem pd24Up_setF {x : Fld} (v : Nat) (hx : x.off ≠ GOV_DOM_STAT_on.off) (s : State) : pd24Up (setF x v s) = pd24Up s := by
  unfold pd24Up domOn; rw [f_setF_off s x _ v hx.symm]; rfl

/-! ### The completion, step by step -/

/-- The head moves on and the result is shown. -/
def headMoved (c h r : Nat) (s : State) : State := setF (DMA_CH_HEAD_head c) h (setF (DMA_CH_STAT_result c) r s)
/-- The done mark, when the descriptor asks for it. -/
def doneMarked (c : Nat) (b : Bool) (s : State) : State := if b then chanBit DMA_DONE_done c s else s
/-- The channel halts on a result but 0. -/
def haltedOn (c r : Nat) (s : State) : State := if r = 0 then s else chanBit DMA_ERR_halted c (setF (DMA_CH_STAT_halted c) 1 s)

theorem descDone_eq (c a : Nat) (d : Desc) (r tile : Nat) (s : State) : descDone c a d r tile s =
    haltedOn c r (dmaCount c (doneMarked c (d.flags.testBit 4)
      (headMoved c ((f s (DMA_CH_HEAD_head c) + 1) % max 1 (f s (DMA_CH_CFG_entries c))) r
        (busPut (a + 0x14) (leBytes 4 tile) (busPut (a + 0xE) [1 + 2 * r] s))))) := rfl

theorem rd_headMoved {c o : Nat} (h1 : o ≠ (DMA_CH_HEAD_head c).off) (h2 : o ≠ (DMA_CH_STAT_result c).off) (h r : Nat) (s : State) :
    rd (headMoved c h r s) o = rd s o := (rd_setF_other _ _ _ h1).trans (rd_setF_other _ _ _ h2)
theorem headMoved_f (c h : Nat) {r : Nat} (hr : r < 8) (s : State) : f (headMoved c h r s) (DMA_CH_HEAD_head c) = h % 1024 ∧
    f (headMoved c h r s) (DMA_CH_STAT_result c) = r ∧ f (headMoved c h r s) (DMA_CH_STAT_halted c) = f s (DMA_CH_STAT_halted c) := by
  have hne : (DMA_CH_STAT_result c).off ≠ (DMA_CH_HEAD_head c).off := by simp only [DMA_CH_STAT_result, DMA_CH_HEAD_head]; omega
  have hne' : (DMA_CH_STAT_halted c).off ≠ (DMA_CH_HEAD_head c).off := hne
  unfold headMoved
  refine ⟨f_setF_same _ (DMA_CH_HEAD_head c) h (Nat.le_of_ble_eq_true rfl), ?_, ?_⟩
  · rw [f_setF_off _ _ _ _ hne, f_setF_same s (DMA_CH_STAT_result c) r (Nat.le_of_ble_eq_true rfl)]
    exact Nat.mod_eq_of_lt hr
  · rw [f_setF_off _ _ _ _ hne']
    exact f_setF_disj s (DMA_CH_STAT_result c) (DMA_CH_STAT_halted c) r rfl (Nat.le_of_ble_eq_true rfl) (.inl (Nat.le_of_ble_eq_true rfl))

theorem rd_doneMarked {o : Nat} (h : o ≠ DMA_DONE_done.off) (c : Nat) (b : Bool) (s : State) : rd (doneMarked c b s) o = rd s o := by
  unfold doneMarked; split
  · exact rd_setF_other _ _ _ h
  · rfl
theorem doneMarked_done {c : Nat} (hc : c < 16) (b : Bool) (s : State) :
    (b = true → (f (doneMarked c b s) DMA_DONE_done).testBit c = true) ∧
    (b = false → f (doneMarked c b s) DMA_DONE_done = f s DMA_DONE_done) := by
  cases b
  · exact ⟨fun h => Bool.noConfusion h, fun _ => rfl⟩
  · exact ⟨fun _ => testBit_chanBit rfl (by decide) hc s, fun h => Bool.noConfusion h⟩
theorem doneMarked_pd24 (c : Nat) (b : Bool) (s : State) : pd24Up (doneMarked c b s) = pd24Up s := by
  unfold doneMarked; split
  · exact pd24Up_setF _ (by decide) s
  · rfl
theorem dmaCount_up {c : Nat} {s : State} (h : pd24Up s = true) : dmaCount c s = inc (DMA_CH_CNT_count c) s := if_pos h

theorem rd_haltedOn {c o : Nat} (h1 : o ≠ DMA_ERR_halted.off) (h2 : o ≠ (DMA_CH_STAT_halted c).off) (r : Nat) (s : State) :
    rd (haltedOn c r s) o = rd s o := by
  unfold haltedOn; split
  · rfl
  · exact (rd_setF_other _ _ _ h1).trans (rd_setF_other _ _ _ h2)
theorem haltedOn_f {c : Nat} (hc : c < 16) (r : Nat) (s : State) :
    f (haltedOn c r s) (DMA_CH_STAT_result c) = f s (DMA_CH_STAT_result c) ∧
    (r ≠ 0 → f (haltedOn c r s) (DMA_CH_STAT_halted c) = 1 ∧ (f (haltedOn c r s) DMA_ERR_halted).testBit c = true) ∧
    (r = 0 → f (haltedOn c r s) (DMA_CH_STAT_halted c) = f s (DMA_CH_STAT_halted c)) := by
  have hne : (DMA_CH_STAT_halted c).off ≠ DMA_ERR_halted.off := by simp only [DMA_CH_STAT_halted, DMA_ERR_halted]; omega
  have hne' : (DMA_CH_STAT_result c).off ≠ DMA_ERR_halted.off := hne
  unfold haltedOn
  split
  next h => exact ⟨rfl, fun hr => absurd h hr, fun _ => rfl⟩
  next h =>
    refine ⟨?_, fun _ => ⟨?_, testBit_chanBit rfl (by decide) hc _⟩, fun hr => absurd hr h⟩
    · unfold chanBit
      rw [f_setF_off _ _ _ _ hne']
      exact f_setF_disj s (DMA_CH_STAT_halted c) (DMA_CH_STAT_result c) 1 rfl (Nat.le_of_ble_eq_true rfl) (.inr (Nat.le_of_ble_eq_true rfl))
    · unfold chanBit
      rw [f_setF_off _ _ _ _ hne]
      exact f_setF_same s (DMA_CH_STAT_halted c) 1 (Nat.le_of_ble_eq_true rfl)

theorem f_rd {s t : State} {x : Fld} (h : rd t x.off = rd s x.off) : f t x = f s x := by unfold f; rw [h]

/-- The completion's marks on a state whose channel stands as it stood in `s`. -/
theorem completion_ends {c r h : Nat} (hc : c < 16) (hr : r < 8) {s s1 : State} (hkept : DmaKept s s1) (hup : pd24Up s = true)
    (hrun : fb s (DMA_CH_STAT_halted c) = false) (d : Desc)
    (hh : h = (f s (DMA_CH_HEAD_head c) + 1) % max 1 (f s (DMA_CH_CFG_entries c))) :
    DescEnds c d s (haltedOn c r (dmaCount c (doneMarked c (d.flags.testBit 4) (headMoved c h r s1)))) r := by
  have eHead : (DMA_CH_HEAD_head c).off = 0xE0108 + 32 * c := rfl
  have eStat : (DMA_CH_STAT_result c).off = 0xE0114 + 32 * c := rfl
  have eHalt : (DMA_CH_STAT_halted c).off = 0xE0114 + 32 * c := rfl
  have eCnt : (DMA_CH_CNT_count c).off = 0xE0118 + 32 * c := rfl
  have eDone : DMA_DONE_done.off = 0xE0004 := rfl
  have eErr : DMA_ERR_halted.off = 0xE0008 := rfl
  -- The head and the result.
  obtain ⟨hAhead, hAres, hAhalt⟩ := headMoved_f c h hr s1
  have hA {o : Nat} (h1 : o ≠ (DMA_CH_HEAD_head c).off) (h2 : o ≠ (DMA_CH_STAT_result c).off) := rd_headMoved h1 h2 h r s1
  have hAup : pd24Up (headMoved c h r s1) = true := by
    unfold headMoved
    rw [pd24Up_setF _ (by rw [eHead]; simp only [GOV_DOM_STAT_on]; omega),
      pd24Up_setF _ (by rw [eStat]; simp only [GOV_DOM_STAT_on]; omega), hkept.pd24, hup]
  generalize headMoved c h r s1 = A at hAhead hAres hAhalt hA hAup ⊢
  -- The done mark.
  obtain ⟨hBset, hBkeep⟩ := doneMarked_done hc (d.flags.testBit 4) A
  have hB {o : Nat} (ho : o ≠ DMA_DONE_done.off) := rd_doneMarked ho c (d.flags.testBit 4) A
  have hBup := (doneMarked_pd24 c (d.flags.testBit 4) A).trans hAup
  generalize doneMarked c (d.flags.testBit 4) A = B at hBset hBkeep hB hBup ⊢
  -- The count.
  rw [dmaCount_up hBup]
  have hCcnt : f (inc (DMA_CH_CNT_count c) B) (DMA_CH_CNT_count c) = (f B (DMA_CH_CNT_count c) + 1) % 2 ^ 32 :=
    f_setF_same B (DMA_CH_CNT_count c) _ (Nat.le_of_ble_eq_true rfl)
  have hC {o : Nat} (ho : o ≠ (DMA_CH_CNT_count c).off) : rd (inc (DMA_CH_CNT_count c) B) o = rd B o := rd_setF_other B _ _ ho
  generalize inc (DMA_CH_CNT_count c) B = C at hCcnt hC ⊢
  -- The halt.
  obtain ⟨hDres, hDset, hDkeep⟩ := haltedOn_f hc r C
  have hD {o : Nat} (h1 : o ≠ DMA_ERR_halted.off) (h2 : o ≠ (DMA_CH_STAT_halted c).off) := rd_haltedOn h1 h2 r C
  generalize haltedOn c r C = D at hDres hDset hDkeep hD ⊢
  have hstat {x : Fld} (hx : x.off = 0xE0114 + 32 * c) : f C x = f A x :=
    (f_rd (hC (by omega))).trans (f_rd (hB (by omega)))
  have hcnt : f B (DMA_CH_CNT_count c) = f s (DMA_CH_CNT_count c) :=
    (f_rd (hB (by omega))).trans ((f_rd (hA (by omega) (by omega))).trans (hkept.f_eq _ (.inr (by omega))))
  have hdone : f A DMA_DONE_done = f s DMA_DONE_done :=
    (f_rd (hA (by omega) (by omega))).trans (hkept.f_eq _ dmaOwn_done)
  have hdoneD : f D DMA_DONE_done = f B DMA_DONE_done := (f_rd (hD (by omega) (by omega))).trans (f_rd (hC (by omega)))
  refine ⟨?_, fun hne => ?_, fun h0 => ?_, ?_, ?_, fun hb => ?_, fun hb => ?_⟩
  · exact hDres.trans ((hstat rfl).trans hAres)
  · obtain ⟨hhalt, herr⟩ := hDset hne
    exact ⟨by unfold fb; rw [hhalt]; rfl, herr⟩
  · have hhalt : f D (DMA_CH_STAT_halted c) = f s (DMA_CH_STAT_halted c) :=
      (hDkeep h0).trans ((hstat rfl).trans (hAhalt.trans (hkept.f_eq _ (.inr (by omega)))))
    unfold fb; rw [hhalt]; exact hrun
  · have hhead : f D (DMA_CH_HEAD_head c) = f A (DMA_CH_HEAD_head c) :=
      (f_rd (hD (by omega) (by omega))).trans ((f_rd (hC (by omega))).trans (f_rd (hB (by omega))))
    rw [hhead, hAhead, hh]
  · have hcntD : f D (DMA_CH_CNT_count c) = f C (DMA_CH_CNT_count c) := f_rd (hD (by omega) (by omega))
    rw [hcntD, hCcnt, hcnt]
  · rw [hdoneD]; exact hBset hb
  · rw [hdoneD, hBkeep hb, hdone]

/-- The completion shows the result, moves the head, counts and marks, whatever was moved before it. -/
theorem descDone_ends {c r : Nat} (hc : c < 16) (hr : r < 8) {s v : State} (hkept : DmaKept s v)
    (hup : pd24Up s = true) (hrun : fb s (DMA_CH_STAT_halted c) = false) (a : Nat) (d : Desc) (tile : Nat) :
    DescEnds c d s (descDone c a d r tile v) r := by
  rw [descDone_eq, hkept.f_eq _ (dmaOwn_head hc), hkept.f_eq _ (dmaOwn_cfg hc)]
  exact completion_ends hc hr
    ((hkept.trans (busPut_dmaKept (a + 0xE) [1 + 2 * r] v)).trans (busPut_dmaKept (a + 0x14) (leBytes 4 tile) _)) hup hrun d rfl

/-- Settling keeps how a descriptor ended. -/
theorem DescEnds.settle {c r : Nat} {d : Desc} {s t : State} (hc : c < 16) (s0 : State) (h : DescEnds c d s t r) :
    DescEnds c d s (Machine.settle s0 t) r := by
  have keep {x : Fld} (hx : x.off < 0xEF800) : f (Machine.settle s0 t) x = f t x :=
    f_settle s0 t (by simp only [DMA_MSIX_PEND_pending]; omega)
  have eres := keep (x := DMA_CH_STAT_result c) (by simp only [DMA_CH_STAT_result]; omega)
  have ehalt := keep (x := DMA_CH_STAT_halted c) (by simp only [DMA_CH_STAT_halted]; omega)
  have ehead := keep (x := DMA_CH_HEAD_head c) (by simp only [DMA_CH_HEAD_head]; omega)
  have ecnt := keep (x := DMA_CH_CNT_count c) (by simp only [DMA_CH_CNT_count]; omega)
  have eerr := keep (x := DMA_ERR_halted) (by decide)
  have edone := keep (x := DMA_DONE_done) (by decide)
  unfold DescEnds fb at h ⊢
  rw [eres, ehalt, ehead, ecnt, eerr, edone]
  exact h

end Sys2Proof.Machine
end

section
/-! Stores of master DMA (R442, R492): what a store at a supervisor address changes and what it leaves, so that the paths of the next
access are those of the last. -/
namespace Sys2Proof.Machine
open Sys2Proof.Config

/-- The registers a store may write: the marks of the CAL block and the two counts of the matrix. -/
abbrev storeRegs : List Nat := [CAL_STAT_active.off, BUS_CNT_UNASSIGNED_count.off, BUS_CNT_ERR_count.off]
/-- Bytes of the memories, registers and the vectors' messages alone differ; of the registers those a store may write, and CAL_STAT
still says the same about the active calibration set. -/
structure Stored (s t : State) : Prop where
  same : ∃ d p m r h x y, t = { s with dram := d, spm := p, sram := m, regs := r, hwSet := h, msix := x, msixDue := y }
  regs : RegsKept storeRegs s t
  active : calActive t = calActive s

namespace Stored
variable {s t u : State}

protected theorem refl (s : State) : Stored s s := ⟨⟨_, _, _, _, _, _, _, rfl⟩, fun _ _ _ => rfl, rfl⟩
protected theorem trans (h : Stored s t) (k : Stored t u) : Stored s u := by
  obtain ⟨d, p, m, r, x, y, z, e⟩ := h.same
  obtain ⟨d', p', m', r', x', y', z', e'⟩ := k.same
  exact ⟨⟨d', p', m', r', x', y', z', by rw [e', e]⟩, fun o ho hp => (k.regs o ho hp).trans (h.regs o ho hp), k.active.trans h.active⟩
theorem ite {c : Prop} [Decidable c] (h : Stored s t) (k : Stored s u) : Stored s (if c then t else u) := by
  split
  · exact h
  · exact k
theorem of_dramOnly (h : DramOnly s t) : Stored s t := by
  obtain ⟨d, r, m, x, y, e⟩ := h.same
  exact ⟨⟨d, s.spm, s.sram, r, y, m, x, e⟩, fun o ho hp => h.regs o (fun hl =>
    ho (List.mem_cons.2 (.inl (List.mem_singleton.1 hl)))) hp, h.active⟩
theorem spm (p : List Host.Cell) (s : State) : Stored s { s with spm := p } := ⟨⟨_, _, _, _, _, _, _, rfl⟩, fun _ _ _ => rfl, rfl⟩
theorem sram (m : List Host.Cell) (s : State) : Stored s { s with sram := m } := ⟨⟨_, _, _, _, _, _, _, rfl⟩, fun _ _ _ => rfl, rfl⟩
theorem count {x : Fld} (v : Nat) (hx : x.off ∈ storeRegs) (hc : x.off ≠ CAL_STAT_active_valid.off) (s : State) : Stored s (setF x v s) :=
  ⟨⟨_, _, _, _, _, _, _, rfl⟩, regsKept_setF v (regsKept_refl _ s) hx, by unfold calActive fb; rw [f_setF_off s x _ v hc.symm]⟩
theorem f_eq (h : Stored s t) {x : Fld} (hx : x.off ∉ storeRegs) (hp : x.off ≠ DMA_MSIX_PEND_pending.off) : f t x = f s x :=
  f_rd (h.regs _ hx hp)
theorem domOn (h : Stored s t) (d : Nat) : Machine.domOn t d = Machine.domOn s d := by
  unfold Machine.domOn; rw [h.f_eq (by decide) (by decide)]
theorem dieOff (h : Stored s t) (d : Nat) : Machine.dieOff t d = Machine.dieOff s d := by
  unfold Machine.dieOff fb
  split
  · rw [h.f_eq (by decide) (by decide)]
  · rw [h.f_eq (by decide) (by decide)]
theorem targetOf (h : Stored s t) (a : Nat) : Machine.targetOf t a = Machine.targetOf s a := by
  unfold Machine.targetOf fb; rw [h.f_eq (by decide) (by decide)]
theorem dmaReach (h : Stored s t) (a n : Nat) : Machine.dmaReach t a n = Machine.dmaReach s a n := by
  unfold Machine.dmaReach; rw [h.targetOf, h.targetOf]
theorem dmaGood (h : Stored s t) (a n : Nat) : Machine.dmaGood t a n = Machine.dmaGood s a n := by
  unfold Machine.dmaGood; rw [h.targetOf]; simp only [h.domOn, h.dieOff]
theorem descOk (h : Stored s t) (d : Desc) : Machine.descOk t d = Machine.descOk s d := by
  unfold Machine.descOk; rw [h.dmaReach, h.dmaReach]
theorem kept (h : Stored s t) : t.clk = s.clk ∧ t.present = s.present ∧ t.bpmRing = s.bpmRing := by
  obtain ⟨d, p, m, r, x, y, z, e⟩ := h.same; rw [e]; exact ⟨rfl, rfl, rfl⟩
end Stored

/-! ### An access and its count -/

theorem countUnassigned_stored (s : State) : Stored s (countUnassigned s) := .count _ (by decide) (by decide) s
theorem hwErr_stored (s : State) : Stored s (hwErr s) := .count _ (by decide) (by decide) s
theorem countUnassigned_err (s : State) : f (countUnassigned s) BUS_CNT_ERR_count = f s BUS_CNT_ERR_count :=
  f_setF_off s _ _ _ (by decide)
theorem hwErr_err (s : State) : f (hwErr s) BUS_CNT_ERR_count = (f s BUS_CNT_ERR_count + 1) % 2 ^ 32 :=
  f_setF_same s BUS_CNT_ERR_count _ (by decide)

/-- An access at the address meets no offline die. -/
def Online (s : State) (a : Nat) : Prop := ∀ x, targetOf s a = .dram x → domOn s 25 = true → dieOff s (dieOf x) = false
theorem Stored.online {s t : State} (h : Stored s t) {a : Nat} (k : Online s a) : Online t a := by
  intro x hx hd
  rw [h.targetOf] at hx
  rw [h.domOn] at hd
  rw [h.dieOff]
  exact k x hx hd

/-- What an access of `n` bytes at the address leaves: the bytes of DRAM outside its range, and the count of ERR where it meets no
offline die. -/
structure Reached (a n : Nat) (s t : State) : Prop where
  stored : Stored s t
  out : ∀ b, b < a ∨ a + n ≤ b → memGet t.dram b = memGet s.dram b
  err : Online s a → f t BUS_CNT_ERR_count = f s BUS_CNT_ERR_count

namespace Reached
protected theorem refl (a n : Nat) (s : State) : Reached a n s s := ⟨.refl s, fun _ _ => rfl, fun _ => rfl⟩
theorem unassigned (a n : Nat) (s : State) : Reached a n s (countUnassigned s) :=
  ⟨countUnassigned_stored s, fun _ _ => rfl, fun _ => countUnassigned_err s⟩
theorem ite {a n : Nat} {s t u : State} {c : Prop} [Decidable c] (h : Reached a n s t) (k : Reached a n s u) :
    Reached a n s (if c then t else u) := by
  split
  · exact h
  · exact k
end Reached

theorem busNote_reached (a n : Nat) (s : State) : Reached a n s (busNote a s) := by
  have hnone := Reached.refl a n s
  have hstray := Reached.unassigned a n s
  unfold busNote
  split
  · exact .ite hnone hstray
  next x hx =>
    split
    · exact hstray
    next hdom =>
      split
      next hdie =>
        refine ⟨hwErr_stored s, fun _ _ => rfl, fun ho => absurd (ho x hx (by simpa using hdom)) ?_⟩
        rw [hdie]; exact Bool.noConfusion
      · exact hnone
  · exact .ite hnone hstray
  · exact hstray

/-! ### A store -/

theorem spmPut_stored (a : Nat) (l : List Nat) (s : State) : Stored s (spmPut a l s) :=
  forEach_keeps (Stored s) _ _ (fun _ _ _ ht => .ite (ht.trans (.spm _ _)) ht) s (.refl s)
theorem spmPut_dram (a : Nat) (l : List Nat) (s : State) : (spmPut a l s).dram = s.dram :=
  forEach_same (fun t => t.dram) _ _ (fun e _ t => by
    show (if domOn t (spmDom e.2) then { t with spm := memSet t.spm e.2 (BitVec.ofNat 8 e.1) } else t).dram = t.dram
    split <;> rfl) s
theorem spmPut_regs (a : Nat) (l : List Nat) (s : State) : (spmPut a l s).regs = s.regs :=
  forEach_same (fun t => t.regs) _ _ (fun e _ t => by
    show (if domOn t (spmDom e.2) then { t with spm := memSet t.spm e.2 (BitVec.ofNat 8 e.1) } else t).regs = t.regs
    split <;> rfl) s
theorem dramPut_reached (m : Nat) (l : List Nat) (a : Nat) (s : State) : Reached a l.length s (dramPut m a l s) :=
  ⟨.of_dramOnly (dramPut_dramOnly m l a s), fun _ hb => memGet_dramPut_out m l a s hb, fun _ =>
    f_rd ((dramPut_dramOnly m l a s).regs _ (by decide) (by decide))⟩

theorem targetOf_eq_dram {s : State} {a x : Nat} (h : targetOf s a = .dram x) : x = a := by
  unfold targetOf targetAt at h
  repeat' split at h
  all_goals cases h
  rfl

theorem busPut_reached (a : Nat) (l : List Nat) (s : State) : Reached a l.length s (busPut a l s) := by
  have hnote := busNote_reached a l.length s
  unfold busPut
  split
  · exact ⟨hnote.stored.trans (spmPut_stored _ l _), fun b hb => by rw [spmPut_dram]; exact hnote.out b hb,
      fun ho => (f_congr (spmPut_regs _ l _) _).trans (hnote.err ho)⟩
  next x hx =>
    rw [targetOf_eq_dram hx]
    exact .ite hnote (.ite (.unassigned a _ s) (dramPut_reached 5 l a s))
  · split
    · exact .ite ⟨.sram _ s, fun _ _ => rfl, fun _ => rfl⟩ hnote
    · exact hnote
  · exact hnote
/-- A store to DRAM on a die that is online, outside the free rings and with no calibration set active, stores its bytes. -/
theorem memGet_busPut_in {a : Nat} {l : List Nat} {s : State} (ht : targetOf s a = .dram a) (hdom : domOn s 25 = true)
    (hdie : dieOff s (dieOf a) = false) (hcal : calActive s = false) (hfree : ∀ i < l.length, inFreeRing (a + i) = false) (i : Nat)
    (hi : i < l.length) : memGet (busPut a l s).dram (a + i) = BitVec.ofNat 8 l[i] := by
  have hfirst := hfree 0 (Nat.zero_lt_of_lt hi)
  rw [Nat.add_zero] at hfirst
  have hput : busPut a l s = dramPut 5 a l s := by
    unfold busPut
    rw [ht]
    simp only
    rw [hdom, hdie, hfirst]; rfl
  rw [hput]
  exact memGet_dramPut_in 5 l a hcal hfree i hi

/-! ### The completion -/

/-- The marks of a completion change neither the memories nor a register outside the DMA block. -/
structure Marked (s t : State) : Prop where
  same : OnlyMsix s t
  regs : ∀ o, ¬ (0xE0000 ≤ o ∧ o < 0xEF000) → rd t o = rd s o

namespace Marked
variable {s t : State}
theorem setF {x : Fld} (v : Nat) (h : Marked s t) (hx : 0xE0000 ≤ x.off ∧ x.off < 0xEF000) : Marked s (setF x v t) :=
  ⟨onlyMsix_setF x v h.same, fun o ho => (rd_setF_other t x v (fun e : o = x.off => ho (e ▸ hx))).trans (h.regs o ho)⟩
theorem ite {u : State} {c : Prop} [Decidable c] (h : Marked s t) (k : Marked s u) : Marked s (if c then t else u) := by
  split
  · exact h
  · exact k
end Marked

theorem completion_marked {c : Nat} (hc : c < 16) (h r : Nat) (b : Bool) (s : State) :
    Marked s (haltedOn c r (dmaCount c (doneMarked c b (headMoved c h r s)))) := by
  have own {k : Nat} (hk : k < 32) : 0xE0000 ≤ 0xE0100 + k + 32 * c ∧ 0xE0100 + k + 32 * c < 0xEF000 := by omega
  have hhead : Marked s (headMoved c h r s) :=
    .setF _ (.setF _ ⟨onlyMsix_refl s, fun _ _ => rfl⟩ (own (k := 0x14) (by decide))) (own (k := 8) (by decide))
  have hdone : Marked s (doneMarked c b (headMoved c h r s)) := .ite (hhead.setF _ (by decide)) hhead
  have hcount : Marked s (dmaCount c (doneMarked c b (headMoved c h r s))) := .ite (hdone.setF _ (own (k := 0x18) (by decide))) hdone
  exact .ite hcount ((hcount.setF _ (own (k := 0x14) (by decide))).setF _ (by decide))

/-- What a descriptor's completion leaves of the state in which its moves ended: the two stores of its status aside. -/
theorem descDone_frame {c : Nat} (hc : c < 16) (a : Nat) (d : Desc) (r tile : Nat) (s0 v : State) :
    let t := settle s0 (descDone c a d r tile v)
    t.clk = v.clk ∧ t.present = v.present ∧
    (∀ b, b < a + 0xE ∨ a + 0x18 ≤ b → memGet t.dram b = memGet v.dram b) ∧
    ((∀ k < 0x20, Online v (a + k)) → f t BUS_CNT_ERR_count = f v BUS_CNT_ERR_count) ∧ (∀ n, dieOff t n = dieOff v n) := by
  intro t
  have h1 := busPut_reached (a + 0xE) [1 + 2 * r] v
  have h2 := busPut_reached (a + 0x14) (leBytes 4 tile) (busPut (a + 0xE) [1 + 2 * r] v)
  have hm := completion_marked hc ((f v (DMA_CH_HEAD_head c) + 1) % max 1 (f v (DMA_CH_CFG_entries c))) r (d.flags.testBit 4)
    (busPut (a + 0x14) (leBytes 4 tile) (busPut (a + 0xE) [1 + 2 * r] v))
  rw [← descDone_eq] at hm
  have hlen : (leBytes 4 tile).length = 4 := List.length_map _ |>.trans List.length_range
  rw [hlen] at h2
  have ht : t = settle s0 (descDone c a d r tile v) := rfl
  clear_value t
  subst ht
  generalize busPut (a + 0xE) [1 + 2 * r] v = v1 at h1 h2 hm
  generalize busPut (a + 0x14) (leBytes 4 tile) v1 = v2 at h2 hm
  generalize descDone c a d r tile v = w at hm ⊢
  obtain ⟨hs12, hp12, -⟩ := (h1.stored.trans h2.stored).kept
  have hw : w.clk = v2.clk ∧ w.present = v2.present ∧ w.dram = v2.dram := by
    obtain ⟨r, m, x, y, e⟩ := hm.same; rw [e]; exact ⟨rfl, rfl, rfl⟩
  obtain ⟨hclk, hpresent, hdram⟩ := hw
  refine ⟨?_, ?_, fun b hb => ?_, fun ho => ?_, fun n => ?_⟩
  · rw [settle_clk, hclk, hs12]
  · rw [settle_present, hpresent, hp12]
  · rw [settle_dram, hdram, h2.out b (by omega), h1.out b (by rw [List.length_singleton]; omega)]
  · have herr : f w BUS_CNT_ERR_count = f v2 BUS_CNT_ERR_count := f_rd (hm.regs _ (by decide))
    rw [f_settle _ _ (by decide), herr, h2.err (h1.stored.online (ho 0x14 (by decide))), h1.err (ho 0xE (by decide))]
  · rw [← (h1.stored.trans h2.stored).dieOff n]
    have hoff : (if n = 0 then DRC_STAT_d0_off else DRC_STAT_d1_off).off = 0xB0004 := by split <;> rfl
    unfold dieOff fb
    rw [f_settle _ _ (by rw [hoff]; decide), f_rd (hm.regs _ (by rw [hoff]; decide))]

end Sys2Proof.Machine
end

section
/-! What a descriptor moves (R492): plain copies and fills up to the first offline die, and where the bytes lie then. -/
namespace Sys2Proof.Machine
open Sys2Proof.Config

/-! ### Reading and writing the memories -/

/-- The address does not lie in a register. -/
def InMem (s : State) (a : Nat) : Prop := ∀ x, targetOf s a ≠ .reg x

theorem Stored.inMem {s t : State} (h : Stored s t) {a : Nat} (k : InMem s a) : InMem t a := fun x => by rw [h.targetOf]; exact k x
theorem dmaWrite_mem {s : State} {a : Nat} (h : InMem s a) (l : List Nat) : dmaWrite a l s = busPut a l s := by
  unfold dmaWrite
  split
  next off heq => exact absurd heq (h off)
  · rfl
theorem dmaRead_mem {s : State} {a : Nat} (h : InMem s a) (n : Nat) : dmaRead a n s = (busGet s a n, busNote a s) := by
  unfold dmaRead
  split
  next off heq => exact absurd heq (h off)
  · rfl
theorem inMem_of_dram {s : State} {a : Nat} (h : targetOf s a = .dram a) : InMem s a := fun x hx => by
  rw [h] at hx; exact Target.noConfusion hx
/-- Where a byte can be moved no offline die stands. -/
theorem online_of_good {s : State} {a n : Nat} (h : 0 < dmaGood s a n) : Online s a := by
  intro x hx hdom
  unfold dmaGood at h
  rw [hx] at h
  simp only [hdom, Bool.not_true, Bool.false_eq_true, if_false] at h
  by_contra hdie
  rw [Bool.not_eq_false] at hdie
  rw [if_pos hdie] at h
  exact Nat.lt_irrefl 0 h
theorem dmaGood_le (s : State) (a n : Nat) : dmaGood s a n ≤ n := by
  unfold dmaGood
  split
  · split
    · exact Nat.le_refl n
    · split
      · exact Nat.zero_le n
      · split
        · exact Nat.min_le_left _ _
        · exact Nat.le_refl n
  · exact Nat.le_refl n
/-- A range of DRAM whose ends lie on dies that are online is moved whole. -/
theorem dmaGood_whole {s : State} {a n : Nat} (ht : targetOf s a = .dram a) (hfirst : dieOff s (dieOf a) = false)
    (hlast : dieOff s (dieOf (a + n - 1)) = false) (hn : 0 < n) : dmaGood s a n = n := by
  unfold dmaGood
  rw [ht]
  simp only [hfirst, Bool.false_eq_true, if_false]
  split
  · rfl
  · split
    next h =>
      simp only [Bool.and_eq_true, decide_eq_true_eq] at h
      obtain ⟨hdie, hoff⟩ := h
      have hbelow : a + n - 1 < 0xC0000000 := by
        by_contra hge
        have hone : dieOf (a + n - 1) = 1 := if_neg hge
        rw [hone, hoff] at hlast
        exact Bool.noConfusion hlast
      exact Nat.min_eq_left (by omega)
    · rfl

/-- The bytes of DRAM outside the free rings, on a die that is online. -/
theorem busGet_dram {s : State} {a n : Nat} (ht : targetOf s a = .dram a) (hdom : domOn s 25 = true) (hdie : dieOff s (dieOf a) = false)
    (hfree : ∀ i < n, inFreeRing (a + i) = false) : busGet s a n = memList s.dram a n := by
  have htouch : ringTouch a n = false := by
    unfold ringTouch
    rw [List.any_eq_false]
    intro i hi
    rw [hfree i (List.mem_range.1 hi)]; exact Bool.false_ne_true
  have hdie' : dieOff s (if a < 0xC0000000 then 0 else 1) = false := hdie
  unfold busGet
  rw [ht]
  simp only [hdom, hdie, Bool.not_false, Bool.and_self, if_true]
  unfold dramList
  rw [hdom, hdie', htouch]; rfl
theorem length_memList (m : List Host.Cell) (a n : Nat) : (memList m a n).length = n := by
  unfold memList; rw [List.length_map, List.length_range]
theorem ofNat_memList {m : List Host.Cell} {a n i : Nat} {l : List Nat} (hl : l = (List.range n).map fun i => (memGet m (a + i)).toNat)
    (h : i < l.length) : BitVec.ofNat 8 l[i] = memGet m (a + i) := by
  subst hl
  rw [List.getElem_map, List.getElem_range, BitVec.ofNat_toNat, BitVec.setWidth_eq]

/-! ### A descriptor without checked reads -/

/-- How many bytes it moves. -/
def movable (d : Desc) (s : State) : Nat :=
  min (dmaGood s d.dst d.len) (if d.flags.testBit 3 then d.len else dmaGood s d.src d.len)
/-- The bytes of a fill. -/
def fillBytes (d : Desc) (n : Nat) : List Nat := (List.range n).map (fun i => d.pattern / 256 ^ (i % 4) % 256)
/-- The state in which `n` bytes are moved. -/
def movedState (d : Desc) (n : Nat) (s : State) : State :=
  if n = 0 then s
  else if d.flags.testBit 3 then dmaWrite d.dst (fillBytes d n) s
  else dmaWrite d.dst (dmaRead d.src n s).1 (dmaRead d.src n s).2

theorem descRun_bad {d : Desc} {s : State} (h : descOk s d = false) : descRun d s = (4, 0, s) := by
  unfold descRun; rw [h]; rfl
theorem descRun_plain {d : Desc} {s : State} (hok : descOk s d = true) (h : d.flags.testBit 2 = false ∨ d.flags.testBit 3 = true) :
    descRun d s = if movable d s < d.len then (1, 0, hwErr (movedState d (movable d s) s)) else (0, 0, movedState d (movable d s) s) := by
  have hno : (d.flags.testBit 2 && !d.flags.testBit 3) = false := by rcases h with h | h <;> rw [h] <;> simp
  unfold descRun
  rw [hok, hno]; rfl

theorem length_fillBytes (d : Desc) (n : Nat) : (fillBytes d n).length = n := by
  unfold fillBytes; rw [List.length_map, List.length_range]
theorem ofNat_fillBytes {d : Desc} {n i : Nat} {l : List Nat} (hl : l = (List.range n).map fun i => d.pattern / 256 ^ (i % 4) % 256)
    (h : i < l.length) : BitVec.ofNat 8 l[i] = BitVec.ofNat 8 (d.pattern / 256 ^ (i % 4)) := by
  subst hl
  rw [List.getElem_map, List.getElem_range, ofNat_byte_mod]

/-- Bytes that are moved in the memories meet no offline die: no ERR is counted for them. -/
theorem movedState_frame {d : Desc} {s : State} (hsrc : d.flags.testBit 3 = true ∨ InMem s d.src) (hdst : InMem s d.dst) :
    Stored s (movedState d (movable d s) s) ∧
      f (movedState d (movable d s) s) BUS_CNT_ERR_count = f s BUS_CNT_ERR_count := by
  unfold movedState
  split
  · exact ⟨.refl s, rfl⟩
  next hn =>
    have hpos : 0 < dmaGood s d.dst d.len := by unfold movable at hn; omega
    have hdstOn := online_of_good hpos
    split
    · have hput := busPut_reached d.dst (fillBytes d (movable d s)) s
      rw [dmaWrite_mem hdst]
      exact ⟨hput.stored, hput.err hdstOn⟩
    next hfill =>
      have hsrcOn : Online s d.src := by
        unfold movable at hn
        rw [if_neg hfill] at hn
        exact online_of_good (n := d.len) (by omega)
      have hread := busNote_reached d.src 0 s
      have hput := busPut_reached d.dst (busGet s d.src (movable d s)) (busNote d.src s)
      rw [dmaRead_mem (hsrc.resolve_left hfill)]
      simp only
      rw [dmaWrite_mem (hread.stored.inMem hdst)]
      exact ⟨hread.stored.trans hput.stored, (hput.err (hread.stored.online hdstOn)).trans (hread.err hsrcOn)⟩

/-- The bytes of a fill of DRAM, and those around them. -/
theorem movedState_fill {d : Desc} {n : Nat} {s : State} (hfill : d.flags.testBit 3 = true) (hn : 0 < n)
    (ht : targetOf s d.dst = .dram d.dst) (hdom : domOn s 25 = true) (hdie : dieOff s (dieOf d.dst) = false)
    (hcal : calActive s = false) (hfree : ∀ i < n, inFreeRing (d.dst + i) = false) :
    (∀ i < n, memGet (movedState d n s).dram (d.dst + i) = BitVec.ofNat 8 (d.pattern / 256 ^ (i % 4))) ∧
    ∀ b, b < d.dst ∨ d.dst + n ≤ b → memGet (movedState d n s).dram b = memGet s.dram b := by
  have hlen := length_fillBytes d n
  unfold movedState
  rw [if_neg (Nat.ne_of_gt hn), if_pos hfill, dmaWrite_mem (inMem_of_dram ht)]
  refine ⟨fun i hi => ?_, fun b hb => (busPut_reached d.dst _ s).out b (by rw [hlen]; exact hb)⟩
  exact (memGet_busPut_in ht hdom hdie hcal (by rw [hlen]; exact hfree) i (by rw [hlen]; exact hi)).trans
    (ofNat_fillBytes (n := n) rfl _)
/-- The bytes of a copy within DRAM, and those around them. -/
theorem movedState_copy {d : Desc} {n : Nat} {s : State} (hcopy : d.flags.testBit 3 = false) (hn : 0 < n)
    (ht : targetOf s d.dst = .dram d.dst) (ht' : targetOf s d.src = .dram d.src) (hdom : domOn s 25 = true)
    (hdie : dieOff s (dieOf d.dst) = false) (hdie' : dieOff s (dieOf d.src) = false)
    (hcal : calActive s = false) (hfree : ∀ i < n, inFreeRing (d.dst + i) = false) (hfree' : ∀ i < n, inFreeRing (d.src + i) = false) :
    (∀ i < n, memGet (movedState d n s).dram (d.dst + i) = memGet s.dram (d.src + i)) ∧
    ∀ b, b < d.dst ∨ d.dst + n ≤ b → memGet (movedState d n s).dram b = memGet s.dram b := by
  have hread : dmaRead d.src n s = (memList s.dram d.src n, s) := by
    have hnote : busNote d.src s = s := by
      unfold busNote
      rw [ht']
      simp only [hdom, hdie', Bool.not_true, Bool.false_eq_true, if_false]
    rw [dmaRead_mem (inMem_of_dram ht'), busGet_dram ht' hdom hdie' hfree', hnote]
  have hlen := length_memList s.dram d.src n
  unfold movedState
  rw [if_neg (Nat.ne_of_gt hn), hcopy, if_neg Bool.false_ne_true, hread]
  simp only
  rw [dmaWrite_mem (inMem_of_dram ht)]
  refine ⟨fun i hi => ?_, fun b hb => (busPut_reached d.dst _ s).out b (by rw [hlen]; exact hb)⟩
  exact (memGet_busPut_in ht hdom hdie hcal (by rw [hlen]; exact hfree) i (by rw [hlen]; exact hi)).trans
    (ofNat_memList (n := n) rfl _)

/-! ### The next descriptor of a channel -/

/-- The channel has work and may run it. -/
structure Works (s : State) (c : Nat) : Prop where
  live : masterLive s 5 = true
  enabled : fb s DMA_CTRL_enable = true
  running : fb s (DMA_CH_STAT_halted c) = false
  work : f s (DMA_CH_HEAD_head c) ≠ f s (DMA_CH_TAIL_tail c)
/-- Where the descriptor at the head lies. -/
def descAt (s : State) (c : Nat) : Nat := f s (DMA_CH_BASE_addr c) + 32 * f s (DMA_CH_HEAD_head c)
/-- The descriptor at the head. -/
def descHead (s : State) (c : Nat) : Desc := descOf (busGet s (descAt s c) 32)
/-- What the descriptor at the head moves. -/
def descMoves (s : State) (c : Nat) : Nat × Nat × State := descRun (descHead s c) (busNote (descAt s c) s)

theorem works_iff {s : State} {c : Nat} : (masterLive s 5 && fb s DMA_CTRL_enable && !fb s (DMA_CH_STAT_halted c) &&
    f s (DMA_CH_HEAD_head c) != f s (DMA_CH_TAIL_tail c)) = true ↔ Works s c := by
  simp only [Bool.and_eq_true, Bool.not_eq_true', bne_iff_ne]
  exact ⟨fun ⟨⟨⟨h1, h2⟩, h3⟩, h4⟩ => ⟨h1, h2, h3, h4⟩, fun ⟨h1, h2, h3, h4⟩ => ⟨⟨⟨h1, h2⟩, h3⟩, h4⟩⟩
theorem dmaNext_idle {s : State} {c : Nat} (h : ¬ Works s c) : dmaNext c s = s := if_neg (mt works_iff.1 h)
theorem dmaNext_works {s : State} {c : Nat} (h : Works s c) : dmaNext c s =
    descDone c (descAt s c) (descHead s c) (descMoves s c).1 (descMoves s c).2.1 (descMoves s c).2.2 := if_pos (works_iff.2 h)

theorem Works.up {s : State} {c : Nat} (h : Works s c) : pd24Up s = true := by
  have hlive := h.live
  unfold masterLive at hlive
  exact (Bool.and_eq_true _ _ ▸ hlive).2

/-- The descriptor of a working channel ends with the result of what it moves. -/
theorem dmaNext_ends {s : State} {c : Nat} (hc : c < 16) (h : Works s c) (s0 : State) :
    DescEnds c (descHead s c) s (settle s0 (dmaNext c s)) (descMoves s c).1 := by
  rw [dmaNext_works h]
  obtain ⟨hkept, hres⟩ := descRun_dmaKept (descHead s c) (busNote (descAt s c) s)
  exact (descDone_ends hc hres ((busNote_dmaKept _ s).trans hkept) h.up h.running _ _ _).settle hc s0

end Sys2Proof.Machine
end

section
/-! The descriptors of O59 without checked reads: ill-formed ones, those that meet an offline die, fills and copies. -/
namespace Sys2Proof.Machine
open Sys2Proof.Config

section
variable {s : State} {c : Nat} (hc : c < 16) (hw : Works s c) (s0 : State)

/-- What the fetch of the descriptor leaves. -/
theorem fetch_reached (s : State) (c : Nat) : Reached (descAt s c) 0 s (busNote (descAt s c) s) := busNote_reached _ 0 s
theorem fetch_dram (s : State) (c b : Nat) : memGet (busNote (descAt s c) s).dram b = memGet s.dram b :=
  (fetch_reached s c).out b (by omega)

theorem descMoves_bad (h : descOk s (descHead s c) = false) : descMoves s c = (4, 0, busNote (descAt s c) s) :=
  descRun_bad (by rw [(fetch_reached s c).stored.descOk]; exact h)

theorem Stored.movable {t u : State} (h : Stored t u) (d : Desc) : Machine.movable d u = Machine.movable d t := by
  unfold Machine.movable; rw [h.dmaGood, h.dmaGood]
/-- The state in which the bytes of a descriptor without checked reads are moved. -/
def descMoved (s : State) (c : Nat) : State := movedState (descHead s c) (movable (descHead s c) s) (busNote (descAt s c) s)
theorem descMoves_plain (hok : descOk s (descHead s c) = true)
    (h : (descHead s c).flags.testBit 2 = false ∨ (descHead s c).flags.testBit 3 = true) :
    descMoves s c = if movable (descHead s c) s < (descHead s c).len then (1, 0, hwErr (descMoved s c)) else (0, 0, descMoved s c) := by
  have hfetch := (fetch_reached s c).stored
  unfold descMoves
  rw [descRun_plain (by rw [hfetch.descOk]; exact hok) h, hfetch.movable]; rfl

include hc hw

/-- An ill-formed descriptor moves nothing. -/
theorem dmaNext_bad (h : descOk s (descHead s c) = false) :
    DescEnds c (descHead s c) s (settle s0 (dmaNext c s)) 4 ∧ (settle s0 (dmaNext c s)).clk = s.clk ∧
      (settle s0 (dmaNext c s)).present = s.present := by
  have hends := dmaNext_ends hc hw s0
  have hmoves := descMoves_bad h
  have hnext := dmaNext_works hw
  rw [hmoves] at hends hnext
  obtain ⟨hclk, hpresent, -⟩ := descDone_frame hc (descAt s c) (descHead s c) 4 0 s0 (busNote (descAt s c) s)
  obtain ⟨hclk', hpresent', -⟩ := (fetch_reached s c).stored.kept
  exact ⟨hends, by rw [hnext, hclk, hclk'], by rw [hnext, hpresent, hpresent']⟩

/-- The bytes of a store stand, with those around it, when the status of the descriptor is written elsewhere. -/
theorem dmaNext_bytes (h : (descMoves s c).2.2.dram = (descMoved s c).dram) {b : Nat} (hb : b < descAt s c + 0xE ∨ descAt s c + 0x18 ≤ b) :
    memGet (settle s0 (dmaNext c s)).dram b = memGet (descMoved s c).dram b := by
  obtain ⟨-, -, hout, -⟩ := descDone_frame hc (descAt s c) (descHead s c) (descMoves s c).1 (descMoves s c).2.1 s0 (descMoves s c).2.2
  rw [dmaNext_works hw, hout b hb, h]

variable (hok : descOk s (descHead s c) = true)
  (hplain : (descHead s c).flags.testBit 2 = false ∨ (descHead s c).flags.testBit 3 = true)
include hok hplain

/-- A descriptor that meets an offline die ends 1 and counts one ERR for it. -/
theorem dmaNext_short (hshort : movable (descHead s c) s < (descHead s c).len) :
    DescEnds c (descHead s c) s (settle s0 (dmaNext c s)) 1 ∧
    ((∀ k < 0x20, Online s (descAt s c + k)) → (descHead s c).flags.testBit 3 = true ∨ InMem s (descHead s c).src →
      InMem s (descHead s c).dst →
      f (settle s0 (dmaNext c s)) BUS_CNT_ERR_count = (f s BUS_CNT_ERR_count + 1) % 2 ^ 32) := by
  have hends := dmaNext_ends hc hw s0
  have hmoves := descMoves_plain hok hplain
  have hnext := dmaNext_works hw
  rw [if_pos hshort] at hmoves
  rw [hmoves] at hends hnext
  refine ⟨hends, fun hdesc hsrc hdst => ?_⟩
  have hfetch := fetch_reached s c
  have hmoved := movedState_frame (d := descHead s c) (s := busNote (descAt s c) s) (hsrc.imp_right hfetch.stored.inMem)
    (hfetch.stored.inMem hdst)
  rw [hfetch.stored.movable] at hmoved
  obtain ⟨hstored, herr⟩ := hmoved
  have hall := (hfetch.stored.trans hstored).trans (hwErr_stored (descMoved s c))
  obtain ⟨-, -, -, hdone, -⟩ := descDone_frame hc (descAt s c) (descHead s c) 1 0 s0 (hwErr (descMoved s c))
  rw [hnext, hdone fun k hk => hall.online (hdesc k hk), hwErr_err]
  exact congrArg (fun n => (n + 1) % 2 ^ 32) (herr.trans (hfetch.err (hdesc 0 (by decide))))

/-- One that meets none ends 0. -/
theorem dmaNext_whole (hwhole : movable (descHead s c) s = (descHead s c).len) :
    DescEnds c (descHead s c) s (settle s0 (dmaNext c s)) 0 ∧ descMoves s c = (0, 0, descMoved s c) := by
  have hends := dmaNext_ends hc hw s0
  have hmoves := descMoves_plain hok hplain
  rw [if_neg (by omega)] at hmoves
  rw [hmoves] at hends
  exact ⟨hends, hmoves⟩
end

end Sys2Proof.Machine
end

section
/-! What a checked read leaves of the paths to DRAM (R444 to R447), while the sources it raises are below SAFE: the map, the domains, the
active calibration set and the severities stand, so that the tile it returns can be written. -/
namespace Sys2Proof.Machine
open Sys2Proof.Config

/-! ### The severities stand -/

/-- Registers of the sources' settings. -/
def SrcCfg (o : Nat) : Prop := 0x20100 ≤ o ∧ o < 0x20200

theorem rd_logPut {w o : Nat} (ho : SrcCfg o) (n sev : Nat) (e en : Bool) (d : Nat) (s : State) :
    rd (logPut w n sev e en d s) o = rd s o := by
  have hoff {k : Nat} : o ≠ 0x21000 + k + 16 * w := by have := ho.2; omega
  unfold logPut setB
  simp only
  rw [rd_setF_other _ _ _ (hoff (k := 0xC)), rd_setF_other _ _ _ (hoff (k := 8)), rd_setF_other _ _ _ (hoff (k := 4)),
    rd_setF_other _ _ _ (hoff (k := 0)), rd_setF_other _ _ _ (hoff (k := 0)), rd_setF_other _ _ _ (hoff (k := 0)),
    rd_setF_other _ _ _ (hoff (k := 0))]
theorem rd_logTaken {o : Nat} (ho : SrcCfg o) (n : Nat) (s : State) : rd (logTaken n s) o = rd s o := by
  have hoff : o ≠ 0x20040 := by have := ho.1; omega
  unfold logTaken
  refine (rd_setF_other (if f s FLT_LOG_STAT_wptr = 255 then setF FLT_LOG_STAT_wrapped 1 s else s) FLT_LOG_STAT_wptr _ hoff).trans ?_
  split
  · exact rd_setF_other s _ _ hoff
  · rfl
theorem rd_logShift {o : Nat} (ho : SrcCfg o) (e : Nat) (s : State) : rd (logShift e s) o = rd s o := by
  refine forEach_same (fun t => rd t o) _ _ (fun x hx t => ?_) s
  have hoff : o ≠ (x (e % 256)).off := by
    have := ho.2
    simp only [List.mem_cons, List.not_mem_nil, or_false] at hx
    rcases hx with rfl | rfl | rfl | rfl <;> simp only [FLT_LOG0_source, FLT_LOG1_detail, FLT_LOG2_ns, FLT_LOG3_sec_low] <;> omega
  exact rd_setRaw_other t hoff _
theorem rd_logRaise {o : Nat} (ho : SrcCfg o) (n sev : Nat) (en : Bool) (d : Nat) (s : State) : rd (logRaise n sev en d s) o = rd s o := by
  unfold logRaise
  simp only
  rw [rd_logTaken ho, rd_logPut ho]
  exact forEach_same (fun t => rd t o) _ _ (fun i _ t => rd_logShift ho _ t) s
theorem startTimer_regs (n d : Nat) (s : State) : (startTimer n d s).regs = s.regs := by
  unfold startTimer; split <;> rfl
/-- A raise below SAFE of a source without a remedy leaves the sources' settings. -/
theorem rd_raise {n o : Nat} (hn : n < 48) (ho : SrcCfg o) (d : Nat) {s : State} (hs : sevOf s n < 4) (hr : hasRemedy n = false) :
    rd (raise n d s) o = rd s o := by
  have hlo := ho.1
  have hhi := ho.2
  unfold raise
  simp only
  split
  · rfl
  · have hcount : rd (inc (FLT_CNT_count n) { s with fltRaised := atPut s.fltRaised n (some s.clk.now) }) o = rd s o :=
      rd_setF_other { s with fltRaised := atPut s.fltRaised n (some s.clk.now) } (FLT_CNT_count n) _ (by simp only [FLT_CNT_count]; omega)
    generalize inc (FLT_CNT_count n) _ = s1 at hcount ⊢
    have hlog : rd (if loggedSoon n s1 = true then incSat FLT_LOG_STAT_merged s1
        else logRaise n (sevOf s n) (sevOf s n == 4 && !fb s FLT_STAT_self_fault && !inSafe s) d s1) o = rd s o := by
      split
      · exact (rd_setF_other s1 FLT_LOG_STAT_merged _ (by simp only [FLT_LOG_STAT_merged]; omega)).trans hcount
      · exact (rd_logRaise ho _ _ _ _ s1).trans hcount
    generalize (if loggedSoon n s1 = true then incSat FLT_LOG_STAT_merged s1
        else logRaise n (sevOf s n) (sevOf s n == 4 && !fb s FLT_STAT_self_fault && !inSafe s) d s1) = s2 at hlog ⊢
    split
    · exact hlog
    · unfold actSeverity
      simp only [remedy_eq hr]
      rw [if_neg (Nat.ne_of_lt hs)]
      have hpend : rd (if sevOf s n = 0 then s2 else setF (pendBit n) 1 s2) o = rd s o := by
        split
        · exact hlog
        · exact (rd_setF_other s2 (pendBit n) 1 (by simp only [pendBit, srcBit, FLT_PEND_LO_pending]; omega)).trans hlog
      split
      · exact (rd_congr (startTimer_regs _ _ _) o).trans hpend
      · exact hpend

/-! ### The paths stand -/

/-- The registers a checked read leaves: the map of addresses, the domains, the calibration set, the sources' settings. -/
def PathOwn (o : Nat) : Prop := o = BUS_REMAP_remap.off ∨ o = GOV_DOM_STAT_on.off ∨ o = CAL_STAT_active.off ∨ SrcCfg o
/-- They stand as they stood. -/
def PathKept (s t : State) : Prop := ∀ o, PathOwn o → rd t o = rd s o
/-- The sources a checked read raises are below SAFE. -/
def Mild (s : State) : Prop := ∀ n ∈ [16, 17, 25], sevOf s n < 4

namespace PathKept
variable {s t u : State}
protected theorem refl (s : State) : PathKept s s := fun _ _ => rfl
protected theorem trans (h : PathKept s t) (k : PathKept t u) : PathKept s u := fun o ho => (k o ho).trans (h o ho)
theorem of_regs (h : t.regs = s.regs) : PathKept s t := fun o _ => rd_congr h o
theorem setF {x : Fld} (v : Nat) (h : PathKept s t) (hx : 0xA0000 ≤ x.off ∧ x.off < 0xC0000) : PathKept s (setF x v t) :=
  h.trans fun o ho => rd_setF_other t x v (by
    simp only [PathOwn, SrcCfg, BUS_REMAP_remap, GOV_DOM_STAT_on, CAL_STAT_active] at ho
    rintro rfl; omega)
theorem ite {c : Prop} [Decidable c] (h : PathKept s t) (k : PathKept s u) : PathKept s (if c then t else u) := by
  split
  · exact h
  · exact k
theorem mild (h : PathKept s t) (k : Mild s) : Mild t := by
  intro n hn
  have hlt : n < 48 := by simp only [List.mem_cons, List.not_mem_nil, or_false] at hn; omega
  have hcfg : f t (FLT_SRC_CFG_severity n) = f s (FLT_SRC_CFG_severity n) :=
    f_rd (h _ (.inr (.inr (.inr (by simp only [SrcCfg, FLT_SRC_CFG_severity]; omega)))))
  unfold sevOf
  rw [hcfg]
  exact k n hn
theorem targetOf (h : PathKept s t) (a : Nat) : Machine.targetOf t a = Machine.targetOf s a := by
  unfold Machine.targetOf fb; rw [f_rd (h _ (.inl rfl))]
theorem domOn (h : PathKept s t) (d : Nat) : Machine.domOn t d = Machine.domOn s d := by
  unfold Machine.domOn; rw [f_rd (h _ (.inr (.inl rfl)))]
theorem calActive (h : PathKept s t) : Machine.calActive t = Machine.calActive s := by
  unfold Machine.calActive fb; rw [f_rd (x := CAL_STAT_active_valid) (h _ (.inr (.inr (.inl rfl))))]
end PathKept

theorem raise_pathKept {n : Nat} (hn : n ∈ [16, 17, 25]) (d : Nat) {s : State} (hm : Mild s) : PathKept s (raise n d s) := by
  have hs := hm n hn
  have hr : hasRemedy n = false ∧ n < 48 := by
    simp only [List.mem_cons, List.not_mem_nil, or_false] at hn
    rcases hn with rfl | rfl | rfl <;> decide
  intro o ho
  by_cases hcfg : SrcCfg o
  · exact rd_raise hr.2 hcfg d hs hr.1
  · refine (raise_onlyFlt hr.2 hs hr.1).2 o ?_
    simp only [PathOwn, SrcCfg, BUS_REMAP_remap, GOV_DOM_STAT_on, CAL_STAT_active] at ho hcfg
    omega

/-! ### A checked read -/

theorem poolNote_pathKept {p : Nat} (hp : p < 4) (s : State) : PathKept s (poolNote p s) := by
  have hoff : 0xA0000 ≤ 0xA0100 + 16 * p ∧ 0xA0100 + 16 * p < 0xC0000 := by omega
  have hfree : PathKept s (setF (BPM_POOL_FREE_low_water p) _ (setF (BPM_POOL_FREE_free p) (poolFree s p) s)) :=
    .setF (min (f s (BPM_POOL_FREE_low_water p)) (poolFree s p)) (.setF _ (.refl s) hoff) hoff
  unfold poolNote onlyIf
  exact .ite (hfree.setF _ (by decide)) hfree
theorem dieFail_pathKept (d : Nat) {s : State} (hm : Mild s) : PathKept s (dieFail d s) := by
  have hbpm : 0xA0000 ≤ (if d = 0 then BPM_STAT_d0_off else BPM_STAT_d1_off).off ∧
      (if d = 0 then BPM_STAT_d0_off else BPM_STAT_d1_off).off < 0xC0000 := by split <;> decide
  have hdrc : 0xA0000 ≤ (if d = 0 then DRC_STAT_d0_off else DRC_STAT_d1_off).off ∧
      (if d = 0 then DRC_STAT_d0_off else DRC_STAT_d1_off).off < 0xC0000 := by split <;> decide
  unfold dieFail
  refine .ite (.refl s) ?_
  simp only
  generalize hpools : forEach [0, 1, 2, 3] _ _ = t
  have ht : PathKept s t := by
    rw [← hpools]
    refine forEach_keeps (PathKept s) _ _ (fun p hp u hu => ?_) _ (.setF 1 (.setF 1 (.refl s) hdrc) hbpm)
    have hlt : p < 4 := by simp only [List.mem_cons, List.not_mem_nil, or_false] at hp; omega
    exact hu.trans (.trans (.of_regs (by rfl)) (poolNote_pathKept hlt _))
  exact ht.trans (raise_pathKept (by decide) _ (ht.mild hm))
theorem noteCrc_pathKept {d : Nat} (hd : d < 2) (a : Nat) (o : Bool) {s : State} (hm : Mild s) : PathKept s (noteCrc d a o s) := by
  have hcount : PathKept s (inc (DRC_CNT_CRC_count d) s) := (PathKept.refl s).setF _ (by simp only [DRC_CNT_CRC_count]; omega)
  unfold noteCrc
  simp only
  generalize inc (DRC_CNT_CRC_count d) s = s0 at hcount ⊢
  have hm0 := hcount.mild hm
  refine .ite (.ite ?_ ?_) hcount
  · refine hcount.trans (.trans (.of_regs (by rfl)) (dieFail_pathKept d (PathKept.mild (.of_regs (by rfl)) hm0)))
  · exact hcount.trans (.of_regs (by rfl))
theorem repairTile_pathKept (a c : Nat) (s : State) : PathKept s (repairTile a c s) := by
  unfold repairTile
  exact .ite (.setF _ (.of_regs (by rfl)) (by decide)) (.refl s)
theorem raiseTile_pathKept {n : Nat} (hn : n ∈ [16, 17, 25]) (w : Nat) {s : State} (hm : Mild s) : PathKept s (raiseTile n w s) :=
  .ite (raise_pathKept hn w hm) (.refl s)
theorem checkedNote_pathKept (a : Nat) {s : State} (hm : Mild s) : PathKept s (checkedNote a s) := by
  have hcount : PathKept s (inc DRC_CNT_CHECKED_count s) := (PathKept.refl s).setF _ (by decide)
  unfold checkedNote
  simp only
  generalize inc DRC_CNT_CHECKED_count s = s0 at hcount ⊢
  have hbad : PathKept s (setF DRC_LAST_TILE_addr a s0) := hcount.setF _ (by decide)
  have hnone : PathKept s (inc DRC_CNT_NOCOPY_count (setF DRC_LAST_TILE_addr a s0)) := hbad.setF _ (by decide)
  generalize setF DRC_LAST_TILE_addr a s0 = s1 at hbad hnone ⊢
  generalize inc DRC_CNT_NOCOPY_count s1 = s2 at hnone ⊢
  have hcrc {t : State} (h : PathKept s t) {d : Nat} (hd : d < 2) (o : Bool) : PathKept s (noteCrc d a o t) :=
    h.trans (noteCrc_pathKept hd a o (h.mild hm))
  have hraise {t : State} (h : PathKept s t) (w : Nat) : PathKept s (raiseTile 16 w t) :=
    h.trans (raiseTile_pathKept (by decide) w (h.mild hm))
  split
  · exact hnone
  · exact .ite hbad (hraise (hcrc hnone (by decide) _) _)
  · exact .ite hbad (hraise (hcrc hnone (by decide) _) _)
  · split
    · split
      · have hgen := hbad.setF (x := DRC_CNT_GEN_count) (f s1 DRC_CNT_GEN_count + 1) (by decide)
        exact hgen.trans (raiseTile_pathKept (by decide) _ (hgen.mild hm))
      · exact .ite hcount (hbad.setF _ (by decide))
    · exact hraise (hcrc (hbad.trans (repairTile_pathKept _ _ _)) (by decide) _) _
    · exact hraise (hcrc (hbad.trans (repairTile_pathKept _ _ _)) (by decide) _) _
    · exact hraise (hcrc (hcrc hnone (by decide) _) (by decide) _) _

end Sys2Proof.Machine
end

section
/-! A checked copy of one tile (R444, R492): the result follows the checked read, and the tile it returns lies at the destination. -/
namespace Sys2Proof.Machine
open Sys2Proof.Config

/-! ### What a checked read returns -/

section
variable {s t : State} (hdom : domOn t 25 = domOn s 25) (hdie : ∀ d, dieOff t d = dieOff s d) (hdram : t.dram = s.dram)
include hdom hdie hdram

theorem dramRead_congr (a n : Nat) : dramRead t a n = dramRead s a n := by
  unfold dramRead; rw [hdom, hdie, hdram]
variable (hring : t.bpmRing = s.bpmRing)
include hring
theorem dramList_congr (a n : Nat) : dramList t a n = dramList s a n := by
  unfold dramList dramByte; rw [hdom, hdie, hdram, hring]
theorem checkTile_congr (a : Nat) : checkTile t a = checkTile s a := by
  have hpass (b : Nat) : tilePasses t b = tilePasses s b := by
    unfold tilePasses; rw [dramList_congr hdom hdie hdram hring, dramRead_congr hdom hdie hdram]
  have hgen (b : Nat) : tileGen t b = tileGen s b := dramRead_congr hdom hdie hdram _ _
  unfold checkTile
  simp only [hdie, hpass, hgen, dramList_congr hdom hdie hdram hring]
end

/-- The copy it returns lies on a die that is online. -/
theorem checkTile_online {s : State} {a k : Nat} (h : checkTile s a = .ok k) : k < 2 ∧ dieOff s k = false := by
  unfold checkTile at h
  split at h
  next => cases h
  next h0 h1 =>
    split at h
    · cases h; exact ⟨by decide, h1⟩
    · cases h
  next h0 h1 =>
    split at h
    · cases h; exact ⟨by decide, h0⟩
    · cases h
  next h0 h1 =>
    have hboth : k < 2 := by
      split at h
      · split at h
        · cases h; decide
        · split at h
          · cases h
          · split at h <;> cases h <;> decide
      · cases h; decide
      · cases h; decide
      · cases h
    refine ⟨hboth, ?_⟩
    interval_cases k
    · exact h0
    · exact h1
/-- Its bytes lie outside the free rings, and on its own die. -/
theorem copy_place {a k : Nat} (ha : isCopy0 a = true) (hk : k < 2) :
    dieOf (copyAddr a k) = k ∧ ∀ i < 1024, inFreeRing (copyAddr a k + i) = false := by
  unfold isCopy0 inDuplicated at ha
  simp only [Bool.and_eq_true, Bool.or_eq_true, decide_eq_true_eq] at ha
  obtain ⟨⟨⟨hlo, hhi⟩, htile⟩, hdup⟩ := ha
  refine ⟨?_, fun i hi => ?_⟩
  · unfold dieOf copyAddr
    interval_cases k
    · exact if_pos (by omega)
    · exact if_neg (by omega)
  · have hmod : (copyAddr a k + i) % 0x40000000 = (a + i) % 0x40000000 := by unfold copyAddr; omega
    unfold inFreeRing
    rw [hmod, Bool.and_eq_false_iff, decide_eq_false_iff_not, decide_eq_false_iff_not]
    omega

/-! ### One tile -/

theorem dmaTiles_ok {s : State} {src dst k : Nat} (h : checkTile s src = .ok k) (hgood : dmaGood s dst 1024 = 1024) :
    dmaTiles src dst 1 0 s = (0, 0, dmaWrite dst (dramList s (copyAddr src k) 1024) (checkedNote src s)) := by
  unfold dmaTiles
  simp only [Nat.mul_zero, Nat.add_zero, h, hgood, Nat.lt_irrefl, if_false]
  rfl
theorem dmaTiles_noCopy {s : State} {src : Nat} (dst : Nat) (h : checkTile s src = .noCopy) :
    dmaTiles src dst 1 0 s = (2, 0, checkedNote src s) := by
  unfold dmaTiles
  simp only [Nat.mul_zero, Nat.add_zero, h]
theorem dmaTiles_genConflict {s : State} {src : Nat} (dst : Nat) (h : checkTile s src = .genConflict) :
    dmaTiles src dst 1 0 s = (3, 0, checkedNote src s) := by
  unfold dmaTiles
  simp only [Nat.mul_zero, Nat.add_zero, h]
theorem descRun_tile {d : Desc} {s : State} (hok : descOk s d = true) (hchk : d.flags.testBit 2 = true) (hcopy : d.flags.testBit 3 = false)
    (hlen : d.len = 1024) : descRun d s = dmaTiles d.src d.dst 1 0 s := by
  unfold descRun
  rw [hok, hchk, hcopy, hlen]; rfl

/-- The tile lies at the destination, where the read left its die online. -/
theorem tile_written {s : State} {src dst k : Nat} (hmild : Mild s) (hcopy0 : isCopy0 src = true) (h : checkTile s src = .ok k)
    (hdom : domOn s 25 = true) (hcal : calActive s = false) (ht : targetOf s dst = .dram dst)
    (hfree : ∀ i < 1024, inFreeRing (dst + i) = false)
    (hdie : dieOff (dmaWrite dst (dramList s (copyAddr src k) 1024) (checkedNote src s)) (dieOf dst) = false) (i : Nat) (hi : i < 1024) :
    memGet (dmaWrite dst (dramList s (copyAddr src k) 1024) (checkedNote src s)).dram (dst + i) = memGet s.dram (copyAddr src k + i) := by
  obtain ⟨hk, hkdie⟩ := checkTile_online h
  obtain ⟨hkof, hkfree⟩ := copy_place hcopy0 hk
  have hpath := checkedNote_pathKept src hmild
  have htouch : ringTouch (copyAddr src k) 1024 = false := by
    unfold ringTouch
    rw [List.any_eq_false]
    intro j hj
    rw [hkfree j (List.mem_range.1 hj)]; exact Bool.false_ne_true
  have hbytes : dramList s (copyAddr src k) 1024 = memList s.dram (copyAddr src k) 1024 := by
    have hkdie' : dieOff s (if copyAddr src k < 0xC0000000 then 0 else 1) = false := by
      have hkof' : (if copyAddr src k < 0xC0000000 then 0 else 1) = k := hkof
      rw [hkof']; exact hkdie
    unfold dramList
    rw [hdom, hkdie', htouch]; rfl
  rw [hbytes] at hdie ⊢
  generalize checkedNote src s = v at hpath hdie ⊢
  have htv : targetOf v dst = .dram dst := (hpath.targetOf dst).trans ht
  have hlen := length_memList s.dram (copyAddr src k) 1024
  rw [dmaWrite_mem (inMem_of_dram htv)] at hdie ⊢
  rw [(busPut_reached dst _ v).stored.dieOff] at hdie
  exact (memGet_busPut_in htv ((hpath.domOn 25).trans hdom) hdie (hpath.calActive.trans hcal) (by rw [hlen]; exact hfree) i
    (by rw [hlen]; exact hi)).trans (ofNat_memList (n := 1024) rfl _)

/-! ### The descriptor -/

/-- A store leaves the severities. -/
theorem Stored.mild {s t : State} (h : Stored s t) (k : Mild s) : Mild t := by
  intro n hn
  have hlt : n < 48 := by simp only [List.mem_cons, List.not_mem_nil, or_false] at hn; omega
  have hcfg : f t (FLT_SRC_CFG_severity n) = f s (FLT_SRC_CFG_severity n) := by
    refine h.f_eq (fun hm => ?_) (by simp only [FLT_SRC_CFG_severity, DMA_MSIX_PEND_pending]; omega)
    simp only [List.mem_cons, List.not_mem_nil, or_false, FLT_SRC_CFG_severity, CAL_STAT_active, BUS_CNT_UNASSIGNED_count,
      BUS_CNT_ERR_count] at hm
    omega
  unfold sevOf
  rw [hcfg]
  exact k n hn

theorem busNote_dram (a : Nat) (s : State) : (busNote a s).dram = s.dram := by
  unfold busNote
  split
  · split <;> rfl
  · split
    · rfl
    · split <;> rfl
  · split <;> rfl
  · rfl
theorem fetch_checkTile (s : State) (c a : Nat) : checkTile (busNote (descAt s c) s) a = checkTile s a :=
  checkTile_congr ((fetch_reached s c).stored.domOn 25) (fetch_reached s c).stored.dieOff (busNote_dram _ s)
    (fetch_reached s c).stored.kept.2.2 a
/-- The result of a checked read as a descriptor shows it. -/
def tileResult : TileResult → Nat
  | .ok _ => 0 | .noCopy => 2 | .genConflict => 3

section
variable {s : State} {c : Nat}
  (hok : descOk s (descHead s c) = true) (hchk : (descHead s c).flags.testBit 2 = true) (hcopy : (descHead s c).flags.testBit 3 = false)
  (hlen : (descHead s c).len = 1024)
  (hgood : dmaGood s (descHead s c).dst 1024 = 1024)
include hok hchk hcopy hlen hgood

theorem descMoves_tile_ok {k : Nat} (h : checkTile s (descHead s c).src = .ok k) :
    descMoves s c = (0, 0, dmaWrite (descHead s c).dst (dramList (busNote (descAt s c) s) (copyAddr (descHead s c).src k) 1024)
      (checkedNote (descHead s c).src (busNote (descAt s c) s))) := by
  have hfetch := (fetch_reached s c).stored
  unfold descMoves
  rw [descRun_tile (by rw [hfetch.descOk]; exact hok) hchk hcopy hlen,
    dmaTiles_ok ((fetch_checkTile s c _).trans h) (by rw [hfetch.dmaGood]; exact hgood)]
theorem descMoves_tile_result : (descMoves s c).1 = tileResult (checkTile s (descHead s c).src) := by
  have hfetch := (fetch_reached s c).stored
  have htile := fetch_checkTile s c (descHead s c).src
  cases h : checkTile s (descHead s c).src with
  | ok k => rw [descMoves_tile_ok hok hchk hcopy hlen hgood h]; rfl
  | noCopy =>
    unfold descMoves
    rw [descRun_tile (by rw [hfetch.descOk]; exact hok) hchk hcopy hlen, dmaTiles_noCopy _ (htile.trans h)]; rfl
  | genConflict =>
    unfold descMoves
    rw [descRun_tile (by rw [hfetch.descOk]; exact hok) hchk hcopy hlen, dmaTiles_genConflict _ (htile.trans h)]; rfl
end

end Sys2Proof.Machine
end

section
/-! Descriptors whose ranges lie in free DRAM (O59): they are well formed, they are moved whole, and their bytes lie at the destination
when they have ended. -/
namespace Sys2Proof.Machine
open Sys2Proof.Config

/-- `n` bytes of DRAM from `x`, both ends on dies that are online. -/
def Free (s : State) (x n : Nat) : Prop :=
  0x80000000 ≤ x ∧ x + n ≤ 2 ^ 32 ∧ dieOff s (dieOf x) = false ∧ dieOff s (dieOf (x + n - 1)) = false
/-- The byte is none of the descriptor's status. -/
def Apart (a b : Nat) : Prop := b < a + 0xE ∨ a + 0x18 ≤ b
/-- The descriptor is valid and stores its bytes in free DRAM, apart from its status. -/
def PlainDst (s : State) (a : Nat) (d : Desc) : Prop :=
  d.flags.testBit 0 = true ∧ 1 ≤ d.len ∧ d.len ≤ 16777216 ∧ Free s d.dst d.len ∧ domOn s 25 = true ∧
  calActive s = false ∧ ∀ i < d.len, inFreeRing (d.dst + i) = false ∧ Apart a (d.dst + i)

section
variable {s : State} {x n : Nat} (h : Free s x n) (hn : 1 ≤ n)
include h hn

theorem Free.target {i : Nat} (hi : i < n) : targetOf s (x + i) = .dram (x + i) := by
  obtain ⟨hlo, hhi, -⟩ := h
  exact targetOf_dram s (by omega) (by omega)
theorem Free.first : targetOf s x = .dram x := Free.target h hn (i := 0) (by omega)
theorem Free.reach : dmaReach s x n = true := by
  have hlast : x + n - 1 = x + (n - 1) := by omega
  unfold dmaReach
  rw [Free.first h hn, hlast, Free.target h hn (by omega)]
theorem Free.good : dmaGood s x n = n := by
  have hfirst := Free.first h hn
  obtain ⟨-, -, hdie, hdie'⟩ := h
  exact dmaGood_whole hfirst hdie hdie' hn
end

/-- The tiles of copy 0 lie in DRAM. -/
theorem reach_copy0 {s : State} {a : Nat} (ha : isCopy0 a = true) : dmaReach s a 1024 = true := by
  unfold isCopy0 at ha
  simp only [Bool.and_eq_true, decide_eq_true_eq] at ha
  obtain ⟨⟨⟨hlo, hhi⟩, -⟩, -⟩ := ha
  unfold dmaReach
  rw [targetOf_dram s hlo (by omega), targetOf_dram s (a := a + 1024 - 1) (by omega) (by omega)]

section
variable {s : State} {a : Nat} {d : Desc} (hp : PlainDst s a d)
include hp

theorem descOk_fill (hfill : d.flags.testBit 3 = true) (hchk : d.flags.testBit 2 = false) : descOk s d = true := by
  obtain ⟨hvalid, hlo, hhi, hfree, -⟩ := hp
  unfold descOk
  rw [hvalid, decide_eq_true hlo, decide_eq_true hhi, hfree.reach hlo, hfill, hchk]; rfl
theorem descOk_copy (hchk : d.flags.testBit 2 = false) (hsrc : Free s d.src d.len) : descOk s d = true := by
  obtain ⟨hvalid, hlo, hhi, hfree, -⟩ := hp
  unfold descOk
  rw [hvalid, decide_eq_true hlo, decide_eq_true hhi, hfree.reach hlo, hsrc.reach hlo, hchk, Bool.or_true]; rfl
theorem descOk_tile (hsrc : isCopy0 d.src = true) (hlen : d.len = 1024) : descOk s d = true := by
  obtain ⟨hvalid, hlo, hhi, hfree, -⟩ := hp
  have hreach := hfree.reach hlo
  rw [hlen] at hreach
  unfold descOk
  rw [hvalid, hsrc, hlen, hreach, reach_copy0 hsrc, Bool.or_true]
  simp
end

/-! ### What they leave -/

theorem descMoves_dram {s : State} {c : Nat} (hok : descOk s (descHead s c) = true)
    (hplain : (descHead s c).flags.testBit 2 = false ∨ (descHead s c).flags.testBit 3 = true) :
    (descMoves s c).2.2.dram = (descMoved s c).dram := by
  rw [descMoves_plain hok hplain]
  split <;> rfl

section
variable {s : State} {c : Nat} (hc : c < 16) (hw : Works s c) (s0 : State)
include hc hw

/-- The bytes of a fill that an offline die may cut short. -/
theorem dmaNext_fill (hok : descOk s (descHead s c) = true) (hfill : (descHead s c).flags.testBit 3 = true)
    (hdom : domOn s 25 = true) (hcal : calActive s = false) (hlo : 0x80000000 ≤ (descHead s c).dst)
    (hhi : (descHead s c).dst + (descHead s c).len ≤ 2 ^ 32)
    (hbytes : ∀ i < movable (descHead s c) s, inFreeRing ((descHead s c).dst + i) = false ∧ Apart (descAt s c) ((descHead s c).dst + i)) :
    ∀ i < movable (descHead s c) s, memGet (settle s0 (dmaNext c s)).dram ((descHead s c).dst + i) =
      BitVec.ofNat 8 ((descHead s c).pattern / 256 ^ (i % 4)) := by
  intro i hi
  have hle : movable (descHead s c) s ≤ (descHead s c).len := by
    have := dmaGood_le s (descHead s c).dst (descHead s c).len
    unfold movable; omega
  have ht : targetOf s (descHead s c).dst = .dram (descHead s c).dst := targetOf_dram s hlo (by omega)
  have hdie : dieOff s (dieOf (descHead s c).dst) = false :=
    online_of_good (n := (descHead s c).len) (by unfold movable at hi; omega) _ ht hdom
  have hfetch := (fetch_reached s c).stored
  rw [dmaNext_bytes hc hw s0 (descMoves_dram hok (.inr hfill)) (hbytes i hi).2]
  exact (movedState_fill hfill (by omega) ((hfetch.targetOf _).trans ht) ((hfetch.domOn 25).trans hdom) ((hfetch.dieOff _).trans hdie)
    (hfetch.active.trans hcal) fun j hj => (hbytes j hj).1).1 i hi

variable (hp : PlainDst s (descAt s c) (descHead s c))
include hp

/-- A fill of free DRAM. -/
theorem dmaNext_fill_whole (hfill : (descHead s c).flags.testBit 3 = true) (hchk : (descHead s c).flags.testBit 2 = false) :
    DescEnds c (descHead s c) s (settle s0 (dmaNext c s)) 0 ∧
    (∀ i < (descHead s c).len, memGet (settle s0 (dmaNext c s)).dram ((descHead s c).dst + i) =
      BitVec.ofNat 8 ((descHead s c).pattern / 256 ^ (i % 4))) ∧
    ∀ b, (b < (descHead s c).dst ∨ (descHead s c).dst + (descHead s c).len ≤ b) → Apart (descAt s c) b →
      memGet (settle s0 (dmaNext c s)).dram b = memGet s.dram b := by
  have hok := descOk_fill hp hfill hchk
  obtain ⟨-, hlen, -, hfree, hdom, hcal, hbytes⟩ := hp
  have hwhole : movable (descHead s c) s = (descHead s c).len := by
    unfold movable; rw [hfree.good hlen, if_pos hfill, Nat.min_self]
  obtain ⟨hends, -⟩ := dmaNext_whole hc hw s0 hok (.inr hfill) hwhole
  have ht := hfree.first hlen
  obtain ⟨hlo, hhi, hdie, -⟩ := hfree
  have hfetch := (fetch_reached s c).stored
  have hfilled := dmaNext_fill hc hw s0 hok hfill hdom hcal hlo hhi (by rw [hwhole]; exact hbytes)
  rw [hwhole] at hfilled
  refine ⟨hends, hfilled, fun b hb hap => ?_⟩
  rw [dmaNext_bytes hc hw s0 (descMoves_dram hok (.inr hfill)) hap]
  unfold descMoved
  rw [hwhole]
  exact ((movedState_fill hfill (by omega) ((hfetch.targetOf _).trans ht) ((hfetch.domOn 25).trans hdom) ((hfetch.dieOff _).trans hdie)
    (hfetch.active.trans hcal) fun j hj => (hbytes j hj).1).2 b hb).trans (fetch_dram s c b)

/-- A copy within free DRAM. -/
theorem dmaNext_copy (hcopy : (descHead s c).flags.testBit 3 = false) (hchk : (descHead s c).flags.testBit 2 = false)
    (hsrc : Free s (descHead s c).src (descHead s c).len) (hsrcFree : ∀ i < (descHead s c).len, inFreeRing ((descHead s c).src + i) = false) :
    DescEnds c (descHead s c) s (settle s0 (dmaNext c s)) 0 ∧
    (∀ i < (descHead s c).len, memGet (settle s0 (dmaNext c s)).dram ((descHead s c).dst + i) = memGet s.dram ((descHead s c).src + i)) ∧
    ∀ b, (b < (descHead s c).dst ∨ (descHead s c).dst + (descHead s c).len ≤ b) → Apart (descAt s c) b →
      memGet (settle s0 (dmaNext c s)).dram b = memGet s.dram b := by
  have hok := descOk_copy hp hchk hsrc
  obtain ⟨-, hlen, -, hfree, hdom, hcal, hbytes⟩ := hp
  have hwhole : movable (descHead s c) s = (descHead s c).len := by
    unfold movable; rw [hfree.good hlen, hcopy, if_neg Bool.false_ne_true, hsrc.good hlen, Nat.min_self]
  obtain ⟨hends, -⟩ := dmaNext_whole hc hw s0 hok (.inl hchk) hwhole
  have ht := hfree.first hlen
  have ht' := hsrc.first hlen
  obtain ⟨-, -, hdie, -⟩ := hfree
  obtain ⟨-, -, hdie', -⟩ := hsrc
  have hfetch := (fetch_reached s c).stored
  obtain ⟨hin, hout⟩ := movedState_copy (d := descHead s c) (n := (descHead s c).len) (s := busNote (descAt s c) s) hcopy hlen
    ((hfetch.targetOf _).trans ht) ((hfetch.targetOf _).trans ht') ((hfetch.domOn 25).trans hdom) ((hfetch.dieOff _).trans hdie)
    ((hfetch.dieOff _).trans hdie') (hfetch.active.trans hcal) (fun j hj => (hbytes j hj).1) hsrcFree
  have hmoved : descMoved s c = movedState (descHead s c) (descHead s c).len (busNote (descAt s c) s) := by unfold descMoved; rw [hwhole]
  refine ⟨hends, fun i hi => ?_, fun b hb hap => ?_⟩
  · rw [dmaNext_bytes hc hw s0 (descMoves_dram hok (.inl hchk)) (hbytes i hi).2, hmoved]
    exact (hin i hi).trans (fetch_dram s c _)
  · rw [dmaNext_bytes hc hw s0 (descMoves_dram hok (.inl hchk)) hap, hmoved]
    exact (hout b hb).trans (fetch_dram s c b)

/-- A checked copy of one tile. -/
theorem dmaNext_tile (hmild : Mild s) (hcopy : (descHead s c).flags.testBit 3 = false) (hchk : (descHead s c).flags.testBit 2 = true)
    (hsrc : isCopy0 (descHead s c).src = true) (hlen : (descHead s c).len = 1024) :
    DescEnds c (descHead s c) s (settle s0 (dmaNext c s)) (tileResult (checkTile s (descHead s c).src)) ∧
    ∀ k, checkTile s (descHead s c).src = .ok k → dieOff (settle s0 (dmaNext c s)) (dieOf (descHead s c).dst) = false →
      ∀ i < 1024, memGet (settle s0 (dmaNext c s)).dram ((descHead s c).dst + i) = memGet s.dram (copyAddr (descHead s c).src k + i) := by
  have hok := descOk_tile hp hsrc hlen
  obtain ⟨-, hpos, -, hfree, hdom, hcal, hbytes⟩ := hp
  have hgood := hfree.good hpos
  rw [hlen] at hgood hbytes
  have hends := dmaNext_ends hc hw s0
  rw [descMoves_tile_result hok hchk hcopy hlen hgood] at hends
  refine ⟨hends, fun k hk hdie i hi => ?_⟩
  have hmoves := descMoves_tile_ok hok hchk hcopy hlen hgood hk
  have hfetch := (fetch_reached s c).stored
  obtain ⟨-, -, hout, -, hdieKept⟩ := descDone_frame hc (descAt s c) (descHead s c) (descMoves s c).1 (descMoves s c).2.1 s0 (descMoves s c).2.2
  rw [dmaNext_works hw] at hdie ⊢
  rw [hdieKept] at hdie
  rw [hout _ (hbytes i hi).2]
  rw [hmoves] at hdie ⊢
  exact (tile_written (hfetch.mild hmild) hsrc ((fetch_checkTile s c _).trans hk) ((hfetch.domOn 25).trans hdom) (hfetch.active.trans hcal)
    ((hfetch.targetOf _).trans (hfree.first hpos)) (fun j hj => (hbytes j hj).1) hdie i hi).trans (fetch_dram s c _)
end

end Sys2Proof.Machine
end

section
/-! The command that runs a channel's descriptor, from the state before the time passes. -/
namespace Sys2Proof.Machine
open Sys2Proof.Config

theorem checkTile_elapse (s : State) (dt a : Nat) : checkTile (elapse s dt) a = checkTile s a :=
  checkTile_congr rfl (fun _ => rfl) rfl rfl a
theorem works_elapse {s : State} (dt : Nat) {c : Nat} : Works (elapse s dt) c ↔ Works s c :=
  ⟨fun ⟨h1, h2, h3, h4⟩ => ⟨h1, h2, h3, h4⟩, fun ⟨h1, h2, h3, h4⟩ => ⟨h1, h2, h3, h4⟩⟩

section
variable {s : State} {c : Nat} (hc : c < 16) (dt : Nat) (hpor : s.porOn = false)
include hpor

/-- Without work, or while it may not run, a channel leaves its descriptors. -/
theorem descriptor_idle (h : ¬ Works s c) : Completes (.dmaDescriptor dt c) s fun t => RegsKept [] s t ∧ OnlyRegs s dt t := by
  refine completes_run rfl hpor ?_
  rw [dmaNext_idle (mt (works_elapse dt).1 h)]
  exact ⟨regsKept_settle s (regsKept_elapse [] s dt), onlyRegs_settle s (onlyRegs_elapse s dt)⟩

variable (hw : Works s c)
include hc hw

theorem descriptor_bad (h : descOk s (descHead s c) = false) : Completes (.dmaDescriptor dt c) s fun t =>
    DescEnds c (descHead s c) s t 4 ∧ t.clk = (elapse s dt).clk ∧ t.present = s.present :=
  completes_run rfl hpor (dmaNext_bad (s := elapse s dt) hc ((works_elapse dt).2 hw) s h)

theorem descriptor_short (hok : descOk s (descHead s c) = true)
    (hplain : (descHead s c).flags.testBit 2 = false ∨ (descHead s c).flags.testBit 3 = true)
    (hshort : movable (descHead s c) s < (descHead s c).len) : Completes (.dmaDescriptor dt c) s fun t =>
    DescEnds c (descHead s c) s t 1 ∧
    ((∀ k < 0x20, ∀ x, targetOf s (descAt s c + k) = .dram x → dieOff s (dieOf x) = false) →
      (descHead s c).flags.testBit 3 = true ∨ InMem s (descHead s c).src → InMem s (descHead s c).dst →
      f t BUS_CNT_ERR_count = (f s BUS_CNT_ERR_count + 1) % 2 ^ 32) ∧
    ((descHead s c).flags.testBit 3 = true → domOn s 25 = true → calActive s = false → 0x80000000 ≤ (descHead s c).dst →
      (descHead s c).dst + (descHead s c).len ≤ 2 ^ 32 →
      (∀ i < movable (descHead s c) s, inFreeRing ((descHead s c).dst + i) = false ∧ Apart (descAt s c) ((descHead s c).dst + i)) →
      ∀ i < movable (descHead s c) s, memGet t.dram ((descHead s c).dst + i) = BitVec.ofNat 8 ((descHead s c).pattern / 256 ^ (i % 4))) := by
  have hw' := (works_elapse dt).2 hw
  obtain ⟨hends, herr⟩ := dmaNext_short (s := elapse s dt) hc hw' s hok hplain hshort
  refine completes_run rfl hpor ⟨hends, fun hdesc hsrc hdst => herr (fun k hk x hx _ => hdesc k hk x hx) hsrc hdst, ?_⟩
  exact fun hfill hdom hcal hlo hhi hbytes => dmaNext_fill (s := elapse s dt) hc hw' s hok hfill hdom hcal hlo hhi hbytes

theorem descriptor_fill (hp : PlainDst s (descAt s c) (descHead s c)) (hfill : (descHead s c).flags.testBit 3 = true)
    (hchk : (descHead s c).flags.testBit 2 = false) : Completes (.dmaDescriptor dt c) s fun t =>
    DescEnds c (descHead s c) s t 0 ∧
    (∀ i < (descHead s c).len, memGet t.dram ((descHead s c).dst + i) = BitVec.ofNat 8 ((descHead s c).pattern / 256 ^ (i % 4))) ∧
    ∀ b, (b < (descHead s c).dst ∨ (descHead s c).dst + (descHead s c).len ≤ b) → Apart (descAt s c) b →
      memGet t.dram b = memGet s.dram b :=
  completes_run rfl hpor (dmaNext_fill_whole (s := elapse s dt) hc ((works_elapse dt).2 hw) s hp hfill hchk)

theorem descriptor_copy (hp : PlainDst s (descAt s c) (descHead s c)) (hcopy : (descHead s c).flags.testBit 3 = false)
    (hchk : (descHead s c).flags.testBit 2 = false) (hsrc : Free s (descHead s c).src (descHead s c).len)
    (hfree : ∀ i < (descHead s c).len, inFreeRing ((descHead s c).src + i) = false) : Completes (.dmaDescriptor dt c) s fun t =>
    DescEnds c (descHead s c) s t 0 ∧
    (∀ i < (descHead s c).len, memGet t.dram ((descHead s c).dst + i) = memGet s.dram ((descHead s c).src + i)) ∧
    ∀ b, (b < (descHead s c).dst ∨ (descHead s c).dst + (descHead s c).len ≤ b) → Apart (descAt s c) b →
      memGet t.dram b = memGet s.dram b :=
  completes_run rfl hpor (dmaNext_copy (s := elapse s dt) hc ((works_elapse dt).2 hw) s hp hcopy hchk hsrc hfree)

theorem descriptor_tile (hmild : Mild s) (hp : PlainDst s (descAt s c) (descHead s c)) (hcopy : (descHead s c).flags.testBit 3 = false)
    (hchk : (descHead s c).flags.testBit 2 = true) (hsrc : isCopy0 (descHead s c).src = true) (hlen : (descHead s c).len = 1024) :
    Completes (.dmaDescriptor dt c) s fun t =>
    DescEnds c (descHead s c) s t (tileResult (checkTile s (descHead s c).src)) ∧
    ∀ k, checkTile s (descHead s c).src = .ok k → dieOff t (dieOf (descHead s c).dst) = false →
      ∀ i < 1024, memGet t.dram ((descHead s c).dst + i) = memGet s.dram (copyAddr (descHead s c).src k + i) := by
  have h := dmaNext_tile (s := elapse s dt) hc ((works_elapse dt).2 hw) s hp hmild hcopy hchk hsrc hlen
  rw [checkTile_elapse] at h
  exact completes_run rfl hpor h
end

end Sys2Proof.Machine

open Sys2Proof Sys2Proof.Machine Sys2Proof.Config

/-- Settles O59: the SMBus target reads registers alone, and its demand is the host's; the tick phase and the channels' commands write
their own fields; a descriptor keeps its channel's registers until it ends, and its bytes are those of its stores, one by one. -/
theorem smbusTickPhaseAndDmaDescriptors : Obligations.SmbusTickPhaseAndDmaDescriptors := by
  unfold Obligations.SmbusTickPhaseAndDmaDescriptors
  intro s dt c m n u idle answers
  refine ⟨fun hoff q hq => ?_, fun hpor hboot => ⟨?_, ?_, ?_, ?_, ?_⟩, fun hpor hsev => ⟨fun hdom => ?_, completes_tickPhase dt hpor,
    fun hm hc ho => ⟨fun h6 => completes_dmaHost h6 dt n hpor hm ho, fun h6 =>
      ⟨completes_dmaResume h6 hc dt hpor hm ho, completes_dmaChannelReset h6 hc dt n hpor hsev hm ho⟩⟩, fun _ hc => ?_⟩⟩
  · simp only [List.mem_cons, List.not_mem_nil, or_false] at hq
    rcases hq with rfl | rfl | rfl | rfl | rfl <;> exact answers_nack rfl hoff
  · exact answers_readId dt hpor hboot
  · exact answers_readStatus dt hpor hboot
  · exact answers_readSite dt hpor hboot n
  · exact answers_alert dt hpor hboot
  · exact completes_tempDemand dt hpor hboot
  · refine completes_run rfl hpor ?_
    rw [tickPhase_off (s := elapse s dt) hdom]
    exact ⟨regsKept_settle s (regsKept_elapse [] s dt), onlyRegs_settle s (onlyRegs_elapse s dt)⟩
  · have works (h : masterLive s 5 = true ∧ fb s DMA_CTRL_enable = true ∧ fb s (DMA_CH_STAT_halted c) = false ∧
        f s (DMA_CH_HEAD_head c) ≠ f s (DMA_CH_TAIL_tail c)) : Works s c := by
      obtain ⟨h1, h2, h3, h4⟩ := h
      exact ⟨h1, h2, h3, h4⟩
    refine ⟨fun h => descriptor_idle dt hpor fun ⟨h1, h2, h3, h4⟩ => h ⟨h1, h2, h3, h4⟩,
      fun h hok => descriptor_bad hc dt hpor (works h) hok,
      fun h hok hplain hshort => descriptor_short hc dt hpor (works h) hok hplain hshort,
      fun h hp hfill hchk => descriptor_fill hc dt hpor (works h) hp hfill hchk,
      fun h hp hcopy hchk hsrc hfree => descriptor_copy hc dt hpor (works h) hp hcopy hchk hsrc hfree,
      fun hmild h hp hcopy hchk hsrc hlen => ?_⟩
    exact descriptor_tile hc dt hpor (works h) hmild hp hcopy hchk hsrc hlen
end

section
/-! What an evaluation of an input port stands on (R53, R55): the conversions that end before it, the records of TELEM it queues,
and the levels it compares. -/
namespace Sys2Proof.Machine
open Sys2Proof.Config

/-! ### Conversions -/

/-- The light, PERST_N and every register below the windows stand: what a window's conversions leave. -/
structure SenseKept (s t : State) : Prop where
  light : t.toLightPart = s.toLightPart
  perst : t.perstLow = s.perstLow
  regs : ∀ o < 0x1000000, rd t o = rd s o

/-- A register of a window stands above all others. -/
theorem win_above3 (w a b c : Nat) : 0x1000000 ≤ winBase w + a + b + c := by have := winBase_above w; omega

namespace SenseKept
variable {s t u : State}

protected theorem refl (s : State) : SenseKept s s := ⟨rfl, rfl, fun _ _ => rfl⟩
protected theorem trans (h : SenseKept s t) (k : SenseKept t u) : SenseKept s u :=
  ⟨k.light.trans h.light, k.perst.trans h.perst, fun o ho => (k.regs o ho).trans (h.regs o ho)⟩
theorem sense (h : SenseKept s t) (p : SensePart) : SenseKept s { t with toSensePart := p } := ⟨h.light, h.perst, h.regs⟩
theorem setF {x : Fld} (v : Nat) (h : SenseKept s t) (hx : 0x1000000 ≤ x.off) : SenseKept s (setF x v t) :=
  h.trans ⟨rfl, rfl, fun o ho => rd_setF_other t x v (by omega)⟩
theorem forEach {α : Type} {g : α → State → State} {l : List α} (h : SenseKept s t) (hg : ∀ a ∈ l, ∀ v, SenseKept v (g a v)) :
    SenseKept s (forEach l g t) :=
  forEach_keeps (SenseKept s) g l (fun a ha v hv => hv.trans (hg a ha v)) t h
theorem f_eq (h : SenseKept s t) {x : Fld} (hx : x.off < 0x1000000) : f t x = f s x := by unfold f; rw [h.regs _ hx]
theorem pd24 (h : SenseKept s t) : pd24Up t = pd24Up s := by
  unfold pd24Up domOn; rw [h.f_eq (by decide), h.perst]
end SenseKept

theorem refCheck_senseKept (w k low high : Nat) (s : State) : SenseKept s (refCheck w k low high s) := by
  unfold refCheck
  simp only
  split
  · exact ((SenseKept.refl s).sense _).setF _ (win_above3 w _ _ _)
  · exact (SenseKept.refl s).sense _
theorem showSample_senseKept (w : Nat) (c : Conv) (s : State) : SenseKept s (showSample w c s) := by
  have hval : 0x1000000 ≤ (PLOT_SNS_VAL_over w c.chan).off := win_above3 w _ _ _
  have hshown (v : Int) (raw r o : Nat) : SenseKept s (setF (PLOT_SNS_VAL_over w c.chan) o (setF (PLOT_SNS_VAL_range w c.chan) r
      (setF (PLOT_SNS_VAL_raw w c.chan) raw (setF (PLOT_SNS_VAL_reading w c.chan) v.toNat s)))) :=
    .setF _ (.setF _ (.setF _ (.setF _ (.refl s) hval) hval) hval) hval
  unfold showSample setB
  simp only
  exact .setF (x := PLOT_SNS_CNT_samples w c.chan) _ ((hshown _ _ _ _).sense _) (win_above3 w _ _ _)
theorem convDone_senseKept (w k : Nat) (c : Conv) (s : State) : SenseKept s (convDone w k c s) := by
  have hcount : SenseKept s (inc (PLOT_SLC_CNT_CONV_count w k) s) := .setF _ (.refl s) (win_above3 w _ _ _)
  unfold convDone
  simp only
  generalize inc (PLOT_SLC_CNT_CONV_count w k) s = s1 at hcount ⊢
  repeat' split
  · exact hcount.setF _ (win_above3 w _ _ _)
  · exact .trans (hcount.setF (x := PLOT_SLC_REF_ref_high w k) c.raw (win_above3 w _ _ _)) (refCheck_senseKept w k _ _ _)
  · exact hcount.setF _ (win_above3 w _ _ _)
  · exact hcount.trans (showSample_senseKept w c s1)
theorem convMiss_senseKept (w k : Nat) (c : Conv) (s : State) : SenseKept s (convMiss w k c s) := by
  unfold convMiss; split
  · exact .refl s
  · exact .setF _ (.setF _ (.setF _ (.refl s) (win_above3 w _ _ _)) (win_above3 w _ _ _)) (win_above3 w _ _ _)
theorem runSlice_senseKept (w k t n : Nat) (s : State) : SenseKept s (runSlice w k t n s) := by
  induction n generalizing s with
  | zero => exact .refl s
  | succ n ih =>
    unfold runSlice
    simp only
    repeat' split
    · exact .refl s
    · exact .trans (.forEach ((SenseKept.refl s).sense _) fun c _ v => convMiss_senseKept w k c v) (ih _)
    · exact .trans (.trans ((SenseKept.refl s).sense _) (convDone_senseKept w k _ _)) (ih _)
    all_goals exact .refl s
/-- The conversions of a window touch its sensors and the registers of windows alone. -/
theorem runConv_senseKept (w : Nat) (s : State) : SenseKept s (runConv w s) :=
  (SenseKept.refl s).forEach fun k _ v => runSlice_senseKept w k _ _ v

/-! ### Records of TELEM -/

/-- Records waiting for TELEM, and the count of those lost, alone differ. -/
def OnlyTelem (s t : State) : Prop := t = { s with telemQ := t.telemQ, telemLost := t.telemLost }

theorem onlyTelem_trans {s t u : State} (h : OnlyTelem s t) (k : OnlyTelem t u) : OnlyTelem s u := by
  unfold OnlyTelem at *; rw [k, h]
theorem onlyTelem_forEach {α : Type} (g : α → State → State) (l : List α) (hg : ∀ a s, OnlyTelem s (g a s)) (s : State) :
    OnlyTelem s (forEach l g s) :=
  forEach_keeps (OnlyTelem s) g l (fun a _ t h => onlyTelem_trans h (hg a t)) s rfl
theorem onlyTelem_onlyIf (c : Bool) {g : State → State} (s : State) (hg : OnlyTelem s (g s)) : OnlyTelem s (onlyIf c g s) := by
  unfold onlyIf; split
  · exact hg
  · rfl
theorem telem_onlyTelem (t code port a b : Nat) (s : State) : OnlyTelem s (telem t code port a b s) := by
  unfold telem; simp only
  repeat' split
  all_goals rfl
theorem reportIn_onlyTelem (i : Nat) (s : State) : OnlyTelem s (reportIn i s) :=
  onlyTelem_forEach _ _ (fun _ u => telem_onlyTelem _ _ _ _ _ u) s
theorem reportOuts_onlyTelem (s0 s : State) : OnlyTelem s (reportOuts s0 s) :=
  onlyTelem_forEach _ _ (fun _ u => onlyTelem_forEach _ _ (fun _ v => telem_onlyTelem _ _ _ _ _ v) u) s

/-! ### Messages of the vectors -/

/-- No update that ends a command takes back a message that was sent. -/
theorem mem_msix_settle {v : Nat} (s0 : State) {s : State} (h : v ∈ s.msix) : v ∈ (settle s0 s).msix := by
  have hdue (ev : Bool) (a : Nat) (t : State) (ht : v ∈ t.msix) : v ∈ (dueMsix ev a t).msix := by
    unfold dueMsix; simp only
    split
    · split
      · exact ht
      · exact List.mem_append_left _ ht
    · exact ht
  have howed (a : Nat) (t : State) (ht : v ∈ t.msix) : v ∈ (owedMsix a t).msix := by
    unfold owedMsix; simp only; repeat' split
    · exact hdue _ _ _ ht
    · exact hdue _ _ _ ht
    all_goals exact ht
  have hdrop (a : Nat) (t : State) (ht : v ∈ t.msix) : v ∈ (dropPending a t).msix := by
    unfold dropPending; split <;> exact ht
  have hflush (a : Nat) (t : State) (ht : v ∈ t.msix) : v ∈ (flushPending a t).msix := by
    unfold flushPending; split
    · exact List.mem_append_left _ ht
    · exact ht
  unfold settle
  refine forEach_keeps _ _ _ (fun a _ => hflush a) _ (forEach_keeps _ _ _ (fun a _ => hdrop a) _ (forEach_keeps _ _ _
    (fun a _ => howed a) _ (forEach_keeps (fun t => v ∈ t.msix) _ _ (fun a _ => hdue false a) _ h)))
/-- The message of an event leaves at once while PD24 works and its vector is not masked (R541). -/
theorem mem_msix_sendMsix {v : Nat} {s : State} (hup : pd24Up s = true) (hm : f s (DMA_MSIX_word v 3) % 2 = 0) :
    v ∈ (sendMsix v s).msix := by
  unfold sendMsix dueMsix
  rw [if_pos hup, if_neg (by omega)]
  exact List.mem_append_right _ (List.mem_singleton.2 rfl)

/-! ### Levels -/

/-- What lies at or above a level lies at or above every lower one: `e` counts half decibels downwards. -/
theorem atDb_mono {v : Int} {n e e' : Nat} (he : e ≤ e') (h : atDb v n e = true) : atDb v n e' = true := by
  unfold atDb at *
  exact decide_eq_true ((of_decide_eq_true h).trans (Nat.mul_le_mul_left _ (Nat.pow_le_pow_right (by decide) he)))

end Sys2Proof.Machine
end

section
/-! The evaluation of an input port: its runs, LIT, DARK and OVER (R53, R55 to R57). -/
namespace Sys2Proof.Machine
open Sys2Proof.Config

/-- The state with the port's runs, LIT and OVER as one evaluation makes them. -/
def judged (n : Nat) (s : State) : State :=
  { s with
    hiRun := ctrPut s.hiRun n (nextHi s n), loRun := ctrPut s.loRun n (nextLo s n)
    lit := putBit s.lit n (nextLit s n), overIn := putBit s.overIn n (nextOver s n) }
/-- The evaluation before its message: judged, and what changed is reported (R57, R59). -/
def reported (n : Nat) (s : State) : State :=
  onlyIf (nextLit s n != s.lit.getLsbD n || nextOver s n != s.overIn.getLsbD n) (reportIn n) (reportOuts s (judged n s))
theorem portEval_eq (n : Nat) (s : State) :
    portEval n s = onlyIf (nextOver s n && !s.overIn.getLsbD n) (sendMsix 29) (reported n s) := rfl
theorem reported_onlyTelem (n : Nat) (s : State) : OnlyTelem (judged n s) (reported n s) :=
  onlyTelem_trans (reportOuts_onlyTelem s _) (onlyTelem_onlyIf _ _ (reportIn_onlyTelem n _))

theorem portEval_onlyMsix (n : Nat) (s : State) : OnlyMsix (reported n s) (portEval n s) := by
  rw [portEval_eq]; unfold onlyIf; split
  · exact dueMsix_eq true 29 _
  · exact onlyMsix_refl _
theorem rd_portEval (n : Nat) (s : State) {o : Nat} (h : o ≠ DMA_MSIX_PEND_pending.off) : rd (portEval n s) o = rd s o := by
  have hrep : rd (reported n s) o = rd s o := rd_congr (by rw [reported_onlyTelem n s]; rfl) o
  rw [portEval_eq]; unfold onlyIf; split
  · exact (rd_dueMsix true 29 _ h).trans hrep
  · exact hrep

/-- What the command leaves once its evaluation has taken place and the vectors have settled. -/
structure Evaluated (n : Nat) (u t : State) : Prop where
  frame : LightFrame n u t
  hi : ctr t.hiRun n = nextHi u n
  lo : ctr t.loRun n = nextLo u n
  lit : t.lit.getLsbD n = nextLit u n
  isOver : t.overIn.getLsbD n = nextOver u n

theorem evaluated_portEval {n : Nat} (hn : n < 256) (s0 u : State) : Evaluated n u (settle s0 (portEval n u)) := by
  obtain ⟨r, m, d, h, e⟩ := onlyMsix_trans (portEval_onlyMsix n u) (settle_eq s0 _)
  rw [reported_onlyTelem n u] at e
  have hregs : RegsKept [] u (settle s0 (portEval n u)) := fun o _ ho => (rd_settle s0 _ ho).trans (rd_portEval n u ho)
  generalize settle s0 (portEval n u) = t at e hregs ⊢
  subst e
  exact ⟨⟨rfl, hregs, fun k hk => ⟨getLsbD_putBit_other _ hk _, getLsbD_putBit_other _ hk _⟩⟩,
    amGet_amSet_same _ _ _ _, amGet_amSet_same _ _ _ _, getLsbD_putBit_same _ hn _, getLsbD_putBit_same _ hn _⟩

/-- Where no evaluation takes place, settling alone follows the conversions. -/
theorem lightFrame_settle (n : Nat) (s0 u : State) : LightFrame n u (settle s0 u) := by
  have hregs : RegsKept [] u (settle s0 u) := regsKept_settle s0 (regsKept_refl _ u)
  obtain ⟨r, m, d, h, e⟩ := settle_eq s0 u
  generalize settle s0 u = t at e hregs ⊢
  subst e
  exact ⟨rfl, hregs, fun _ _ => ⟨rfl, rfl⟩⟩

/-- OVER that begins sends its message, where it can leave. -/
theorem portEval_msix {n : Nat} {u : State} (hover : nextOver u n = true) (hwas : u.overIn.getLsbD n = false)
    (hup : pd24Up u = true) (hm : f u (DMA_MSIX_word 29 3) % 2 = 0) : 29 ∈ (portEval n u).msix := by
  have hrep : OnlyTelem (judged n u) (reported n u) := reported_onlyTelem n u
  rw [portEval_eq, hover, hwas]
  refine mem_msix_sendMsix (s := reported n u) ?_ ?_
  · rw [hrep]; exact hup
  · rw [hrep]; exact hm

/-! ### The next state of the port -/

theorem nextLit_of_hiRun {u : State} {n : Nat} (hlit : u.lit.getLsbD n = false) (hrun : ctr u.hiRun n = 3) :
    nextLit u n = atDb (portSum u n) 1 (litLevel u n) ∧ (atDb (portSum u n) 1 (litLevel u n) = true → nextHi u n = 4) := by
  unfold nextLit nextHi
  rw [hlit, hrun]
  cases atDb (portSum u n) 1 (litLevel u n) <;> simp
theorem nextLit_of_loRun {u : State} {n : Nat} (hlit : u.lit.getLsbD n = true) (hrun : ctr u.loRun n = 1) :
    nextLit u n = atDb (portSum u n) 1 (darkLevel u n) ∧ (atDb (portSum u n) 1 (darkLevel u n) = false → nextLo u n = 2) := by
  have hbelow (h : atDb (portSum u n) 1 (darkLevel u n) = false) : atDb (portSum u n) 1 (litLevel u n) = false := by
    refine Bool.eq_false_iff.2 fun hc => ?_
    rw [atDb_mono (show litLevel u n ≤ darkLevel u n from Nat.le_add_right _ _) hc] at h
    exact Bool.noConfusion h
  unfold nextLit nextHi nextLo
  rw [hlit, hrun]
  cases hd : atDb (portSum u n) 1 (darkLevel u n) with
  | true => simp
  | false => simp [hbelow hd]
theorem nextOver_eq (u : State) (n : Nat) :
    nextOver u n = (atDb (portSum u n) 1 5 || (atDb (portSum u n) 1 6 && u.overIn.getLsbD n)) := by
  unfold nextOver
  cases atDb (portSum u n) 1 5 <;> cases atDb (portSum u n) 1 6 <;> simp

/-- How a command that evaluates a port completes while the input headland is powered: the conversions are carried out, and the
evaluation takes place where the command admits it. -/
theorem completes_portCmd {c : Instr} {s : State} {dt n : Nat} {go : State → Bool} {P : State → Prop}
    (he : exec c s = run s dt (portCmd n go)) (hpor : s.porOn = false) (hdom : domOn s 16 = true)
    (h : P (settle s (if go (runConv 16 (elapse s dt)) then portEval n (runConv 16 (elapse s dt)) else runConv 16 (elapse s dt)))) :
    Completes c s P := by
  refine completes_run he hpor ?_
  unfold portCmd
  rw [if_pos (show domOn (elapse s dt) 16 = true from hdom)]
  exact h

section
variable {s u : State} {dt n : Nat}

/-- The conversions leave the levels of the port. -/
theorem levels_senseKept (kept : SenseKept (elapse s dt) u) : litLevel u n = litLevel s n ∧ darkLevel u n = darkLevel s n := by
  have hlight : u.toLightPart = s.toLightPart := kept.light
  unfold darkLevel litLevel
  rw [congrArg LightPart.litThr hlight, congrArg LightPart.litHyst hlight]
  exact ⟨rfl, rfl⟩
/-- They leave the runs, LIT and OVER. -/
theorem runs_senseKept (kept : SenseKept (elapse s dt) u) :
    u.hiRun = s.hiRun ∧ u.loRun = s.loRun ∧ u.lit = s.lit ∧ u.overIn = s.overIn := by
  have hlight : u.toLightPart = s.toLightPart := kept.light
  exact ⟨congrArg LightPart.hiRun hlight, congrArg LightPart.loRun hlight, congrArg LightPart.lit hlight, congrArg LightPart.overIn hlight⟩

variable (hpor : s.porOn = false) (hdom : domOn s 16 = true) (hn : n < 256)
include hpor hdom hn

theorem portLit_completes (hu : runConv 16 (elapse s dt) = u) (hdark : s.lit.getLsbD n = false) (hrun : ctr s.hiRun n = 3) :
    Completes (.portLit dt n () () ()) s fun t => LightFrame n u t ∧
      t.lit.getLsbD n = atDb (portSum u n) 1 (litLevel s n) ∧
      (atDb (portSum u n) 1 (litLevel s n) = true → ctr t.hiRun n = 4) := by
  have kept : SenseKept (elapse s dt) u := hu ▸ runConv_senseKept 16 _
  obtain ⟨hhi, -, hlit, -⟩ := runs_senseKept kept
  rw [← (levels_senseKept (n := n) kept).1]
  rw [← hlit] at hdark
  rw [← hhi] at hrun
  obtain ⟨hnext, hfour⟩ := nextLit_of_hiRun hdark hrun
  refine completes_portCmd (go := fun u => !u.lit.getLsbD n && nextLit u n) rfl hpor hdom ?_
  rw [hu, hdark]
  have eval := evaluated_portEval hn s u
  split
  · exact ⟨eval.frame, eval.lit.trans hnext, fun h => eval.hi.trans (hfour h)⟩
  · next hgo =>
    have hlow : atDb (portSum u n) 1 (litLevel u n) = false := hnext ▸ (by simpa using hgo)
    rw [hlow]
    exact ⟨lightFrame_settle n s u, by rw [settle_lit, hdark], fun h => Bool.noConfusion h⟩

theorem portDark_completes (hu : runConv 16 (elapse s dt) = u) (hwas : s.lit.getLsbD n = true) (hrun : ctr s.loRun n = 1) :
    Completes (.portDark dt n () () ()) s fun t => LightFrame n u t ∧
      t.lit.getLsbD n = atDb (portSum u n) 1 (darkLevel s n) ∧
      (atDb (portSum u n) 1 (darkLevel s n) = false → ctr t.loRun n = 2) := by
  have kept : SenseKept (elapse s dt) u := hu ▸ runConv_senseKept 16 _
  obtain ⟨-, hlo, hlit, -⟩ := runs_senseKept kept
  rw [← (levels_senseKept (n := n) kept).2]
  rw [← hlit] at hwas
  rw [← hlo] at hrun
  obtain ⟨hnext, htwo⟩ := nextLit_of_loRun hwas hrun
  refine completes_portCmd (go := fun u => u.lit.getLsbD n && !nextLit u n) rfl hpor hdom ?_
  rw [hu, hwas]
  have eval := evaluated_portEval hn s u
  split
  · exact ⟨eval.frame, eval.lit.trans hnext, fun h => eval.lo.trans (htwo h)⟩
  · next hgo =>
    have hhigh : atDb (portSum u n) 1 (darkLevel u n) = true := hnext ▸ (by simpa using hgo)
    rw [hhigh]
    exact ⟨lightFrame_settle n s u, by rw [settle_lit, hwas], fun h => Bool.noConfusion h⟩

theorem portEvaluation_completes (hu : runConv 16 (elapse s dt) = u) :
    Completes (.portEvaluation dt n () () ()) s fun t => LightFrame n u t ∧
      ctr t.hiRun n = (if atDb (portSum u n) 1 (litLevel s n) then min 4 (ctr s.hiRun n + 1) else 0) ∧
      ctr t.loRun n = (if atDb (portSum u n) 1 (darkLevel s n) then 0 else min 2 (ctr s.loRun n + 1)) ∧
      t.lit.getLsbD n = (if ctr t.hiRun n = 4 then true else if ctr t.loRun n = 2 then false else s.lit.getLsbD n) ∧
      t.overIn.getLsbD n = (atDb (portSum u n) 1 5 || (atDb (portSum u n) 1 6 && s.overIn.getLsbD n)) ∧
      (atDb (portSum u n) 1 5 = true → s.overIn.getLsbD n = false → pd24Up s = true → f s (DMA_MSIX_word 29 3) % 2 = 0 →
        29 ∈ t.msix) := by
  have kept : SenseKept (elapse s dt) u := hu ▸ runConv_senseKept 16 _
  obtain ⟨hhi, hlo, hlit, hover⟩ := runs_senseKept kept
  obtain ⟨hlitLevel, hdarkLevel⟩ := levels_senseKept (n := n) kept
  have hup : pd24Up u = pd24Up s := kept.pd24
  have hmask : f u (DMA_MSIX_word 29 3) = f s (DMA_MSIX_word 29 3) := kept.f_eq (by decide)
  rw [← hlitLevel, ← hdarkLevel, ← hhi, ← hlo, ← hlit, ← hover, ← hup, ← hmask]
  refine completes_portCmd (go := fun _ => true) rfl hpor hdom ?_
  rw [hu, if_pos rfl]
  have eval := evaluated_portEval hn s u
  refine ⟨eval.frame, eval.hi, eval.lo, ?_, eval.isOver.trans (nextOver_eq u n), fun h5 hwas hup hmask => ?_⟩
  · rw [eval.lit, eval.hi, eval.lo]; rfl
  · have hbegins : nextOver u n = true := by rw [nextOver_eq, h5, Bool.true_or]
    exact mem_msix_settle s (portEval_msix hbegins hwas hup hmask)
end

end Sys2Proof.Machine

open Sys2Proof Sys2Proof.Machine Sys2Proof.Config

/-- Settles O9: the conversions leave the light, so that each evaluation acts on the port's runs and state as they stood before. -/
theorem inputPortLitDarkAndOver : Obligations.InputPortLitDarkAndOver := by
  unfold Obligations.InputPortLitDarkAndOver
  intro s dt n hpor hdom hn
  exact ⟨portLit_completes hpor hdom hn rfl, portDark_completes hpor hdom hn rfl, portEvaluation_completes hpor hdom hn rfl⟩
end

section
/-! What the parts of a domain's going off, waking and failing leave (R380 to R382): the clock, the registers of GOV, the queues
of the domains that wake and sleep, the gates, and what counts the failures. -/
namespace Sys2Proof.Machine
open Sys2Proof.Config

/-! ### The frame -/

/-- The registers `A`, the clock, the gates, the queues of wakes and sleeps and the instant of source 38's last raise stand. -/
structure DomKept (A : Nat → Prop) (s t : State) : Prop where
  regs : ∀ o, A o → rd t o = rd s o
  clk : t.clk = s.clk
  gates : t.gateOpen = s.gateOpen
  sleepQ : t.sleepQ = s.sleepQ
  wakeQ : t.wakeQ = s.wakeQ
  wakeAt : t.wakeAt = s.wakeAt
  raised : atOf t.fltRaised 38 = atOf s.fltRaised 38

/-- The registers of GOV, the settings of the sources, the count of source 38 and the count of unassigned accesses. -/
def GovOwn (o : Nat) : Prop := (0x30000 ≤ o ∧ o < 0x40000) ∨ SrcCfg o ∨ o = 0x20298 ∨ o = 0x90040

theorem govOwn_gov {o : Nat} (h : 0x30000 ≤ o ∧ o < 0x40000) : GovOwn o := .inl h
theorem govOwn_severity {n : Nat} (h : n < 48) : GovOwn (FLT_SRC_CFG_severity n).off :=
  .inr (.inl (by unfold SrcCfg; simp only [FLT_SRC_CFG_severity]; omega))
theorem govOwn_count : GovOwn (FLT_CNT_count 38).off := .inr (.inr (.inl rfl))
theorem govOwn_unassigned : GovOwn BUS_CNT_UNASSIGNED_count.off := .inr (.inr (.inr rfl))
/-- No register from the buses' own counters on is one of them but the count of unassigned accesses. -/
theorem notGov_high {o : Nat} (h : 0x40000 ≤ o) (hb : o ≠ 0x90040) : ¬ GovOwn o := by unfold GovOwn SrcCfg; omega
theorem notGov_win3 (w a b c : Nat) : ¬ GovOwn (winBase w + a + b + c) :=
  notGov_high (by have := win_above3 w a b c; omega) (by have := win_above3 w a b c; omega)
theorem notGov_win2 (w a b : Nat) : ¬ GovOwn (winBase w + a + b) := notGov_win3 w a b 0

/-- The state with other gates open. -/
def putGates (g : BitVec 256) (s : State) : State := { s with gateOpen := g }
/-- The parts of the state that the frame speaks of. -/
def domView (s : State) := (s.regs, s.clk, s.gateOpen, s.sleepQ, s.wakeQ, s.wakeAt, s.fltRaised)

namespace DomKept
variable {A : Nat → Prop} {s t u : State}

protected theorem refl (s : State) : DomKept A s s := ⟨fun _ _ => rfl, rfl, rfl, rfl, rfl, rfl, rfl⟩
protected theorem trans (h : DomKept A s t) (k : DomKept A t u) : DomKept A s u :=
  ⟨fun o ho => (k.regs o ho).trans (h.regs o ho), k.clk.trans h.clk, k.gates.trans h.gates, k.sleepQ.trans h.sleepQ,
    k.wakeQ.trans h.wakeQ, k.wakeAt.trans h.wakeAt, k.raised.trans h.raised⟩
/-- What changes none of those parts. -/
theorem of_view (h : domView t = domView s) : DomKept A s t := by
  simp only [domView, Prod.mk.injEq] at h
  obtain ⟨hr, hc, hg, hs, hw, ha, hf⟩ := h
  exact ⟨fun o _ => rd_congr hr o, hc, hg, hs, hw, ha, by rw [hf]⟩
theorem setF {x : Fld} (v : Nat) (h : DomKept A s t) (hx : ¬ A x.off) : DomKept A s (setF x v t) :=
  h.trans ⟨fun o ho => rd_setF_other t x v (fun e : o = x.off => hx (e ▸ ho)), rfl, rfl, rfl, rfl, rfl, rfl⟩
theorem forEach {α : Type} {g : α → State → State} {l : List α} (h : DomKept A s t) (hg : ∀ a ∈ l, ∀ v, DomKept A v (g a v)) :
    DomKept A s (forEach l g t) :=
  forEach_keeps (DomKept A s) g l (fun a ha v hv => hv.trans (hg a ha v)) t h
theorem onlyIf {c : Bool} {g : State → State} (h : DomKept A s t) (hg : ∀ v, DomKept A v (g v)) : DomKept A s (onlyIf c g t) := by
  unfold Machine.onlyIf; split
  · exact h.trans (hg t)
  · exact h
theorem f_eq (h : DomKept A s t) (x : Fld) (hx : A x.off) : f t x = f s x := by unfold f; rw [h.regs _ hx]
theorem of_onlyTelem (h : OnlyTelem s t) : DomKept A s t := by
  rw [h]; exact .of_view rfl
theorem of_onlyMsix (h : OnlyMsix s t) (hr : ∀ o, A o → rd t o = rd s o) : DomKept A s t := by
  obtain ⟨r, m, d, x, e⟩ := h
  refine ⟨hr, ?_, ?_, ?_, ?_, ?_, ?_⟩ <;> rw [e]

/-- The same register written in both states. -/
theorem setF_both (h : DomKept A s t) (x : Fld) (v : Nat) (hx : A x.off) : DomKept A (Machine.setF x v s) (Machine.setF x v t) :=
  ⟨fun o ho => by rw [rd_setF, rd_setF, rd_setRaw, rd_setRaw, h.regs o ho, h.regs _ hx], h.clk, h.gates, h.sleepQ, h.wakeQ, h.wakeAt, h.raised⟩
/-- The same gates put in both states. -/
theorem gates_both (h : DomKept A s t) (g : BitVec 256) : DomKept A (putGates g s) (putGates g t) :=
  ⟨h.regs, h.clk, rfl, h.sleepQ, h.wakeQ, h.wakeAt, h.raised⟩
end DomKept

/-! ### Buffers -/

theorem poolNote_domKept {A : Nat → Prop} {p : Nat} (hp : ¬ A (0xA0100 + 16 * p)) (hl : ¬ A 0xA0004) (s : State) :
    DomKept A s (poolNote p s) :=
  (((DomKept.refl s).setF (x := BPM_POOL_FREE_free p) _ hp).setF (x := BPM_POOL_FREE_low_water p) _ hp).onlyIf
    fun v => (DomKept.refl v).setF (x := BPM_STAT_low) _ hl
theorem spillOne_domKept {A : Nat → Prop} (p : Nat) (s : State) : DomKept A s (spillOne p s) := by
  unfold spillOne; split <;> exact .of_view rfl
theorem bpmSync_domKept {A : Nat → Prop} (s : State) : DomKept A s (bpmSync s) := by
  unfold bpmSync; split <;> exact .of_view rfl
theorem giveBack_domKept {A : Nat → Prop} {p : Nat} (hp : ¬ A (0xA0100 + 16 * p)) (hl : ¬ A 0xA0004) (i : Nat) (s : State) :
    DomKept A s (giveBack p i s) := by
  have hmarked : DomKept A s (bufPut p i { bufGet s p i with alloc := false }
      { bpmSync s with bpmFreed := bufKey p i :: (bpmSync s).bpmFreed }) :=
    (bpmSync_domKept s).trans (.of_view rfl)
  unfold giveBack
  simp only
  generalize bufPut p i _ _ = s1 at hmarked ⊢
  have hspilt : DomKept A s (if (cacheGet s1 p).length < 64 then s1 else forEach (List.range 16) (fun _ => spillOne p) s1) := by
    split
    · exact hmarked
    · exact hmarked.forEach fun _ _ v => spillOne_domKept p v
  split
  · exact hmarked
  · exact .trans (t := cachePut p _ _) (hspilt.trans (.of_view rfl)) (poolNote_domKept hp hl _)
theorem bpmReclaim_domKept (m : Nat) (s : State) : DomKept GovOwn s (bpmReclaim m s) := by
  unfold bpmReclaim; split
  · exact (DomKept.refl s).forEach fun e _ v =>
      (giveBack_domKept (notGov_high (by omega) (by omega)) (notGov_high (by decide) (by decide)) _ v).setF
        (x := BPM_CNT_RECLAIM_count) _ (notGov_high (by decide) (by decide))
  · exact .refl s

/-! ### Calibration -/

/-- The registers outside the block CAL and the vectors' pending bits. -/
def CalApart (o : Nat) : Prop := (o < 0xC0000 ∨ 0xD0000 ≤ o) ∧ o ≠ 0xEF800

theorem calApart_gov {o : Nat} (h : GovOwn o) : CalApart o := by unfold GovOwn SrcCfg at h; unfold CalApart; omega
theorem notCalApart {o : Nat} (h : 0xC0000 ≤ o ∧ o < 0xD0000) : ¬ CalApart o := by unfold CalApart; omega

theorem DomKept.gov_of_calApart {s t : State} (h : DomKept CalApart s t) : DomKept GovOwn s t :=
  ⟨fun o ho => h.regs o (calApart_gov ho), h.clk, h.gates, h.sleepQ, h.wakeQ, h.wakeAt, h.raised⟩

theorem sendMsix_domKept (v : Nat) (s : State) : DomKept CalApart s (sendMsix v s) :=
  .of_onlyMsix (dueMsix_eq true v s) fun _ ho => rd_dueMsix true v s ho.2
theorem reloadNote_domKept (s : State) : DomKept CalApart s (reloadNote s) := by
  unfold reloadNote
  repeat' split
  · exact ((DomKept.refl s).setF (x := CAL_STAT_reload_pend) 0 (notCalApart (by decide))).trans (sendMsix_domKept 9 _)
  · exact .refl s
  · exact (DomKept.refl s).setF _ (notCalApart (by decide))
theorem calLost_domKept (s : State) : DomKept CalApart s (calLost s) := by
  have hlost : DomKept CalApart s (setF CAL_ACTIVE_GEN_generation 0 (setF CAL_STAT_inactive_verified 0 (setF CAL_STAT_active_valid 0
      { s with wsLoad := [] }))) :=
    .setF _ (.setF _ (.setF _ (.of_view rfl) (notCalApart (by decide))) (notCalApart (by decide)))
      (notCalApart (by decide))
  unfold calLost calResult
  simp only
  generalize setF CAL_ACTIVE_GEN_generation 0 _ = s1 at hlost ⊢
  refine .trans ?_ (reloadNote_domKept _)
  split
  · exact .trans (.setF _ (.setF _ (.setF _ (.setF _ hlost (notCalApart (by decide))) (notCalApart (by decide))) (notCalApart (by decide)))
      (notCalApart (by decide))) (sendMsix_domKept 9 _)
  · exact hlost
theorem verifyAbandon_domKept (s : State) : DomKept CalApart s (verifyAbandon s) := by
  unfold verifyAbandon; split
  · exact .setF _ (.setF _ (.refl s) (notCalApart (by decide))) (notCalApart (by decide))
  · exact .refl s

/-! ### Windows and gates -/

theorem abandonMark_domKept (w sl : Nat) (s : State) : DomKept GovOwn s (abandonMark w sl s) := by
  unfold abandonMark; split
  · have hended : DomKept GovOwn s (endMark w sl s) := by
      unfold endMark
      exact (DomKept.setF (x := PLOT_LOOP_STAT_stale w sl) 0 (.of_view rfl) (notGov_win3 w _ _ _)).trans (.of_view rfl)
    exact hended.setF (x := CAL_CNT_ABANDON_count) _ (notGov_high (by decide) (by decide))
  · exact .refl s
theorem abandonWindow_domKept (w : Nat) (s : State) : DomKept GovOwn s (abandonWindow w s) :=
  (DomKept.refl s).forEach fun sl _ v => abandonMark_domKept w sl v
theorem glnSrcOff_domKept (w : Nat) (s : State) : DomKept GovOwn s (glnSrcOff w s) :=
  (DomKept.refl s).forEach fun _ _ _ => .of_view rfl
theorem cutHold_domKept (w ch : Nat) (s : State) : DomKept GovOwn s (cutHold w ch s) := by
  unfold cutHold; split
  · exact DomKept.setF _ (.of_view rfl) (notGov_win3 w _ _ _)
  · exact .refl s
theorem startWave_domKept (w ch : Nat) (codes : List Int) (test : Bool) (s : State) :
    DomKept GovOwn s (startWave w ch codes test s) := by
  unfold startWave
  simp only
  have hflush : DomKept GovOwn s (incBy (PLOT_DRL_CNT_FLUSH_count w) (chanOf s w ch).queue.length s) :=
    (DomKept.refl s).setF _ (notGov_win2 w _ _)
  have hcut := (hflush.trans (cutHold_domKept w ch _)).onlyIf (c := chRt w ch) (cutHold_domKept w (seg1Of ch))
  have hclip := hcut.onlyIf (c := codes.any fun v => satInt 16 v != v) (g := setF (PLOT_DRL_STAT_clip w ch) 1)
    fun v => (DomKept.refl v).setF _ (notGov_win3 w _ _ _)
  refine hclip.trans (.trans ?_ (.of_view rfl))
  split <;> exact .of_view rfl
theorem playWave_domKept (r : WaveRead) (s : State) : DomKept GovOwn s (playWave r s) := by
  unfold playWave; split
  · exact (startWave_domKept r.win r.slot _ false s).trans (.of_view rfl)
  · exact .refl s
/-- Driving the gates dark changes of all this the gates alone, and leaves none open (R265). -/
theorem gatesDark_domKept (s : State) : DomKept GovOwn (putGates (gatesDark s).gateOpen s) (gatesDark s) := by
  refine forEach_keeps (fun t => DomKept GovOwn (putGates t.gateOpen s) t) _ _ (fun o _ t ht => ?_) s (.refl s)
  have hplayed : DomKept GovOwn t (forEach ((gateSlots o).map (fun sl => readWave t 17 sl false)) playWave t) :=
    (DomKept.refl t).forEach fun r _ u => playWave_domKept r u
  exact (ht.trans hplayed).gates_both _
theorem gatesDark_gates (s : State) {o : Nat} (ho : o < 256) : (gatesDark s).gateOpen.getLsbD o = false := by
  obtain ⟨g, h, hg⟩ := gatesDark_lowKept s
  rw [congrArg CommitPart.gateOpen h.commits]
  exact hg o ho

end Sys2Proof.Machine
end

section
/-! A domain goes off (R381, R382, R428, R429): a raise of its drain, the reset of its masters, the loss of what it holds. -/
namespace Sys2Proof.Machine
open Sys2Proof.Config

/-! ### A raise counts once -/

/-- A raise below SAFE of a source without a remedy: among the sources' settings and counts it counts itself, and it notes its own
instant alone. -/
theorem raise_counts {n : Nat} {s : State} (hn : n < 48) (d : Nat) (hs : sevOf s n < 4) (hr : hasRemedy n = false)
    (hc : sameCycle n s = false) : (∀ o, 0x20100 ≤ o → o < 0x21000 → rd (raise n d s) o = rd (inc (FLT_CNT_count n) s) o) ∧
      (raise n d s).fltRaised = atPut s.fltRaised n (some s.clk.now) := by
  have hlog : ∀ s1 : State, WritesOnly isLog s1 (if loggedSoon n s1 then incSat FLT_LOG_STAT_merged s1
      else logRaise n (sevOf s n) (sevOf s n == 4 && !fb s FLT_STAT_self_fault && !inSafe s) d s1) := by
    intro s1; split
    · exact writesOnly_setF _ _ (writesOnly_refl _ s1) (.inl rfl)
    · exact logRaise_writesOnly _ _ _ _ s1
  have hnot {o : Nat} (hlo : 0x20100 ≤ o) (hhi : o < 0x21000) : ¬ isLog o := by
    unfold isLog; simp only [FLT_LOG_STAT_wptr]; omega
  unfold raise
  rw [if_neg (by simp [hc])]
  simp only
  have hl := hlog (inc (FLT_CNT_count n) { s with fltRaised := atPut s.fltRaised n (some s.clk.now) })
  generalize (if loggedSoon n _ = true then incSat FLT_LOG_STAT_merged _ else logRaise n _ _ d _) = s2 at hl ⊢
  have hraised : s2.fltRaised = atPut s.fltRaised n (some s.clk.now) := by rw [hl.same]; rfl
  have hregs (o : Nat) (hlo : 0x20100 ≤ o) (hhi : o < 0x21000) : rd s2 o = rd (inc (FLT_CNT_count n) s) o :=
    (hl.others o (hnot hlo hhi)).1
  split
  · exact ⟨hregs, hraised⟩
  · unfold actSeverity
    simp only [remedy_eq hr]
    rw [if_neg (Nat.ne_of_lt hs)]
    have htimer (t : State) : (if sevOf s n = 3 then startTimer n d t else t).regs = t.regs ∧
        (if sevOf s n = 3 then startTimer n d t else t).fltRaised = t.fltRaised := by
      split
      · exact ⟨startTimer_regs n d t, by unfold startTimer; split <;> rfl⟩
      · exact ⟨rfl, rfl⟩
    refine ⟨fun o hlo hhi => (rd_congr (htimer _).1 o).trans ?_, (htimer _).2.trans ?_⟩
    · split
      · exact hregs o hlo hhi
      · exact (rd_setF_other s2 (pendBit n) 1 (by simp only [pendBit, srcBit, FLT_PEND_LO_pending]; omega)).trans (hregs o hlo hhi)
    · split <;> exact hraised
theorem raise_repeated {n : Nat} {s : State} (d : Nat) (hc : sameCycle n s = true) : raise n d s = s := by
  unfold raise; rw [if_pos hc]

theorem DomKept.of_onlyFlt {A : Nat → Prop} {s t : State} (h : OnlyFlt s t) (hr : ∀ o, A o → rd t o = rd s o)
    (hf : atOf t.fltRaised 38 = atOf s.fltRaised 38) : DomKept A s t := by
  obtain ⟨⟨r, x, p, e⟩, -⟩ := h
  refine ⟨hr, ?_, ?_, ?_, ?_, ?_, hf⟩ <;> rw [e]

/-- The bursts that a reset master leaves are drained below SAFE: source 38 sees nothing of it. -/
theorem raise24_domKept (d : Nat) {s : State} (hs : sevOf s 24 < 4) : DomKept GovOwn s (raise 24 d s) := by
  have hflt := raise_onlyFlt (d := d) (by decide) hs rfl
  cases hc : sameCycle 24 s with
  | true => rw [raise_repeated d hc]; exact .refl s
  | false =>
    obtain ⟨hcnt, hraised⟩ := raise_counts (by decide) d hs rfl hc
    refine .of_onlyFlt hflt (fun o ho => ?_) (by rw [hraised]; exact atOf_atPut_other _ (by decide) _)
    by_cases hin : 0x20000 ≤ o ∧ o < 0x30000
    · unfold GovOwn SrcCfg at ho
      rw [hcnt o (by omega) (by omega)]
      exact rd_setF_other s (FLT_CNT_count 24) _ (by simp only [FLT_CNT_count]; omega)
    · exact hflt.2 o hin

/-! ### The reset of masters -/

theorem sevOf_domKept {s t : State} (h : DomKept GovOwn s t) {n : Nat} (hn : n < 48) : sevOf t n = sevOf s n := by
  unfold sevOf
  rw [h.f_eq (FLT_SRC_CFG_severity n) (govOwn_severity hn)]
theorem masterDrain_domKept (m n : Nat) {s : State} (hs : sevOf s 24 < 4) : DomKept GovOwn s (masterDrain m n s) := by
  have hverify : DomKept GovOwn s (onlyIf (m == 5) verifyAbandon s) :=
    (DomKept.refl s).onlyIf fun v => (verifyAbandon_domKept v).gov_of_calApart
  unfold masterDrain
  simp only
  generalize onlyIf (m == 5) verifyAbandon s = s0 at hverify ⊢
  refine .trans ?_ (bpmReclaim_domKept m _)
  split
  · exact hverify.trans (.of_view rfl)
  · have hcounted : DomKept GovOwn s (setF BUS_ABANDON_LAST_requester (reqId m 0) (incBy BUS_CNT_ABANDON_count n
        { s0 with barriers := s0.barriers.filter (· != m), hostFence := s0.hostFence && m != 6 })) :=
      .setF _ (.setF _ (hverify.trans (.of_view rfl)) (notGov_high (by decide) (by decide))) (notGov_high (by decide) (by decide))
    exact hcounted.trans (raise24_domKept _ (by rw [sevOf_domKept hcounted (by decide)]; exact hs))
theorem drainAll_domKept (ms : List Nat) (n : Nat) {s : State} (hs : sevOf s 24 < 4) : DomKept GovOwn s (drainAll ms n s) :=
  forEach_keeps (DomKept GovOwn s) _ _
    (fun e _ _ ht => ht.trans (masterDrain_domKept e.1 e.2 (by rw [sevOf_domKept ht (by decide)]; exact hs))) s (.refl s)

/-! ### What the domain holds is lost -/

/-- A register in a cleared range reads as reset, every other as before. -/
theorem rd_clearRegs (l : List (Nat × Nat)) (s : State) (o : Nat) :
    rd (clearRegs l s) o = if ∃ x ∈ l, x.1 ≤ o ∧ o < x.2 then regReset o else rd s o := by
  show amGet regReset (l.foldl (fun r x => amClear x.1 x.2 r) s.regs) o = _
  suffices h : ∀ r : AMap Word, amGet regReset (l.foldl (fun r x => amClear x.1 x.2 r) r) o =
      if ∃ x ∈ l, x.1 ≤ o ∧ o < x.2 then regReset o else amGet regReset r o from h s.regs
  induction l with
  | nil => intro r; simp
  | cons a l ih =>
    intro r
    rw [List.foldl_cons, ih, amGet_amClear]
    by_cases hl : ∃ x ∈ l, x.1 ≤ o ∧ o < x.2 <;> by_cases ha : a.1 ≤ o ∧ o < a.2 <;> simp [hl, ha]

/-- Every range of a domain lies above GOV and FLT, and off the blocks BUS and CAL. -/
theorem domRanges_place {d o : Nat} {r : Nat × Nat} (hr : r ∈ domRanges d) (hlo : r.1 ≤ o) (hhi : o < r.2) :
    0x50000 ≤ o ∧ (o < 0x90000 ∨ 0xA0000 ≤ o) ∧ (o < 0xC0000 ∨ 0xD0000 ≤ o) := by
  unfold domRanges at hr
  split at hr
  · rw [List.mem_singleton] at hr
    subst hr
    have := winBase_above d
    simp only at hlo; omega
  · split at hr <;> simp only [List.mem_cons, List.mem_append, List.mem_map, List.mem_range, List.not_mem_nil, or_false] at hr
    case h_6 => rcases hr with rfl | ⟨m, hm, rfl⟩ <;> simp only at hlo hhi <;> omega
    all_goals subst hr; simp only at hlo hhi; omega
theorem domRanges_notGov {d o : Nat} {r : Nat × Nat} (hr : r ∈ domRanges d) (hlo : r.1 ≤ o) (hhi : o < r.2) : ¬ GovOwn o := by
  have := domRanges_place hr hlo hhi
  exact notGov_high (by omega) (by omega)
theorem clearRegs_domKept (d : Nat) (s : State) : DomKept GovOwn s (clearRegs (domRanges d) s) :=
  ⟨fun o ho => (rd_clearRegs _ s o).trans (if_neg fun ⟨_, hr, hlo, hhi⟩ => domRanges_notGov hr hlo hhi ho), rfl, rfl, rfl, rfl, rfl, rfl⟩

/-- The registers outside the pools and the timestamp queues. -/
def PortApart (o : Nat) : Prop := o < 0x40000 ∨ o = 0x90040 ∨ (0xD0000 ≤ o ∧ o < 0xE0000)

theorem releaseHandle_domKept (h : Option Nat) (s : State) : DomKept PortApart s (releaseHandle h s) := by
  have hpool (p : Nat) (hp : p < 4) : ¬ PortApart (0xA0100 + 16 * p) := by unfold PortApart; omega
  unfold releaseHandle
  repeat' split
  · exact giveBack_domKept (hpool _ (Nat.mod_lt _ (by decide))) (by unfold PortApart; decide) _ s
  all_goals exact .refl s
theorem clearPort_domKept {n : Nat} (hn : n < 2) (s : State) : DomKept PortApart s (clearPort n s) := by
  have hfreed : DomKept PortApart s (forEach ((txWaiting s n).map (·.handle)) releaseHandle
      { s with txWait := amSet (fun _ => []) s.txWait n [], txRing := amSet (fun _ => false) s.txRing n false }) :=
    .forEach (.of_view rfl) fun h _ v => releaseHandle_domKept h v
  unfold clearPort tsqFlush tsqPut
  generalize forEach _ releaseHandle _ = u at hfreed ⊢
  exact .setF _ (hfreed.trans (.of_view rfl)) (by unfold PortApart; simp only [TIME_TSQ_STAT_depth]; omega)
theorem DomKept.gov_of_portApart {s t : State} (h : DomKept PortApart s t) : DomKept GovOwn s t :=
  ⟨fun o ho => h.regs o (by unfold GovOwn SrcCfg at ho; unfold PortApart; omega), h.clk, h.gates, h.sleepQ, h.wakeQ, h.wakeAt, h.raised⟩
theorem portsDark_onlyTelem (s : State) : OnlyTelem { s with lit := 0, overIn := 0, hiRun := [], loRun := [] } (portsDark s) :=
  onlyTelem_trans (reportOuts_onlyTelem s _) (onlyTelem_forEach _ _ (fun n u => reportIn_onlyTelem n u) _)
theorem clearLight_domKept {A : Nat → Prop} (s : State) : DomKept A s (clearLight s) := by
  have hreported := DomKept.of_onlyTelem (A := A) (portsDark_onlyTelem s)
  have hdark : DomKept A s (portsDark s) := by
    refine .trans ?_ hreported
    exact .of_view rfl
  exact hdark.trans (.of_view rfl)

/-- What a window's domain loses, the light and the gates apart. -/
def winCleared (d : Nat) (s : State) : State :=
  setF (PLOT_SLC_STAT_role d (spareOf d)) 2 (setF (CAL_WIN_GEN_generation d) 0 (clearWindow d (clearRegs (domRanges d) s)))
theorem domClear_win {d : Nat} (h : d < 18) (s : State) : domClear d s =
    if d = 16 then clearLight (winCleared d s) else if d = 17 then { winCleared d s with gateOpen := 0 } else winCleared d s := by
  unfold domClear; rw [if_pos h]; rfl
theorem winCleared_domKept {d : Nat} (h : d < 18) (s : State) : DomKept GovOwn s (winCleared d s) :=
  .setF _ (.setF _ ((clearRegs_domKept d s).trans (.of_view rfl))
    (notGov_high (by simp only [CAL_WIN_GEN_generation]; omega) (by simp only [CAL_WIN_GEN_generation]; omega))) (notGov_win3 d _ _ _)

/-- A domain without a window: what it holds besides its registers touches none of them. -/
theorem domClear_rest {d : Nat} (h : 18 ≤ d) (s : State) : DomKept GovOwn s (domClear d s) ∧
    ∀ r ∈ domRanges d, ∀ o, r.1 ≤ o → o < r.2 → rd (domClear d s) o = rd (clearRegs (domRanges d) s) o := by
  have hregs := clearRegs_domKept d s
  unfold domClear
  simp only
  rw [if_neg (by omega)]
  generalize hs1 : clearRegs (domRanges d) s = s1 at hregs ⊢
  split
  case h_1 | h_2 =>
    refine ⟨hregs.setF _ (by unfold GovOwn SrcCfg; decide), fun r hr => ?_⟩
    simp [domRanges] at hr
  case h_5 =>
    have hport := clearPort_domKept (n := 0) (by decide) s1
    refine ⟨hregs.trans hport.gov_of_portApart, fun r hr o hlo hhi => hport.regs o (.inr (.inr ?_))⟩
    rw [List.mem_singleton.1 (show r ∈ [(0xD0000, 0xD8000)] from hr)] at hlo hhi
    simp only at hlo hhi; omega
  case h_6 =>
    have hport := clearPort_domKept (n := 1) (by decide) s1
    refine ⟨hregs.trans hport.gov_of_portApart, fun r hr o hlo hhi => hport.regs o (.inr (.inr ?_))⟩
    rw [List.mem_singleton.1 (show r ∈ [(0xD8000, 0xE0000)] from hr)] at hlo hhi
    simp only at hlo hhi; omega
  case h_8 =>
    have hlost : DomKept CalApart s1 (clearDram s1) := by
      refine .trans ?_ (calLost_domKept _)
      exact .of_view rfl
    refine ⟨hregs.trans hlost.gov_of_calApart, fun r hr o hlo hhi => hlost.regs o ?_⟩
    unfold CalApart
    rcases List.mem_cons.1 hr with rfl | hr
    · simp only at hlo hhi; omega
    · obtain ⟨m, -, rfl⟩ := List.mem_map.1 hr
      simp only at hlo; omega
  all_goals exact ⟨hregs.trans (.of_view rfl), fun _ _ _ _ _ => rfl⟩
theorem domClear_domKept (d : Nat) (s : State) :
    DomKept GovOwn (putGates (if d = 17 then 0 else s.gateOpen) s) (domClear d s) := by
  by_cases h : d < 18
  · have hwin := winCleared_domKept h s
    rw [domClear_win h]
    by_cases h16 : d = 16
    · rw [if_pos h16, if_neg (by omega)]
      exact hwin.trans (clearLight_domKept _)
    · rw [if_neg h16]
      split
      · exact hwin.gates_both 0
      · exact hwin
  · rw [if_neg (by omega)]
    exact (domClear_rest (by omega) s).1
/-- Every register of the domain is at its reset value, the spare's role apart. -/
theorem rd_domClear {d o : Nat} {r : Nat × Nat} (hr : r ∈ domRanges d) (hlo : r.1 ≤ o) (hhi : o < r.2)
    (hrole : o ≠ (PLOT_SLC_STAT_role d (spareOf d)).off) (s : State) : rd (domClear d s) o = regReset o := by
  have hreset : rd (clearRegs (domRanges d) s) o = regReset o := (rd_clearRegs _ s o).trans (if_pos ⟨r, hr, hlo, hhi⟩)
  by_cases h : d < 18
  · have habove := winBase_above d
    have hwin : rd (winCleared d s) o = regReset o := by
      refine (rd_setF_other _ _ _ hrole).trans ((rd_setF_other _ _ _ ?_).trans hreset)
      rw [List.mem_singleton.1 (show r ∈ [(winBase d, winBase d + 0x100000)] by simpa [domRanges, h] using hr)] at hlo
      simp only [CAL_WIN_GEN_generation] at *; omega
    rw [domClear_win h]
    repeat' split
    · exact ((clearLight_domKept (A := fun _ => True) _).regs o trivial).trans hwin
    all_goals exact hwin
  · exact ((domClear_rest (by omega) s).2 r hr o hlo hhi).trans hreset

/-! ### Off -/

theorem reloadNote_onlyMsix (s : State) : OnlyMsix s (reloadNote s) := by
  unfold reloadNote
  repeat' split
  · exact onlyMsix_trans (onlyMsix_setF CAL_STAT_reload_pend 0 (onlyMsix_refl s)) (dueMsix_eq true 9 _)
  · exact onlyMsix_refl s
  · exact onlyMsix_setF _ _ (onlyMsix_refl s)

theorem incBy_both {A : Nat → Prop} {s t : State} (h : DomKept A s t) (x : Fld) (n : Nat) (hx : A x.off) :
    DomKept A (incBy x n s) (incBy x n t) := by
  unfold incBy; rw [h.f_eq x hx]; exact h.setF_both x _ hx
theorem putDom_both {A : Nat → Prop} {s t : State} (h : DomKept A s t) (x : Fld) (d : Nat) (b : Bool) (hx : A x.off) :
    DomKept A (putDom x d b s) (putDom x d b t) := h.setF_both _ _ hx

theorem sevOf_incBy_unassigned (k : Nat) (s : State) : sevOf (incBy BUS_CNT_UNASSIGNED_count k s) 24 = sevOf s 24 := by
  unfold sevOf incBy; rw [f_setF_off s BUS_CNT_UNASSIGNED_count _ _ (by decide)]

/-- A domain's bit is cleared and what was outstanding to it counts (R381, R429); with the output headland the gates are lost. -/
def offMarks (d k : Nat) (s : State) : State :=
  putGates (if d = 17 then 0 else s.gateOpen) (putDom GOV_DOM_STAT_on d false (incBy BUS_CNT_UNASSIGNED_count k s))
/-- A domain that goes off changes of the frame what is marked so. -/
theorem domOff_domKept (d n k : Nat) {s : State} (hs : sevOf s 24 < 4) : DomKept GovOwn (offMarks d k s) (domOff d n k s) := by
  have hwin : DomKept GovOwn s (if d < 18 then glnSrcOff d (abandonWindow d s) else s) := by
    split
    · exact (abandonWindow_domKept d s).trans (glnSrcOff_domKept d _)
    · exact .refl s
  unfold domOff
  simp only
  generalize (if d < 18 then glnSrcOff d (abandonWindow d s) else s) = s2 at hwin ⊢
  have hcounted := incBy_both hwin BUS_CNT_UNASSIGNED_count k govOwn_unassigned
  have hsev : sevOf (incBy BUS_CNT_UNASSIGNED_count k s2) 24 < 4 := by
    rw [sevOf_incBy_unassigned, sevOf_domKept hwin (by decide)]; exact hs
  have hdrained := hcounted.trans (drainAll_domKept (domMasters s2 d) n hsev)
  generalize drainAll (domMasters s2 d) n _ = s3 at hdrained ⊢
  have hoff := putDom_both hdrained GOV_DOM_STAT_on d false (govOwn_gov (by decide))
  generalize hs4 : putDom GOV_DOM_STAT_on d false s3 = s4 at hoff ⊢
  have hlost := domClear_domKept d s4
  rw [show s4.gateOpen = s.gateOpen from hoff.gates] at hlost
  exact ((hoff.gates_both _).trans hlost).trans (reloadNote_domKept _).gov_of_calApart

/-- A plot that goes off leaves the present map (R382). -/
theorem domOff_present {d : Nat} (hd : d < 16) (n k : Nat) (s : State) : (domOff d n k s).present = s.present := by
  have hwin : (glnSrcOff d (abandonWindow d s)).present = s.present := by
    refine Eq.trans (forEach_same (fun t : State => t.present) _ _ ?_ _) ?_
    · intro _ _ _; rfl
    exact congrArg CommitPart.present (abandonWindow_lowKept d s).commits
  have hmasters (t : State) : domMasters t d = [] := by interval_cases d <;> rfl
  obtain ⟨r, m, x, h, e⟩ := reloadNote_onlyMsix (domClear d (putDom GOV_DOM_STAT_on d false
    (drainAll (domMasters (glnSrcOff d (abandonWindow d s)) d) n (incBy BUS_CNT_UNASSIGNED_count k (glnSrcOff d (abandonWindow d s))))))
  unfold domOff
  simp only
  rw [if_pos (by omega), e, domClear_win (by omega), if_neg (by omega), if_neg (by omega), hmasters]
  exact hwin

end Sys2Proof.Machine
end

section
/-! The commands of a domain's wake, sleep and failure (R380 to R382): what each leaves of GOV's masks, the queues, the gates, the
counts and the registers of the domain. -/
namespace Sys2Proof.Machine
open Sys2Proof.Config

/-! ### Masks of domains -/

/-- A field with a bit for every domain, in a register of its own in GOV. -/
def DomMask (x : Fld) : Prop := x.lsb = 0 ∧ x.wid = 30

/-- A domain's bit of a mask, as the one-bit field that a command writes. -/
theorem testBit_domMask {x : Fld} (hx : DomMask x) {e : Nat} (he : e < 30) (s : State) :
    (f s x).testBit e = decide (f s ⟨x.off, e, 1⟩ = 1) := by
  obtain ⟨hl, hw⟩ := hx
  unfold f
  rw [testBit_fldOf, hl, hw, decide_eq_true he, Bool.true_and, Nat.add_zero, Nat.testBit_eq_decide_div_mod_eq]
  rfl
/-- A domain's bit of a mask that one bit was written in. -/
theorem testBit_putDom {x : Fld} (hx : DomMask x) {d e : Nat} (hd : d < 30) (he : e < 30) (b : Bool) (s : State) :
    (f (putDom x d b s) x).testBit e = if e = d then b else (f s x).testBit e := by
  have hput : putDom x d b s = setF ⟨x.off, d, 1⟩ b.toNat s := by unfold putDom setB; rw [hx.1, Nat.zero_add]
  rw [testBit_domMask hx he, testBit_domMask hx he, hput]
  by_cases h : e = d
  · subst h
    rw [if_pos rfl, f_setF_same _ _ _ (by simp only; omega)]
    cases b <;> rfl
  · rw [if_neg h, f_setF_ne s ⟨x.off, d, 1⟩ ⟨x.off, e, 1⟩ _ (by simp only; omega) (.inr (by simp only; omega))]
theorem f_putDom_off {x y : Fld} (h : y.off ≠ x.off) (d : Nat) (b : Bool) (s : State) : f (putDom x d b s) y = f s y :=
  f_setF_off s _ y _ h

theorem domOn_putDom {d e : Nat} (hd : d < 30) (he : e < 30) (b : Bool) (s : State) :
    domOn (putDom GOV_DOM_STAT_on d b s) e = if e = d then b else domOn s e := testBit_putDom ⟨rfl, rfl⟩ hd he b s
theorem domFailed_putDom {d e : Nat} (hd : d < 30) (he : e < 30) (b : Bool) (s : State) :
    domFailed (putDom GOV_DOM_FAIL_fail d b s) e = if e = d then b else domFailed s e := testBit_putDom ⟨rfl, rfl⟩ hd he b s
theorem domFallow_putDom {d e : Nat} (hd : d < 30) (he : e < 30) (b : Bool) (s : State) :
    domFallow (putDom GOV_DOM_FALLOW_fallow d b s) e = if e = d then b else domFallow s e := testBit_putDom ⟨rfl, rfl⟩ hd he b s

section
variable {s t : State} (h : DomKept GovOwn s t)
include h

theorem domOn_domKept (d : Nat) : domOn t d = domOn s d := by unfold domOn; rw [h.f_eq _ (govOwn_gov (by decide))]
theorem domFailed_domKept (d : Nat) : domFailed t d = domFailed s d := by unfold domFailed; rw [h.f_eq _ (govOwn_gov (by decide))]
theorem devState_domKept : devState t = devState s := h.f_eq _ (govOwn_gov (by decide))
end

theorem settle_domKept (s0 s : State) : DomKept GovOwn s (settle s0 s) :=
  .of_onlyMsix (settle_eq s0 s) fun _ ho => rd_settle s0 s (fun e => by subst e; revert ho; exact notGov_high (by decide) (by decide))

/-! ### Failure -/

/-- What the failure of domain `d` leaves, beside the count of source 38 (R382). -/
structure Failed (d : Nat) (s t : State) : Prop where
  off : domOn t d = false
  others : ∀ x < 30, x ≠ d → domOn t x = domOn s x
  failed : domFailed t d = true
  otherFails : ∀ x < 30, x ≠ d → domFailed t x = domFailed s x
  evt : f t GOV_STAT_dom_evt = 1
  leftWake : d ∉ t.wakeQ
  leftSleep : d ∉ t.sleepQ
  plot : d < 16 → t.gateOpen = s.gateOpen ∧ t.present = s.present

/-- What leaves the registers of GOV, the queues, the gates and the map leaves a failure. -/
theorem failed_congr {d : Nat} {s t u : State} (h : Failed d s t) (hr : ∀ o, 0x30000 ≤ o ∧ o < 0x40000 → rd u o = rd t o)
    (hv : (u.wakeQ, u.sleepQ, u.gateOpen, u.present) = (t.wakeQ, t.sleepQ, t.gateOpen, t.present)) : Failed d s u := by
  have field (x : Fld) (hx : 0x30000 ≤ x.off ∧ x.off < 0x40000) : f u x = f t x := by unfold f; rw [hr _ hx]
  have hon (x : Nat) : domOn u x = domOn t x := by unfold domOn; rw [field _ (by decide)]
  have hfailed (x : Nat) : domFailed u x = domFailed t x := by unfold domFailed; rw [field _ (by decide)]
  simp only [Prod.mk.injEq] at hv
  obtain ⟨hw, hs, hg, hp⟩ := hv
  exact
    { off := (hon d).trans h.off
      others := fun x hx hne => (hon x).trans (h.others x hx hne)
      failed := (hfailed d).trans h.failed
      otherFails := fun x hx hne => (hfailed x).trans (h.otherFails x hx hne)
      evt := (field _ (by decide)).trans h.evt
      leftWake := by rw [hw]; exact h.leftWake
      leftSleep := by rw [hs]; exact h.leftSleep
      plot := fun hd => ⟨hg.trans (h.plot hd).1, hp.trans (h.plot hd).2⟩ }

/-- The failing domain is off, leaves the queues, and is marked. -/
def failMarks (d n k : Nat) (s : State) : State :=
  setF GOV_STAT_dom_evt 1 (putDom GOV_DOM_FAIL_fail d true
    { domOff d n k s with sleepQ := (domOff d n k s).sleepQ.filter (· != d), wakeQ := (domOff d n k s).wakeQ.filter (· != d) })
theorem domFails_eq (d n k : Nat) (s : State) : domFails d n k s = wakeNext s (raise 38 d (failMarks d n k s)) := rfl

/-- The start of the next wake touches the instant of that start alone. -/
theorem wakeNext_eq (s0 s : State) : ∃ a, wakeNext s0 s = { s with wakeAt := a } := by
  unfold wakeNext; split
  · exact ⟨s.wakeAt, rfl⟩
  · exact ⟨s.clk.now, rfl⟩

/-- Every register of the frame but the mask of the domains that are on and the count of unassigned accesses stands. -/
theorem f_domOff (d n k : Nat) {s : State} (hs : sevOf s 24 < 4) {x : Fld} (hx : GovOwn x.off) (h1 : x.off ≠ GOV_DOM_STAT_on.off)
    (h2 : x.off ≠ BUS_CNT_UNASSIGNED_count.off) : f (domOff d n k s) x = f s x := by
  refine ((domOff_domKept d n k hs).f_eq x hx).trans ?_
  exact (f_putDom_off h1 d false (incBy BUS_CNT_UNASSIGNED_count k s)).trans (f_setF_off s BUS_CNT_UNASSIGNED_count x _ h2)

section
variable {d : Nat} {s : State} (hd : d < 30) (hs : sevOf s 24 < 4)
include hd hs

theorem domOn_domOff (n k : Nat) : domOn (domOff d n k s) d = false ∧ ∀ x < 30, x ≠ d → domOn (domOff d n k s) x = domOn s x := by
  have hk := domOff_domKept d n k hs
  have hbit (x : Nat) (hx : x < 30) : domOn (domOff d n k s) x = if x = d then false else domOn s x := by
    rw [domOn_domKept hk]
    refine (domOn_putDom hd hx false (incBy BUS_CNT_UNASSIGNED_count k s)).trans ?_
    rw [domOn, incBy, f_setF_off s BUS_CNT_UNASSIGNED_count _ _ (by decide)]; rfl
  exact ⟨by rw [hbit d hd, if_pos rfl], fun x hx hne => by rw [hbit x hx, if_neg hne]⟩
theorem failMarks_failed (n k : Nat) : Failed d s (failMarks d n k s) := by
  obtain ⟨hoff, hothers⟩ := domOn_domOff hd hs n k
  have hk := domOff_domKept d n k hs
  have hon (x : Nat) : domOn (failMarks d n k s) x = domOn (domOff d n k s) x := by
    unfold failMarks domOn
    rw [f_setF_off _ GOV_STAT_dom_evt _ _ (by decide), f_putDom_off (by decide)]; rfl
  have hfail (x : Nat) (hx : x < 30) : domFailed (failMarks d n k s) x = if x = d then true else domFailed s x := by
    have hmask : f (domOff d n k s) GOV_DOM_FAIL_fail = f s GOV_DOM_FAIL_fail :=
      f_domOff d n k hs (govOwn_gov (by decide)) (by decide) (by decide)
    unfold failMarks
    rw [domFailed, f_setF_off _ GOV_STAT_dom_evt _ _ (by decide)]
    refine (domFailed_putDom hd hx true _).trans ?_
    unfold domFailed
    rw [← hmask]; rfl
  refine ⟨(hon d).trans hoff, fun x hx hne => (hon x).trans (hothers x hx hne), by rw [hfail d hd, if_pos rfl],
    fun x hx hne => by rw [hfail x hx, if_neg hne], f_setF_same _ _ _ (by decide), ?_, ?_, fun hp => ⟨?_, domOff_present hp n k s⟩⟩
  · show d ∉ (domOff d n k s).wakeQ.filter (· != d)
    simp
  · show d ∉ (domOff d n k s).sleepQ.filter (· != d)
    simp
  · exact hk.gates.trans (if_neg (by omega))

/-- A failure below SAFE: the marks stand, the clock too, and source 38 counts one unless it was raised in this cycle. -/
theorem domFails_spec (h38 : sevOf s 38 < 4) (n k : Nat) : Failed d s (domFails d n k s) ∧ (domFails d n k s).clk = s.clk ∧
    (sameCycle 38 s = false → f (domFails d n k s) (FLT_CNT_count 38) = (f s (FLT_CNT_count 38) + 1) % 2 ^ 32) := by
  have hk := domOff_domKept d n k hs
  have hmarks := failMarks_failed hd hs n k
  have hregs (x : Fld) (hx : GovOwn x.off) (hgov : ¬ (0x30000 ≤ x.off ∧ x.off < 0x40000)) (hu : x.off ≠ BUS_CNT_UNASSIGNED_count.off) :
      f (failMarks d n k s) x = f s x := by
    have hne {o : Nat} (ho : 0x30000 ≤ o ∧ o < 0x40000) : x.off ≠ o := fun e => hgov (e ▸ ho)
    unfold failMarks
    rw [f_setF_off _ GOV_STAT_dom_evt _ _ (hne (by decide)), f_putDom_off (hne (by decide))]
    exact f_domOff d n k hs hx (hne (by decide)) hu
  have hsev : sevOf (failMarks d n k s) 38 < 4 := by
    unfold sevOf
    rw [hregs (FLT_SRC_CFG_severity 38) (govOwn_severity (by decide)) (by simp only [FLT_SRC_CFG_severity]; omega)
      (by simp only [FLT_SRC_CFG_severity, BUS_CNT_UNASSIGNED_count]; omega)]
    exact h38
  have hcnt : f (failMarks d n k s) (FLT_CNT_count 38) = f s (FLT_CNT_count 38) :=
    hregs _ govOwn_count (by simp only [FLT_CNT_count]; omega) (by simp only [FLT_CNT_count, BUS_CNT_UNASSIGNED_count]; omega)
  have hclk : (failMarks d n k s).clk = s.clk := hk.clk
  have hraised : atOf (failMarks d n k s).fltRaised 38 = atOf s.fltRaised 38 := hk.raised
  have hcycle : sameCycle 38 (failMarks d n k s) = sameCycle 38 s := by unfold sameCycle; rw [hraised, hclk]
  obtain ⟨a, ha⟩ := wakeNext_eq s (raise 38 d (failMarks d n k s))
  rw [domFails_eq, ha, ← hcycle, ← hcnt, ← hclk]
  generalize failMarks d n k s = m at hmarks hsev
  have hflt := raise_onlyFlt (d := d) (by decide) hsev rfl
  have hgov (o : Nat) (ho : 0x30000 ≤ o ∧ o < 0x40000) : rd (raise 38 d m) o = rd m o := hflt.2 o (by omega)
  obtain ⟨⟨r, x, p, e⟩, -⟩ := hflt
  refine ⟨failed_congr hmarks hgov ?_, by rw [e], fun hc => ?_⟩
  · rw [e]
  · have hone := (raise_counts (by decide) d hsev rfl hc).1 (FLT_CNT_count 38).off (by decide) (by decide)
    exact (congrArg (fldOf · (FLT_CNT_count 38)) hone).trans (f_setF_same m (FLT_CNT_count 38) _ (by decide))
end

theorem failed_settle {d : Nat} {s t : State} (s0 : State) (h : Failed d s t) : Failed d s (settle s0 t) :=
  failed_congr h (fun o ho => rd_settle s0 t (by simp only [DMA_MSIX_PEND_pending]; omega)) (by simp)

/-! ### Sleep -/

theorem darkFirst_domKept (d : Nat) (s : State) : DomKept GovOwn (putGates (darkFirst d s).gateOpen s) (darkFirst d s) := by
  unfold darkFirst onlyIf; split
  · exact gatesDark_domKept s
  · exact .refl s
theorem pdEnGo_domKept {A : Nat → Prop} (b : Bool) (s : State) : DomKept A s (pdEnGo b s) := by
  unfold pdEnGo
  repeat' split
  all_goals exact .of_view rfl
theorem pdEnGo_pdEn (b : Bool) (s : State) : (pdEnGo b s).pdEn = b := by
  unfold pdEnGo
  split
  · next h => exact h.symm
  · cases b <;> rfl

/-- The domain is off and has left the sleep queue; its next wake, where it is due, begins at `a` (log 84). -/
def sleptState (d n k a : Nat) (s : State) : State :=
  { domOff d n k (darkFirst d s) with sleepQ := (domOff d n k (darkFirst d s)).sleepQ.filter (· != d), wakeAt := a }
theorem sleepDone_eq (d n k : Nat) (s : State) : ∃ a, sleepDone d n k s = sleptState d n k a s := by
  unfold sleepDone
  simp only
  split
  · exact ⟨_, rfl⟩
  · exact ⟨(domOff d n k (darkFirst d s)).wakeAt, rfl⟩

section
variable {d : Nat} {s : State} (hd : d < 30) (hs : sevOf s 24 < 4)
include hd hs

/-- What a sleep leaves before PD_EN: GOV's masks, the queue, the clock, the gates and the count of unassigned accesses. -/
theorem sleptState_spec (n k a : Nat) : let t := sleptState d n k a s
    (domOn t d = false ∧ ∀ x < 30, x ≠ d → domOn t x = domOn s x) ∧ d ∉ t.sleepQ ∧ t.clk = s.clk ∧ devState t = devState s ∧
    t.gateOpen = (if d = 17 then 0 else (darkFirst d s).gateOpen) ∧
    f t BUS_CNT_UNASSIGNED_count = (f s BUS_CNT_UNASSIGNED_count + k) % 2 ^ 32 := by
  have hdark := darkFirst_domKept d s
  have hsev : sevOf (darkFirst d s) 24 < 4 := by rw [sevOf_domKept hdark (by decide)]; exact hs
  have hk := domOff_domKept d n k hsev
  obtain ⟨hoff, hothers⟩ := domOn_domOff hd hsev n k
  have hdev := devState_domKept hdark
  have hcnt : f (darkFirst d s) BUS_CNT_UNASSIGNED_count = f s BUS_CNT_UNASSIGNED_count := hdark.f_eq _ govOwn_unassigned
  refine ⟨⟨hoff, fun x hx hne => (hothers x hx hne).trans (domOn_domKept hdark x)⟩, ?_, hk.clk.trans hdark.clk,
    (f_domOff d n k hsev (govOwn_gov (by decide)) (by decide) (by decide)).trans hdev, hk.gates, ?_⟩
  · show d ∉ (domOff d n k (darkFirst d s)).sleepQ.filter (· != d)
    simp
  · rw [← hcnt]
    refine (hk.f_eq BUS_CNT_UNASSIGNED_count govOwn_unassigned).trans ?_
    refine (f_putDom_off (by decide) d false (incBy BUS_CNT_UNASSIGNED_count k (darkFirst d s))).trans ?_
    exact f_setF_same _ BUS_CNT_UNASSIGNED_count _ (by decide)

/-- A sleep as a whole: what it leaves, and PD_EN with the last window in STANDBY_PEND (R526). -/
theorem domSleep_spec (n k : Nat) (hq : s.sleepQ.head? = some d) (hon : domOn s d = true) (hc : s.commit = none) :
    ∃ a, DomKept GovOwn (sleptState d n k a s) (domSleep d n k s) ∧
      (devState s = 3 → (∀ w < 18, w ≠ d → domOn s w = false) → (domSleep d n k s).pdEn = false) := by
  obtain ⟨a, ha⟩ := sleepDone_eq d n k s
  obtain ⟨⟨hoff, hothers⟩, -, -, hdev, -, -⟩ := sleptState_spec hd hs n k a
  have hgo : (s.sleepQ.head? == some d && domOn s d && s.commit.isNone) = true := by rw [hq, hon, hc]; simp
  unfold domSleep
  rw [if_pos hgo]
  simp only [ha]
  refine ⟨a, ?_, fun h3 hall => ?_⟩
  · split
    · exact pdEnGo_domKept _ _
    · exact .refl _
  · have hwin : windowsOff (sleptState d n k a s) = true := by
      refine List.all_eq_true.2 fun w hw => ?_
      have hw18 : w < 18 := List.mem_range.1 hw
      by_cases hwd : w = d
      · subst hwd; rw [hoff]; rfl
      · rw [hothers w (by omega) hwd, hall w hw18 hwd]; rfl
    rw [if_pos (by rw [hdev, h3, hwin]; rfl)]
    exact pdEnGo_pdEn _ _
end

/-- The gates while a domain goes to sleep: a seeded window drives them dark first (R381). -/
theorem darkFirst_gates (d : Nat) (s : State) :
    (d < 18 ∧ domOn s 17 = true ∧ fb s (PLOT_DRL_SEED_STAT_seeded d) = true → ∀ o < 256, (darkFirst d s).gateOpen.getLsbD o = false) ∧
    (¬ (d < 18 ∧ domOn s 17 = true ∧ fb s (PLOT_DRL_SEED_STAT_seeded d) = true) → (darkFirst d s).gateOpen = s.gateOpen) := by
  unfold darkFirst onlyIf
  refine ⟨fun ⟨h1, h2, h3⟩ o ho => ?_, fun h => ?_⟩
  · rw [if_pos (by rw [h2, h3]; simp [h1])]
    exact gatesDark_gates s ho
  · rw [if_neg (by simpa [and_assoc] using h)]

end Sys2Proof.Machine
end

section
/-! A domain wakes (R380, R307, Table 7-8): its registers at reset, what the wake brings besides, and the marks of the wake. -/
namespace Sys2Proof.Machine
open Sys2Proof.Config

/-- The domain leaves the wake queue, and the next one begins its wake. -/
def wakeFrom (d : Nat) (s : State) : State := { s with wakeQ := s.wakeQ.filter (· != d), wakeAt := s.clk.now }
/-- The marks of a wake. -/
def wakeMarks (d : Nat) (s : State) : State :=
  setF GOV_STAT_dom_evt 1 (putDom GOV_DOM_WAKE_woke d true (putDom GOV_DOM_STAT_on d true s))
/-- The domain on, at reset, before what its wake brings besides. -/
def wokenAt (d : Nat) (s : State) : State := wakeMarks d (domClear d (wakeFrom d s))

theorem domWake_due {d : Nat} {s : State} (hq : s.wakeQ.head? = some d) (hon : domOn s d = false) :
    domWake d s = if wakeLimit d s < s.clk.now then domFails d 0 0 s else reloadNote (wakeExtra d (wokenAt d s)) := by
  have hgo : (s.wakeQ.head? == some d && !domOn s d) = true := by rw [hq, hon]; simp
  unfold domWake
  rw [if_pos hgo]
  rfl

/-! ### Marks -/

theorem rd_wakeMarks (d : Nat) (s : State) {o : Nat} (h : ¬ (0x30000 ≤ o ∧ o < 0x40000)) : rd (wakeMarks d s) o = rd s o := by
  have hne {p : Nat} (hp : 0x30000 ≤ p ∧ p < 0x40000) : o ≠ p := fun e => h (e ▸ hp)
  have hput (x : Fld) (b : Bool) (t : State) (hx : 0x30000 ≤ x.off ∧ x.off < 0x40000) : rd (putDom x d b t) o = rd t o :=
    rd_setF_other t ⟨x.off, x.lsb + d, 1⟩ _ (hne hx)
  unfold wakeMarks
  rw [rd_setF_other _ GOV_STAT_dom_evt _ (hne (by decide)), hput _ _ _ (by decide), hput _ _ _ (by decide)]
theorem wakeMarks_both {A : Nat → Prop} {s t : State} (h : DomKept A s t) (hA : ∀ o, 0x30000 ≤ o ∧ o < 0x40000 → A o) (d : Nat) :
    DomKept A (wakeMarks d s) (wakeMarks d t) :=
  (putDom_both (putDom_both h GOV_DOM_STAT_on d true (hA _ (by decide))) GOV_DOM_WAKE_woke d true (hA _ (by decide))).setF_both _ _
    (hA _ (by decide))
theorem wakeMarks_spec {d : Nat} (hd : d < 30) (s : State) :
    (∀ x < 30, domOn (wakeMarks d s) x = if x = d then true else domOn s x) ∧
    (f (wakeMarks d s) GOV_DOM_WAKE_woke).testBit d = true ∧ f (wakeMarks d s) GOV_STAT_dom_evt = 1 := by
  unfold wakeMarks
  refine ⟨fun x hx => ?_, ?_, f_setF_same _ _ _ (by decide)⟩
  · rw [domOn, f_setF_off _ GOV_STAT_dom_evt _ _ (by decide), f_putDom_off (by decide)]
    exact domOn_putDom hd hx true s
  · rw [f_setF_off _ GOV_STAT_dom_evt _ _ (by decide), testBit_putDom ⟨rfl, rfl⟩ hd hd, if_pos rfl]

/-! ### What a wake brings -/

theorem wakeExtra_win {d : Nat} (h : d < 18) (s : State) :
    wakeExtra d s = if calActive s then loadDue d (wakeHolds d s) else wakeHolds d s := by
  unfold wakeExtra; rw [if_pos h]
/-- It writes the count of holds of a window, the first lease, the shaper's rate, and no other register. -/
theorem rd_wakeExtra (d : Nat) (s : State) {o : Nat} (hdg : o ≠ (PLOT_DRL_CNT_DG_count d).off) (hsup : o ≠ 0x20304)
    (hrate : o ≠ CMT_EBKT_RATE_rate.off) : rd (wakeExtra d s) o = rd s o := by
  unfold wakeExtra
  split
  · have hholds : rd (wakeHolds d s) o = rd s o := rd_setF_other { s with dgWake := _ } (PLOT_DRL_CNT_DG_count d) _ hdg
    split <;> exact hholds
  · split
    · split
      · exact (rd_setF_other _ FLT_SUP_STAT_holder 0 hsup).trans (rd_setF_other { s with supLease := _ } FLT_SUP_STAT_a_state 3 hsup)
      · rfl
    · exact rd_setF_other (shUpdate s) CMT_EBKT_RATE_rate _ hrate
    all_goals rfl
theorem wakeExtra_domKept (d : Nat) (s : State) : DomKept GovOwn s (wakeExtra d s) := by
  have hholds : DomKept GovOwn s (wakeHolds d s) := .setF (x := PLOT_DRL_CNT_DG_count d) _ (.of_view rfl) (notGov_win2 d _ _)
  have hsup : ¬ GovOwn 0x20304 := by unfold GovOwn SrcCfg; omega
  unfold wakeExtra
  split
  · split
    · exact hholds.trans (.of_view rfl)
    · exact hholds
  · split
    · split
      · exact .setF (x := FLT_SUP_STAT_holder) _ (.setF (x := FLT_SUP_STAT_a_state) _ (.of_view rfl) hsup) hsup
      · exact .refl s
    · exact .setF (x := CMT_EBKT_RATE_rate) _ (.of_view rfl) (notGov_high (by decide) (by decide))
    · exact .of_view rfl
    · exact .refl s

/-! ### The state after a wake in time -/

section
variable {d : Nat} (s0 s : State)

/-- Notes of the reload and of the vectors follow. -/
theorem woken_settled (u : State) : OnlyMsix u (settle s0 (reloadNote u)) ∧
    ∀ o, CalApart o → rd (settle s0 (reloadNote u)) o = rd u o :=
  ⟨onlyMsix_trans (reloadNote_onlyMsix u) (settle_eq s0 _),
    fun o ho => (rd_settle s0 _ ho.2).trans ((reloadNote_domKept u).regs o ho)⟩

theorem wokenAt_domKept (d : Nat) (s : State) :
    DomKept GovOwn (wakeMarks d (putGates (if d = 17 then 0 else s.gateOpen) (wakeFrom d s))) (wokenAt d s) :=
  wakeMarks_both (domClear_domKept d (wakeFrom d s)) (fun _ ho => govOwn_gov ho) d
/-- GOV's masks, the queue and the instant of the next wake. -/
theorem woken_marks (hd : d < 30) : let t := settle s0 (reloadNote (wakeExtra d (wokenAt d s)))
    domOn t d = true ∧ (∀ x < 30, x ≠ d → domOn t x = domOn s x) ∧ (f t GOV_DOM_WAKE_woke).testBit d = true ∧ f t GOV_STAT_dom_evt = 1 ∧
    d ∉ t.wakeQ ∧ (∀ x, x ≠ d → (x ∈ t.wakeQ ↔ x ∈ s.wakeQ)) ∧ t.wakeAt = s.clk.now := by
  have hk := (((wokenAt_domKept d s).trans (wakeExtra_domKept d _)).trans (reloadNote_domKept _).gov_of_calApart).trans
    (settle_domKept s0 _)
  obtain ⟨hon, hwoke, hevt⟩ := wakeMarks_spec hd (putGates (if d = 17 then 0 else s.gateOpen) (wakeFrom d s))
  have hqueue : (settle s0 (reloadNote (wakeExtra d (wokenAt d s)))).wakeQ = s.wakeQ.filter (· != d) := hk.wakeQ
  refine ⟨?_, fun x hx hne => ?_, ?_, ?_, ?_, fun x hne => ?_, hk.wakeAt⟩
  · rw [domOn_domKept hk, hon d hd, if_pos rfl]
  · rw [domOn_domKept hk, hon x hx, if_neg hne]; rfl
  · rw [hk.f_eq _ (govOwn_gov (by decide))]; exact hwoke
  · rw [hk.f_eq _ (govOwn_gov (by decide))]; exact hevt
  · rw [hqueue]; simp
  · rw [hqueue]; simp [hne]

/-- Every register of the domain is at reset, but for what the wake brings (R380). -/
theorem woken_regs {r : Nat × Nat} (hr : r ∈ domRanges d) {o : Nat} (hlo : r.1 ≤ o) (hhi : o < r.2)
    (ho : o ∉ [(PLOT_SLC_STAT_role d (spareOf d)).off, (PLOT_DRL_CNT_DG_count d).off, CMT_EBKT_RATE_rate.off, DMA_MSIX_PEND_pending.off]) :
    rd (settle s0 (reloadNote (wakeExtra d (wokenAt d s)))) o = regReset o := by
  simp only [List.mem_cons, List.not_mem_nil, or_false, not_or] at ho
  obtain ⟨hrole, hdg, hrate, hpend⟩ := ho
  obtain ⟨hlow, -, hcal⟩ := domRanges_place hr hlo hhi
  rw [(woken_settled s0 _).2 o ⟨hcal, hpend⟩, rd_wakeExtra d _ hdg (by omega) hrate, wokenAt, rd_wakeMarks d _ (by omega)]
  exact rd_domClear hr hlo hhi hrole _

/-- PD20 wakes with empty maps, no rotation and no commit. -/
theorem woken_switch : let t := settle s0 (reloadNote (wakeExtra 20 (wokenAt 20 s)))
    t.present = {} ∧ t.projected = {} ∧ t.rot = none ∧ t.commit = none := by
  obtain ⟨r, m, x, h, e⟩ := (woken_settled s0 (wakeExtra 20 (wokenAt 20 s))).1
  simp only
  rw [e]
  exact ⟨rfl, rfl, rfl, rfl⟩

/-! ### A window -/

/-- What the light's reset leaves beside the registers. -/
theorem domClear_wsLoad {d : Nat} (h : d < 18) (s : State) : (domClear d s).wsLoad = amClear d (d + 1) s.wsLoad := by
  have hlight (u : State) : (clearLight u).wsLoad = u.wsLoad := by
    show (portsDark u).wsLoad = _
    rw [portsDark_onlyTelem u]
  rw [domClear_win h]
  repeat' split
  · rw [hlight]; rfl
  all_goals rfl
/-- A window's wake leaves the calibration set as it is. -/
theorem calActive_wokenAt {d : Nat} (h : d < 18) (s : State) : calActive (wokenAt d s) = calActive s := by
  have hwin : rd (winCleared d (wakeFrom d s)) CAL_STAT_active_valid.off = rd s CAL_STAT_active_valid.off := by
    have hrole : CAL_STAT_active_valid.off ≠ (PLOT_SLC_STAT_role d (spareOf d)).off := by
      have := win_above3 d (snsBase d) 0x8004 (32 * spareOf d)
      simp only [CAL_STAT_active_valid, PLOT_SLC_STAT_role]; omega
    refine (rd_setF_other _ _ _ hrole).trans ((rd_setF_other _ (CAL_WIN_GEN_generation d) _ ?_).trans ?_)
    · simp only [CAL_STAT_active_valid, CAL_WIN_GEN_generation]; omega
    · refine (rd_clearRegs _ (wakeFrom d s) _).trans (if_neg fun ⟨_, hr, hlo, hhi⟩ => ?_)
      have := (domRanges_place hr hlo hhi).2.2
      simp only [CAL_STAT_active_valid] at this; omega
  have hclear : rd (domClear d (wakeFrom d s)) CAL_STAT_active_valid.off = rd s CAL_STAT_active_valid.off := by
    rw [domClear_win h]
    repeat' split
    · exact ((clearLight_domKept (A := fun _ => True) _).regs _ trivial).trans hwin
    all_goals exact hwin
  unfold calActive fb f
  rw [wokenAt, rd_wakeMarks d _ (by decide), hclear]
/-- A channel's clamp hangs on the domain, VPK, the population mode and the channels. -/
theorem clampClosed_congr {s t : State} {w : Nat} (hon : domOn t w = domOn s w) (hv : f t ID_PART_variant = f s ID_PART_variant)
    (h : (t.vpkBad, t.popMode, t.chans) = (s.vpkBad, s.popMode, s.chans)) (ch : Nat) : clampClosed t w ch = clampClosed s w ch := by
  simp only [Prod.mk.injEq] at h
  obtain ⟨hvpk, hpop, hch⟩ := h
  unfold clampClosed chFallow cellFallow variantH winDomain chanOf fb
  rw [hon, hvpk, hpop, hch, hv]
theorem regReset_heldClamps : ∀ d < 18, fldOf (regReset (PLOT_DRL_CNT_DG_count d).off) (PLOT_DRL_CNT_DG_count d) = 0 := by decide +kernel

theorem heldClamps_ne_role (d : Nat) : (PLOT_DRL_CNT_DG_count d).off ≠ (PLOT_SLC_STAT_role d (spareOf d)).off := by
  simp only [PLOT_DRL_CNT_DG_count, PLOT_SLC_STAT_role, drlBase, snsBase, spareOf, winSlices]
  split <;> omega

/-- The Pockels channels of a window whose clamps are open. -/
def openClamps (s : State) (w : Nat) : Nat := ((List.range (winChans w)).filter (fun ch => chPockels w ch && !clampClosed s w ch)).length

/-- The hold of a wake counts the clamps that open, from 0. -/
theorem f_wakeHolds {d : Nat} {w : State} (h : f w (PLOT_DRL_CNT_DG_count d) = 0) :
    f (wakeHolds d w) (PLOT_DRL_CNT_DG_count d) = openClamps w d % 2 ^ (PLOT_DRL_CNT_DG_count d).wid := by
  refine (f_setF_same _ (PLOT_DRL_CNT_DG_count d) _ (by simp [PLOT_DRL_CNT_DG_count])).trans ?_
  rw [show f { w with dgWake := amSet (fun _ => none) w.dgWake d (some w.clk.now) } (PLOT_DRL_CNT_DG_count d) = 0 from h, Nat.zero_add]
  rfl
theorem f_wokenAt_heldClamps {d : Nat} (h : d < 18) (s : State) : f (wokenAt d s) (PLOT_DRL_CNT_DG_count d) = 0 := by
  have hbase := winBase_above d
  have hin : (winBase d, winBase d + 0x100000) ∈ domRanges d := by unfold domRanges; rw [if_pos h]; exact List.mem_singleton_self _
  have hdrl : drlBase d ≤ 0x30000 := by unfold drlBase; split <;> omega
  have hreset := rd_domClear hin (o := (PLOT_DRL_CNT_DG_count d).off) (by simp only [PLOT_DRL_CNT_DG_count]; omega)
    (by simp only [PLOT_DRL_CNT_DG_count]; omega) (heldClamps_ne_role d) (wakeFrom d s)
  unfold f
  rw [wokenAt, rd_wakeMarks d _ (by simp only [PLOT_DRL_CNT_DG_count]; omega), hreset]
  exact regReset_heldClamps d h

/-- A window wakes with its load due where a set is active, and under a hold of every clamp that opens (R307, Table 7-8). -/
theorem woken_window (h : d < 18) : let t := settle s0 (reloadNote (wakeExtra d (wokenAt d s)))
    amGet (fun _ => false) t.wsLoad d = calActive s ∧ amGet (fun _ => none) t.dgWake d = some s.clk.now ∧
    f t (PLOT_DRL_CNT_DG_count d) = openClamps t d % 2 ^ (PLOT_DRL_CNT_DG_count d).wid := by
  have hwin := wakeExtra_win h (wokenAt d s)
  rw [calActive_wokenAt h] at hwin
  have hcleared : amGet (fun _ => false) (wokenAt d s).wsLoad d = false := by
    refine (congrArg (amGet (fun _ => false) · d) (domClear_wsLoad h (wakeFrom d s))).trans ?_
    rw [amGet_amClear, if_pos (by omega)]
  have hclk : (wokenAt d s).clk = s.clk := (wokenAt_domKept d s).clk
  have hon : domOn (settle s0 (reloadNote (wakeExtra d (wokenAt d s)))) d = domOn (wokenAt d s) d :=
    domOn_domKept (((wakeExtra_domKept d _).trans (reloadNote_domKept _).gov_of_calApart).trans (settle_domKept s0 _)) d
  have hzero := f_wokenAt_heldClamps h s
  obtain ⟨⟨r, m, x, hw, e⟩, hregs⟩ := woken_settled s0 (wakeExtra d (wokenAt d s))
  generalize settle s0 (reloadNote (wakeExtra d (wokenAt d s))) = t at hon hregs e ⊢
  generalize wokenAt d s = w at *
  have hview : (t.vpkBad, t.popMode, t.chans) = (w.vpkBad, w.popMode, w.chans) := by
    rw [e, hwin]; split <;> rfl
  have hid : f t ID_PART_variant = f w ID_PART_variant := by
    unfold f
    rw [hregs _ (by unfold CalApart; decide), rd_wakeExtra d w ?_ (by decide) (by decide)]
    have := win_above3 d (drlBase d) 0x8018 0
    simp only [ID_PART_variant, PLOT_DRL_CNT_DG_count]; omega
  have hopen : openClamps t d = openClamps w d := by
    unfold openClamps; simp only [clampClosed_congr hon hid hview]
  refine ⟨?_, ?_, ?_⟩
  · rw [e, hwin]
    cases calActive s with
    | true => exact amGet_amSet_same (fun _ => false) w.wsLoad d true
    | false => exact hcleared
  · rw [e, hwin, ← hclk]
    split <;> exact amGet_amSet_same (fun _ => none) w.dgWake d (some w.clk.now)
  · rw [hopen, ← f_wakeHolds hzero]
    unfold f
    rw [hregs _ ?_, hwin]
    · split <;> rfl
    · have := win_above3 d (drlBase d) 0x8018 0
      unfold CalApart; simp only [PLOT_DRL_CNT_DG_count]; omega
end

end Sys2Proof.Machine
end

section
/-! A retry of a failed domain and the fallow mask (R382, R383): the queues of the domains that wake and sleep. -/
namespace Sys2Proof.Machine
open Sys2Proof.Config

/-! ### The queues -/

/-- The queues of domains and the instant of the next wake alone differ, and registers `l`. -/
structure QueuesOnly (l : List Nat) (s t : State) : Prop where
  same : t = { s with regs := t.regs, hwSet := t.hwSet, wakeQ := t.wakeQ, wakeAt := t.wakeAt, sleepQ := t.sleepQ }
  regs : ∀ o, o ∉ l → rd t o = rd s o

theorem queuesOnly_refl (l : List Nat) (s : State) : QueuesOnly l s s := ⟨rfl, fun _ _ => rfl⟩
theorem queuesOnly_trans {l : List Nat} {s t u : State} (h : QueuesOnly l s t) (k : QueuesOnly l t u) : QueuesOnly l s u :=
  ⟨by rw [k.same, h.same], fun o ho => (k.regs o ho).trans (h.regs o ho)⟩
theorem queuesOnly_forEach {α : Type} {l : List Nat} (g : α → State → State) (m : List α) (hg : ∀ a t, QueuesOnly l t (g a t)) (s : State) :
    QueuesOnly l s (forEach m g s) :=
  forEach_keeps (QueuesOnly l s) g m (fun a _ t ht => queuesOnly_trans ht (hg a t)) s (queuesOnly_refl l s)

/-- The wake queue once domain `d` is to wake: it goes behind the others unless it is on to stay, has failed, or waits already. -/
def wakeQWith (d : Nat) (s : State) : List Nat :=
  if (domOn s d = false ∨ d ∈ s.sleepQ) ∧ domFailed s d = false ∧ d ∉ s.wakeQ then s.wakeQ ++ [d] else s.wakeQ
/-- The sleep queue once domain `d` is to sleep. -/
def sleepQWith (d : Nat) (s : State) : List Nat := if domOn s d = true ∧ d ∉ s.sleepQ then s.sleepQ ++ [d] else s.sleepQ

/-- One domain appended to a queue where a condition holds. -/
theorem append_filter_one (l : List Nat) (d : Nat) (p : Nat → Bool) (q : Prop) [Decidable q] (h : p d = true ↔ q) :
    l ++ [d].filter p = if q then l ++ [d] else l := by
  by_cases hq : q
  · rw [if_pos hq, List.filter_cons_of_pos (h.2 hq)]; rfl
  · rw [if_neg hq, List.filter_cons_of_neg (fun hp => hq (h.1 hp))]; exact List.append_nil l
theorem wakeReq_one (d : Nat) (s : State) : ∃ a, wakeReq [d] s = { s with wakeAt := a, wakeQ := wakeQWith d s } := by
  have hq : s.wakeQ ++ [d].filter (fun d => (!domOn s d || s.sleepQ.contains d) && !domFailed s d && !s.wakeQ.contains d) =
      wakeQWith d s := append_filter_one _ _ _ _ (by simp [and_assoc])
  unfold wakeReq
  simp only [hq]
  exact wakeNext_eq s { s with wakeQ := wakeQWith d s }
theorem sleepReq_one (d : Nat) (s : State) :
    ∃ a, sleepReq [d] s = { s with wakeAt := a, wakeQ := s.wakeQ.filter (· != d), sleepQ := sleepQWith d s } := by
  have hq : s.sleepQ ++ [d].filter (fun d => domOn s d && !s.sleepQ.contains d) = sleepQWith d s :=
    append_filter_one _ _ _ _ (by simp)
  have hw : s.wakeQ.filter (fun x => !([d].contains x)) = s.wakeQ.filter (· != d) :=
    List.filter_congr fun x _ => by rw [Bool.eq_iff_iff]; simp
  unfold sleepReq
  simp only [hq, hw]
  exact wakeNext_eq s { s with sleepQ := sleepQWith d s, wakeQ := s.wakeQ.filter (· != d) }

/-! ### A retry -/

/-- The bit of a domain that failed. -/
def failBit (d : Nat) : Fld := ⟨GOV_DOM_FAIL_fail.off, d, 1⟩
/-- Software clears the bit of a domain that failed, which the hardware has not set in this cycle. -/
theorem domFailed_clearBits {d e : Nat} (hd : d < 30) (he : e < 30) {s : State} (h : Unheld s (failBit d)) :
    domFailed (clearBits (failBit d) 1 s) e = if e = d then false else domFailed s e := by
  unfold domFailed
  rw [testBit_domMask ⟨rfl, rfl⟩ he, testBit_domMask ⟨rfl, rfl⟩ he]
  by_cases hne : e = d
  · subst hne
    rw [if_pos rfl]
    exact decide_eq_false (by rw [show f (clearBits (failBit e) 1 s) ⟨GOV_DOM_FAIL_fail.off, e, 1⟩ = 0 from
      f_clearBits_unheld rfl (by simp only [failBit]; omega) h]; decide)
  · rw [if_neg hne, f_clearBits_disj (failBit d) ⟨GOV_DOM_FAIL_fail.off, e, 1⟩ 1 s (by simp only [failBit]; omega)
      (.inr (by simp only [failBit]; omega))]

/-- May the wake of a failed domain be retried (R379, R382, R383)? -/
def mayRetry (s : State) (d : Nat) : Bool := stateOn s d && (!domFallow s d || d == 29 && decide (bootState s ≤ 3))

/-- The wake queue after the retry of a failed domain. -/
def retryQ (d : Nat) (s : State) : List Nat :=
  if stateOn s d = true ∧ (domFallow s d = false ∨ d = 29 ∧ bootState s ≤ 3) ∧ (domOn s d = false ∨ d ∈ s.sleepQ) ∧ d ∉ s.wakeQ
  then s.wakeQ ++ [d] else s.wakeQ

/-- A retry clears the domain's bit and brings it into the wake queue where it should be on. -/
theorem domRetry_spec {d : Nat} (hd : d < 30) {s : State} (hf : domFailed s d = true) (h : Unheld s (failBit d)) :
    ∃ a, domRetry d s = { clearBits (failBit d) 1 s with wakeAt := a, wakeQ := retryQ d s } := by
  have hother (y : Fld) (hy : y.off ≠ GOV_DOM_FAIL_fail.off) : f (clearBits (failBit d) 1 s) y = f s y := by
    unfold f; rw [rd_clearBits_other (failBit d) _ _ hy]
  have hmay : mayRetry (clearBits (failBit d) 1 s) d = mayRetry s d := by
    unfold mayRetry stateOn devState domFallow bootState
    rw [hother _ (by decide), hother _ (by decide), hother _ (by decide)]
  have hon : domOn (clearBits (failBit d) 1 s) d = domOn s d := by unfold domOn; rw [hother _ (by decide)]
  have hcleared : domFailed (clearBits (failBit d) 1 s) d = false := by rw [domFailed_clearBits hd hd h, if_pos rfl]
  have hq : (if mayRetry s d then wakeQWith d (clearBits (failBit d) 1 s) else s.wakeQ) = retryQ d s := by
    unfold wakeQWith retryQ
    rw [hon, hcleared]
    by_cases hm : mayRetry s d = true
    · have hm' := hm
      simp only [mayRetry, Bool.and_eq_true, Bool.or_eq_true, Bool.not_eq_true', beq_iff_eq, decide_eq_true_eq] at hm'
      simp [hm, hm']
      rfl
    · have hm' := hm
      simp only [mayRetry, Bool.and_eq_true, Bool.or_eq_true, Bool.not_eq_true', beq_iff_eq, decide_eq_true_eq] at hm'
      rw [if_neg hm, if_neg (fun ⟨h1, h2, _⟩ => hm' ⟨h1, h2⟩)]
  have hgo : domRetry d s = if mayRetry s d then wakeReq [d] (clearBits (failBit d) 1 s) else clearBits (failBit d) 1 s := by
    rw [← hmay]; unfold domRetry; rw [if_pos hf]; rfl
  rw [hgo, ← hq]
  split
  · exact wakeReq_one d _
  · exact ⟨s.wakeAt, rfl⟩

end Sys2Proof.Machine
end

section
/-! The fallow mask (R383): which domains become so, and which then sleep and wake. -/
namespace Sys2Proof.Machine
open Sys2Proof.Config

/-! ### One domain -/

section
variable (d : Nat) (s : State)

theorem putDom_fallow_regs {o : Nat} (b : Bool) (h : o ≠ GOV_DOM_FALLOW_fallow.off) : rd (putDom GOV_DOM_FALLOW_fallow d b s) o = rd s o :=
  rd_setF_other s ⟨GOV_DOM_FALLOW_fallow.off, GOV_DOM_FALLOW_fallow.lsb + d, 1⟩ _ h
theorem wakeReq_one_queuesOnly : QueuesOnly [] s (wakeReq [d] s) := by
  obtain ⟨a, e⟩ := wakeReq_one d s
  rw [e]; exact ⟨rfl, fun _ _ => rfl⟩
theorem sleepReq_one_queuesOnly : QueuesOnly [] s (sleepReq [d] s) := by
  obtain ⟨a, e⟩ := sleepReq_one d s
  rw [e]; exact ⟨rfl, fun _ _ => rfl⟩

theorem fallowOne_true :
    fallowOne d true s = if d = 29 ∧ bootState s ≤ 3 then putDom GOV_DOM_FALLOW_fallow d true s
      else sleepReq [d] (putDom GOV_DOM_FALLOW_fallow d true s) := by
  have hboot : bootState (putDom GOV_DOM_FALLOW_fallow d true s) = bootState s := f_putDom_off (by decide) d true s
  unfold fallowOne
  simp only [if_true, hboot]
theorem fallowOne_false :
    fallowOne d false s = if shouldOn s d then wakeReq [d] (putDom GOV_DOM_FALLOW_fallow d false s)
      else putDom GOV_DOM_FALLOW_fallow d false s := by
  have hshould : shouldOn (putDom GOV_DOM_FALLOW_fallow d false s) d = shouldOn s d := by
    unfold shouldOn stateOn devState bootState
    rw [f_putDom_off (by decide), f_putDom_off (by decide)]
  unfold fallowOne
  simp only [Bool.false_eq_true, if_false, hshould]
/-- After the domain's bit of the mask only the queues change. -/
theorem fallowOne_queuesOnly (b : Bool) : QueuesOnly [] (putDom GOV_DOM_FALLOW_fallow d b s) (fallowOne d b s) := by
  cases b with
  | true =>
    rw [fallowOne_true]; split
    · exact queuesOnly_refl _ _
    · exact sleepReq_one_queuesOnly d _
  | false =>
    rw [fallowOne_false]; split
    · exact wakeReq_one_queuesOnly d _
    · exact queuesOnly_refl _ _
theorem fallowOne_mask (b : Bool) : QueuesOnly [GOV_DOM_FALLOW_fallow.off] s (fallowOne d b s) := by
  obtain ⟨hsame, hregs⟩ := fallowOne_queuesOnly d s b
  refine ⟨by rw [hsame]; rfl, fun o ho => (hregs o (List.not_mem_nil)).trans ?_⟩
  exact putDom_fallow_regs d s b (List.ne_of_not_mem_cons ho)
theorem domFallow_fallowOne {d : Nat} (hd : d < 30) (b : Bool) {x : Nat} (hx : x < 30) :
    domFallow (fallowOne d b s) x = if x = d then b else domFallow s x := by
  rw [← domFallow_putDom hd hx b s]
  unfold domFallow f
  rw [(fallowOne_queuesOnly d s b).regs _ List.not_mem_nil]

/-- The queues once a domain has become fallow: it goes to sleep and no longer waits to wake. -/
theorem fallowOne_true_queues (hd : ¬ (d = 29 ∧ bootState s ≤ 3)) :
    (fallowOne d true s).sleepQ = sleepQWith d s ∧ (fallowOne d true s).wakeQ = s.wakeQ.filter (· != d) := by
  obtain ⟨a, e⟩ := sleepReq_one d (putDom GOV_DOM_FALLOW_fallow d true s)
  have hon : domOn (putDom GOV_DOM_FALLOW_fallow d true s) d = domOn s d := by unfold domOn; rw [f_putDom_off (by decide)]
  rw [fallowOne_true, if_neg hd, e]
  refine ⟨?_, rfl⟩
  show sleepQWith d _ = sleepQWith d s
  unfold sleepQWith; rw [hon]; rfl
/-- A domain that stays on while its public key is to be derived changes no queue. -/
theorem fallowOne_true_stays (hd : d = 29 ∧ bootState s ≤ 3) :
    (fallowOne d true s).sleepQ = s.sleepQ ∧ (fallowOne d true s).wakeQ = s.wakeQ := by
  rw [fallowOne_true, if_pos hd]; exact ⟨rfl, rfl⟩
/-- The queues once a domain is released. -/
theorem fallowOne_false_queues : (fallowOne d false s).sleepQ = s.sleepQ ∧
    (fallowOne d false s).wakeQ = if shouldOn s d then wakeQWith d s else s.wakeQ := by
  obtain ⟨a, e⟩ := wakeReq_one d (putDom GOV_DOM_FALLOW_fallow d false s)
  have hq : wakeQWith d (putDom GOV_DOM_FALLOW_fallow d false s) = wakeQWith d s := by
    unfold wakeQWith domOn domFailed
    rw [f_putDom_off (by decide), f_putDom_off (by decide)]; rfl
  rw [fallowOne_false]
  split
  · rw [e]; exact ⟨rfl, hq⟩
  · exact ⟨rfl, rfl⟩
end

/-! ### Members of the queues -/

section
variable {x d : Nat} {s : State}

theorem mem_sleepQWith (h : x ∈ s.sleepQ) : x ∈ sleepQWith d s := by
  unfold sleepQWith; split
  · exact List.mem_append_left _ h
  · exact h
theorem mem_sleepQWith_self (h : domOn s d = true) : d ∈ sleepQWith d s := by
  unfold sleepQWith; split
  · simp
  · next hn => exact not_not.1 fun hm => hn ⟨h, hm⟩
theorem mem_wakeQWith (h : x ∈ s.wakeQ) : x ∈ wakeQWith d s := by
  unfold wakeQWith; split
  · exact List.mem_append_left _ h
  · exact h
theorem mem_wakeQWith_self (h : domOn s d = false ∨ d ∈ s.sleepQ) (hf : domFailed s d = false) : d ∈ wakeQWith d s := by
  unfold wakeQWith; split
  · simp
  · next hn => exact not_not.1 fun hm => hn ⟨h, hf, hm⟩
theorem not_mem_wakeQWith (hne : x ≠ d) (h : x ∉ s.wakeQ) : x ∉ wakeQWith d s := by
  unfold wakeQWith; split
  · simp [h, hne]
  · exact h

theorem mem_sleepQ_fallowOne (b : Bool) (h : x ∈ s.sleepQ) : x ∈ (fallowOne d b s).sleepQ := by
  cases b with
  | true =>
    by_cases hs : d = 29 ∧ bootState s ≤ 3
    · rw [(fallowOne_true_stays d s hs).1]; exact h
    · rw [(fallowOne_true_queues d s hs).1]; exact mem_sleepQWith h
  | false => rw [(fallowOne_false_queues d s).1]; exact h
end

/-! ### Several domains -/

/-- Of a list of steps that all keep `Q`, the one of `a` reaches `P`, and the others keep it. -/
theorem forEach_reaches {α : Type} (Q P : State → Prop) (g : α → State → State) (l : List α) {a : α} (ha : a ∈ l)
    (hQ : ∀ b ∈ l, ∀ s, Q s → Q (g b s)) (hstart : ∀ s, Q s → P (g a s)) (hP : ∀ b ∈ l, ∀ s, P s → P (g b s)) :
    ∀ s, Q s → P (forEach l g s) := by
  induction l with
  | nil => exact absurd ha List.not_mem_nil
  | cons b l ih =>
    intro s hs
    rcases List.mem_cons.1 ha with rfl | hl
    · exact forEach_keeps P g l (fun c hc => hP c (List.mem_cons_of_mem _ hc)) _ (hstart s hs)
    · exact ih hl (fun c hc => hQ c (List.mem_cons_of_mem _ hc)) (fun c hc => hP c (List.mem_cons_of_mem _ hc)) _
        (hQ b List.mem_cons_self s hs)

theorem domFallow_forEach (b : Bool) {x : Nat} (hx : x < 30) (l : List Nat) (hl : ∀ d ∈ l, d < 30) (s : State) :
    domFallow (forEach l (fallowOne · b) s) x = if x ∈ l then b else domFallow s x := by
  induction l generalizing s with
  | nil => rfl
  | cons d l ih =>
    refine (ih (fun e he => hl e (List.mem_cons_of_mem _ he)) (fallowOne d b s)).trans ?_
    rw [domFallow_fallowOne s (hl d List.mem_cons_self) b hx]
    by_cases h1 : x ∈ l <;> by_cases h2 : x = d <;> simp [h1, h2]

/-- The domains that a write of the mask makes fallow, and those it releases. -/
def newFallow (v : Nat) (s : State) : List Nat := [28, 23, 22, 29].filter (fun d => v.testBit d && !domFallow s d)
def released (v : Nat) (s : State) : List Nat := [29, 22, 23, 28].filter (fun d => !v.testBit d && domFallow s d)
theorem mem_newFallow {v x : Nat} {s : State} :
    x ∈ newFallow v s ↔ x ∈ [22, 23, 28, 29] ∧ v.testBit x = true ∧ domFallow s x = false := by
  unfold newFallow; simp; tauto
theorem mem_released {v x : Nat} {s : State} :
    x ∈ released v s ↔ x ∈ [22, 23, 28, 29] ∧ v.testBit x = false ∧ domFallow s x = true := by
  unfold released; simp; tauto

theorem fallowWrite_both {v : Nat} (s : State) (h1 : v.testBit 22 = true) (h2 : v.testBit 23 = true) : fallowWrite v s = s := by
  unfold fallowWrite; rw [h1, h2]; rfl

section
variable {v : Nat} (s : State) (h : v.testBit 22 = false ∨ v.testBit 23 = false)
include h

theorem fallowWrite_eq : fallowWrite v s = forEach (released v s) (fallowOne · false) (forEach (newFallow v s) (fallowOne · true) s) := by
  unfold fallowWrite
  rw [if_neg (by rcases h with h | h <;> simp [h])]
  rfl
theorem fallowWrite_queuesOnly : QueuesOnly [GOV_DOM_FALLOW_fallow.off] s (fallowWrite v s) := by
  rw [fallowWrite_eq s h]
  exact queuesOnly_trans (queuesOnly_forEach _ _ (fun d t => fallowOne_mask d t true) s)
    (queuesOnly_forEach _ _ (fun d t => fallowOne_mask d t false) _)
theorem domFallow_fallowWrite {x : Nat} (hx : x < 30) :
    domFallow (fallowWrite v s) x = if x ∈ [22, 23, 28, 29] then v.testBit x else domFallow s x := by
  have small {l : List Nat} {p : Nat → Bool} (hl : ∀ d ∈ l, d < 30) : ∀ d ∈ l.filter p, d < 30 :=
    fun d hd => hl d (List.mem_of_mem_filter hd)
  rw [fallowWrite_eq s h, domFallow_forEach false hx (released v s) (small (by decide)),
    domFallow_forEach true hx (newFallow v s) (small (by decide))]
  simp only [mem_released, mem_newFallow]
  by_cases hin : x ∈ [22, 23, 28, 29]
  · cases hb : v.testBit x <;> cases hf : domFallow s x <;> simp [hin]
  · rw [if_neg (fun h => hin h.1), if_neg (fun h => hin h.1), if_neg hin]

/-- A domain that becomes fallow goes to sleep, PD29 apart (R383). -/
theorem fallowWrite_sleeps {x : Nat} (hx : x ∈ [22, 23, 28]) (hv : v.testBit x = true) (hf : domFallow s x = false) (hon : domOn s x = true) :
    x ∈ (fallowWrite v s).sleepQ ∧ x ∉ (fallowWrite v s).wakeQ := by
  have hx29 : x ≠ 29 := by rintro rfl; revert hx; decide
  have hmem : x ∈ newFallow v s := mem_newFallow.2 ⟨by revert hx; simp; tauto, hv, hf⟩
  rw [fallowWrite_eq s h]
  refine forEach_keeps (fun t => x ∈ t.sleepQ ∧ x ∉ t.wakeQ) (fallowOne · false) (released v s) (fun d hd t ⟨hs, hw⟩ => ?_) _ ?_
  · have hne : x ≠ d := by rintro rfl; rw [(mem_released.1 hd).2.1] at hv; exact absurd hv (by decide)
    refine ⟨mem_sleepQ_fallowOne false hs, ?_⟩
    rw [(fallowOne_false_queues d t).2]
    split
    · exact not_mem_wakeQWith hne hw
    · exact hw
  · refine forEach_reaches (fun t => domOn t x = true) (fun t => x ∈ t.sleepQ ∧ x ∉ t.wakeQ) (fallowOne · true) (newFallow v s) hmem
      (fun d _ t ht => ?_) (fun t ht => ?_) (fun d _ t ⟨hs, hw⟩ => ⟨mem_sleepQ_fallowOne true hs, ?_⟩) s hon
    · unfold domOn f
      rw [(fallowOne_mask d t true).regs _ (by decide)]; exact ht
    · obtain ⟨hs, hw⟩ := fallowOne_true_queues x t (fun h29 => hx29 h29.1)
      rw [hs, hw]
      exact ⟨mem_sleepQWith_self ht, by simp⟩
    · by_cases hst : d = 29 ∧ bootState t ≤ 3
      · rw [(fallowOne_true_stays d t hst).2]; exact hw
      · rw [(fallowOne_true_queues d t hst).2]; exact fun hm => hw (List.mem_of_mem_filter hm)

/-- A released domain that should be on, and is off or going to sleep, wakes. -/
def MayWake (x : Nat) (s : State) : Prop := shouldOn s x = true ∧ domFailed s x = false ∧ (domOn s x = false ∨ x ∈ s.sleepQ)
omit h in
theorem mayWake_fallowOne {x : Nat} (d : Nat) (b : Bool) {t : State} (ht : MayWake x t) : MayWake x (fallowOne d b t) := by
  have field (y : Fld) (hy : y.off ≠ GOV_DOM_FALLOW_fallow.off) : f (fallowOne d b t) y = f t y := by
    unfold f; rw [(fallowOne_mask d t b).regs _ (by simpa using hy)]
  obtain ⟨h1, h2, h3⟩ := ht
  refine ⟨?_, ?_, h3.imp (fun ho => ?_) (mem_sleepQ_fallowOne b)⟩
  · unfold shouldOn stateOn devState bootState
    rw [field _ (by decide), field _ (by decide)]; exact h1
  · unfold domFailed; rw [field _ (by decide)]; exact h2
  · unfold domOn; rw [field _ (by decide)]; exact ho
theorem fallowWrite_wakes {x : Nat} (hx : x ∈ [22, 23, 28, 29]) (hv : v.testBit x = false) (hf : domFallow s x = true) (hm : MayWake x s) :
    x ∈ (fallowWrite v s).wakeQ := by
  rw [fallowWrite_eq s h]
  refine forEach_reaches (MayWake x) (fun t => x ∈ t.wakeQ) (fallowOne · false) (released v s) (mem_released.2 ⟨hx, hv, hf⟩)
    (fun d _ t ht => mayWake_fallowOne d false ht) (fun t ⟨h1, h2, h3⟩ => ?_) (fun d _ t ht => ?_) _
    (forEach_keeps (MayWake x) _ _ (fun d _ t ht => mayWake_fallowOne d true ht) s hm)
  · rw [(fallowOne_false_queues x t).2, if_pos h1]
    exact mem_wakeQWith_self h3 h2
  · rw [(fallowOne_false_queues d t).2]
    split
    · exact mem_wakeQWith ht
    · exact ht
end

end Sys2Proof.Machine
end

section
/-! The commands of the domains, from the state before the time passes (R380 to R383). -/
namespace Sys2Proof.Machine
open Sys2Proof.Config

/-- A command that does nothing in the state it meets lets its time pass. -/
theorem completes_unchanged {c : Instr} {s : State} {dt : Nat} {g : State → State} (he : exec c s = run s dt g) (hpor : s.porOn = false)
    (hg : g (elapse s dt) = elapse s dt) : Completes c s fun t => RegsKept [] s t ∧ OnlyRegs s dt t := by
  refine completes_run he hpor ?_
  rw [hg]
  exact ⟨regsKept_settle s (regsKept_elapse [] s dt), onlyRegs_settle s (onlyRegs_elapse s dt)⟩

section
variable {s : State} {d : Nat} (dt n k : Nat) (hpor : s.porOn = false) (hd : d < 30)
include hpor

/-! ### Wake -/

theorem domainWake_unchanged (h : ¬ (s.wakeQ.head? = some d ∧ domOn s d = false)) :
    Completes (.domainWake dt d) s fun t => RegsKept [] s t ∧ OnlyRegs s dt t := by
  refine completes_unchanged rfl hpor ?_
  unfold domWake
  rw [if_neg]
  simpa using h
theorem domainWake_wakes {P : State → Prop} (hq : s.wakeQ.head? = some d) (hon : domOn s d = false) (hlim : s.clk.now + dt ≤ wakeLimit d s)
    (h : P (settle s (reloadNote (wakeExtra d (wokenAt d (elapse s dt)))))) : Completes (.domainWake dt d) s P := by
  refine completes_run rfl hpor ?_
  rw [(domWake_due (s := elapse s dt) hq hon).trans (if_neg (Nat.not_lt.2 hlim))]
  exact h
include hd
theorem domainWake_marks (hq : s.wakeQ.head? = some d) (hon : domOn s d = false) (hlim : s.clk.now + dt ≤ wakeLimit d s) :
    Completes (.domainWake dt d) s fun t =>
      domOn t d = true ∧ (∀ x < 30, x ≠ d → domOn t x = domOn s x) ∧ (f t GOV_DOM_WAKE_woke).testBit d = true ∧
      f t GOV_STAT_dom_evt = 1 ∧ d ∉ t.wakeQ ∧ (∀ x ≠ d, x ∈ t.wakeQ ↔ x ∈ s.wakeQ) ∧ t.wakeAt = s.clk.now + dt ∧
      (d < 18 → amGet (fun _ => false) t.wsLoad d = calActive s ∧ amGet (fun _ => none) t.dgWake d = some (s.clk.now + dt) ∧
        f t (PLOT_DRL_CNT_DG_count d) = openClamps t d % 2 ^ (PLOT_DRL_CNT_DG_count d).wid) ∧
      (d = 20 → t.present = {} ∧ t.projected = {} ∧ t.rot = none ∧ t.commit = none) ∧
      ∀ r ∈ domRanges d, ∀ o, r.1 ≤ o → o < r.2 →
        o ∉ [(PLOT_SLC_STAT_role d (spareOf d)).off, (PLOT_DRL_CNT_DG_count d).off, CMT_EBKT_RATE_rate.off,
          DMA_MSIX_PEND_pending.off] → rd t o = regReset o := by
  refine domainWake_wakes dt hpor hq hon hlim ?_
  obtain ⟨h1, h2, h3, h4, h5, h6, h7⟩ := woken_marks s (elapse s dt) hd
  refine ⟨h1, h2, h3, h4, h5, h6, h7, woken_window s (elapse s dt), ?_, fun r hr o => woken_regs s (elapse s dt) hr⟩
  rintro rfl
  exact woken_switch s (elapse s dt)

/-! ### Failure -/

omit hpor hd in
/-- The time that passes before a failure is no part of it. -/
theorem failed_of_passed {t : State} {c : Clock} {e : List (Nat × Nat × Nat)} (h : Failed d { s with clk := c, hwSet := e } t) :
    Failed d s t :=
  ⟨h.off, h.others, h.failed, h.otherFails, h.evt, h.leftWake, h.leftSleep, h.plot⟩
variable (hs : sevOf s 24 < 4) (h38 : sevOf s 38 < 4)
include hs h38

theorem domainWake_late (hq : s.wakeQ.head? = some d) (hon : domOn s d = false) (hlim : wakeLimit d s < s.clk.now + dt) :
    Completes (.domainWake dt d) s fun t => Failed d s t ∧
      (sameCycle 38 (elapse s dt) = false → f t (FLT_CNT_count 38) = (f s (FLT_CNT_count 38) + 1) % 2 ^ (FLT_CNT_count 38).wid) := by
  obtain ⟨hfailed, -, hcnt⟩ := domFails_spec (s := elapse s dt) hd hs h38 0 0
  refine completes_run rfl hpor ?_
  rw [(domWake_due (s := elapse s dt) hq hon).trans (if_pos hlim)]
  exact ⟨failed_settle s (failed_of_passed hfailed), fun hc => ((settle_domKept s _).f_eq _ govOwn_count).trans (hcnt hc)⟩
omit hd hs h38 in
theorem domainFail_unchanged (hon : domOn s d = false) (hq : s.wakeQ.head? ≠ some d) :
    Completes (.domainFail dt d n k) s fun t => RegsKept [] s t ∧ OnlyRegs s dt t := by
  refine completes_unchanged rfl hpor ?_
  have hoff : ¬ domOn (elapse s dt) d = true := ne_of_eq_of_ne hon Bool.false_ne_true
  exact (if_neg hoff).trans (if_neg hq)
theorem domainFail_fails (h : (s.wakeQ.head? = some d ∧ domOn s d = false) ∨ domOn s d = true) :
    let u := if domOn s d then elapse s dt else elapseTo (elapse s dt) (wakeLimit d s)
    Completes (.domainFail dt d n k) s fun t => Failed d s t ∧ t.clk = u.clk ∧
      (sameCycle 38 u = false → f t (FLT_CNT_count 38) = (f s (FLT_CNT_count 38) + 1) % 2 ^ (FLT_CNT_count 38).wid) := by
  intro u
  have hgo : domFail d n k (elapse s dt) = domFails d n k u := by
    show (if domOn s d then _ else if s.wakeQ.head? = some d then _ else _) = _
    rcases h with ⟨hq, hon⟩ | hon
    · simp only [u, hon, hq, if_true, Bool.false_eq_true, if_false]; rfl
    · simp only [u, hon, if_true]
  have hu : ∃ c e, u = { s with clk := c, hwSet := e } := by
    cases hon : domOn s d with
    | true => exact ⟨_, _, if_pos hon⟩
    | false => exact ⟨_, _, if_neg (ne_of_eq_of_ne hon Bool.false_ne_true)⟩
  clear_value u
  obtain ⟨c, e, rfl⟩ := hu
  obtain ⟨hfailed, hclk, hcnt⟩ := domFails_spec (s := { s with clk := c, hwSet := e }) hd hs h38 n k
  refine completes_run rfl hpor ?_
  rw [hgo]
  exact ⟨failed_settle s (failed_of_passed hfailed), (settle_clk s _).trans hclk, fun hc =>
    ((settle_domKept s _).f_eq _ govOwn_count).trans (hcnt hc)⟩

/-! ### Sleep -/

omit hd hs h38 in
theorem domainSleep_unchanged (h : s.sleepQ.head? ≠ some d ∨ domOn s d = false ∨ s.commit.isSome = true) :
    Completes (.domainSleep dt d n k) s fun t => RegsKept [] s t ∧ OnlyRegs s dt t := by
  refine completes_unchanged rfl hpor ?_
  unfold domSleep
  rw [if_neg]
  show ¬ (s.sleepQ.head? == some d && domOn s d && s.commit.isNone) = true
  rcases h with h | h | h
  · simp [h]
  · simp [h]
  · simp [Option.isSome_iff_ne_none.1 h]
omit h38 in
theorem domainSleep_sleeps (hq : s.sleepQ.head? = some d) (hon : domOn s d = true) (hc : s.commit = none) :
    Completes (.domainSleep dt d n k) s fun t =>
      let dark : Prop := d < 18 ∧ domOn s 17 = true ∧ fb s (PLOT_DRL_SEED_STAT_seeded d) = true
      domOn t d = false ∧ (∀ x < 30, x ≠ d → domOn t x = domOn s x) ∧ d ∉ t.sleepQ ∧ t.clk = (elapse s dt).clk ∧
      (dark → ∀ o < 256, t.gateOpen.getLsbD o = false) ∧ (¬ dark → d ≠ 17 → t.gateOpen = s.gateOpen) ∧
      f t BUS_CNT_UNASSIGNED_count = (f s BUS_CNT_UNASSIGNED_count + k) % 2 ^ 32 ∧
      (devState s = 3 → (∀ w < 18, w ≠ d → domOn s w = false) → t.pdEn = false) := by
  obtain ⟨a, hk, hpd⟩ := domSleep_spec (s := elapse s dt) hd hs n k hq hon hc
  obtain ⟨⟨hoff, hothers⟩, hleft, hclk, -, hgates, hcnt⟩ := sleptState_spec (s := elapse s dt) hd hs n k a
  obtain ⟨hdark, hlit⟩ := darkFirst_gates d (elapse s dt)
  refine completes_run rfl hpor ?_
  have kept := hk.trans (settle_domKept s _)
  refine ⟨(domOn_domKept kept d).trans hoff, fun x hx hne => (domOn_domKept kept x).trans (hothers x hx hne), ?_, kept.clk.trans hclk,
    fun h o ho => ?_, fun h hne => ?_, (kept.f_eq _ govOwn_unassigned).trans hcnt, fun h3 hall => ?_⟩
  · rw [kept.sleepQ]; exact hleft
  · rw [kept.gates, hgates]
    split
    · simp
    · exact hdark h o ho
  · rw [kept.gates, hgates, if_neg hne]; exact hlit h
  · rw [settle_pdEn]; exact hpd h3 hall
end

/-! ### Retry and the fallow mask -/

theorem maskDomains_two_pow : ∀ d < 30, maskDomains (2 ^ d) = [d] := by decide +kernel
/-- A live SUP reaches the registers of the masks. -/
theorem regCmd_gov {s : State} (dt : Nat) (hm : masterLive s 0 = true) (g : State → State) {o : Nat} (ho : blockOn s o = true) :
    regCmd 0 o g (elapse s dt) = g (elapse s dt) :=
  regCmd_open ((masterLive_elapse s dt 0).trans hm) ((regOpen_elapse s dt 0 o true).trans (regOpen_sup ho))

section
variable {s : State} {d : Nat} (dt : Nat) (hpor : s.porOn = false) (hm : masterLive s 0 = true) (hd : d < 30)
include hpor hm

section
include hd
theorem domainRetry_run {P : State → Prop} (h : P (settle s (domRetry d (elapse s dt)))) : Completes (.domainRetry dt 0 d) s P := by
  refine completes_run rfl hpor ?_
  rw [regCmd_gov dt hm _ rfl, domFailWrite, maskDomains_two_pow d hd]
  exact h
theorem domainRetry_unchanged (hf : domFailed s d = false) :
    Completes (.domainRetry dt 0 d) s fun t => RegsKept [] s t ∧ OnlyRegs s dt t := by
  refine domainRetry_run dt hpor hm hd ?_
  rw [show domRetry d (elapse s dt) = elapse s dt from if_neg (show ¬ domFailed s d = true by rw [hf]; decide)]
  exact ⟨regsKept_settle s (regsKept_elapse [] s dt), onlyRegs_settle s (onlyRegs_elapse s dt)⟩
theorem domainRetry_retries (hf : domFailed s d = true) (hu : Unheld (elapse s dt) (failBit d)) :
    Completes (.domainRetry dt 0 d) s fun t =>
      domFailed t d = false ∧ (∀ x < 30, x ≠ d → domFailed t x = domFailed s x) ∧ t.wakeQ = retryQ d s ∧
      RegsKept [GOV_DOM_FAIL_fail.off] s t ∧
      t = { elapse s dt with regs := t.regs, hwSet := t.hwSet, msix := t.msix, msixDue := t.msixDue, wakeQ := t.wakeQ, wakeAt := t.wakeAt } := by
  refine domainRetry_run dt hpor hm hd ?_
  obtain ⟨a, e⟩ := domRetry_spec (s := elapse s dt) hd hf hu
  have hfailed (x : Nat) (hx : x < 30) :
      domFailed (settle s (domRetry d (elapse s dt))) x = if x = d then false else domFailed s x := by
    rw [domFailed_domKept (settle_domKept s _), e]
    exact domFailed_clearBits hd hx hu
  refine ⟨by rw [hfailed d hd, if_pos rfl], fun x hx hne => by rw [hfailed x hx, if_neg hne], ?_, ?_, ?_⟩
  · rw [settle_wakeQ, e]; rfl
  · rw [e]
    exact regsKept_settle s fun o ho _ => rd_clearBits_other (failBit d) _ _ (List.ne_of_not_mem_cons ho)
  · obtain ⟨r, m, x, h, e'⟩ := settle_eq s (domRetry d (elapse s dt))
    rw [e', e]; rfl
end

variable (v : Nat)
theorem fallowWrite_run {P : State → Prop} (h : P (settle s (fallowWrite v (elapse s dt)))) : Completes (.fallowWrite dt 0 v) s P := by
  refine completes_run rfl hpor ?_
  rw [regCmd_gov dt hm _ rfl]
  exact h
theorem fallowWrite_unchanged (h1 : v.testBit 22 = true) (h2 : v.testBit 23 = true) :
    Completes (.fallowWrite dt 0 v) s fun t => RegsKept [] s t ∧ OnlyRegs s dt t := by
  refine fallowWrite_run dt hpor hm v ?_
  rw [fallowWrite_both _ h1 h2]
  exact ⟨regsKept_settle s (regsKept_elapse [] s dt), onlyRegs_settle s (onlyRegs_elapse s dt)⟩
theorem fallowWrite_writes (h : v.testBit 22 = false ∨ v.testBit 23 = false) :
    Completes (.fallowWrite dt 0 v) s fun t =>
      (∀ x < 30, domFallow t x = if x ∈ [22, 23, 28, 29] then v.testBit x else domFallow s x) ∧
      (∀ x ∈ [22, 23, 28], v.testBit x = true → domFallow s x = false → domOn s x = true → x ∈ t.sleepQ ∧ x ∉ t.wakeQ) ∧
      (∀ x ∈ [22, 23, 28, 29], v.testBit x = false → domFallow s x = true → shouldOn s x = true → domFailed s x = false →
        (domOn s x = false ∨ x ∈ s.sleepQ) → x ∈ t.wakeQ) ∧
      RegsKept [GOV_DOM_FALLOW_fallow.off] s t ∧
      t = { elapse s dt with regs := t.regs, hwSet := t.hwSet, msix := t.msix, msixDue := t.msixDue, wakeQ := t.wakeQ, wakeAt := t.wakeAt, sleepQ := t.sleepQ } := by
  refine fallowWrite_run dt hpor hm v ?_
  obtain ⟨hsame, hregs⟩ := fallowWrite_queuesOnly (elapse s dt) h
  have kept := settle_domKept s (fallowWrite v (elapse s dt))
  refine ⟨fun x hx => ?_, fun x hx hv hf hon => ?_, fun x hx hv hf hgo hfail hoff => ?_, regsKept_settle s fun o ho _ => hregs o ho, ?_⟩
  · rw [show domFallow (settle s (fallowWrite v (elapse s dt))) x = domFallow (fallowWrite v (elapse s dt)) x by
      unfold domFallow; rw [kept.f_eq _ (govOwn_gov (by decide))]]
    exact domFallow_fallowWrite (elapse s dt) h hx
  · rw [kept.sleepQ, kept.wakeQ]
    exact fallowWrite_sleeps (elapse s dt) h hx hv hf hon
  · rw [kept.wakeQ]
    exact fallowWrite_wakes (elapse s dt) h hx hv hf ⟨hgo, hfail, hoff⟩
  · obtain ⟨r, m, x, hw, e⟩ := settle_eq s (fallowWrite v (elapse s dt))
    rw [e, hsame]
end

end Sys2Proof.Machine

open Sys2Proof Sys2Proof.Machine Sys2Proof.Config

/-- Settles O49: of GOV, a domain that goes off, wakes or fails writes its own bit of the masks and the event alone; a domain's
registers are cleared before its wake writes the few that it sets; and each pass over the fallow mask keeps what the other queued. -/
theorem domainsWakeSleepAndFail : Obligations.DomainsWakeSleepAndFail := by
  unfold Obligations.DomainsWakeSleepAndFail
  intro s dt d n k hpor hd h24 h38 now idle others wakes counted failed
  have hfailed {t : State} (h : Failed d s t) : failed t :=
    ⟨h.off, h.others, h.failed, h.otherFails, h.evt, h.leftWake, h.leftSleep, h.plot⟩
  refine ⟨domainWake_unchanged dt hpor, fun ⟨hq, hon⟩ => domainWake_marks dt hpor hd hq hon, fun ⟨hq, hon⟩ hlim => ?_,
    domainSleep_unchanged dt n k hpor, domainSleep_sleeps dt n k hpor hd h24, domainFail_unchanged dt n k hpor, fun h => ?_, fun hm =>
      ⟨domainRetry_unchanged dt hpor hm hd, domainRetry_retries dt hpor hm hd, fun v =>
        ⟨fallowWrite_unchanged dt hpor hm v, fallowWrite_writes dt hpor hm v⟩⟩⟩
  · obtain ⟨t, he, ht, hcnt⟩ := domainWake_late dt hpor hd h24 h38 hq hon hlim
    exact ⟨t, he, hfailed ht, hcnt⟩
  · obtain ⟨t, he, ht, hclk, hcnt⟩ := domainFail_fails dt n k hpor hd h24 h38 h
    exact ⟨t, he, hfailed ht, hclk, hcnt⟩
end

section
/-! Paths through the mesh (R73 to R75) in closed form: the input and output line of each column as numbers. -/
namespace Sys2Proof.Machine

/-- The line on which a path with input line `a`, target line `t` and middle row `m` enters column `j` (R73, R74): up to the middle
column the leading bits of `m` and the remaining bits of `a`; behind it the leading bits of `t` have moved in. -/
def lineIn (a t m j : Nat) : Nat :=
  if j ≤ 7 then m / 2 ^ (7 - j) * 2 ^ (8 - j) + a / 2 ^ j
  else m / 2 ^ (j - 7) * 2 ^ (j - 6) + t / 2 ^ (15 - j) * 2 + m / 2 ^ (j - 8) % 2
/-- The line on which it leaves column `j`. -/
def lineOut (a t m j : Nat) : Nat :=
  if j ≤ 6 then m / 2 ^ (7 - j) * 2 ^ (8 - j) + a / 2 ^ (j + 1) * 2 + m / 2 ^ (6 - j) % 2
  else m / 2 ^ (j - 7) * 2 ^ (j - 6) + t / 2 ^ (14 - j)
/-- The hop of column `j`. -/
def hopAt (a t m j : Nat) : Hop := ⟨j, lineIn a t m j, lineOut a t m j⟩

section
variable {a t m : Nat} (ha : a < 256) (ht : t < 256) (hm : m < 128)
include ha ht hm

theorem lineIn_lt {j : Nat} (hj : j < 15) : lineIn a t m j < 256 := by
  unfold lineIn
  interval_cases j <;> simp only [Nat.reduceLeDiff, Nat.reduceSub, Nat.reducePow, if_true, if_false] <;> omega
/-- A column drives the wanted bit into bit 0 of the line (R74). -/
theorem lineOut_eq {j : Nat} (hj : j < 15) :
    lineOut a t m j = lineIn a t m j - lineIn a t m j % 2 + wantedBit j m t := by
  unfold lineIn lineOut wantedBit
  interval_cases j <;> simp only [Nat.reduceLeDiff, Nat.reduceSub, Nat.reduceAdd, Nat.reducePow, if_true, if_false] <;> omega
/-- A hop stays within its cell. -/
theorem lineOut_half {j : Nat} (hj : j < 15) : lineOut a t m j / 2 = lineIn a t m j / 2 := by
  have hbit : wantedBit j m t < 2 := by unfold wantedBit; split <;> omega
  rw [lineOut_eq ha ht hm hj]; omega
/-- The wiring carries the output line of a column to the next one's input line (R73). -/
theorem lineIn_succ {j : Nat} (hj : j < 14) : lineIn a t m (j + 1) = nextLine j (lineOut a t m j) := by
  unfold lineIn lineOut nextLine rotR rotL
  interval_cases j <;> simp only [Nat.reduceLeDiff, Nat.reduceSub, Nat.reduceAdd, Nat.reducePow, if_true, if_false] <;> omega
/-- From a line of the closed form on, the path has the hops of the closed form. -/
theorem pathFrom_eq (n j : Nat) (hn : j + n = 15) :
    pathFrom m t n j (lineIn a t m j) = (List.range' j n).map (hopAt a t m) := by
  induction n generalizing j with
  | zero => rfl
  | succ n ih =>
    rw [List.range'_succ, List.map_cons]
    have hcons : pathFrom m t (n + 1) j (lineIn a t m j) =
        hopAt a t m j :: pathFrom m t n (j + 1) (nextLine j (lineOut a t m j)) := by
      unfold hopAt; rw [lineOut_eq ha ht hm (by omega)]; rfl
    rw [hcons]
    congr 1
    cases n with
    | zero => rfl
    | succ n => rw [← lineIn_succ ha ht hm (by omega)]; exact ih (j + 1) (by omega)
end

/-- It begins at its input line, ends at its target line and crosses the middle row's cell of column 7. -/
theorem lineIn_first (a t : Nat) {m : Nat} (hm : m < 128) : lineIn a t m 0 = a := by
  unfold lineIn; simp only [Nat.zero_le, if_true, Nat.sub_zero, Nat.reducePow]; omega
theorem lineOut_last (a t : Nat) {m : Nat} (hm : m < 128) : lineOut a t m 14 = t := by
  unfold lineOut; simp only [Nat.reduceLeDiff, if_false, Nat.reduceSub, Nat.reducePow]; omega
theorem lineIn_middle {a : Nat} (ha : a < 256) (t m : Nat) : lineIn a t m 7 / 2 = m := by
  unfold lineIn; simp only [Nat.le_refl, if_true, Nat.reduceSub, Nat.reducePow]; omega

/-! ### The path of two ports -/

theorem portLine_lt {p : Nat} (hp : p < 256) : portLine p < 256 := by unfold portLine; omega
theorem linePort_portLine {p : Nat} (hp : p < 256) : linePort (portLine p) = p := by unfold linePort portLine; omega

section
variable {i o m : Nat} (hi : i < 256) (ho : o < 256) (hm : m < 128)
include hi ho hm

/-- The path of R74 is, column by column, that of the closed form. -/
theorem path_eq : path i o m = (List.range' 0 15).map (hopAt (portLine i) (portLine o) m) := by
  have h := pathFrom_eq (portLine_lt hi) (portLine_lt ho) hm 15 0 rfl
  rwa [lineIn_first _ _ hm] at h
theorem path_getElem? {j : Nat} (hj : j < 15) : (path i o m)[j]? = some (hopAt (portLine i) (portLine o) m j) := by
  rw [path_eq hi ho hm, List.getElem?_map, List.getElem?_range' hj]; simp
theorem mem_path {h : Hop} : h ∈ path i o m ↔ ∃ j < 15, h = hopAt (portLine i) (portLine o) m j := by
  rw [path_eq hi ho hm]; simp [List.mem_range', eq_comm]
theorem length_path : (path i o m).length = 15 := by rw [path_eq hi ho hm]; simp
end


end Sys2Proof.Machine

open Sys2Proof Sys2Proof.Machine

/-- Settles O10: in the closed form of the path each column's lines are numbers of the input line, the target line and the middle
row, and column 7 shows the row. -/
theorem everyMiddleRowGivesAPathFromInputToOutput : Obligations.EveryMiddleRowGivesAPathFromInputToOutput := by
  unfold Obligations.EveryMiddleRowGivesAPathFromInputToOutput
  intro i o m hi ho hm hs
  have ha := portLine_lt hi
  have ht := portLine_lt ho
  refine ⟨length_path hi ho hm, fun j hj => ⟨_, path_getElem? hi ho hm hj, rfl, lineIn_lt ha ht hm hj, lineOut_half ha ht hm hj,
    ?_, ?_, ?_, fun g hg => ?_⟩,
    fun m' hm' hne heq => hne ?_⟩
  · rintro rfl; exact lineIn_first (portLine i) (portLine o) hm
  · rintro rfl; exact lineIn_middle ha (portLine o) m
  · rintro rfl; exact lineOut_last (portLine i) (portLine o) hm
  · have hlast : j + 1 < 15 := by
      have := (List.getElem?_eq_some_iff.1 hg).1
      rwa [length_path hi ho hm] at this
    rw [path_getElem? hi ho hm hlast] at hg
    cases hg
    exact lineIn_succ ha ht hm (by omega)
  · have hhop := path_getElem? hi ho hm' (j := 7) (by decide)
    rw [heq, path_getElem? hi ho hm (by decide), Option.some.injEq] at hhop
    have hrow := congrArg (fun h => h.inL / 2) hhop
    rwa [hopAt, hopAt, lineIn_middle ha, lineIn_middle ha, eq_comm] at hrow
end


section
/-! Light through the mesh (R72, R126): cells that stand as a path needs carry its light to its output, and binding a path leaves the
light of every circuit that shares no line with it (R77, R92). -/
namespace Sys2Proof.Machine

/-! ### The light of a bound path -/

/-- Light that enters a cell standing as the hop needs leaves on the hop's output line (Table 3-1). -/
theorem cell_light {l o : Nat} (h : o / 2 = l / 2) :
    (if (l != o) = true then (if l % 2 = 0 then l + 1 else l - 1) else l) = o := by
  by_cases he : l = o
  · simp [he]
  · simp only [bne_iff_ne, ne_eq, he, not_false_iff, if_true]; split <;> omega

section
variable {a t m : Nat} (ha : a < 256) (ht : t < 256) (hm : m < 128) {cells : BitVec 1920}
include ha ht hm

theorem traceFrom_step {j : Nat} (hj : j < 15)
    (hc : cells.getLsbD (hopCell (hopAt a t m j)) = hopCross (hopAt a t m j)) (n : Nat) :
    traceFrom cells (n + 1) j (lineIn a t m j) =
      if n = 0 then lineOut a t m j else traceFrom cells n (j + 1) (nextLine j (lineOut a t m j)) := by
  unfold hopCell hopCross hopAt at hc
  conv_lhs => unfold traceFrom
  rw [hc, cell_light (lineOut_half ha ht hm hj)]
theorem traceFrom_path (hc : ∀ j < 15, cells.getLsbD (hopCell (hopAt a t m j)) = hopCross (hopAt a t m j)) (n j : Nat)
    (hn : j + (n + 1) = 15) : traceFrom cells (n + 1) j (lineIn a t m j) = t := by
  induction n generalizing j with
  | zero =>
    obtain rfl : j = 14 := by omega
    rw [traceFrom_step ha ht hm (by decide) (hc 14 (by decide)), if_pos rfl, lineOut_last a t hm]
  | succ n ih =>
    rw [traceFrom_step ha ht hm (by omega) (hc j (by omega)), if_neg (Nat.succ_ne_zero n), ← lineIn_succ ha ht hm (by omega)]
    exact ih (j + 1) (by omega)
end

section
variable {i o mid : Nat} (hi : i < 256) (ho : o < 256) (hm : mid < 128)
include hi ho hm

theorem reaches_of_bound {m : MapSt} (h : ∀ g ∈ path i o mid, cellAt m (hopCell g) = hopCross g) : reaches m i = o := by
  have htrace := traceFrom_path (portLine_lt hi) (portLine_lt ho) hm (cells := m.cells)
    (fun j hj => h _ ((mem_path hi ho hm).2 ⟨j, hj, rfl⟩)) 14 0 rfl
  rw [lineIn_first _ _ hm] at htrace
  unfold reaches
  rw [htrace, linePort_portLine ho]

/-! ### Cells of two paths -/

theorem hopCell_lt {g : Hop} (hg : g ∈ path i o mid) : hopCell g < 1920 := by
  obtain ⟨j, hj, rfl⟩ := (mem_path hi ho hm).1 hg
  have := lineIn_lt (portLine_lt hi) (portLine_lt ho) hm hj
  unfold hopCell hopAt; simp only; omega

variable {i' o' mid' : Nat} (hi' : i' < 256) (ho' : o' < 256) (hm' : mid' < 128)
include hi' ho' hm'

/-- Hops of two paths that cross one cell stand in one column. -/
theorem hopCell_inj {j k : Nat} (hj : j < 15) (hk : k < 15)
    (h : hopCell (hopAt (portLine i) (portLine o) mid j) = hopCell (hopAt (portLine i') (portLine o') mid' k)) : j = k := by
  have := lineIn_lt (portLine_lt hi) (portLine_lt ho) hm hj
  have := lineIn_lt (portLine_lt hi') (portLine_lt ho') hm' hk
  unfold hopCell hopAt at h; simp only at h; omega

theorem fits_iff : fits (path i o mid) [path i' o' mid'] = true ↔ ∀ j < 15,
    hopClash (hopAt (portLine i) (portLine o) mid j) (hopAt (portLine i') (portLine o') mid' j) = false := by
  unfold fits
  rw [path_eq hi ho hm, path_eq hi' ho' hm', List.all_cons, List.all_nil, Bool.and_true, List.zip_map', List.all_map, List.all_eq_true]
  simp [List.mem_range']

/-- Two paths that share no line need the same state of every cell they share (R92). -/
theorem hopCross_shared (hfit : fits (path i o mid) [path i' o' mid'] = true) {g h : Hop} (hg : g ∈ path i o mid)
    (hh : h ∈ path i' o' mid') (hcell : hopCell g = hopCell h) : hopCross g = hopCross h := by
  obtain ⟨j, hj, rfl⟩ := (mem_path hi ho hm).1 hg
  obtain ⟨k, hk, rfl⟩ := (mem_path hi' ho' hm').1 hh
  obtain rfl := hopCell_inj hi ho hm hi' ho' hm' hj hk hcell
  have hclash := (fits_iff hi ho hm hi' ho' hm').1 hfit j hj
  have hhalf := lineOut_half (portLine_lt hi) (portLine_lt ho) hm hj
  have hhalf' := lineOut_half (portLine_lt hi') (portLine_lt ho') hm' hj
  unfold hopClash at hclash
  unfold hopCell at hcell
  unfold hopCross
  simp only [hopAt, Bool.or_eq_false_iff, beq_eq_false_iff_ne, ne_eq] at hclash hcell ⊢
  obtain ⟨hin, hout⟩ := hclash
  rw [Bool.eq_iff_iff, bne_iff_ne, bne_iff_ne]
  omega
end

/-! ### Binding a path -/

theorem getLsbD_setCell (v : BitVec 1920) {i : Nat} (hi : i < 1920) (x : Bool) (j : Nat) :
    (setCell v i x).getLsbD j = if j = i then x else v.getLsbD j := by
  unfold setCell
  by_cases hv : v.getLsbD i = x
  · rw [if_pos hv]; split
    · next h => rw [h, hv]
    · rfl
  · rw [if_neg hv, BitVec.getLsbD_xor, BitVec.getLsbD_ofNat, Nat.testBit_two_pow]
    by_cases h : j = i
    · subst h; cases hb : v.getLsbD j <;> cases x <;> simp_all
    · simp [h, Ne.symm h]

/-- A cell stands at `x` after binding hops that need it at `x`, if one of them crosses it or it stood there before. -/
theorem getLsbD_bindPath {hs : List Hop} (hlt : ∀ h ∈ hs, hopCell h < 1920) {i : Nat} {x : Bool}
    (hx : ∀ h ∈ hs, hopCell h = i → hopCross h = x) {cells : BitVec 1920}
    (hb : (∃ h ∈ hs, hopCell h = i) ∨ cells.getLsbD i = x) : (bindPath cells hs).getLsbD i = x := by
  induction hs generalizing cells with
  | nil => simpa [bindPath] using hb
  | cons g hs ih =>
    refine ih (fun h hh => hlt h (List.mem_cons_of_mem _ hh)) (fun h hh => hx h (List.mem_cons_of_mem _ hh)) ?_
    rw [getLsbD_setCell _ (hlt g List.mem_cons_self)]
    by_cases hg : hopCell g = i
    · exact .inr (by rw [if_pos hg.symm, hx g List.mem_cons_self hg])
    · rw [if_neg (Ne.symm hg)]
      refine hb.imp_left fun ⟨h, hh, hcell⟩ => ⟨h, (List.mem_cons.1 hh).resolve_left ?_, hcell⟩
      rintro rfl; exact hg hcell

theorem mem_insCirc {c d : Circuit} {l : List Circuit} : d ∈ insCirc c l ↔ d = c ∨ d ∈ l := by
  induction l with
  | nil => simp [insCirc]
  | cons e l ih =>
    unfold insCirc; split
    · simp
    · rw [List.mem_cons, ih, List.mem_cons]; tauto
/-- A map in which a circuit was placed holds it, and the circuits of the other outputs. -/
theorem mem_placeCirc {c d : Circuit} {m : MapSt} : d ∈ (placeCirc c m).circs ↔ d = c ∨ (d ∈ m.circs ∧ d.out ≠ c.out) := by
  unfold placeCirc dropOut; simp [mem_insCirc]

section
variable {c : Circuit} (hi : c.inp < 256) (ho : c.out < 256) (hm : c.mid < 128) (m : MapSt)
include hi ho hm

/-- A placed circuit's cells stand as its path needs. -/
theorem placeCirc_bound {g : Hop} (hg : g ∈ circPath c) : cellAt (placeCirc c m) (hopCell g) = hopCross g := by
  refine getLsbD_bindPath (fun h hh => hopCell_lt hi ho hm hh) (fun h hh hcell => ?_) (.inl ⟨g, hg, rfl⟩)
  obtain ⟨j, hj, rfl⟩ := (mem_path hi ho hm).1 hh
  obtain ⟨k, hk, rfl⟩ := (mem_path hi ho hm).1 hg
  rw [hopCell_inj hi ho hm hi ho hm hj hk hcell]
/-- Placing a circuit leaves the cells of every bound path that shares no line with it. -/
theorem placeCirc_keeps_bound {d : Circuit} (hi' : d.inp < 256) (ho' : d.out < 256) (hm' : d.mid < 128)
    (hfit : fits (circPath c) [circPath d] = true) (hb : ∀ g ∈ circPath d, cellAt m (hopCell g) = hopCross g) {g : Hop}
    (hg : g ∈ circPath d) : cellAt (placeCirc c m) (hopCell g) = hopCross g :=
  getLsbD_bindPath (fun _ hh => hopCell_lt hi ho hm hh)
    (fun _ hh hcell => hopCross_shared hi ho hm hi' ho' hm' hfit hh hg hcell) (.inr (hb g hg))
end

end Sys2Proof.Machine

open Sys2Proof Sys2Proof.Machine

/-- Settles O11: the verifier's tracing follows the closed form of the path, and binding a path writes a cell it shares with another
circuit to the state in which that cell stands. -/
theorem boundCellsCarryLightToTheOutput : Obligations.BoundCellsCarryLightToTheOutput := by
  unfold Obligations.BoundCellsCarryLightToTheOutput
  refine ⟨fun m i o mid hi ho hm h => reaches_of_bound hi ho hm h, fun m c hi ho hm =>
    ⟨reaches_of_bound hi ho hm fun g hg => placeCirc_bound hi ho hm m hg, fun d hd hi' ho' hm' hout hb hfit => ⟨?_, ?_⟩, ?_⟩⟩
  · exact mem_placeCirc.2 (.inr ⟨hd, hout⟩)
  · exact reaches_of_bound hi' ho' hm' fun g hg => placeCirc_keeps_bound hi ho hm m hi' ho' hm' hfit hb hg
  · exact fun d hd => (mem_placeCirc.1 hd).imp_right And.left
end

section
/-! The scheduled list and the solver (R87, R91, R102): which sheaf leaves the list, and how one reaches the free solver. -/
namespace Sys2Proof.Machine
open Sys2Proof.Config

/-- What stands at the solver once a sheaf has reached it (R91, R177). -/
def atSolver (s : State) (sh : Sheaf) : Solving :=
  { sheaf := sh, fw := !fb s CMT_SOLVE_CTRL_hw_en, since := s.clk.now, dead := if s.rot.isSome then 0x04 else 0 }

theorem toSolver_of_ops {sh : Sheaf} (h : sh.ops ≠ []) (s : State) : toSolver sh s = { s with solving := some (atSolver s sh) } := by
  unfold toSolver
  rw [if_neg (by simpa using h)]; rfl
/-- With nothing at its inlet the solver takes nothing. -/
theorem solverNext_empty {s : State} (h : s.ready = []) (n : Nat) : solverNext n s = s := by
  cases n with
  | zero => rfl
  | succ n => unfold solverNext; rw [h]; simp
/-- The free solver takes the sheaf at its inlet. -/
theorem solverNext_takes {s : State} {sh : Sheaf} (hfree : s.solving = none) (hgo : swStopped s = false) (hops : sh.ops ≠ []) (n : Nat) :
    solverNext (n + 1) { s with ready := [sh] } = { s with ready := [], solving := some (atSolver s sh) } := by
  have hstep : solverNext (n + 1) { s with ready := [sh] } = solverNext n (toSolver sh { s with ready := [] }) := by
    have hgo' : swStopped { s with ready := [sh] } = false := hgo
    conv_lhs => unfold solverNext
    rw [hgo', hfree]; rfl
  rw [hstep, toSolver_of_ops hops]
  exact solverNext_empty rfl n

/-- A sole ready sheaf is the one that leaves next. -/
theorem schedPick_sole {s : State} {sh : Sheaf} {l r : List Sheaf} (hs : s.sched = l ++ sh :: r) (hr : schedReady s sh = true)
    (ho : ∀ x ∈ l ++ r, schedReady s x = false) : schedPick s = some sh := by
  have hnone {k : List Sheaf} (hk : ∀ x ∈ k, x ∈ l ++ r) : k.filter (schedReady s) = [] :=
    List.filter_eq_nil_iff.2 fun x hx => by rw [ho x (hk x hx)]; exact Bool.false_ne_true
  unfold schedPick
  rw [hs, List.filter_append, List.filter_cons_of_pos hr, hnone fun x hx => List.mem_append_left r hx,
    hnone fun x hx => List.mem_append_right l hx]
  rfl
theorem filter_uid_ne {sh : Sheaf} {l r : List Sheaf} (h : ∀ x ∈ l ++ r, x.uid ≠ sh.uid) :
    (l ++ sh :: r).filter (fun x => x.uid != sh.uid) = l ++ r := by
  have hall {k : List Sheaf} (hk : ∀ x ∈ k, x ∈ l ++ r) : k.filter (fun x => x.uid != sh.uid) = k :=
    List.filter_eq_self.2 fun x hx => bne_iff_ne.2 (h x (hk x hx))
  rw [List.filter_append, List.filter_cons_of_neg (by simp), hall fun x hx => List.mem_append_left r hx,
    hall fun x hx => List.mem_append_right l hx]

/-- Readiness of a sheaf that carries AT on an enabled base (R87). -/
theorem schedReady_at {s : State} {sh : Sheaf} {a : AtSpec} (ha : sh.at_ = some a) (hb : tbEnabled s a.tb = true) :
    schedReady s sh = decide (a.inst ≤ tbNow s a.tb + f s CMT_LEAD_lead_us * (1000 * nsUnit)) := by
  unfold schedReady; rw [ha]; simp only [hb, Bool.not_true, Bool.false_or]

/-- The release of the sole ready sheaf to the free solver: it leaves the list and stands at the solver; nothing else differs. -/
theorem scheduledRelease_sole {s : State} (dt : Nat) {sh : Sheaf} {a : AtSpec} {l r : List Sheaf} (hpor : s.porOn = false)
    (hfree : s.solving = none) (hin : s.ready = []) (hgo : swStopped s = false) (h20 : domOn s 20 = true) (hs : s.sched = l ++ sh :: r)
    (ha : sh.at_ = some a) (hops : sh.ops ≠ []) (hb : tbEnabled s a.tb = true) (hready : schedReady (elapse s dt) sh = true)
    (hothers : ∀ x ∈ l ++ r, schedReady (elapse s dt) x = false) (huid : ∀ x ∈ l ++ r, x.uid ≠ sh.uid) {P : State → Prop}
    (h : P (settle s { elapse s dt with sched := l ++ r, solving := some (atSolver (elapse s dt) sh) })) :
    Completes (.scheduledRelease dt) s P := by
  refine completes_run rfl hpor ?_
  have hb' : tbEnabled (elapse s dt) a.tb = true := hb
  have hlist : (elapse s dt).sched.filter (fun x => x.uid != sh.uid) = l ++ r := by
    rw [elapse_sched, hs]; exact filter_uid_ne huid
  have htake := solverNext_takes (s := { elapse s dt with sched := l ++ r }) (sh := sh) hfree hgo hops 1
  rw [domOn_elapse, if_pos h20, schedPick_sole (s := elapse s dt) hs hready hothers]
  simp only [ha, hb', if_true, hlist, elapse_ready, hin, List.nil_append, List.length_nil, Nat.zero_add]
  rw [htake]
  have hsame : ({ elapse s dt with sched := l ++ r, ready := [], solving := some (atSolver (elapse s dt) sh) } : State) =
      { elapse s dt with sched := l ++ r, solving := some (atSolver (elapse s dt) sh) } := by rw [← hin]; rfl
  rw [show atSolver { elapse s dt with sched := l ++ r } sh = atSolver (elapse s dt) sh from rfl, hsame]
  exact h

end Sys2Proof.Machine

open Sys2Proof Sys2Proof.Machine Sys2Proof.Config

/-- Settles O13: of the list's sheaves the one alone is ready, and the solver takes it at once. -/
theorem scheduledSheafLeavesForTheSolver : Obligations.ScheduledSheafLeavesForTheSolver := by
  unfold Obligations.ScheduledSheafLeavesForTheSolver
  intro s dt sh a l r hpor hfree hin hgo h20 hs ha hops hb hdue hothers
  refine scheduledRelease_sole dt hpor hfree hin hgo h20 hs ha hops hb ?_ (fun x hx => ?_) (fun x hx => (hothers x hx).1) ?_
  · rw [schedReady_at (s := elapse s dt) ha hb]
    exact decide_eq_true hdue
  · obtain ⟨-, b, hxb, hen, hlate⟩ := hothers x hx
    rw [schedReady_at (s := elapse s dt) hxb hen]
    exact decide_eq_false (Nat.not_le.2 hlate)
  · obtain ⟨g, m, d, w, e⟩ := settle_eq s { elapse s dt with sched := l ++ r, solving := some (atSolver (elapse s dt) sh) }
    refine ⟨settle_sched _ _, settle_solving _ _, regsKept_settle s (regsKept_congr (regsKept_elapse [] s dt) rfl), ?_⟩
    rw [e]
end

section
/-! The hardware solver's failure (R100) and the write that brings it back (R102). -/
namespace Sys2Proof.Machine
open Sys2Proof.Config

/-! ### The failure -/

/-- What the failure marks before it raises FS_ROUTE_HW. -/
def hwFailMarks (x : Fld) (v : Solving) (s : State) : State :=
  setF x 1 (setF CMT_SOLVE_STAT_hw_fail 1 (setF CMT_SOLVE_CTRL_hw_en 0
    { s with solving := some { v with fw := true, since := s.clk.now } }))
theorem hwFail_eq (x : Fld) (v : Solving) (s : State) : hwFail x v s = raise 13 0 (hwFailMarks x v s) := rfl

/-- The bits of the single failures. -/
def failBits : List Fld := [CMT_SOLVE_STAT_fail_timeout, CMT_SOLVE_STAT_fail_mismatch, CMT_SOLVE_STAT_fail_parity]

section
variable {x : Fld} (hx : x ∈ failBits)
include hx

/-- Each lies in CMT_SOLVE_STAT, apart from hw_fail. -/
theorem failBits_place : x.off = 0x60004 ∧ x.wid = 1 ∧ 3 ≤ x.lsb ∧ x.lsb ≤ 5 := by
  simp only [failBits, List.mem_cons, List.not_mem_nil, or_false] at hx
  rcases hx with rfl | rfl | rfl <;> decide

omit hx in
theorem hwFailMarks_eq (x : Fld) (v : Solving) (s : State) : ∃ r h, hwFailMarks x v s =
    { s with regs := r, hwSet := h, solving := some { v with fw := true, since := s.clk.now } } := ⟨_, _, rfl⟩
theorem hwFailMarks_fields (v : Solving) (s : State) :
    f (hwFailMarks x v s) CMT_SOLVE_CTRL_hw_en = 0 ∧ f (hwFailMarks x v s) CMT_SOLVE_STAT_hw_fail = 1 ∧ f (hwFailMarks x v s) x = 1 := by
  obtain ⟨hoff, hwid, hlo, hhi⟩ := failBits_place hx
  unfold hwFailMarks
  refine ⟨?_, ?_, ?_⟩
  · rw [f_setF_off _ x _ _ (by rw [hoff]; decide), f_setF_off _ _ _ _ (by decide), f_setF_same _ _ _ (by decide)]
    decide
  · rw [f_setF_ne _ x CMT_SOLVE_STAT_hw_fail _ (by omega) (.inr (.inl hlo)), f_setF_same _ _ _ (by decide)]
    decide
  · rw [f_setF_same _ _ _ (by omega), hwid]; rfl
theorem hwFailMarks_regs (v : Solving) (s : State) {o : Nat} (h0 : o ≠ 0x60000) (h4 : o ≠ 0x60004) :
    rd (hwFailMarks x v s) o = rd s o := by
  obtain ⟨hoff, -⟩ := failBits_place hx
  unfold hwFailMarks
  rw [rd_setF_other _ x _ (by rwa [hoff]), rd_setF_other _ CMT_SOLVE_STAT_hw_fail _ h4, rd_setF_other _ CMT_SOLVE_CTRL_hw_en _ h0]
  rfl
/-- While FS_ROUTE_HW is below SAFE, the failure writes its marks, the collector's block and nothing else. -/
theorem hwFail_onlyFlt (v : Solving) {s : State} (hsev : sevOf s 13 < 4) : OnlyFlt (hwFailMarks x v s) (hwFail x v s) := by
  rw [hwFail_eq]
  refine raise_onlyFlt (by decide) ?_ (by decide)
  unfold sevOf at hsev ⊢
  rwa [f_rd (hwFailMarks_regs hx v s (by decide) (by decide))]

/-- The firmware has the sheaf from the instant of the failure on (R100). -/
theorem hwFail_handsOver (v : Solving) {s u : State} (hu : ∃ h k, u = { s with hwSet := h, clk := k }) (hsev : sevOf s 13 < 4) (s0 : State) :
    let t := settle s0 (hwFail x v u)
    f t CMT_SOLVE_CTRL_hw_en = 0 ∧ f t CMT_SOLVE_STAT_hw_fail = 1 ∧ f t x = 1 ∧ t.clk.now = u.clk.now ∧
      t.solving = some { v with fw := true, since := t.clk.now } ∧
      RegsKeptFlt [CMT_SOLVE_CTRL_hw_en.off, CMT_SOLVE_STAT_hw_fail.off] s t ∧
      t = { s with
        regs := t.regs, hwSet := t.hwSet, msix := t.msix, msixDue := t.msixDue, clk := t.clk, solving := t.solving, toFaultPart := t.toFaultPart } := by
  intro t
  have hregs : u.regs = s.regs := by obtain ⟨h, k, rfl⟩ := hu; rfl
  have hsev' : sevOf u 13 < 4 := by rwa [sevOf, f_congr hregs]
  obtain ⟨hframe, hrd⟩ := hwFail_onlyFlt hx v hsev'
  obtain ⟨hen, hfail, hbit⟩ := hwFailMarks_fields hx v u
  have hf {y : Fld} (hy : y.off = 0x60000 ∨ y.off = 0x60004) : f t y = f (hwFailMarks x v u) y :=
    (f_settle s0 _ (by rcases hy with e | e <;> rw [e] <;> decide)).trans (f_rd (hrd _ (by omega)))
  have hkept : RegsKeptFlt [CMT_SOLVE_CTRL_hw_en.off, CMT_SOLVE_STAT_hw_fail.off] s t := fun o ho hp hflt => by
    obtain ⟨h0, h4⟩ : o ≠ 0x60000 ∧ o ≠ 0x60004 := by simpa [CMT_SOLVE_CTRL_hw_en, CMT_SOLVE_STAT_hw_fail] using ho
    exact (rd_settle s0 _ hp).trans ((hrd o hflt).trans ((hwFailMarks_regs hx v u h0 h4).trans (rd_congr hregs o)))
  have hsame : ∃ r m d w p, t = { u with
      regs := r, msix := m, msixDue := d, hwSet := w, solving := some { v with fw := true, since := u.clk.now }, toFaultPart := p } := by
    obtain ⟨r, m, d, w, e⟩ := settle_eq s0 (hwFail x v u)
    obtain ⟨r', w', p, e'⟩ := hframe
    obtain ⟨r'', w'', e''⟩ := hwFailMarks_eq x v u
    exact ⟨r, m, d, w, p, by rw [e''] at e'; exact e.trans (by rw [e'])⟩
  refine ⟨(hf (.inl rfl)).trans hen, (hf (.inr rfl)).trans hfail, (hf (.inr (failBits_place hx).1)).trans hbit, ?_⟩
  clear_value t
  obtain ⟨r, m, d, w, p, rfl⟩ := hsame
  obtain ⟨h, k, rfl⟩ := hu
  exact ⟨rfl, rfl, hkept, rfl⟩
end

/-! ### The commands -/

section
variable {s : State} {v : Solving} (dt : Nat) (hpor : s.porOn = false) (h20 : domOn s 20 = true) (hv : s.solving = some v)
  (hfw : v.fw = false) {P : State → Prop}
include hpor h20 hv hfw

theorem solveWatchdog_completes
    (h : P (settle s (hwFail CMT_SOLVE_STAT_fail_timeout v (elapseTo (elapse s dt) (v.since + 12 * us))))) :
    Completes (.solveWatchdog dt) s P := by
  have he : exec (.solveWatchdog dt) s = execSolveWatchdog dt s := rfl
  unfold execSolveWatchdog at he
  refine completes_run he hpor ?_
  simp only [elapse_solving, hv, hfw, domOn_elapse, h20, Bool.not_true, Bool.or_self, Bool.false_eq_true, if_false]
  exact h
/-- A hardware solve that ends late or with a fault fails with the bit of its cause (R100). -/
theorem solveComplete_fails {k : Nat} {x : Fld}
    (hk : (v.since + 12 * us < s.clk.now + dt ∧ x = CMT_SOLVE_STAT_fail_timeout) ∨ (s.clk.now + dt ≤ v.since + 12 * us ∧
      (k = 1 ∧ x = CMT_SOLVE_STAT_fail_mismatch ∨ k = 2 ∧ x = CMT_SOLVE_STAT_fail_parity)))
    (h : P (settle s (hwFail x v (elapse s dt)))) : Completes (.solveComplete dt k) s P := by
  have he : exec (.solveComplete dt k) s = execSolveComplete dt k s := rfl
  unfold execSolveComplete at he
  refine completes_run he hpor ?_
  simp only [elapse_solving, hv, hfw, domOn_elapse, h20, Bool.not_true, Bool.or_self, Bool.false_eq_true, if_false]
  rcases hk with ⟨hlate, rfl⟩ | ⟨hin, ⟨rfl, rfl⟩ | ⟨rfl, rfl⟩⟩
  · rw [if_pos (show v.since + 12 * us < (elapse s dt).clk.now from hlate)]; exact h
  · rw [if_neg (show ¬ v.since + 12 * us < (elapse s dt).clk.now from Nat.not_lt.2 hin), if_pos rfl]; exact h
  · rw [if_neg (show ¬ v.since + 12 * us < (elapse s dt).clk.now from Nat.not_lt.2 hin), if_neg (by decide), if_pos rfl]; exact h
end

theorem hwEnWrite_writes {s : State} (dt v : Nat) (hpor : s.porOn = false) (hm : masterLive s 0 = true) (h20 : domOn s 20 = true) :
    Completes (.hwEnWrite dt 0 v) s fun t =>
      f t CMT_SOLVE_CTRL_hw_en = v % 2 ∧ f t CMT_SOLVE_CTRL_inc_limit = v / 16 % 16 ∧
      RegsKept [CMT_SOLVE_CTRL_hw_en.off] s t ∧ OnlyRegs s dt t := by
  refine completes_run rfl hpor ?_
  rw [regCmd_gov (o := CMT_SOLVE_CTRL_hw_en.off) dt hm _ h20]
  unfold solveCtrlWrite
  refine ⟨?_, ?_, regsKept_settle s (regsKept_setF _ (regsKept_setF _ (regsKept_elapse _ s dt) (by decide)) (by decide)),
    onlyRegs_settle s (onlyRegs_setF _ _ (onlyRegs_setF _ _ (onlyRegs_elapse s dt)))⟩
  · rw [f_settle _ _ (by decide), f_setF_ne _ _ _ _ (by decide) (.inr (by decide)), f_setF_same _ _ _ (by decide)]; rfl
  · rw [f_settle _ _ (by decide), f_setF_same _ _ _ (by decide)]; rfl

end Sys2Proof.Machine

open Sys2Proof Sys2Proof.Machine Sys2Proof.Config

/-- Settles O15: each of the failures is `hwFail` with its own bit, at the instant to which the command has let time pass. -/
theorem hardwareSolverFailureHandsOverToFirmware : Obligations.HardwareSolverFailureHandsOverToFirmware := by
  unfold Obligations.HardwareSolverFailureHandsOverToFirmware
  refine ⟨?_, fun s dt v hpor hm h20 => hwEnWrite_writes dt v hpor hm h20⟩
  intro s dt v hpor h20 hv hfw hsev now limit p hp
  have hnow : ∃ h k, elapse s dt = { s with hwSet := h, clk := k } := ⟨_, _, rfl⟩
  rcases List.mem_append.1 hp with hp | hp
  · obtain rfl := List.mem_singleton.1 hp
    have hclk : (elapseTo (elapse s dt) limit).clk.now = max now limit := by
      unfold elapseTo; rw [elapse_now, elapse_now]; omega
    have h := hwFail_handsOver (x := CMT_SOLVE_STAT_fail_timeout) (by decide) v (s := s)
      (u := elapseTo (elapse s dt) limit) ⟨_, _, rfl⟩ hsev s
    rw [hclk] at h
    exact solveWatchdog_completes dt hpor h20 hv hfw h
  · split at hp
    next hin =>
      simp only [List.mem_cons, List.not_mem_nil, or_false] at hp
      rcases hp with rfl | rfl
      · exact solveComplete_fails dt hpor h20 hv hfw (.inr ⟨hin, .inl ⟨rfl, rfl⟩⟩) (hwFail_handsOver (by decide) v hnow hsev s)
      · exact solveComplete_fails dt hpor h20 hv hfw (.inr ⟨hin, .inr ⟨rfl, rfl⟩⟩) (hwFail_handsOver (by decide) v hnow hsev s)
    next hlate =>
      obtain ⟨k, -, rfl⟩ := List.mem_map.1 hp
      exact solveComplete_fails dt hpor h20 hv hfw (.inl ⟨Nat.not_le.1 hlate, rfl⟩) (hwFail_handsOver (by decide) v hnow hsev s)
end

section
/-! What the messages, the buffers and the demands of a solve leave (R337, R347, R358, R375): the maps and lists, the bytes of DRAM and
scratchpad, and the solver's own registers. -/
namespace Sys2Proof.Machine
open Sys2Proof.Config

/-- Registers of the solver: CMT_SOLVE_STAT, CMT_CNT_INC, CMT_CNT_MOVED and CMT_MAP_CMD. -/
def SolverOwn (o : Nat) : Prop := o = 0x60004 ∨ o = 0x60010 ∨ o = 0x6001C ∨ o = 0x60030
theorem notSolver_high {o : Nat} (h : 0x60031 ≤ o) : ¬ SolverOwn o := by unfold SolverOwn; omega
theorem notSolver_low {o : Nat} (h : o < 0x60000) : ¬ SolverOwn o := by unfold SolverOwn; omega

/-- The maps and lists, the solver's registers, DRAM and scratchpad stand. -/
structure SwitchKept (s t : State) : Prop where
  commits : t.toCommitPart = s.toCommitPart
  regs : ∀ o, SolverOwn o → rd t o = rd s o
  dram : t.dram = s.dram
  spm : t.spm = s.spm

namespace SwitchKept
variable {s t u : State}
protected theorem refl (s : State) : SwitchKept s s := ⟨rfl, fun _ _ => rfl, rfl, rfl⟩
protected theorem trans (h : SwitchKept s t) (k : SwitchKept t u) : SwitchKept s u :=
  ⟨k.commits.trans h.commits, fun o ho => (k.regs o ho).trans (h.regs o ho), k.dram.trans h.dram, k.spm.trans h.spm⟩
/-- What changes neither a register nor one of those parts. -/
theorem of_parts (hr : t.regs = s.regs) (hc : t.toCommitPart = s.toCommitPart) (hd : t.dram = s.dram) (hs : t.spm = s.spm) :
    SwitchKept s t := ⟨hc, fun o _ => rd_congr hr o, hd, hs⟩
theorem setF {x : Fld} (v : Nat) (h : SwitchKept s t) (hx : ¬ SolverOwn x.off) : SwitchKept s (setF x v t) :=
  h.trans ⟨rfl, fun o ho => rd_setF_other t x v (fun e : o = x.off => hx (e ▸ ho)), rfl, rfl⟩
theorem forEach {α : Type} {g : α → State → State} {l : List α} (h : SwitchKept s t) (hg : ∀ a ∈ l, ∀ v, SwitchKept v (g a v)) :
    SwitchKept s (forEach l g t) :=
  forEach_keeps (SwitchKept s) g l (fun a ha v hv => hv.trans (hg a ha v)) t h
theorem ite {c : Prop} [Decidable c] (h : SwitchKept s t) (k : SwitchKept s u) : SwitchKept s (if c then t else u) := by
  split
  · exact h
  · exact k
theorem f_eq (h : SwitchKept s t) (x : Fld) (hx : SolverOwn x.off) : f t x = f s x := f_rd (h.regs _ hx)
end SwitchKept

/-! ### Messages and buffers -/

theorem poolNote_switchKept (p : Nat) (s : State) : SwitchKept s (poolNote p s) := by
  have hfree : SwitchKept s (setF (BPM_POOL_FREE_low_water p) (min (f s (BPM_POOL_FREE_low_water p)) (poolFree s p))
      (setF (BPM_POOL_FREE_free p) (poolFree s p) s)) :=
    .setF _ (.setF _ (.refl s) (notSolver_high (by simp only [BPM_POOL_FREE_free]; omega)))
      (notSolver_high (by simp only [BPM_POOL_FREE_low_water]; omega))
  unfold poolNote onlyIf
  exact .ite (hfree.setF _ (notSolver_high (by decide))) hfree
theorem spillOne_switchKept (p : Nat) (s : State) : SwitchKept s (spillOne p s) := by
  unfold spillOne; split <;> exact .of_parts rfl rfl rfl rfl
theorem bpmSync_switchKept (s : State) : SwitchKept s (bpmSync s) := by
  unfold bpmSync; split <;> exact .of_parts rfl rfl rfl rfl
theorem giveBack_switchKept (p i : Nat) (s : State) : SwitchKept s (giveBack p i s) := by
  have hmarked : SwitchKept s (bufPut p i { bufGet s p i with alloc := false }
      { bpmSync s with bpmFreed := bufKey p i :: (bpmSync s).bpmFreed }) :=
    (bpmSync_switchKept s).trans (.of_parts rfl rfl rfl rfl)
  unfold giveBack
  simp only
  generalize bufPut p i _ _ = s1 at hmarked ⊢
  have hspilt : SwitchKept s (if (cacheGet s1 p).length < 64 then s1 else forEach (List.range 16) (fun _ => spillOne p) s1) :=
    .ite hmarked (hmarked.forEach fun _ _ v => spillOne_switchKept p v)
  exact .ite hmarked (.trans (t := cachePut p _ _) (hspilt.trans (.of_parts rfl rfl rfl rfl)) (poolNote_switchKept p _))
theorem releaseHandle_switchKept (h : Option Nat) (s : State) : SwitchKept s (releaseHandle h s) := by
  unfold releaseHandle
  split
  · exact .ite (giveBack_switchKept _ _ s) (.refl s)
  · exact .refl s
theorem unsent_switchKept (s : State) : SwitchKept s (unsent s) :=
  .ite (.setF _ (.setF _ (.refl s) (notSolver_low (by decide))) (notSolver_low (by decide))) (.refl s)
theorem deliver_switchKept (m : Msg) (s : State) : SwitchKept s (deliver m s) :=
  .ite (.of_parts rfl rfl rfl rfl) ((unsent_switchKept s).trans (releaseHandle_switchKept _ _))
/-- A refusal sends its response, and counts one for a full queue, in a register of the tenant. -/
theorem refuseSheaf_switchKept (reason index : Nat) (fw : Bool) (sh : Sheaf) (s : State) :
    SwitchKept s (refuseSheaf reason index fw sh s) := by
  unfold refuseSheaf sheafRsp
  refine .forEach (.ite (.setF _ (.refl s) ?_) (.refl s)) fun _ _ v => deliver_switchKept _ v
  simp only [SolverOwn, REQ_T_CNT_count]; omega

/-! ### Parked cells and demanded temperatures -/

/-- A heater of a cell that leaves cold park takes its bar code and starts its loop again (R375). -/
def unparkSlot (cell sl : Nat) (t : State) : State :=
  restartLoop (cellPlot cell) sl (forceCode (cellPlot cell) sl (modelCode t (cellPlot cell) sl false) t)
theorem unparkCell_eq (i : Nat) (s : State) : unparkCell i s =
    if s.parked.getLsbD i then { forEach (heaterSlots i) (unparkSlot i) s with parked := setCell s.parked i false } else s := rfl
theorem unparkSlot_switchKept (cell sl : Nat) (s : State) : SwitchKept s (unparkSlot cell sl s) :=
  .trans (.setF (x := PLOT_LOOP_OUT_code (cellPlot cell) sl) _ (.of_parts rfl rfl rfl rfl)
    (notSolver_high (by have := winBase_above (cellPlot cell); simp only [PLOT_LOOP_OUT_code]; omega))) (.of_parts rfl rfl rfl rfl)
theorem unparkSlot_mem (cell sl : Nat) (s : State) : (unparkSlot cell sl s).toMemPart = s.toMemPart := rfl
theorem unparkCell_switchKept (i : Nat) (s : State) : SwitchKept s (unparkCell i s) := by
  have hslots : SwitchKept s (forEach (heaterSlots i) (unparkSlot i) s) := .forEach (.refl s) fun sl _ t => unparkSlot_switchKept i sl t
  rw [unparkCell_eq]
  generalize forEach (heaterSlots i) (unparkSlot i) s = t at hslots ⊢
  exact .ite (hslots.trans (.of_parts rfl rfl rfl rfl)) (.refl s)
theorem unparkCell_mem (i : Nat) (s : State) : (unparkCell i s).toMemPart = s.toMemPart := by
  have hslots : (forEach (heaterSlots i) (unparkSlot i) s).toMemPart = s.toMemPart :=
    forEach_same (fun t => t.toMemPart) _ _ (fun sl _ t => unparkSlot_mem i sl t) s
  rw [unparkCell_eq]
  generalize forEach (heaterSlots i) (unparkSlot i) s = t at hslots ⊢
  split
  · exact hslots
  · rfl
theorem unparkBound_switchKept (m : MapSt) (s : State) : SwitchKept s (unparkBound m s) :=
  .forEach (.refl s) fun i _ v => unparkCell_switchKept i v
theorem unparkBound_mem (m : MapSt) (s : State) : (unparkBound m s).toMemPart = s.toMemPart :=
  forEach_same (fun t => t.toMemPart) _ _ (fun i _ t => unparkCell_mem i t) s
theorem putPend_switchKept (p : Nat) (s : State) : SwitchKept s (putPend p s) :=
  .setF _ (.setF _ (.refl s) (notSolver_low (by decide))) (notSolver_low (by decide))
theorem convStart_switchKept (s : State) : SwitchKept s (convStart s) := by
  unfold convStart
  split
  · exact (putPend_switchKept _ s).trans (.of_parts rfl rfl rfl rfl)
  · exact .refl s
theorem convStart_mem (s : State) : (convStart s).toMemPart = s.toMemPart := by unfold convStart; split <;> rfl
theorem demandSites_switchKept {src : Nat} (h : src < 8) (mask : Nat) (s : State) : SwitchKept s (demandSites src mask s) :=
  .trans (.setF (x := GOV_CNT_DEM_count src) _ (putPend_switchKept _ s) (notSolver_low (by simp only [GOV_CNT_DEM_count]; omega)))
    (convStart_switchKept _)
theorem demandSites_mem (src mask : Nat) (s : State) : (demandSites src mask s).toMemPart = s.toMemPart :=
  convStart_mem _

end Sys2Proof.Machine
end

section
/-! The end of a solve (R84, R90, R101, R138, R177): each branch of `solveEnd`, and what it leaves of the maps, the accepted list and
the solver's registers. -/
namespace Sys2Proof.Machine
open Sys2Proof.Config

/-- The state with the solver free. -/
def solverFreed (s : State) : State := { s with solving := none }

/-! ### Refusal -/

theorem solveRefuse_switchKept (r k : Nat) (fw : Bool) (sh : Sheaf) (s : State) :
    SwitchKept (setF CMT_SOLVE_STAT_last_reason r s) (solveRefuse r k fw sh s) := refuseSheaf_switchKept _ _ _ _ _
theorem solveRefuse_reason (r k : Nat) (fw : Bool) (sh : Sheaf) (s : State) :
    f (solveRefuse r k fw sh s) CMT_SOLVE_STAT_last_reason = r % 256 :=
  ((solveRefuse_switchKept r k fw sh s).f_eq _ (.inl rfl)).trans (f_setF_same _ _ _ (by decide))

/-- What a refused solve leaves of a state: the maps, the accepted list and the memories, the solver free. -/
structure SolveRefused (s : State) (r : Nat) (t : State) : Prop where
  commits : t.toCommitPart = (solverFreed s).toCommitPart
  reason : f t CMT_SOLVE_STAT_last_reason = r % 256
  dram : t.dram = s.dram
  spm : t.spm = s.spm
theorem solveRefuse_refused (r k : Nat) (fw : Bool) (sh : Sheaf) {s u : State} (hu : SwitchKept (solverFreed s) u) :
    SolveRefused s r (solveRefuse r k fw sh u) := by
  have h := solveRefuse_switchKept r k fw sh u
  exact ⟨h.commits.trans hu.commits, solveRefuse_reason r k fw sh u, h.dram.trans hu.dram, h.spm.trans hu.spm⟩

section
variable {v : Solving} {s : State} (hr : s.ready = [])
include hr

/-- A state with the lists of the freed one has nothing at the solver's inlet. -/
theorem solveRefused_ends {r n : Nat} {t : State} (h : SolveRefused s r t) : SolveRefused s r (solverNext n t) := by
  rwa [solverNext_empty ((congrArg CommitPart.ready h.commits).trans hr)]
theorem solveEnd_dead (hd : v.dead ≠ 0) : SolveRefused s v.dead (solveEnd v s) := by
  unfold solveEnd
  rw [if_pos hd]
  exact solveRefused_ends hr (solveRefuse_refused _ 0 v.fw v.sheaf (.refl (solverFreed s)))
theorem solveEnd_rotating (hd : v.dead = 0) (hrot : s.rot.isSome = true) : SolveRefused s 4 (solveEnd v s) := by
  unfold solveEnd
  rw [if_neg (not_not.2 hd), if_pos hrot]
  exact solveRefused_ends hr (solveRefuse_refused 4 0 v.fw v.sheaf (.refl (solverFreed s)))
theorem solveEnd_refused (hd : v.dead = 0) (hrot : s.rot = none) {r k : Nat} (hs : solveOf s v.sheaf = .refused r k) :
    SolveRefused s r (solveEnd v s) := by
  have hcounted : SwitchKept (solverFreed s) (if r = 0x05 then inc CMT_CNT_NEEDS_MOVE_count (inc CMT_CNT_FULL_count (solverFreed s))
      else solverFreed s) :=
    .ite (.setF _ (.setF _ (.refl _) (by unfold SolverOwn; decide)) (by unfold SolverOwn; decide)) (.refl _)
  unfold solveEnd
  rw [if_neg (not_not.2 hd), hrot, hs]
  exact solveRefused_ends hr (solveRefuse_refused r k v.fw v.sheaf hcounted)
end

/-! ### Acceptance -/

/-- The solver's own state is no part of what an acceptance looks at. -/
theorem acceptedOf_freed (s : State) (sh : Sheaf) (fw : Bool) (w : Work) (moved : List Moved) :
    acceptedOf (solverFreed s) sh fw w moved = acceptedOf s sh fw w moved := rfl
theorem acceptReason_freed (s : State) (a : Accepted) : acceptReason (solverFreed s) a = acceptReason s a := rfl

theorem countRefusal_switchKept (r : Nat) (s : State) : SwitchKept s (countRefusal r s) :=
  .ite (.setF _ (.refl s) (notSolver_high (by decide))) (.ite (.setF _ (.refl s) (notSolver_high (by decide))) (.refl s))

/-- A late sheaf is counted (R121). -/
def lateCounted (a : Accepted) (s : State) : State := if a.late then inc CMT_CNT_PAST_count s else s
theorem lateCounted_switchKept (a : Accepted) (s : State) : SwitchKept s (lateCounted a s) :=
  .ite (.setF _ (.refl s) (notSolver_high (by decide))) (.refl s)
theorem lateCounted_mem (a : Accepted) (s : State) : (lateCounted a s).toMemPart = s.toMemPart := by unfold lateCounted; split <;> rfl
/-- The accepted sheaf joins the list at its end, and its map becomes the projected one (R84). -/
def joined (m : MapSt) (a : Accepted) (s : State) : State := { s with projected := m, accepted := s.accepted ++ [a] }
/-- The acceptance up to the demand of temperatures. -/
def joinedCounted (m : MapSt) (a : Accepted) (n : Nat) (s : State) : State :=
  incBy CMT_CNT_MOVED_count n (unparkBound m (joined m a (lateCounted a s)))

theorem joinedCounted_leaves (m : MapSt) (a : Accepted) (n : Nat) (s : State) :
    (joinedCounted m a n s).toCommitPart = (joined m a s).toCommitPart ∧ (joinedCounted m a n s).toMemPart = s.toMemPart ∧
      f (joinedCounted m a n s) CMT_CNT_INC_count = f s CMT_CNT_INC_count ∧
      f (joinedCounted m a n s) CMT_CNT_MOVED_count = (f s CMT_CNT_MOVED_count + n) % 2 ^ 32 := by
  have hlate := lateCounted_switchKept a s
  have hlists : (joined m a (lateCounted a s)).toCommitPart = (joined m a s).toCommitPart :=
    congrArg (fun c : CommitPart => { c with projected := m, accepted := c.accepted ++ [a] }) hlate.commits
  have hcells := unparkBound_switchKept m (joined m a (lateCounted a s))
  have hf (x : Fld) (hx : SolverOwn x.off) : f (unparkBound m (joined m a (lateCounted a s))) x = f s x :=
    (hcells.f_eq x hx).trans (hlate.f_eq x hx)
  have hmem := (unparkBound_mem m (joined m a (lateCounted a s))).trans (lateCounted_mem a s)
  have hcommits := hcells.commits.trans hlists
  unfold joinedCounted incBy
  generalize unparkBound m (joined m a (lateCounted a s)) = u at hf hmem hcommits ⊢
  refine ⟨hcommits, hmem, ?_, ?_⟩
  · rw [f_setF_off _ _ _ _ (by decide), hf _ (.inr (.inl rfl))]
  · rw [f_setF_same _ _ _ (by decide), hf _ (.inr (.inr (.inl rfl)))]; rfl

section
variable (sh : Sheaf) (fw : Bool) (w : Work) (moved : List Moved) {s : State}

theorem acceptSheaf_refuses (h : acceptReason s (acceptedOf s sh fw w moved) ≠ 0) : SwitchKept s (acceptSheaf sh fw w moved s) := by
  unfold acceptSheaf
  simp only
  rw [if_pos h]
  exact ((lateCounted_switchKept _ s).trans (countRefusal_switchKept _ _)).trans (refuseSheaf_switchKept _ _ _ _ _)
/-- The projected map and the accepted list after an acceptance; the rest of the maps and lists, and the memories, stand. -/
theorem acceptSheaf_accepts (h : acceptReason s (acceptedOf s sh fw w moved) = 0) :
    (acceptSheaf sh fw w moved s).toCommitPart = (joined w.map (acceptedOf s sh fw w moved) s).toCommitPart ∧
      (acceptSheaf sh fw w moved s).toMemPart = s.toMemPart ∧
      f (acceptSheaf sh fw w moved s) CMT_CNT_INC_count = f s CMT_CNT_INC_count ∧
      f (acceptSheaf sh fw w moved s) CMT_CNT_MOVED_count = (f s CMT_CNT_MOVED_count + moved.length) % 2 ^ 32 := by
  obtain ⟨hlists, hmem, hinc, hmoved⟩ := joinedCounted_leaves w.map (acceptedOf s sh fw w moved) moved.length s
  unfold acceptSheaf
  simp only
  rw [if_neg (not_not.2 h)]
  split
  · have hd := demandSites_switchKept (src := 3) (by decide) (f s GOV_ECHK_SITES_LO_sites + 2 ^ 32 * f s GOV_ECHK_SITES_HI_sites)
      (joinedCounted w.map (acceptedOf s sh fw w moved) moved.length s)
    exact ⟨hd.commits.trans hlists, (demandSites_mem _ _ _).trans hmem, (hd.f_eq _ (.inr (.inl rfl))).trans hinc,
      (hd.f_eq _ (.inr (.inr (.inl rfl)))).trans hmoved⟩
  · exact ⟨hlists, hmem, hinc, hmoved⟩
end

/-- The counts of the circuits placed incrementally and of the full solve (R109). -/
def solveCounted (incs : Nat) (full : Bool) (s : State) : State :=
  incBy CMT_CNT_INC_count incs (if full then inc CMT_CNT_FULL_count s else s)
theorem solveCounted_leaves (incs : Nat) (full : Bool) (s : State) :
    (solveCounted incs full s).toCommitPart = s.toCommitPart ∧ (solveCounted incs full s).toMemPart = s.toMemPart ∧
      f (solveCounted incs full s) CMT_CNT_INC_count = (f s CMT_CNT_INC_count + incs) % 2 ^ 32 ∧
      f (solveCounted incs full s) CMT_CNT_MOVED_count = f s CMT_CNT_MOVED_count := by
  unfold solveCounted incBy
  have hfull : ∀ u, u = (if full = true then inc CMT_CNT_FULL_count s else s) →
      SwitchKept s u ∧ u.toMemPart = s.toMemPart := fun u hu => by
    rw [hu]
    exact ⟨.ite (.setF _ (.refl s) (by unfold SolverOwn; decide)) (.refl s), by split <;> rfl⟩
  generalize hu : (if full = true then inc CMT_CNT_FULL_count s else s) = u
  obtain ⟨hkept, hmem⟩ := hfull u hu.symm
  refine ⟨hkept.commits, hmem, ?_, ?_⟩
  · rw [f_setF_same _ _ _ (by decide), hkept.f_eq _ (.inr (.inl rfl))]; rfl
  · rw [f_setF_off _ _ _ _ (by decide), hkept.f_eq _ (.inr (.inr (.inl rfl)))]

section
variable {v : Solving} {s : State} (hd : v.dead = 0) (hrot : s.rot = none) {w : Work} {moved : List Moved} {incs : Nat} {full : Bool}
  (hs : solveOf s v.sheaf = .ok w moved incs full)
include hd hrot hs

theorem solveEnd_ok (h : (acceptSheaf v.sheaf v.fw w moved (solverFreed s)).ready = []) :
    solveEnd v s = solveCounted incs full (acceptSheaf v.sheaf v.fw w moved (solverFreed s)) := by
  unfold solveEnd
  rw [if_neg (not_not.2 hd), hrot, hs]
  refine solverNext_empty ?_ _
  exact (congrArg CommitPart.ready (solveCounted_leaves incs full (acceptSheaf v.sheaf v.fw w moved (solverFreed s))).1).trans h
variable (hr : s.ready = [])
include hr
/-- The solve ends with its sheaf refused at acceptance: the maps, the accepted list and the memories stand. -/
theorem solveEnd_unaccepted (ha : acceptReason s (acceptedOf s v.sheaf v.fw w moved) ≠ 0) :
    (solveEnd v s).toCommitPart = (solverFreed s).toCommitPart ∧ (solveEnd v s).dram = s.dram ∧ (solveEnd v s).spm = s.spm := by
  have hkept := acceptSheaf_refuses v.sheaf v.fw w moved (s := solverFreed s) ha
  obtain ⟨hlists, hmem, -⟩ := solveCounted_leaves incs full (acceptSheaf v.sheaf v.fw w moved (solverFreed s))
  rw [solveEnd_ok hd hrot hs ((congrArg CommitPart.ready hkept.commits).trans hr)]
  exact ⟨hlists.trans hkept.commits, (congrArg MemPart.dram hmem).trans hkept.dram, (congrArg MemPart.spm hmem).trans hkept.spm⟩
/-- The solve ends with its sheaf accepted. -/
theorem solveEnd_accepted (ha : acceptReason s (acceptedOf s v.sheaf v.fw w moved) = 0) :
    (solveEnd v s).toCommitPart = (joined w.map (acceptedOf s v.sheaf v.fw w moved) (solverFreed s)).toCommitPart ∧
      (solveEnd v s).toMemPart = s.toMemPart ∧
      f (solveEnd v s) CMT_CNT_INC_count = (f s CMT_CNT_INC_count + incs) % 2 ^ 32 ∧
      f (solveEnd v s) CMT_CNT_MOVED_count = (f s CMT_CNT_MOVED_count + moved.length) % 2 ^ 32 := by
  obtain ⟨hlists, hmem, hinc, hmoved⟩ := acceptSheaf_accepts v.sheaf v.fw w moved (s := solverFreed s) ha
  obtain ⟨hlists', hmem', hinc', hmoved'⟩ := solveCounted_leaves incs full (acceptSheaf v.sheaf v.fw w moved (solverFreed s))
  rw [solveEnd_ok hd hrot hs ((congrArg CommitPart.ready hlists).trans hr)]
  rw [hinc] at hinc'
  exact ⟨hlists'.trans hlists, hmem'.trans hmem, hinc', hmoved'.trans hmoved⟩
end

/-! ### The commands -/

/-- A settled state whose maps, lists and memories are those of `u`, and whose registers are too, but for the longest solve. -/
structure EndsAs (u t : State) : Prop where
  commits : t.toCommitPart = u.toCommitPart
  mem : t.toMemPart = u.toMemPart
  regs : ∀ o, o ≠ 0x60020 → o ≠ DMA_MSIX_PEND_pending.off → rd t o = rd u o
theorem EndsAs.f_eq {u t : State} (h : EndsAs u t) {x : Fld} (hx : x.off ≠ 0x60020) (hp : x.off ≠ DMA_MSIX_PEND_pending.off) :
    f t x = f u x := f_rd (h.regs _ hx hp)
theorem endsAs_settle (s0 u : State) : EndsAs u (settle s0 u) :=
  ⟨settle_toCommitPart s0 u, settle_toMemPart s0 u, fun _ _ hp => rd_settle s0 u hp⟩
theorem endsAs_settle_tmax (s0 : State) (n : Nat) (u : State) : EndsAs u (settle s0 (setMax CMT_SOLVE_TMAX_tmax_ns n u)) :=
  ⟨settle_toCommitPart s0 _, settle_toMemPart s0 _, fun _ ho hp => (rd_settle s0 _ hp).trans (rd_setF_other u _ _ ho)⟩

section
variable {s : State} {v : Solving} (dt : Nat) (hpor : s.porOn = false) (h20 : domOn s 20 = true) (hv : s.solving = some v)
include hpor h20 hv

/-- A live solve of hardware or firmware that ends without a fault ends the solve. -/
theorem solve_completes {c : Instr}
    (hc : (v.fw = false ∧ s.clk.now + dt ≤ v.since + 12 * us ∧ c = .solveComplete dt 0) ∨
      (v.fw = true ∧ fb s FLT_SUP_STAT_no_holder = false ∧ c = .fwSolveComplete dt false))
    {P : State → Prop} (h : ∀ t, EndsAs (solveEnd v (elapse s dt)) t → P t) : Completes c s P := by
  rcases hc with ⟨hfw, hin, rfl⟩ | ⟨hfw, hholder, rfl⟩
  · have he : exec (.solveComplete dt 0) s = execSolveComplete dt 0 s := rfl
    unfold execSolveComplete at he
    refine completes_run he hpor (h _ ?_)
    simp only [elapse_solving, hv, hfw, domOn_elapse, h20, Bool.not_true, Bool.or_self, Bool.false_eq_true, if_false]
    rw [if_neg (show ¬ v.since + 12 * us < (elapse s dt).clk.now from Nat.not_lt.2 hin), if_neg (by decide), if_neg (by decide)]
    exact endsAs_settle_tmax s _ _
  · have he : exec (.fwSolveComplete dt false) s = execFwSolveComplete dt false s := rfl
    unfold execFwSolveComplete at he
    refine completes_run he hpor (h _ ?_)
    simp only [elapse_solving, hv, hfw, domOn_elapse, h20, fb_elapse, hholder, Bool.not_true, Bool.or_self, Bool.false_and,
      Bool.false_eq_true, if_false]
    exact endsAs_settle s _
/-- A result of the firmware that fails the verifier check refuses the sheaf (R101). -/
theorem fwSolveComplete_mismatch (hr : s.ready = []) (hfw : v.fw = true) (hholder : fb s FLT_SUP_STAT_no_holder = false) (hd : v.dead = 0)
    (hrot : s.rot = none) {P : State → Prop} (h : ∀ u t, SolveRefused (elapse s dt) 0x0A u → EndsAs u t → P t) :
    Completes (.fwSolveComplete dt true) s P := by
  have he : exec (.fwSolveComplete dt true) s = execFwSolveComplete dt true s := rfl
  unfold execFwSolveComplete at he
  refine completes_run he hpor (h _ _ ?_ (endsAs_settle s _))
  have hgo : ((!v.fw || !domOn (elapse s dt) 20) || fb (elapse s dt) FLT_SUP_STAT_no_holder) = false := by
    rw [hfw, domOn_elapse, h20, fb_elapse, hholder]; rfl
  have hlive : ((true && v.dead == 0) && (elapse s dt).rot.isNone) = true := by rw [elapse_rot, hrot, hd]; rfl
  simp only [elapse_solving, hv, hgo, hlive, Bool.false_eq_true, if_false, if_true]
  exact solveRefused_ends (s := elapse s dt) hr (solveRefuse_refused 0x0A 0 true v.sheaf (.refl (solverFreed (elapse s dt))))
end

/-- Without a core that holds the supervisor lease the firmware finishes nothing (R412). -/
theorem fwSolveComplete_noHolder {s : State} (dt : Nat) (mismatch : Bool) (hpor : s.porOn = false) (h : fb s FLT_SUP_STAT_no_holder = true) :
    Completes (.fwSolveComplete dt mismatch) s fun t => RegsKept [] s t ∧ OnlyRegs s dt t := by
  have he : exec (.fwSolveComplete dt mismatch) s = execFwSolveComplete dt mismatch s := rfl
  unfold execFwSolveComplete at he
  refine completes_unchanged he hpor ?_
  simp only [fb_elapse, h, Bool.or_true, if_true]
  split <;> rfl

/-- What a refused or unaccepted solve has left once its command has ended. -/
theorem kept_of_ends {s u t : State} (h : EndsAs u t) (hc : u.toCommitPart = (solverFreed s).toCommitPart) (hd : u.dram = s.dram)
    (hs : u.spm = s.spm) : t.projected = s.projected ∧ t.present = s.present ∧ t.accepted = s.accepted ∧ t.solving = none ∧
      t.dram = s.dram ∧ t.spm = s.spm := by
  have ht := h.commits.trans hc
  exact ⟨(congrArg CommitPart.projected ht :), (congrArg CommitPart.present ht :), (congrArg CommitPart.accepted ht :),
    (congrArg CommitPart.solving ht :), (congrArg MemPart.dram h.mem).trans hd, (congrArg MemPart.spm h.mem).trans hs⟩
theorem kept_of_refused {s u t : State} {r : Nat} (h : SolveRefused s r u) (he : EndsAs u t) :
    (t.projected = s.projected ∧ t.present = s.present ∧ t.accepted = s.accepted ∧ t.solving = none ∧ t.dram = s.dram ∧ t.spm = s.spm) ∧
      f t CMT_SOLVE_STAT_last_reason = r % 256 :=
  ⟨kept_of_ends he h.commits h.dram h.spm, (he.f_eq (by decide) (by decide)).trans h.reason⟩

end Sys2Proof.Machine

open Sys2Proof Sys2Proof.Machine Sys2Proof.Config

/-- Settles O14: both solvers end a live solve by `solveEnd`, whose branches each leave the maps and lists or write them whole. -/
theorem solveEndsAcceptedOrRefusedWhole : Obligations.SolveEndsAcceptedOrRefusedWhole := by
  unfold Obligations.SolveEndsAcceptedOrRefusedWhole
  intro s dt v c hpor h20 hr hv hc kept
  have hr' : (elapse s dt).ready = [] := hr
  have hends {P : State → Prop} (h : ∀ t, EndsAs (solveEnd v (elapse s dt)) t → P t) : Completes c s P :=
    solve_completes dt hpor h20 hv hc h
  have href {r : Nat} {u t : State} (h : SolveRefused (elapse s dt) r u) (ht : EndsAs u t) :
      kept t ∧ f t CMT_SOLVE_STAT_last_reason = r % 256 := (kept_of_refused h ht :)
  refine ⟨fun hd hrot => ⟨fun w moved incs full hs => ?_, fun r k hs => ?_⟩, fun hd => ?_, fun hd hrot => ?_, fun hd hrot hfw => ?_,
    fun r mismatch hp hn => fwSolveComplete_noHolder dt mismatch hp hn⟩
  · intro a
    refine ⟨fun ha => hends fun t ht => ?_, fun ha => hends fun t ht => ?_⟩
    · obtain ⟨hlists, hmem, hinc, hmoved⟩ := solveEnd_accepted (s := elapse s dt) hd hrot hs hr' ha
      have hcommits := ht.commits.trans hlists
      exact ⟨(congrArg CommitPart.projected hcommits :), (congrArg CommitPart.present hcommits :),
        (congrArg CommitPart.solving hcommits :), ht.mem.trans hmem, (congrArg CommitPart.accepted hcommits :), rfl, rfl, rfl, rfl, rfl, rfl,
        (ht.f_eq (by decide) (by decide)).trans hinc, (ht.f_eq (by decide) (by decide)).trans hmoved⟩
    · obtain ⟨hlists, hdram, hspm⟩ := solveEnd_unaccepted (s := elapse s dt) hd hrot hs hr' ha
      exact kept_of_ends ht hlists hdram hspm
  · exact hends fun t ht => href (solveEnd_refused hr' hd hrot hs) ht
  · exact hends fun t ht => href (solveEnd_dead hr' hd) ht
  · exact hends fun t ht => href (solveEnd_rotating hr' hd hrot) ht
  · obtain ⟨hhw, -⟩ | ⟨-, hholder, -⟩ := hc
    · rw [hfw] at hhw; exact absurd hhw Bool.noConfusion
    · exact fwSolveComplete_mismatch dt hpor h20 hv hr hfw hholder hd hrot fun u t hu ht => href hu ht
end

section
/-! What a raise of any severity leaves of the registers of the switch (CMT): the entry into the safe state that it may bring acts on
lists, windows, gates and buffers, and writes no register of that block (R391 to R404). -/
namespace Sys2Proof.Machine
open Sys2Proof.Config

/-- The registers of the block CMT. -/
def CmtOwn (o : Nat) : Prop := 0x60000 ≤ o ∧ o < 0x70000
/-- They stand as they stood. -/
def CmtKept (s t : State) : Prop := ∀ o, CmtOwn o → rd t o = rd s o

namespace CmtKept
variable {s t u : State}
protected theorem refl (s : State) : CmtKept s s := fun _ _ => rfl
protected theorem trans (h : CmtKept s t) (k : CmtKept t u) : CmtKept s u := fun o ho => (k o ho).trans (h o ho)
theorem of_regs (h : t.regs = s.regs) : CmtKept s t := fun o _ => rd_congr h o
theorem setF {x : Fld} (v : Nat) (h : CmtKept s t) (hx : x.off < 0x60000 ∨ 0x70000 ≤ x.off) : CmtKept s (setF x v t) :=
  h.trans fun o ho => rd_setF_other t x v (by rintro rfl; unfold CmtOwn at ho; omega)
theorem forEach {α : Type} {g : α → State → State} {l : List α} (h : CmtKept s t) (hg : ∀ a ∈ l, ∀ v, CmtKept v (g a v)) :
    CmtKept s (forEach l g t) :=
  forEach_keeps (CmtKept s) g l (fun a ha v hv => hv.trans (hg a ha v)) t h
theorem ite {c : Prop} [Decidable c] (h : CmtKept s t) (k : CmtKept s u) : CmtKept s (if c then t else u) := by
  split
  · exact h
  · exact k
theorem onlyIf {c : Bool} {g : State → State} (h : CmtKept s t) (hg : ∀ v, CmtKept v (g v)) : CmtKept s (onlyIf c g t) :=
  ite (h.trans (hg t)) h
theorem of_onlyTelem (h : OnlyTelem s t) : CmtKept s t := by rw [h]; exact of_regs rfl
theorem of_writesOnly {A : Nat → Prop} (h : WritesOnly A s t) (ha : ∀ o, A o → o < 0x60000) : CmtKept s t := fun o ho =>
  (h.others o fun hA => Nat.not_lt.2 ho.1 (ha o hA)).1
theorem of_domKept (h : DomKept CmtOwn s t) : CmtKept s t := h.regs
theorem f_eq (h : CmtKept s t) {x : Fld} (hx : CmtOwn x.off) : f t x = f s x := f_rd (h _ hx)
end CmtKept

/-! ### Messages and windows -/

theorem releaseHandle_cmtKept (h : Option Nat) (s : State) : CmtKept s (releaseHandle h s) := by
  unfold releaseHandle
  split
  next n =>
    have hpool : ¬ CmtOwn (0xA0100 + 16 * hPool n) := fun h => by have := h.2; omega
    exact .ite (.of_domKept (giveBack_domKept hpool (fun h => by have := h.2; omega) _ s)) (.refl s)
  · exact .refl s
theorem deliver_cmtKept (m : Msg) (s : State) : CmtKept s (deliver m s) := by
  have hcounted : CmtKept s (unsent s) := .ite (.setF _ (.setF _ (.refl s) (by decide)) (by decide)) (.refl s)
  exact .ite (.of_regs rfl) (hcounted.trans (releaseHandle_cmtKept _ _))
theorem refuseSheaf_cmtKept {reason : Nat} (h : reason ≠ 0x08) (index : Nat) (fw : Bool) (sh : Sheaf) (s : State) :
    CmtKept s (refuseSheaf reason index fw sh s) := by
  unfold refuseSheaf sheafRsp
  simp only [if_neg h]
  exact .forEach (.refl s) fun _ _ v => deliver_cmtKept _ v
theorem abandonMark_cmtKept (w sl : Nat) (s : State) : CmtKept s (abandonMark w sl s) := by
  have hended : CmtKept s (endMark w sl s) :=
    .trans (.setF (x := PLOT_LOOP_STAT_stale w sl) 0 (.of_regs rfl)
      (.inr (by have := winBase_above w; simp only [PLOT_LOOP_STAT_stale]; omega))) (.of_regs rfl)
  unfold abandonMark
  exact .ite (hended.setF _ (by decide)) (.refl s)
theorem cutHold_cmtKept (w ch : Nat) (s : State) : CmtKept s (cutHold w ch s) := by
  unfold cutHold
  exact .ite (.setF _ (.of_regs rfl) (.inr (by have := winBase_above w; simp only [PLOT_DRL_STAT_dg_cut]; omega))) (.refl s)
theorem startWave_cmtKept (w ch : Nat) (codes : List Int) (test : Bool) (s : State) : CmtKept s (startWave w ch codes test s) := by
  have hw := winBase_above w
  have hflush : CmtKept s (incBy (PLOT_DRL_CNT_FLUSH_count w) (chanOf s w ch).queue.length s) :=
    .setF _ (.refl s) (.inr (by simp only [PLOT_DRL_CNT_FLUSH_count]; omega))
  have hcut := (hflush.trans (cutHold_cmtKept w ch _)).onlyIf (c := chRt w ch) (cutHold_cmtKept w (seg1Of ch))
  have hclip := hcut.onlyIf (c := codes.any fun v => satInt 16 v != v) (g := setF (PLOT_DRL_STAT_clip w ch) 1)
    fun v => .setF _ (.refl v) (.inr (by simp only [PLOT_DRL_STAT_clip]; omega))
  unfold startWave
  simp only
  refine hclip.trans (.trans ?_ (.of_regs rfl))
  split <;> exact .of_regs rfl
theorem playWave_cmtKept (r : WaveRead) (s : State) : CmtKept s (playWave r s) := by
  unfold playWave
  split
  · exact (startWave_cmtKept r.win r.slot _ false s).trans (.of_regs rfl)
  · exact .refl s
theorem gatesDark_cmtKept (s : State) : CmtKept s (gatesDark s) :=
  .forEach (.refl s) fun _ _ v => .trans (.forEach (.refl v) fun r _ u => playWave_cmtKept r u) (.of_regs rfl)

/-! ### Entry into the safe state -/

theorem passCircuits_cmtKept (s : State) : CmtKept s (passCircuits s) :=
  .forEach (.of_regs rfl) fun _ _ v => .of_onlyTelem (telem_onlyTelem _ _ _ _ _ v)
theorem stopHold_cmtKept (s : State) : CmtKept s (stopHold s) := by
  have hevent (table a : Nat) (v : State) : CmtKept v (rotEvent table a v) := by
    unfold rotEvent; split
    · exact .of_onlyTelem (telem_onlyTelem _ _ _ _ _ v)
    · exact .refl v
  have hidle (v : State) : CmtKept v (rotIdle v) := by
    unfold rotIdle; split
    · exact .refl v
    · exact .setF _ (.setF _ (.of_regs rfl) (by decide)) (by decide)
  unfold stopHold; split
  · exact .refl s
  · refine .trans (.trans (.trans ?_ (passCircuits_cmtKept _)) (hidle _)) (hevent _ _ _)
    split
    · exact .ite (.of_regs rfl) (.refl s)
    · exact .refl s
theorem emptyLists_cmtKept (s : State) : CmtKept s (emptyLists s) := by
  have haccepted : CmtKept s (refuseAccepted 0x0B s) := .forEach (.of_regs rfl) fun _ _ v => refuseSheaf_cmtKept (by decide) 0 _ _ v
  have hwaiting (v : State) : CmtKept v (refuseWaiting 0x0B v) :=
    .forEach (.of_regs rfl) fun _ _ v => refuseSheaf_cmtKept (by decide) 0 _ _ v
  exact .forEach (.onlyIf ((haccepted.trans (hwaiting _)).trans (stopHold_cmtKept _)) passCircuits_cmtKept)
    fun w _ v => .forEach (.refl v) fun sl _ u => abandonMark_cmtKept w sl u
theorem goDark_cmtKept (s : State) : CmtKept s (goDark s) := by
  unfold goDark
  simp only
  refine .trans ?_ (.of_onlyTelem (reportOuts_onlyTelem s _))
  exact (gatesDark_cmtKept s).trans (.of_regs rfl)
theorem freezeLoops_cmtKept (s : State) : CmtKept s (freezeLoops s) := .of_regs rfl
theorem safeEnter_cmtKept (cause src : Nat) (dark : Bool) (s : State) : CmtKept s (safeEnter cause src dark s) := by
  cases hs : inSafe s with
  | true => rw [safeEnter_inSafe hs]; exact .refl s
  | false =>
    have hmarks : CmtKept s (safeMarks cause src dark s) := .of_writesOnly (safeMarks_writesOnly cause src dark s) (by decide)
    have hlists := hmarks.trans (emptyLists_cmtKept _)
    rw [safeEnter_eq hs]
    unfold safeActs
    exact .ite (.onlyIf (hlists.trans (freezeLoops_cmtKept _)) goDark_cmtKept) hlists

/-! ### A raise -/

theorem remedy_cmtKept (n d : Nat) (degrade : Bool) (s : State) : CmtKept s (remedy n d degrade s) := by
  have hreset (k : Nat) : CmtKept s (supReset k s) := by
    unfold supReset supPut
    exact .ite (.setF _ (.refl s) (by split <;> decide)) (.refl s)
  unfold remedy
  simp only
  split
  · exact .of_regs rfl
  · exact .of_regs rfl
  · exact .ite (.of_regs rfl) (.refl s)
  · exact .ite (hreset _) (.refl s)
  · exact .refl s
theorem actSeverity_cmtKept {n : Nat} (hn : n < 48) (sev d : Nat) (s : State) : CmtKept s (actSeverity n sev d s) := by
  have hpend : CmtKept s (if sev = 0 then s else setF (pendBit n) 1 s) :=
    .ite (.refl s) (.setF _ (.refl s) (.inl (by rcases pendBit_off hn with h | h <;> rw [h] <;> decide)))
  have hremedy := hpend.trans (remedy_cmtKept n d (sev == 2) _)
  unfold actSeverity
  simp only
  generalize remedy n d (sev == 2) _ = s2 at hremedy ⊢
  have htimer : CmtKept s (if sev = 3 then startTimer n d s2 else s2) :=
    .ite (hremedy.trans (.of_regs (startTimer_regs n d s2))) hremedy
  exact .ite (htimer.trans (safeEnter_cmtKept _ _ _ _)) htimer
/-- A raise of any source, of any severity. -/
theorem raise_cmtKept {n : Nat} (hn : n < 48) (d : Nat) (s : State) : CmtKept s (raise n d s) := by
  have hcount : CmtKept s (inc (FLT_CNT_count n) { s with fltRaised := atPut s.fltRaised n (some s.clk.now) }) :=
    .setF _ (.of_regs rfl) (.inl (by simp only [FLT_CNT_count]; omega))
  have hislog (o : Nat) (h : isLog o) : o < 0x60000 := by
    rcases h with rfl | h
    · decide
    · omega
  unfold raise
  refine .ite (.refl s) ?_
  simp only
  generalize inc (FLT_CNT_count n) _ = s1 at hcount ⊢
  have hlog (e : Bool) : CmtKept s (if loggedSoon n s1 = true then incSat FLT_LOG_STAT_merged s1 else logRaise n (sevOf s n) e d s1) :=
    .ite (hcount.setF _ (by decide)) (hcount.trans (.of_writesOnly (logRaise_writesOnly n _ e d s1) hislog))
  exact .ite (hlog _) ((hlog _).trans (actSeverity_cmtKept hn _ _ _))

/-! ### A checked read -/

/-- A pool loses the handles of a die that failed (R454). -/
def poolLost (d p : Nat) (t : State) : State :=
  poolNote p (ringPut p d [] (cachePut p ((cacheGet t p).filter (fun i => bufDie p i != d)) t))
theorem poolLost_cmtKept (d p : Nat) (s : State) : CmtKept s (poolLost d p s) := by
  have hring : CmtKept s (ringPut p d [] (cachePut p ((cacheGet s p).filter (fun i => bufDie p i != d)) s)) := .of_regs rfl
  exact hring.trans (.of_domKept (poolNote_domKept (fun h => by have := h.2; omega) (fun h => by have := h.2; omega) _))
theorem dieFail_cmtKept (d : Nat) (s : State) : CmtKept s (dieFail d s) := by
  have hmarked : CmtKept s (setF (if d = 0 then BPM_STAT_d0_off else BPM_STAT_d1_off) 1
      (setF (if d = 0 then DRC_STAT_d0_off else DRC_STAT_d1_off) 1 s)) :=
    .setF _ (.setF _ (.refl s) (by split <;> decide)) (by split <;> decide)
  exact .ite (.refl s) (.trans (hmarked.forEach (g := poolLost d) fun p _ v => poolLost_cmtKept d p v) (raise_cmtKept (by decide) _ _))
theorem noteCrc_cmtKept {d : Nat} (hd : d < 2) (a : Nat) (o : Bool) (s : State) : CmtKept s (noteCrc d a o s) := by
  have hcount : CmtKept s (inc (DRC_CNT_CRC_count d) s) := .setF _ (.refl s) (.inr (by simp only [DRC_CNT_CRC_count]; omega))
  unfold noteCrc
  simp only
  generalize inc (DRC_CNT_CRC_count d) s = s0 at hcount ⊢
  exact .ite (.ite (.trans (hcount.trans (.of_regs rfl)) (dieFail_cmtKept d _)) (hcount.trans (.of_regs rfl))) hcount
theorem checkedNote_cmtKept (a : Nat) (s : State) : CmtKept s (checkedNote a s) := by
  have hcount : CmtKept s (inc DRC_CNT_CHECKED_count s) := .setF _ (.refl s) (by decide)
  unfold checkedNote
  simp only
  generalize inc DRC_CNT_CHECKED_count s = s0 at hcount ⊢
  have hbad : CmtKept s (setF DRC_LAST_TILE_addr a s0) := hcount.setF _ (by decide)
  have hnone : CmtKept s (inc DRC_CNT_NOCOPY_count (setF DRC_LAST_TILE_addr a s0)) := hbad.setF _ (by decide)
  generalize setF DRC_LAST_TILE_addr a s0 = s1 at hbad hnone ⊢
  have hraise {n : Nat} (hn : n < 48) {t : State} (h : CmtKept s t) (w : Nat) : CmtKept s (raiseTile n w t) :=
    .ite (h.trans (raise_cmtKept hn w t)) h
  have hcrc {t : State} (h : CmtKept s t) {d : Nat} (hd : d < 2) (o : Bool) : CmtKept s (noteCrc d a o t) :=
    h.trans (noteCrc_cmtKept hd a o t)
  have hrepair (c : Nat) : CmtKept s (repairTile a c s1) := .ite (.setF _ (hbad.trans (.of_regs rfl)) (by decide)) hbad
  split
  · exact hnone
  · exact .ite hbad (hraise (by decide) (hcrc hnone (by decide) _) _)
  · exact .ite hbad (hraise (by decide) (hcrc hnone (by decide) _) _)
  · split
    · split
      · exact hraise (by decide) (hbad.setF _ (by decide)) _
      · exact .ite hcount (hbad.setF _ (by decide))
    · exact hraise (by decide) (hcrc (hrepair 0) (by decide) _) _
    · exact hraise (by decide) (hcrc (hrepair 1) (by decide) _) _
    · exact hraise (by decide) (hcrc (hcrc hnone (by decide) _) (by decide) _) _
theorem validateNote_cmtKept (n : Nat) (s : State) : CmtKept s (validateNote n s) :=
  .trans (checkedNote_cmtKept _ s) (checkedNote_cmtKept _ _)

end Sys2Proof.Machine
end

section
/-! The map commands (R106, R107): a capture that waits for its copy, and a validation. -/
namespace Sys2Proof.Machine
open Sys2Proof.Config

/-! ### What a validation reads -/

/-- A validation reads the tiles, the owners, the population mode and the variant. -/
theorem validateMap_congr {s t : State} (hdom : domOn t 25 = domOn s 25) (hdie : ∀ d, dieOff t d = dieOff s d) (hvar : variantH t = variantH s)
    (hdram : t.dram = s.dram) (hring : t.bpmRing = s.bpmRing) (hin : t.ownIn = s.ownIn) (hout : t.ownOut = s.ownOut)
    (hpop : t.popMode = s.popMode) (n : Nat) : validateMap t n = validateMap s n := by
  have hread (a k : Nat) : dramRead t a k = dramRead s a k := dramRead_congr hdom hdie hdram a k
  have htile (a : Nat) : checkTile t a = checkTile s a := checkTile_congr hdom hdie hdram hring a
  have hmap (c0 c1 : Nat) : storedMap t n c0 c1 = storedMap s n c0 c1 := by unfold storedMap tByte tRead; simp only [hread]
  have hcontent (c0 c1 : Nat) : mapContent t n c0 c1 = mapContent s n c0 c1 := by
    unfold mapContent tRead tByte ownsIn ownsOut inOwners outOwners cellFallow
    simp only [hmap, hread, hin, hout, hpop, hvar]
  unfold validateMap tRead
  simp only [htile, hread, hmap, hcontent]
theorem validateMap_setF {x : Fld} (hx : CmtOwn x.off) (v n : Nat) (s : State) : validateMap (setF x v s) n = validateMap s n := by
  have hf (y : Fld) (hy : ¬ CmtOwn y.off) : f (setF x v s) y = f s y := f_setF_off s x y v fun e => hy (e ▸ hx)
  refine validateMap_congr (s := s) (t := setF x v s) ?_ (fun d => ?_) ?_ rfl rfl rfl rfl rfl n
  · unfold domOn; rw [hf _ (by unfold CmtOwn; decide)]
  · unfold dieOff fb; rw [hf _ (by unfold CmtOwn; split <;> decide)]
  · unfold variantH fb; rw [hf _ (by unfold CmtOwn; decide)]

/-- The code of a validation whose tile 0 has no copy, or conflicting copies (Table 3-12). -/
theorem validateMap_noCopy {s : State} {n : Nat} (h : checkTile s (mapAddr n 0) = .noCopy) : (validateMap s n).code = 1 := by
  unfold validateMap; rw [h]
theorem validateMap_genConflict {s : State} {n : Nat} (h : checkTile s (mapAddr n 0) = .genConflict)
    (h1 : checkTile s (mapAddr n 1) ≠ .noCopy) : (validateMap s n).code = 2 := by
  unfold validateMap; rw [h]
  cases hc : checkTile s (mapAddr n 1) with
  | ok _ => rfl
  | genConflict => rfl
  | noCopy => exact absurd hc h1

/-! ### The command register -/

/-- A write of CMT_MAP_CMD stores the map number and the operation. -/
def mapCmdNoted (v : Nat) (s : State) : State := setF CMT_MAP_CMD_op (v / 4096) (setF CMT_MAP_CMD_map v s)
theorem mapCmdNoted_fields (v : Nat) (s : State) :
    f (mapCmdNoted v s) CMT_MAP_CMD_op = v / 4096 % 16 ∧ f (mapCmdNoted v s) CMT_MAP_CMD_map = v % 4096 := by
  unfold mapCmdNoted
  refine ⟨f_setF_same _ _ _ (by decide), ?_⟩
  rw [f_setF_ne _ _ _ _ (by decide) (by decide)]
  exact f_setF_same _ _ _ (by decide)
theorem validateMap_mapCmdNoted (v n : Nat) (s : State) : validateMap (mapCmdNoted v s) n = validateMap s n :=
  (validateMap_setF (by unfold CmtOwn; decide) _ n _).trans (validateMap_setF (by unfold CmtOwn; decide) _ n s)

section
variable {s : State} {n : Nat} (hn : n < 4096) (hbusy : f s CMT_MAP_STAT_busy = 0)
include hn hbusy

/-- A capture is marked busy and waits (R107). -/
theorem mapCmd_capture : mapCmd (2 ^ 31 + 4096 + n % 4096) s = setF CMT_MAP_STAT_busy 1 (setF CMT_MAP_STAT_map (2 ^ 31 + 4096 + n)
    { mapCmdNoted (2 ^ 31 + 4096 + n) s with captureWait := some n }) := by
  have hfree : fb s CMT_MAP_STAT_busy = false := by unfold fb; rw [hbusy]; rfl
  have hstart : (2 ^ 31 + 4096 + n) / 2 ^ 31 % 2 = 1 := by omega
  have hop : (2 ^ 31 + 4096 + n) / 4096 % 16 = 1 := by omega
  have hmap : (2 ^ 31 + 4096 + n) % 4096 = n := by omega
  rw [Nat.mod_eq_of_lt hn]
  generalize 2 ^ 31 + 4096 + n = v at hstart hop hmap ⊢
  unfold mapCmd
  rw [hfree, hstart, hop, hmap, if_neg (by decide)]
  rfl
/-- A validation is carried out at once (R106). -/
theorem mapCmd_validate : mapCmd (2 ^ 31 + 8192 + n % 4096) s = mapValidate n (mapCmdNoted (2 ^ 31 + 8192 + n) s) := by
  have hfree : fb s CMT_MAP_STAT_busy = false := by unfold fb; rw [hbusy]; rfl
  have hstart : (2 ^ 31 + 8192 + n) / 2 ^ 31 % 2 = 1 := by omega
  have hop : (2 ^ 31 + 8192 + n) / 4096 % 16 = 2 := by omega
  have hmap : (2 ^ 31 + 8192 + n) % 4096 = n := by omega
  rw [Nat.mod_eq_of_lt hn]
  generalize 2 ^ 31 + 8192 + n = v at hstart hop hmap ⊢
  unfold mapCmd
  rw [hfree, hstart, hop, hmap, if_neg (by decide)]
  rfl
end

/-! ### The result -/

/-- A result noted, with the generation read (Table 3-21). -/
def mapNoted (n g : Nat) (c : MapCheck) (s : State) : State := setF CMT_MAP_GEN_generation g (mapResult n c s)
theorem mapNoted_fields (n g : Nat) (c : MapCheck) (s : State) :
    f (mapNoted n g c s) CMT_MAP_STAT_busy = 0 ∧ f (mapNoted n g c s) CMT_MAP_STAT_map = n % 4096 ∧
      f (mapNoted n g c s) CMT_MAP_STAT_result = c.code % 16 ∧ f (mapNoted n g c s) CMT_MAP_GEN_generation = g % 2 ^ 32 := by
  unfold mapNoted mapResult
  refine ⟨?_, ?_, ?_, f_setF_same _ _ _ (by decide)⟩ <;> rw [f_setF_off _ _ _ _ (by decide)]
  · exact f_setF_same _ _ _ (by decide)
  · rw [f_setF_ne _ _ _ _ (by decide) (by decide)]; exact f_setF_same _ _ _ (by decide)
  · rw [f_setF_ne _ _ _ _ (by decide) (by decide), f_setF_ne _ _ _ _ (by decide) (by decide)]; exact f_setF_same _ _ _ (by decide)
theorem mapNoted_cmd (n g : Nat) (c : MapCheck) (s : State) : rd (mapNoted n g c s) 0x60030 = rd s 0x60030 := by
  unfold mapNoted mapResult
  rw [rd_setF_other _ CMT_MAP_GEN_generation _ (by decide), rd_setF_other _ CMT_MAP_STAT_busy _ (by decide),
    rd_setF_other _ CMT_MAP_STAT_map _ (by decide), rd_setF_other _ CMT_MAP_STAT_result _ (by decide)]

/-! ### The commands -/

section
variable {s : State} (dt : Nat) {n : Nat} (hpor : s.porOn = false) (h20 : domOn s 20 = true) (hn : n < 4096) (hm : masterLive s 0 = true)
  (hbusy : f s CMT_MAP_STAT_busy = 0)
include hpor h20 hn hm hbusy

theorem mapCapture_waits : Completes (.mapCapture dt 0 n) s fun t =>
    f t CMT_MAP_STAT_busy = 1 ∧ f t CMT_MAP_STAT_map = n ∧ f t CMT_MAP_CMD_op = 1 ∧ f t CMT_MAP_CMD_map = n ∧
      t.captureWait = some n ∧ RegsKept [CMT_MAP_CMD_op.off, CMT_MAP_STAT_busy.off] s t ∧
      t = { elapse s dt with regs := t.regs, hwSet := t.hwSet, msix := t.msix, msixDue := t.msixDue, captureWait := t.captureWait } := by
  refine completes_run rfl hpor ?_
  rw [regCmd_gov (o := CMT_MAP_CMD_op.off) dt hm _ h20, mapCmd_capture (s := elapse s dt) hn hbusy]
  obtain ⟨hop, hmap⟩ := mapCmdNoted_fields (2 ^ 31 + 4096 + n) (elapse s dt)
  have hnum : (2 ^ 31 + 4096 + n) / 4096 % 16 = 1 ∧ (2 ^ 31 + 4096 + n) % 4096 = n := by omega
  rw [hnum.1] at hop
  rw [hnum.2] at hmap
  have hregs : RegsKept [CMT_MAP_CMD_op.off, CMT_MAP_STAT_busy.off] s (mapCmdNoted (2 ^ 31 + 4096 + n) (elapse s dt)) :=
    regsKept_setF _ (regsKept_setF _ (regsKept_elapse _ s dt) (by decide)) (by decide)
  have hsame : OnlyMsix (elapse s dt) (mapCmdNoted (2 ^ 31 + 4096 + n) (elapse s dt)) :=
    onlyMsix_setF _ _ (onlyMsix_setF _ _ (onlyMsix_refl _))
  generalize mapCmdNoted (2 ^ 31 + 4096 + n) (elapse s dt) = u at hop hmap hregs hsame ⊢
  refine ⟨?_, ?_, ?_, ?_, settle_captureWait _ _, regsKept_settle s (regsKept_setF _ (regsKept_setF _ (regsKept_congr hregs rfl) (by decide)) (by decide)), ?_⟩
  · rw [f_settle _ _ (by decide)]; exact f_setF_same _ _ _ (by decide)
  · rw [f_settle _ _ (by decide), f_setF_ne _ _ _ _ (by decide) (by decide)]
    exact (f_setF_same _ _ _ (by decide)).trans hnum.2
  · rw [f_settle _ _ (by decide), f_setF_off _ _ _ _ (by decide), f_setF_off _ _ _ _ (by decide)]; exact hop
  · rw [f_settle _ _ (by decide), f_setF_off _ _ _ _ (by decide), f_setF_off _ _ _ _ (by decide)]; exact hmap
  · obtain ⟨r, m, d, x, rfl⟩ := hsame
    obtain ⟨r', m', d', x', e⟩ := settle_eq s (setF CMT_MAP_STAT_busy 1 (setF CMT_MAP_STAT_map (2 ^ 31 + 4096 + n)
      { ({ elapse s dt with regs := r, msix := m, msixDue := d, hwSet := x } : State) with captureWait := some n }))
    rw [e]; rfl

theorem mapValidate_reports : Completes (.mapValidate dt 0 n) s fun t =>
    f t CMT_MAP_STAT_busy = 0 ∧ f t CMT_MAP_STAT_map = n ∧ f t CMT_MAP_CMD_op = 2 ∧ f t CMT_MAP_CMD_map = n ∧
      f t CMT_MAP_STAT_result = (validateMap s n).code % 16 ∧ f t CMT_MAP_GEN_generation = (validateMap s n).gen % 2 ^ 32 ∧
      (checkTile s (mapAddr n 0) = .noCopy → f t CMT_MAP_STAT_result = 1) ∧
      (checkTile s (mapAddr n 0) = .genConflict → checkTile s (mapAddr n 1) ≠ .noCopy → f t CMT_MAP_STAT_result = 2) := by
  refine completes_run rfl hpor ?_
  rw [regCmd_gov (o := CMT_MAP_CMD_op.off) dt hm _ h20, mapCmd_validate (s := elapse s dt) hn hbusy]
  obtain ⟨hop, hmap⟩ := mapCmdNoted_fields (2 ^ 31 + 8192 + n) (elapse s dt)
  have hnum : (2 ^ 31 + 8192 + n) / 4096 % 16 = 2 ∧ (2 ^ 31 + 8192 + n) % 4096 = n := by omega
  rw [hnum.1] at hop
  rw [hnum.2] at hmap
  have hcheck : validateMap (mapCmdNoted (2 ^ 31 + 8192 + n) (elapse s dt)) n = validateMap s n := validateMap_mapCmdNoted _ n _
  generalize mapCmdNoted (2 ^ 31 + 8192 + n) (elapse s dt) = u at hop hmap hcheck ⊢
  have hnoted : mapValidate n u = mapNoted n (validateMap s n).gen (validateMap s n) (validateNote n u) := by rw [← hcheck]; rfl
  rw [hnoted]
  obtain ⟨h1, h2, h3, h4⟩ := mapNoted_fields n (validateMap s n).gen (validateMap s n) (validateNote n u)
  have hcmd (x : Fld) (hx : x.off = 0x60030) : f (mapNoted n (validateMap s n).gen (validateMap s n) (validateNote n u)) x = f u x :=
    f_rd (by rw [hx, mapNoted_cmd]; exact validateNote_cmtKept n u _ (by unfold CmtOwn; decide))
  rw [Nat.mod_eq_of_lt hn] at h2
  generalize mapNoted n _ _ _ = t at h1 h2 h3 h4 hcmd ⊢
  have hresult : f (settle s t) CMT_MAP_STAT_result = (validateMap s n).code % 16 := (f_settle _ _ (by decide)).trans h3
  refine ⟨(f_settle _ _ (by decide)).trans h1, (f_settle _ _ (by decide)).trans h2,
    (f_settle _ _ (by decide)).trans ((hcmd _ rfl).trans hop), (f_settle _ _ (by decide)).trans ((hcmd _ rfl).trans hmap), hresult,
    (f_settle _ _ (by decide)).trans h4, fun h => ?_, fun h hn1 => ?_⟩
  · rw [hresult, validateMap_noCopy h]
  · rw [hresult, validateMap_genConflict h hn1]
end

end Sys2Proof.Machine
end

section
/-! The copy of a map into the DRAM (R107, R108): what the checked reads and the writes of its tiles leave, and the bytes they store. -/
namespace Sys2Proof.Machine
open Sys2Proof.Config

/-! ### Bytes stored in a row -/

theorem memGet_memBytes_out (l : List Nat) : ∀ (m : List Host.Cell) (a b : Nat), b < a ∨ a + l.length ≤ b →
    memGet (memBytes m a l) b = memGet m b := by
  induction l with
  | nil => intro m a b _; rfl
  | cons x l ih =>
    intro m a b h
    rw [List.length_cons] at h
    unfold memBytes
    rw [ih _ _ _ (by omega)]
    exact memGet_memSet_other m (by omega) _
theorem memGet_memBytes_in (l : List Nat) : ∀ (m : List Host.Cell) (a i : Nat) (h : i < l.length),
    memGet (memBytes m a l) (a + i) = BitVec.ofNat 8 l[i] := by
  induction l with
  | nil => intro m a i h; exact absurd h (Nat.not_lt_zero i)
  | cons x l ih =>
    intro m a i h
    unfold memBytes
    cases i with
    | zero =>
      rw [memGet_memBytes_out l _ _ _ (by omega)]
      exact memGet_memSet_same m a _
    | succ i =>
      rw [show a + (i + 1) = a + 1 + i by omega]
      exact ih _ _ i (Nat.lt_of_succ_lt_succ h)
theorem memList_congr {m k : List Host.Cell} {a b n : Nat} (h : ∀ i < n, memGet m (a + i) = memGet k (b + i)) :
    memList m a n = memList k b n := by
  unfold memList
  exact List.map_congr_left fun i hi => by rw [h i (List.mem_range.1 hi)]
theorem memRead_eq_of_bytes {m k : List Host.Cell} (n : Nat) : ∀ {a b : Nat}, (∀ i < n, memGet m (a + i) = memGet k (b + i)) →
    memRead m a n = memRead k b n := by
  induction n with
  | zero => intro a b _; rfl
  | succ n ih =>
    intro a b h
    unfold memRead
    have hnext : ∀ i < n, memGet m (a + 1 + i) = memGet k (b + 1 + i) := fun i hi => by
      have := h (i + 1) (Nat.succ_lt_succ hi)
      rwa [← Nat.add_assoc, ← Nat.add_assoc, Nat.add_right_comm a, Nat.add_right_comm b] at this
    have hfirst : memGet m a = memGet k b := h 0 (Nat.succ_pos n)
    rw [ih hnext, hfirst]
/-- The bytes stored are the list, each cut to a byte. -/
theorem memList_memBytes (m : List Host.Cell) (a : Nat) (l : List Nat) : memList (memBytes m a l) a l.length = l.map (· % 256) := by
  unfold memList
  refine List.ext_getElem (by simp) fun i hi hj => ?_
  rw [List.length_map] at hj
  rw [List.getElem_map, List.getElem_range, List.getElem_map, memGet_memBytes_in l m a i hj, BitVec.toNat_ofNat]

/-! ### The frame of a checked read and of a tile's write -/

/-- What both leave: the paths of the accesses, the switch, the register memories, a die that is off, and the DRAM bytes of `K`. -/
structure NoteKept (K : Nat → Prop) (s t : State) : Prop where
  path : PathKept s t
  switch : t.toCommitPart = s.toCommitPart
  spm : t.spm = s.spm
  sram : t.sram = s.sram
  dies : ∀ d, dieOff s d = true → dieOff t d = true
  bytes : ∀ b, K b → memGet t.dram b = memGet s.dram b

theorem dieOff_congr {s t : State} (h : rd t 0xB0004 = rd s 0xB0004) (d : Nat) : dieOff t d = dieOff s d := by
  have hoff (d : Nat) : (if d = 0 then DRC_STAT_d0_off else DRC_STAT_d1_off).off = 0xB0004 := by split <;> rfl
  have hf : f t (if d = 0 then DRC_STAT_d0_off else DRC_STAT_d1_off) = f s (if d = 0 then DRC_STAT_d0_off else DRC_STAT_d1_off) :=
    f_rd (by rw [hoff]; exact h)
  unfold dieOff fb
  rw [hf]
/-- A bit set to 1 marks no die online. -/
theorem dieOff_setF_one {s : State} {x : Fld} (hx : x = DRC_STAT_d0_off ∨ x = DRC_STAT_d1_off) {d : Nat} (h : dieOff s d = true) :
    dieOff (setF x 1 s) d = true := by
  unfold dieOff fb at h ⊢
  generalize hy : (if d = 0 then DRC_STAT_d0_off else DRC_STAT_d1_off) = y at h ⊢
  have hy' : y = DRC_STAT_d0_off ∨ y = DRC_STAT_d1_off := by
    rw [← hy]; split
    · exact .inl rfl
    · exact .inr rfl
  by_cases e : y = x
  · subst e
    rcases hy' with rfl | rfl <;> rw [f_setF_same _ _ _ (by decide)] <;> rfl
  · have hdisj : f (setF x 1 s) y = f s y := by
      rcases hx with rfl | rfl <;> rcases hy' with rfl | rfl
      · exact absurd rfl e
      · exact f_setF_ne s _ _ 1 (by decide) (by decide)
      · exact f_setF_ne s _ _ 1 (by decide) (by decide)
      · exact absurd rfl e
    rw [hdisj]; exact h

namespace NoteKept
variable {K : Nat → Prop} {s t u : State}
protected theorem refl (s : State) : NoteKept K s s := ⟨.refl s, rfl, rfl, rfl, fun _ h => h, fun _ _ => rfl⟩
protected theorem trans (h : NoteKept K s t) (k : NoteKept K t u) : NoteKept K s u :=
  ⟨h.path.trans k.path, k.switch.trans h.switch, k.spm.trans h.spm, k.sram.trans h.sram, fun d hd => k.dies d (h.dies d hd),
    fun b hb => (k.bytes b hb).trans (h.bytes b hb)⟩
/-- What changes only the DRAM of these. -/
theorem of_regs (hr : t.regs = s.regs) (hs : t.toCommitPart = s.toCommitPart) (hspm : t.spm = s.spm) (hsram : t.sram = s.sram)
    (hd : ∀ b, K b → memGet t.dram b = memGet s.dram b) : NoteKept K s t :=
  ⟨.of_regs hr, hs, hspm, hsram, fun d h => (dieOff_congr (rd_congr hr _) d).trans h, hd⟩
theorem mild (h : NoteKept K s t) (k : Mild s) : Mild t := h.path.mild k
theorem domOn (h : NoteKept K s t) (d : Nat) : Machine.domOn t d = Machine.domOn s d := h.path.domOn d
theorem online (h : NoteKept K s t) {d : Nat} (k : dieOff t d = false) : dieOff s d = false := by
  cases hd : dieOff s d with
  | false => rfl
  | true => rw [h.dies d hd] at k; cases k
theorem ite {c : Prop} [Decidable c] (h : NoteKept K s t) (k : NoteKept K s u) : NoteKept K s (if c then t else u) := by
  split
  · exact h
  · exact k
/-- A register of the controllers of the buses, the buffers and the DRAM other than the state of the dies. -/
theorem setF {x : Fld} (v : Nat) (h : NoteKept K s t) (hx : 0x90040 ≤ x.off ∧ x.off < 0xC0000 ∧ x.off ≠ 0xB0004) :
    NoteKept K s (setF x v t) := by
  have hother {p : Nat} (hp : p ≠ x.off) : rd (Machine.setF x v t) p = rd t p := rd_setF_other t x v hp
  refine h.trans ⟨fun o ho => hother fun e => ?_, rfl, rfl, rfl, fun d hd => (dieOff_congr (hother fun e => ?_) d).trans hd, fun _ _ => rfl⟩
  · simp only [PathOwn, SrcCfg, BUS_REMAP_remap, GOV_DOM_STAT_on, CAL_STAT_active] at ho
    omega
  · omega
theorem forEach {α : Type} {g : α → State → State} {l : List α} (h : NoteKept K s t) (hg : ∀ a ∈ l, ∀ v, NoteKept K v (g a v)) :
    NoteKept K s (forEach l g t) :=
  forEach_keeps (NoteKept K s) g l (fun a ha v hv => hv.trans (hg a ha v)) t h
end NoteKept

/-! ### A checked read -/

section
variable {K : Nat → Prop} {s : State} (hm : Mild s)
include hm

theorem raise_noteKept {n : Nat} (hn : n ∈ [16, 17, 25]) (d : Nat) : NoteKept K s (raise n d s) := by
  have hr : hasRemedy n = false ∧ n < 48 := by
    simp only [List.mem_cons, List.not_mem_nil, or_false] at hn
    rcases hn with rfl | rfl | rfl <;> decide
  obtain ⟨⟨r, h, p, e⟩, hreg⟩ := raise_onlyFlt (d := d) hr.2 (hm n hn) hr.1
  refine ⟨raise_pathKept hn d hm, ?_, ?_, ?_, fun k hk => (dieOff_congr (hreg _ (by decide)) k).trans hk, fun b _ => ?_⟩ <;> rw [e]
theorem raiseTile_noteKept {n : Nat} (hn : n ∈ [16, 17, 25]) (w : Nat) : NoteKept K s (raiseTile n w s) :=
  .ite (raise_noteKept hm hn w) (.refl s)
theorem dieFail_noteKept (d : Nat) : NoteKept K s (dieFail d s) := by
  have hmark : NoteKept K s (setF (if d = 0 then DRC_STAT_d0_off else DRC_STAT_d1_off) 1 s) := by
    have hx : (if d = 0 then DRC_STAT_d0_off else DRC_STAT_d1_off) = DRC_STAT_d0_off ∨
        (if d = 0 then DRC_STAT_d0_off else DRC_STAT_d1_off) = DRC_STAT_d1_off := by
      split
      · exact .inl rfl
      · exact .inr rfl
    generalize (if d = 0 then DRC_STAT_d0_off else DRC_STAT_d1_off) = x at hx ⊢
    exact ⟨(PathKept.refl s).setF 1 (by rcases hx with rfl | rfl <;> decide), rfl, rfl, rfl, fun _ hd => dieOff_setF_one hx hd, fun _ _ => rfl⟩
  have hpool {p : Nat} (hp : p < 4) (t : State) : NoteKept K t (poolNote p t) := by
    have hoff : 0x90040 ≤ 0xA0100 + 16 * p ∧ 0xA0100 + 16 * p < 0xC0000 ∧ 0xA0100 + 16 * p ≠ 0xB0004 := by omega
    have hfree : NoteKept K t (setF (BPM_POOL_FREE_low_water p) _ (setF (BPM_POOL_FREE_free p) (poolFree t p) t)) :=
      .setF (min (f t (BPM_POOL_FREE_low_water p)) (poolFree t p)) (.setF _ (.refl t) hoff) hoff
    exact .ite (hfree.setF _ (by decide)) hfree
  have hlost : NoteKept K s (forEach [0, 1, 2, 3] (poolLost d) (setF (if d = 0 then BPM_STAT_d0_off else BPM_STAT_d1_off) 1
      (setF (if d = 0 then DRC_STAT_d0_off else DRC_STAT_d1_off) 1 s))) := by
    refine (hmark.setF 1 (by split <;> decide)).forEach fun p hp t => ?_
    exact .trans (.of_regs (t := ringPut p d [] (cachePut p _ t)) rfl rfl rfl rfl fun _ _ => rfl)
      (hpool (by simp only [List.mem_cons, List.not_mem_nil, or_false] at hp; omega) _)
  exact .ite (.refl s) (hlost.trans (raise_noteKept (hlost.mild hm) (by decide) _))
theorem noteCrc_noteKept {d : Nat} (hd : d < 2) (a : Nat) (o : Bool) : NoteKept K s (noteCrc d a o s) := by
  have hcount : NoteKept K s (inc (DRC_CNT_CRC_count d) s) := .setF _ (.refl s) (by simp only [DRC_CNT_CRC_count]; omega)
  unfold noteCrc
  simp only
  generalize inc (DRC_CNT_CRC_count d) s = s0 at hcount ⊢
  have hlisted (k : Nat) (l : AMap (List Nat)) : NoteKept K s { s0 with dieSec := k, dieCrc := l } :=
    hcount.trans (.of_regs rfl rfl rfl rfl fun _ _ => rfl)
  refine .ite (.ite ?_ (hlisted _ _)) hcount
  exact (hlisted _ _).trans (dieFail_noteKept ((hlisted _ _).mild hm) d)
end

/-- The bytes outside both copies of a tile. -/
def OutTile (a b : Nat) : Prop := (b < a ∨ a + 1024 ≤ b) ∧ (b < copyAddr a 1 ∨ copyAddr a 1 + 1024 ≤ b)

theorem memGet_copy_out {a b c : Nat} (h : OutTile a b) (hc : c < 2) (m : List Host.Cell) {l : List Nat} (hl : l.length = 1024) :
    memGet (memBytes m (copyAddr a c) l) b = memGet m b := by
  obtain ⟨h0, h1⟩ := h
  refine memGet_memBytes_out l m _ b ?_
  rw [hl]
  interval_cases c
  · exact h0
  · exact h1
theorem repairTile_noteKept {K : Nat → Prop} {a c : Nat} (hK : ∀ b, K b → OutTile a b) (hc : c < 2) (s : State) :
    NoteKept K s (repairTile a c s) := by
  have hlen : (memList s.dram (copyAddr a c) 1024).length = 1024 := length_memList _ _ _
  unfold repairTile
  generalize memList s.dram (copyAddr a c) 1024 = l at hlen ⊢
  have hput : NoteKept K s { s with dram := memBytes s.dram (copyAddr a (1 - c)) l } :=
    .of_regs rfl rfl rfl rfl fun b hb => memGet_copy_out (hK b hb) (by omega) _ hlen
  exact .ite (hput.setF _ (by decide)) (.refl s)
/-- A checked read writes the tile's own two copies, and only where one passes and the other does not. -/
theorem checkedNote_noteKept {K : Nat → Prop} {a : Nat} {s : State} (hm : Mild s)
    (hK : tilePasses s a ≠ tilePasses s (copyAddr a 1) → ∀ b, K b → OutTile a b) : NoteKept K s (checkedNote a s) := by
  have hcount : NoteKept K s (inc DRC_CNT_CHECKED_count s) := .setF _ (.refl s) (by decide)
  unfold checkedNote
  simp only
  generalize inc DRC_CNT_CHECKED_count s = s0 at hcount ⊢
  have hbad : NoteKept K s (setF DRC_LAST_TILE_addr a s0) := hcount.setF _ (by decide)
  have hnone : NoteKept K s (inc DRC_CNT_NOCOPY_count (setF DRC_LAST_TILE_addr a s0)) := hbad.setF _ (by decide)
  generalize setF DRC_LAST_TILE_addr a s0 = s1 at hbad hnone ⊢
  generalize inc DRC_CNT_NOCOPY_count s1 = s2 at hnone ⊢
  have hcrc {t : State} (h : NoteKept K s t) {d : Nat} (hd : d < 2) (o : Bool) : NoteKept K s (noteCrc d a o t) :=
    h.trans (noteCrc_noteKept (h.mild hm) hd a o)
  have hraise {t : State} (h : NoteKept K s t) {n : Nat} (hn : n ∈ [16, 17, 25]) (w : Nat) : NoteKept K s (raiseTile n w t) :=
    h.trans (raiseTile_noteKept (h.mild hm) hn w)
  split
  · exact hnone
  · exact .ite hbad (hraise (hcrc hnone (by decide) _) (by decide) _)
  · exact .ite hbad (hraise (hcrc hnone (by decide) _) (by decide) _)
  · split
    · split
      · exact hraise (hbad.setF _ (by decide)) (by decide) _
      · exact .ite hcount (hbad.setF _ (by decide))
    next h0 h1 => exact hraise (hcrc (hbad.trans (repairTile_noteKept (hK (by rw [h0, h1]; decide)) (by decide) _)) (by decide) _) (by decide) _
    next h0 h1 => exact hraise (hcrc (hbad.trans (repairTile_noteKept (hK (by rw [h0, h1]; decide)) (by decide) _)) (by decide) _) (by decide) _
    · exact hraise (hcrc (hcrc hnone (by decide) _) (by decide) _) (by decide) _

end Sys2Proof.Machine
end

section
/-! The tiles of a captured map (R106, R107): both copies of both hold the present map, and nothing else of the memories changes. -/
namespace Sys2Proof.Machine
open Sys2Proof.Config

/-! ### The write of a tile -/

theorem length_leBytes (n v : Nat) : (leBytes n v).length = n := by unfold leBytes; rw [List.length_map, List.length_range]
theorem length_tileBytes {l : List Nat} (h : l.length ≤ 1020) : (tileBytes l).length = 1024 := by
  unfold tileBytes
  rw [List.length_append, List.length_append, List.length_replicate, List.length_map, List.length_range]
  omega
theorem length_captureTile0 (s : State) (n g : Nat) : (captureTile0 s n g).length = 1024 :=
  length_tileBytes (by simp only [List.length_append, List.length_map, List.length_range, length_leBytes]; decide)
theorem length_captureTile1 (s : State) (n g : Nat) : (captureTile1 s n g).length = 1024 :=
  length_tileBytes (by simp only [List.length_append, List.length_map, List.length_range, length_leBytes]; decide)

/-- Both copies of the tile at `a` hold the bytes of the list. -/
def HoldsTile (s : State) (a : Nat) (l : List Nat) : Prop := ∀ c < 2, memList s.dram (copyAddr a c) 1024 = l.map (· % 256)

section
variable {a : Nat} {l : List Nat} (hl : l.length = 1024)
include hl

theorem writeTile_noteKept {K : Nat → Prop} (hK : ∀ b, K b → OutTile a b) (s : State) : NoteKept K s (writeTile a l s) := by
  have herr {t : State} (h : NoteKept K s t) : NoteKept K s (hwErr t) := h.setF _ (by decide)
  have hput {t : State} (h : NoteKept K s t) {c : Nat} (hc : c < 2) : NoteKept K s { t with dram := memBytes t.dram (copyAddr a c) l } :=
    h.trans (.of_regs rfl rfl rfl rfl fun b hb => memGet_copy_out (hK b hb) hc _ hl)
  have hfirst : NoteKept K s (if dieOff s 0 then hwErr s else { s with dram := memBytes s.dram (copyAddr a 0) l }) :=
    .ite (herr (.refl s)) (hput (.refl s) (by decide))
  exact .ite (.ite (herr hfirst) (hput hfirst (by decide))) (.setF _ (.refl s) (by decide))
/-- With the DRAM on and both dies online both copies are written. -/
theorem writeTile_holds {s : State} (hdom : domOn s 25 = true) (hon : ∀ d < 2, dieOff s d = false) : HoldsTile (writeTile a l s) a l := by
  have hfirst : (if dieOff s 0 then hwErr s else { s with dram := memBytes s.dram a l }) = { s with dram := memBytes s.dram a l } :=
    if_neg (by rw [hon 0 (by decide)]; exact Bool.false_ne_true)
  have hsecond : ¬ dieOff { s with dram := memBytes s.dram a l } 1 = true := by
    rw [show dieOff { s with dram := memBytes s.dram a l } 1 = dieOff s 1 from rfl, hon 1 (by decide)]
    exact Bool.false_ne_true
  have hdram : (writeTile a l s).dram = memBytes (memBytes s.dram (copyAddr a 0) l) (copyAddr a 1) l := by
    unfold writeTile
    simp only [hdom, hfirst, if_true]
    rw [if_neg hsecond]; rfl
  intro c hc
  rw [hdram, ← hl]
  interval_cases c
  · refine .trans (memList_congr fun i hi => memGet_memBytes_out l _ _ _ (.inl ?_)) (memList_memBytes _ _ l)
    unfold copyAddr; omega
  · exact memList_memBytes _ _ l
end

theorem HoldsTile.mono {K : Nat → Prop} {s t : State} {a : Nat} {l : List Nat} (h : HoldsTile s a l) (k : NoteKept K s t)
    (hK : ∀ c < 2, ∀ i < 1024, K (copyAddr a c + i)) : HoldsTile t a l := fun c hc =>
  (memList_congr fun i hi => k.bytes _ (hK c hc i hi)).trans (h c hc)

/-! ### A checked read of equal copies -/

section
variable {s : State} {a : Nat} (ha : isCopy0 a = true) (hdom : domOn s 25 = true)
include ha hdom

/-- A read of a copy on a die that is online reads its bytes. -/
theorem tilePasses_online {c : Nat} (hc : c < 2) (hon : dieOff s c = false) :
    tilePasses s (copyAddr a c) = (crc32c (memList s.dram (copyAddr a c) 1020) == memRead s.dram (copyAddr a c + 1020) 4) := by
  obtain ⟨hplace, hfree⟩ := copy_place ha hc
  have hdie : (if copyAddr a c < 0xC0000000 then 0 else 1) = c := hplace
  have htouch : ringTouch (copyAddr a c) 1020 = false := by
    unfold ringTouch
    rw [List.any_eq_false]
    intro j hj
    rw [hfree j (by have := List.mem_range.1 hj; omega)]; exact Bool.false_ne_true
  have hend : (if copyAddr a c + 1020 < 0xC0000000 then 0 else 1) = c := by
    have htile : a % 1024 = 0 := by
      unfold isCopy0 at ha
      simp only [Bool.and_eq_true, decide_eq_true_eq] at ha
      exact ha.1.2
    have hsame : copyAddr a c + 1020 < 0xC0000000 ↔ copyAddr a c < 0xC0000000 := by unfold copyAddr; omega
    exact (if_congr hsame rfl rfl).trans hdie
  unfold tilePasses dramList dramRead
  rw [hdie, hend, hdom, hon, htouch]; rfl
/-- Where both copies hold the same bytes, nothing is repaired. -/
theorem checkedNote_keepsAll {l : List Nat} (hm : Mild s) (hon : ∀ d < 2, dieOff s d = false) (h : HoldsTile s a l) (K : Nat → Prop) :
    NoteKept K s (checkedNote a s) := by
  have hsame : ∀ i < 1024, memGet s.dram (copyAddr a 0 + i) = memGet s.dram (copyAddr a 1 + i) := by
    intro i hi
    have hlists := (h 0 (by decide)).trans (h 1 (by decide)).symm
    unfold memList at hlists
    exact BitVec.eq_of_toNat_eq (List.map_inj_left.1 hlists i (List.mem_range.2 hi))
  have hpass : tilePasses s (copyAddr a 0) = tilePasses s (copyAddr a 1) := by
    rw [tilePasses_online ha hdom (by decide) (hon 0 (by decide)), tilePasses_online ha hdom (by decide) (hon 1 (by decide)),
      memList_congr fun i hi => hsame i (by omega), memRead_eq_of_bytes 4 fun i hi => ?_]
    rw [Nat.add_assoc, Nat.add_assoc]
    exact hsame (1020 + i) (by omega)
  exact checkedNote_noteKept hm fun hne => absurd hpass hne
end

/-! ### The copy of a map -/

/-- The bytes outside the two tiles of map `n` and their copies. -/
def OutMap (n b : Nat) : Prop :=
  (b < mapAddr n 0 ∨ mapAddr n 0 + 2048 ≤ b) ∧ (b < mapAddr n 0 + 0x40000000 ∨ mapAddr n 0 + 0x40000000 + 2048 ≤ b)

theorem OutMap.outTile {n b k : Nat} (h : OutMap n b) (hk : k < 2) : OutTile (mapAddr n k) b := by
  unfold OutMap mapAddr at h
  unfold OutTile copyAddr mapAddr
  omega
/-- Neither tile of a map overlaps the other. -/
theorem outTile_of_other {n k j c i : Nat} (hk : k < 2) (hj : j < 2) (hkj : k ≠ j) (hc : c < 2) (hi : i < 1024) :
    OutTile (mapAddr n k) (copyAddr (mapAddr n j) c + i) := by
  unfold OutTile copyAddr mapAddr
  interval_cases c <;> omega
theorem isCopy0_mapAddr {n k : Nat} (hn : n < 4096) (hk : k < 2) : isCopy0 (mapAddr n k) = true := by
  unfold isCopy0 inDuplicated mapAddr
  simp only [Bool.and_eq_true, Bool.or_eq_true, decide_eq_true_eq]
  omega
theorem validateNote_noteKept {n : Nat} {s : State} (hm : Mild s) : NoteKept (OutMap n) s (validateNote n s) := by
  have hfirst : NoteKept (OutMap n) s (checkedNote (mapAddr n 0) s) := checkedNote_noteKept hm fun _ b hb => hb.outTile (by decide)
  exact hfirst.trans (checkedNote_noteKept (hfirst.mild hm) fun _ b hb => hb.outTile (by decide))

/-- The state with both tiles written. -/
def mapWritten (n : Nat) (s : State) : State :=
  writeTile (mapAddr n 1) (captureTile1 s n (captureGen s n)) (writeTile (mapAddr n 0) (captureTile0 s n (captureGen s n)) (validateNote n s))
/-- A copy ends its wait, and notes the result of the tiles written. -/
theorem mapCopy_eq (n : Nat) (s : State) : mapCopy n s = mapNoted n (captureGen s n) (validateMap (mapWritten n s) n)
    (validateNote n { mapWritten n s with captureWait := none }) := rfl
theorem mapWritten_noteKept {n : Nat} {s : State} (hm : Mild s) : NoteKept (OutMap n) s (mapWritten n s) :=
  ((validateNote_noteKept hm).trans (writeTile_noteKept (length_captureTile0 s n _) (fun _ hb => hb.outTile (by decide)) _)).trans
    (writeTile_noteKept (length_captureTile1 s n _) (fun _ hb => hb.outTile (by decide)) _)

/-- Both tiles hold the present map. -/
def HoldsMap (s t : State) (n : Nat) : Prop :=
  HoldsTile t (mapAddr n 0) (captureTile0 s n (captureGen s n)) ∧ HoldsTile t (mapAddr n 1) (captureTile1 s n (captureGen s n))

theorem mapWritten_holds {n : Nat} {s : State} (hm : Mild s) (hdom : domOn s 25 = true)
    (hon : ∀ d < 2, dieOff (mapWritten n s) d = false) : HoldsMap s (mapWritten n s) n := by
  have hnote : NoteKept (OutMap n) s (validateNote n s) := validateNote_noteKept hm
  unfold mapWritten at hon ⊢
  have h0 := length_captureTile0 s n (captureGen s n)
  have h1 := length_captureTile1 s n (captureGen s n)
  unfold HoldsMap
  generalize captureTile0 s n (captureGen s n) = l0 at h0 hon ⊢
  generalize captureTile1 s n (captureGen s n) = l1 at h1 hon ⊢
  generalize validateNote n s = u at hnote hon ⊢
  have hdomu : domOn u 25 = true := (hnote.domOn 25).trans hdom
  have hw0 : NoteKept (OutTile (mapAddr n 0)) u (writeTile (mapAddr n 0) l0 u) := writeTile_noteKept h0 (fun _ hb => hb) u
  have hw1 : NoteKept (OutTile (mapAddr n 1)) (writeTile (mapAddr n 0) l0 u) (writeTile (mapAddr n 1) l1 (writeTile (mapAddr n 0) l0 u)) :=
    writeTile_noteKept h1 (fun _ hb => hb) _
  have honw (d : Nat) (hd : d < 2) : dieOff (writeTile (mapAddr n 0) l0 u) d = false := hw1.online (hon d hd)
  refine ⟨(writeTile_holds h0 hdomu fun d hd => hw0.online (honw d hd)).mono hw1 fun c hc i hi => ?_,
    writeTile_holds h1 ((hw0.domOn 25).trans hdomu) honw⟩
  exact outTile_of_other (by decide) (by decide) (by decide) hc hi
/-- The validation after the copy repairs nothing. -/
theorem validateNote_holds {n : Nat} {s t : State} (hn : n < 4096) (hm : Mild t) (hdom : domOn t 25 = true)
    (hon : ∀ d < 2, dieOff (validateNote n t) d = false) (h : HoldsMap s t n) : HoldsMap s (validateNote n t) n := by
  obtain ⟨h0, h1⟩ := h
  unfold validateNote at hon ⊢
  have hc0 : NoteKept (OutTile (mapAddr n 0)) t (checkedNote (mapAddr n 0) t) := checkedNote_noteKept hm fun _ _ hb => hb
  have hc1 : NoteKept (OutTile (mapAddr n 1)) (checkedNote (mapAddr n 0) t) (checkedNote (mapAddr n 1) (checkedNote (mapAddr n 0) t)) :=
    checkedNote_noteKept (hc0.mild hm) fun _ _ hb => hb
  have hon0 (d : Nat) (hd : d < 2) : dieOff (checkedNote (mapAddr n 0) t) d = false := hc1.online (hon d hd)
  have hall0 := checkedNote_keepsAll (isCopy0_mapAddr hn (by decide)) hdom hm (fun d hd => hc0.online (hon0 d hd)) h0 fun _ => True
  have h1' := h1.mono hall0 fun _ _ _ _ => trivial
  have hall1 := checkedNote_keepsAll (isCopy0_mapAddr hn (by decide)) ((hc0.domOn 25).trans hdom) (hc0.mild hm) hon0 h1' fun _ => True
  exact ⟨(h0.mono hall0 fun _ _ _ _ => trivial).mono hall1 fun _ _ _ _ => trivial, h1'.mono hall1 fun _ _ _ _ => trivial⟩

/-! ### The end of the wait -/

section
variable {s : State} (dt : Nat) {n : Nat} (hpor : s.porOn = false) (hn : n < 4096)
include hpor

/-- While a commit is in progress the copy waits (R108). -/
theorem mapCaptureCopy_waits (hcommit : s.commit.isSome = true) :
    Completes (.mapCaptureCopy dt) s fun t => RegsKept [] s t ∧ OnlyRegs s dt t := by
  refine completes_unchanged rfl hpor (if_neg ?_)
  have hbusy : (elapse s dt).commit.isNone = false := by
    rw [show (elapse s dt).commit = s.commit from rfl]
    cases hc : s.commit with
    | none => rw [hc] at hcommit; cases hcommit
    | some _ => rfl
  rw [hbusy]; exact Bool.false_ne_true
include hn
theorem mapCaptureCopy_copies (h20 : domOn s 20 = true) (hcommit : s.commit = none) (hwait : s.captureWait = some n) (hm : Mild s) :
    Completes (.mapCaptureCopy dt) s fun t =>
      f t CMT_MAP_STAT_busy = 0 ∧ f t CMT_MAP_STAT_map = n ∧ t.captureWait = none ∧ t.present = s.present ∧
        f t CMT_MAP_GEN_generation = captureGen s n % 2 ^ 32 ∧
        (domOn s 25 = true → (∀ d < 2, dieOff t d = false) → HoldsMap s t n) ∧
        (∀ b, OutMap n b → memGet t.dram b = memGet s.dram b) ∧ t.spm = s.spm ∧ t.sram = s.sram := by
  have heffect : (if (elapse s dt).commit.isNone && domOn (elapse s dt) 20 then captureNow (elapse s dt) else elapse s dt) =
      mapCopy n (elapse s dt) := by
    rw [if_pos (by rw [show (elapse s dt).commit = none from hcommit, domOn_elapse, h20]; rfl)]
    unfold captureNow
    rw [show (elapse s dt).captureWait = some n from hwait]
  refine completes_run rfl hpor ?_
  rw [heffect, mapCopy_eq]
  have hme : Mild (elapse s dt) := hm
  have hwritten : NoteKept (OutMap n) (elapse s dt) (mapWritten n (elapse s dt)) := mapWritten_noteKept hme
  have hholds := mapWritten_holds (n := n) (s := elapse s dt) hme
  generalize mapWritten n (elapse s dt) = w at hwritten hholds ⊢
  have hended : Mild { w with captureWait := none } := hwritten.mild hme
  have hnote : NoteKept (OutMap n) { w with captureWait := none } (validateNote n { w with captureWait := none }) := validateNote_noteKept hended
  have hafter := validateNote_holds (s := elapse s dt) (t := { w with captureWait := none }) hn hended
  generalize validateNote n { w with captureWait := none } = v at hnote hafter ⊢
  obtain ⟨hbusy, hmap, -, hgen⟩ := mapNoted_fields n (captureGen (elapse s dt) n) (validateMap w n) v
  rw [Nat.mod_eq_of_lt hn] at hmap
  have hsame : OnlyMsix v (mapNoted n (captureGen (elapse s dt) n) (validateMap w n) v) :=
    onlyMsix_setF _ _ (onlyMsix_setF _ _ (onlyMsix_setF _ _ (onlyMsix_setF _ _ (onlyMsix_refl _))))
  have hdie (d : Nat) : dieOff (mapNoted n (captureGen (elapse s dt) n) (validateMap w n) v) d = dieOff v d := dieOff_congr (by
    unfold mapNoted mapResult
    rw [rd_setF_other _ CMT_MAP_GEN_generation _ (by decide), rd_setF_other _ CMT_MAP_STAT_busy _ (by decide),
      rd_setF_other _ CMT_MAP_STAT_map _ (by decide), rd_setF_other _ CMT_MAP_STAT_result _ (by decide)]) d
  generalize mapNoted n (captureGen (elapse s dt) n) (validateMap w n) v = u at hbusy hmap hgen hsame hdie ⊢
  have hsettled : OnlyMsix v (settle s u) := onlyMsix_settle s hsame
  have hoff (d : Nat) : dieOff (settle s u) d = dieOff v d := (dieOff_congr (rd_settle s u (by decide)) d).trans (hdie d)
  have hbusyt : f (settle s u) CMT_MAP_STAT_busy = 0 := (f_settle s u (by decide)).trans hbusy
  have hmapt : f (settle s u) CMT_MAP_STAT_map = n := (f_settle s u (by decide)).trans hmap
  have hgent : f (settle s u) CMT_MAP_GEN_generation = captureGen s n % 2 ^ 32 := (f_settle s u (by decide)).trans hgen
  generalize settle s u = t at hsettled hoff hbusyt hmapt hgent ⊢
  obtain ⟨r, m, d, x, rfl⟩ := hsettled
  refine ⟨hbusyt, hmapt, (congrArg CommitPart.captureWait hnote.switch :), ?_, hgent, fun hdom hon => ?_, fun b hb => ?_, ?_, ?_⟩
  · exact (congrArg CommitPart.present hnote.switch :).trans (congrArg CommitPart.present hwritten.switch :)
  · have honv (k : Nat) (hk : k < 2) : dieOff v k = false := (hoff k).symm.trans (hon k hk)
    have hdomw : domOn w 25 = true := (hwritten.domOn 25).trans hdom
    exact hafter hdomw honv (hholds hdom fun k hk => hnote.online (honv k hk))
  · exact (hnote.bytes b hb).trans (hwritten.bytes b hb)
  · exact hnote.spm.trans hwritten.spm
  · exact hnote.sram.trans hwritten.sram
end

end Sys2Proof.Machine
end

open Sys2Proof Sys2Proof.Machine Sys2Proof.Config

/-- Settles O16: a capture and a validation by what the command register starts; the copy by the frame of its checked reads and writes and
the bytes its two tiles hold afterwards. -/
theorem mapCommandsCaptureAndValidate : Obligations.MapCommandsCaptureAndValidate := by
  unfold Obligations.MapCommandsCaptureAndValidate
  intro s dt n hpor h20 hn
  refine ⟨fun hm hbusy => ⟨mapCapture_waits dt hpor h20 hn hm hbusy, mapValidate_reports dt hpor h20 hn hm hbusy⟩,
    mapCaptureCopy_waits dt hpor, fun hcommit hwait h16 h17 h25 => ?_⟩
  have hm : Mild s := by
    intro k hk
    simp only [List.mem_cons, List.not_mem_nil, or_false] at hk
    rcases hk with rfl | rfl | rfl
    · exact h16
    · exact h17
    · exact h25
  obtain ⟨t, ht, hbusy, hmap, hended, hpresent, hgen, htiles, hbytes, hspm, hsram⟩ := mapCaptureCopy_copies dt hpor hn h20 hcommit hwait hm
  refine ⟨t, ht, hbusy, hmap, hended, hpresent, hgen, fun hdom hon c hc => ?_, fun a h0 h1 => hbytes a ⟨h0, h1⟩, hspm, hsram⟩
  obtain ⟨htile0, htile1⟩ := htiles hdom hon
  exact ⟨htile0 c hc, htile1 c hc⟩

section
/-! What the conversions of a window, the raises, the waveforms and the marks leave of the commits: their maps, lists and shaper, the
clock, and the sources' settings, by which later raises are judged. -/
namespace Sys2Proof.Machine
open Sys2Proof.Config

/-! ### Conversions -/

/-- The sensors, and registers with the bits noted as set, alone differ. -/
def OnlySense (s t : State) : Prop := ∃ r h p, t = { s with regs := r, hwSet := h, toSensePart := p }

namespace OnlySense
variable {s t u : State}
protected theorem refl (s : State) : OnlySense s s := ⟨_, _, _, rfl⟩
protected theorem trans (h : OnlySense s t) (k : OnlySense t u) : OnlySense s u := by
  obtain ⟨r, x, p, e⟩ := h
  obtain ⟨r', x', p', e'⟩ := k
  exact ⟨r', x', p', by rw [e', e]⟩
theorem sense (h : OnlySense s t) (p : SensePart) : OnlySense s { t with toSensePart := p } := h.trans ⟨_, _, _, rfl⟩
theorem setF (x : Fld) (v : Nat) (h : OnlySense s t) : OnlySense s (setF x v t) := h.trans ⟨_, _, t.toSensePart, rfl⟩
theorem forEach {α : Type} {g : α → State → State} {l : List α} (h : OnlySense s t) (hg : ∀ a v, OnlySense v (g a v)) :
    OnlySense s (forEach l g t) :=
  forEach_keeps (OnlySense s) g l (fun a _ v hv => hv.trans (hg a v)) t h
end OnlySense

theorem refCheck_onlySense (w k low high : Nat) (s : State) : OnlySense s (refCheck w k low high s) := by
  unfold refCheck
  simp only
  split
  · exact ((OnlySense.refl s).sense _).setF _ _
  · exact (OnlySense.refl s).sense _
theorem showSample_onlySense (w : Nat) (c : Conv) (s : State) : OnlySense s (showSample w c s) :=
  .setF _ _ (.sense (.setF _ _ (.setF _ _ (.setF _ _ (.setF _ _ (.refl s))))) _)
theorem convDone_onlySense (w k : Nat) (c : Conv) (s : State) : OnlySense s (convDone w k c s) := by
  have hcount : OnlySense s (inc (PLOT_SLC_CNT_CONV_count w k) s) := .setF _ _ (.refl s)
  unfold convDone
  simp only
  generalize inc (PLOT_SLC_CNT_CONV_count w k) s = s1 at hcount ⊢
  repeat' split
  · exact hcount.setF _ _
  · exact (hcount.setF _ _).trans (refCheck_onlySense w k _ _ _)
  · exact hcount.setF _ _
  · exact hcount.trans (showSample_onlySense w c s1)
theorem convMiss_onlySense (w k : Nat) (c : Conv) (s : State) : OnlySense s (convMiss w k c s) := by
  unfold convMiss; split
  · exact .refl s
  · exact .setF _ _ (.setF _ _ (.setF _ _ (.refl s)))
theorem runSlice_onlySense (w k t n : Nat) (s : State) : OnlySense s (runSlice w k t n s) := by
  induction n generalizing s with
  | zero => exact .refl s
  | succ n ih =>
    unfold runSlice
    simp only
    repeat' split
    · exact .refl s
    · exact .trans (.forEach ((OnlySense.refl s).sense _) (convMiss_onlySense w k)) (ih _)
    · exact .trans (.trans ((OnlySense.refl s).sense _) (convDone_onlySense w k _ _)) (ih _)
    all_goals exact .refl s
theorem runConv_onlySense (w : Nat) (s : State) : OnlySense s (runConv w s) :=
  (OnlySense.refl s).forEach fun k v => runSlice_onlySense w k _ _ v

/-! ### The frame -/

/-- The maps, lists and shaper of the commits stand, and so do the clock and the sources' settings. -/
structure CommitsKept (s t : State) : Prop where
  clk : t.clk = s.clk
  commits : t.toCommitPart = s.toCommitPart
  cfg : ∀ o, SrcCfg o → rd t o = rd s o

namespace CommitsKept
variable {s t u : State}
protected theorem refl (s : State) : CommitsKept s s := ⟨rfl, rfl, fun _ _ => rfl⟩
protected theorem trans (h : CommitsKept s t) (k : CommitsKept t u) : CommitsKept s u :=
  ⟨k.clk.trans h.clk, k.commits.trans h.commits, fun o ho => (k.cfg o ho).trans (h.cfg o ho)⟩
theorem of_regs (hr : t.regs = s.regs) (hk : t.clk = s.clk) (hc : t.toCommitPart = s.toCommitPart) : CommitsKept s t :=
  ⟨hk, hc, fun o _ => rd_congr hr o⟩
theorem of_lowKept (h : LowKept s t) : CommitsKept s t :=
  ⟨h.clk, h.commits, fun o ho => (h.low o (by have := ho.2; omega)).1⟩
theorem of_onlyTelem (h : OnlyTelem s t) : CommitsKept s t := by rw [h]; exact of_regs rfl rfl rfl
theorem setF {x : Fld} (v : Nat) (h : CommitsKept s t) (hx : 0x20200 ≤ x.off) : CommitsKept s (setF x v t) :=
  h.trans ⟨rfl, rfl, fun o ho => rd_setF_other t x v (by have := ho.2; omega)⟩
theorem ite {c : Prop} [Decidable c] (h : CommitsKept s t) (k : CommitsKept s u) : CommitsKept s (if c then t else u) := by
  split
  · exact h
  · exact k
theorem sev (h : CommitsKept s t) {n : Nat} (hn : n < 48) : sevOf t n = sevOf s n := by
  unfold sevOf; rw [f_rd (h.cfg _ (by simp only [SrcCfg, FLT_SRC_CFG_severity]; omega))]
/-- A raise below SAFE of a source without a remedy. -/
theorem raise {n : Nat} (d : Nat) (h : CommitsKept s t) (hn : n < 48) (hr : hasRemedy n = false) (hs : sevOf s n < 4) :
    CommitsKept s (raise n d t) := by
  have hs' : sevOf t n < 4 := by rwa [h.sev hn]
  obtain ⟨⟨r, x, p, e⟩, -⟩ := raise_onlyFlt (d := d) hn hs' hr
  exact h.trans ⟨by rw [e], by rw [e], fun o ho => rd_raise hn ho d hs' hr⟩
/-- A list of updates, each of which may rely on what the ones before it kept. -/
theorem forEach {α : Type} {g : α → State → State} {l : List α} (h : CommitsKept s t)
    (hg : ∀ a ∈ l, ∀ v, CommitsKept s v → CommitsKept s (g a v)) : CommitsKept s (forEach l g t) :=
  forEach_keeps (CommitsKept s) g l hg t h
end CommitsKept

theorem runConv_commitsKept (w : Nat) (s : State) : CommitsKept s (runConv w s) := by
  obtain ⟨r, x, p, e⟩ := runConv_onlySense w s
  exact ⟨by rw [e], by rw [e], fun o ho => (runConv_senseKept w s).regs o (by have := ho.2; omega)⟩

end Sys2Proof.Machine
end

section
/-! The late check of an unseen circuit (R131) and the write of the shaper's burst (R141). -/
namespace Sys2Proof.Machine
open Sys2Proof.Config

/-! ### A circuit that fails its late check -/

/-- Dropping a failed circuit writes the projected map, the commit in progress and the solve in progress alone. -/
theorem dropFailed_eq (c : Circuit) (s : State) :
    ∃ k p v, dropFailed c s = { s with commit := k, projected := p, solving := v } := by
  unfold dropFailed
  simp only
  split
  · exact ⟨_, _, _, rfl⟩
  · exact ⟨_, s.projected, s.solving, rfl⟩

/-- The circuit `c` of output `o` has left the maps and its gates are dark. -/
def lateDark (o : Nat) (c : Circuit) (u : State) : State :=
  dropFailed c { darkOut o u with present := dropSame c u.present }
/-- It is counted and its holder told. -/
def lateFailed (o : Nat) (c : Circuit) (u : State) : State :=
  telem c.holder 4 o c.inp 1 (inc CMT_CNT_VFAIL_count (lateDark o c u))

theorem lateDark_leaves (o : Nat) (c : Circuit) (u : State) : let t := lateDark o c u
    t.present = dropSame c u.present ∧ t.unseen = u.unseen ∧ t.gateOpen = putBit u.gateOpen o false ∧
      CmtKept u t ∧ ∀ k, SrcCfg k → rd t k = rd u k := by
  have hdark := CommitsKept.of_lowKept (darkOut_lowKept o u)
  have hcmt : CmtKept u (darkOut o u) := .trans (.forEach (.refl u) fun r _ v => playWave_cmtKept r v) (.of_regs rfl)
  have hunseen := congrArg CommitPart.unseen hdark.commits
  have hgate := congrArg CommitPart.gateOpen hdark.commits
  obtain ⟨k, p, v, e⟩ := dropFailed_eq c { darkOut o u with present := dropSame c u.present }
  intro t
  have ht : t = { darkOut o u with present := dropSame c u.present, commit := k, projected := p, solving := v } := e
  clear_value t
  subst ht
  exact ⟨rfl, hunseen, hgate, hcmt.trans (.of_regs rfl), hdark.cfg⟩

/-- The late check of the circuit `c` of output `o`, once the conversions of `s` are carried out in `u`. -/
def lateJudged (o : Nat) (c : Circuit) (s u : State) : State :=
  let cfg := rd u CMT_VER_CFG_plane_min.off
  let p := inReadings u c
  if !u.unseen.contains o || (!qualifies cfg p.1 && !qualifies cfg p.2) || !domOn u 20 then s
  else
    let s1 : State := { u with unseen := u.unseen.filter (· != o) }
    if verdictOf cfg p (normReading u 17 o, normReading u 17 (256 + o)) = .pass then s1
    else reportOuts s (raise 12 (o + 256) (lateFailed o c s1))
theorem unseenLate_eq {s : State} {o : Nat} {c : Circuit} (hc : onOut s.present o = some c) :
    unseenLate o s = lateJudged o c s (runConv 17 (runConv 16 s)) := by
  unfold unseenLate
  rw [hc]
  rfl

section
variable {s u : State} {o : Nat} {c : Circuit} {cfg : Word} (hun : u.unseen.contains o = true) (h20 : domOn u 20 = true)
  (hcfg : rd u CMT_VER_CFG_plane_min.off = cfg)
  (hq : (qualifies cfg (inReadings u c).1 || qualifies cfg (inReadings u c).2) = true)
include hun h20 hcfg hq

/-- None of the reasons to leave the circuit unseen holds. -/
theorem late_judges : ¬ (!u.unseen.contains o || (!qualifies (rd u CMT_VER_CFG_plane_min.off) (inReadings u c).1 &&
    !qualifies (rd u CMT_VER_CFG_plane_min.off) (inReadings u c).2) || !domOn u 20) = true := by
  rw [hun, h20, hcfg, ← Bool.not_or, hq]; decide

theorem lateJudged_passes (hv : verdictOf cfg (inReadings u c) (normReading u 17 o, normReading u 17 (256 + o)) = .pass) :
    lateJudged o c s u = { u with unseen := u.unseen.filter (· != o) } :=
  (if_neg (late_judges hun h20 hcfg hq)).trans (if_pos (hcfg ▸ hv))
theorem lateJudged_fails (hv : verdictOf cfg (inReadings u c) (normReading u 17 o, normReading u 17 (256 + o)) ≠ .pass) :
    lateJudged o c s u =
      reportOuts s (raise 12 (o + 256) (lateFailed o c { u with unseen := u.unseen.filter (· != o) })) :=
  (if_neg (late_judges hun h20 hcfg hq)).trans (if_neg (hcfg ▸ hv))
end

theorem not_contains_filter_ne (l : List Nat) (o : Nat) : (l.filter (· != o)).contains o = false := by simp

section
variable {s : State} (dt : Nat) {o : Nat} {c : Circuit} (hpor : s.porOn = false) (h20 : domOn s 20 = true)
  (hc : onOut s.present o = some c) (hun : s.unseen.contains o = true) {u : State} (hu : runConv 17 (runConv 16 (elapse s dt)) = u)
  (hq : (qualifies (rd s CMT_VER_CFG_plane_min.off) (inReadings u c).1 || qualifies (rd s CMT_VER_CFG_plane_min.off) (inReadings u c).2) = true)

include hu in
/-- The conversions leave the maps, the sources' settings and the registers of the commit. -/
theorem lateConv_kept : CommitsKept (elapse s dt) u ∧ SenseKept (elapse s dt) u := by
  have h16 := runConv_commitsKept 16 (elapse s dt)
  have k16 := runConv_senseKept 16 (elapse s dt)
  have h17 := runConv_commitsKept 17 (runConv 16 (elapse s dt))
  have k17 := runConv_senseKept 17 (runConv 16 (elapse s dt))
  rw [hu] at h17 k17
  exact ⟨h16.trans h17, k16.trans k17⟩
include hun hu in
theorem lateConv_unseen : u.unseen.contains o = true := by
  have h : u.unseen = s.unseen := congrArg CommitPart.unseen (lateConv_kept dt hu).1.commits
  rw [h]
  exact hun
include h20 hu in
theorem lateConv_domOn : domOn u 20 = true := by
  unfold domOn; rw [(lateConv_kept dt hu).2.f_eq (by decide)]; exact h20

include hpor h20 hc hun hu hq

theorem unseenLateVerify_passes (hv : verdictOf (rd s CMT_VER_CFG_plane_min.off) (inReadings u c)
      (normReading u 17 o, normReading u 17 (256 + o)) = .pass) :
    Completes (.unseenLateVerify dt o () ()) s fun t => t.unseen.contains o = false ∧ RegsKept [] u t ∧
      t = { u with regs := t.regs, hwSet := t.hwSet, msix := t.msix, msixDue := t.msixDue, unseen := t.unseen } := by
  have hcfg := (lateConv_kept dt hu).2.regs CMT_VER_CFG_plane_min.off (by decide)
  refine completes_run rfl hpor ?_
  rw [unseenLate_eq (s := elapse s dt) hc, hu, lateJudged_passes (lateConv_unseen dt hun hu) (lateConv_domOn dt h20 hu) hcfg hq hv]
  refine ⟨?_, regsKept_settle s (regsKept_congr (regsKept_refl [] u) rfl), ?_⟩
  · rw [settle_unseen]; exact not_contains_filter_ne _ _
  · obtain ⟨r, m, d, x, e⟩ := settle_eq s { u with unseen := u.unseen.filter (· != o) }
    rw [e]

theorem unseenLateVerify_fails (ho : o < 256) (hv : verdictOf (rd s CMT_VER_CFG_plane_min.off) (inReadings u c)
      (normReading u 17 o, normReading u 17 (256 + o)) ≠ .pass) (hsev : sevOf s 12 < 4) :
    Completes (.unseenLateVerify dt o () ()) s fun t => t.unseen.contains o = false ∧ t.present = dropSame c s.present ∧
      t.gateOpen.getLsbD o = false ∧ (∀ x < 256, x ≠ o → t.gateOpen.getLsbD x = s.gateOpen.getLsbD x) ∧
      f t CMT_CNT_VFAIL_count = (f s CMT_CNT_VFAIL_count + 1) % 2 ^ 32 := by
  obtain ⟨hconv, hsense⟩ := lateConv_kept dt hu
  have hpresent0 : u.present = s.present := congrArg CommitPart.present hconv.commits
  have hgate0 : u.gateOpen = s.gateOpen := congrArg CommitPart.gateOpen hconv.commits
  refine completes_run rfl hpor ?_
  rw [unseenLate_eq (s := elapse s dt) hc, hu, lateJudged_fails (lateConv_unseen dt hun hu) (lateConv_domOn dt h20 hu)
    (hsense.regs _ (by decide)) hq hv]
  obtain ⟨hpresent, hunseen, hgate, hcmt, hcfg⟩ := lateDark_leaves o c { u with unseen := u.unseen.filter (· != o) }
  have htold := telem_onlyTelem c.holder 4 o c.inp 1
    (inc CMT_CNT_VFAIL_count (lateDark o c { u with unseen := u.unseen.filter (· != o) }))
  have hcounted : f (lateFailed o c { u with unseen := u.unseen.filter (· != o) }) CMT_CNT_VFAIL_count =
      (f s CMT_CNT_VFAIL_count + 1) % 2 ^ 32 := by
    refine ((CmtKept.of_onlyTelem htold).f_eq (by unfold CmtOwn; decide)).trans ((f_setF_same _ _ _ (by decide)).trans ?_)
    rw [hcmt.f_eq (by unfold CmtOwn; decide)]
    exact congrArg (fun n => (n + 1) % 2 ^ 32) (hsense.f_eq (by decide))
  have hsevs : sevOf (lateDark o c { u with unseen := u.unseen.filter (· != o) }) 12 < 4 := by
    unfold sevOf
    rw [f_rd ((hcfg _ (by unfold SrcCfg; decide)).trans (hconv.cfg _ (by unfold SrcCfg; decide)))]
    exact hsev
  have hcount : CommitsKept (lateDark o c { u with unseen := u.unseen.filter (· != o) })
      (lateFailed o c { u with unseen := u.unseen.filter (· != o) }) :=
    .trans (.setF _ (.refl _) (by decide)) (.of_onlyTelem htold)
  generalize lateFailed o c { u with unseen := u.unseen.filter (· != o) } = w' at hcount hcounted ⊢
  generalize lateDark o c { u with unseen := u.unseen.filter (· != o) } = w at hpresent hunseen hgate hcount hsevs
  have hreport := reportOuts_onlyTelem (elapse s dt) (raise 12 (o + 256) w')
  have hend := ((hcount.raise (o + 256) (by decide) rfl hsevs).trans (.of_onlyTelem hreport)).commits
  have hvfail : f (reportOuts (elapse s dt) (raise 12 (o + 256) w')) CMT_CNT_VFAIL_count = (f s CMT_CNT_VFAIL_count + 1) % 2 ^ 32 :=
    (((raise_cmtKept (by decide) (o + 256) w').trans (.of_onlyTelem hreport)).f_eq (by unfold CmtOwn; decide)).trans hcounted
  generalize reportOuts (elapse s dt) (raise 12 (o + 256) w') = x at hend hvfail ⊢
  have hgates : (settle s x).gateOpen = putBit s.gateOpen o false := by
    rw [settle_gateOpen, congrArg CommitPart.gateOpen hend, hgate]
    exact congrArg (putBit · o false) hgate0
  refine ⟨?_, ?_, ?_, fun x _ hx => ?_, (f_settle _ _ (by decide)).trans hvfail⟩
  · rw [settle_unseen, congrArg CommitPart.unseen hend, hunseen]; exact not_contains_filter_ne _ _
  · rw [settle_present, congrArg CommitPart.present hend, hpresent]
    exact congrArg (dropSame c) hpresent0
  · rw [hgates, getLsbD_putBit_same _ ho]
  · rw [hgates, getLsbD_putBit_other _ hx]
end

/-! ### The burst -/

/-- A write of the burst brings the level up to now, and no higher than the burst. -/
theorem setBurst_leaves {b : Nat} {s u : State} (hu : shUpdate (setF CMT_EBKT_BURST_burst (max 1 (b % 2 ^ 31)) (shUpdate s)) = u) :
    f u CMT_EBKT_BURST_burst = max 1 (b % 2 ^ 31) ∧
      u.shLevel = min (((max 1 (b % 2 ^ 31) : Nat) : Int) * 10000) (shNow s) := by
  have hw : f (setF CMT_EBKT_BURST_burst (max 1 (b % 2 ^ 31)) (shUpdate s)) CMT_EBKT_BURST_burst = max 1 (b % 2 ^ 31) :=
    (f_setF_same _ _ _ (by decide)).trans (Nat.mod_eq_of_lt (show max 1 (b % 2 ^ 31) < 2 ^ 31 by omega))
  have hl : (setF CMT_EBKT_BURST_burst (max 1 (b % 2 ^ 31)) (shUpdate s)).shLevel = shNow s := rfl
  have hn : (setF CMT_EBKT_BURST_burst (max 1 (b % 2 ^ 31)) (shUpdate s)).clk.now =
    (setF CMT_EBKT_BURST_burst (max 1 (b % 2 ^ 31)) (shUpdate s)).shStamp := rfl
  generalize setF CMT_EBKT_BURST_burst (max 1 (b % 2 ^ 31)) (shUpdate s) = v at hw hl hn hu
  subst hu
  refine ⟨hw, ?_⟩
  rw [show (shUpdate v).shLevel = shNow v from rfl, shNow, burstE, hw, hl, hn, Int.sub_self, Int.mul_zero, Int.add_zero]

theorem burstWrite_writes {s : State} (dt v : Nat) (hpor : s.porOn = false) (hm : masterLive s 0 = true) (h20 : domOn s 20 = true) :
    Completes (.burstWrite dt 0 v) s fun t =>
      f t CMT_EBKT_BURST_burst = max 1 (v % 2 ^ 31) ∧
      t.shLevel = min (((max 1 (v % 2 ^ 31) : Nat) : Int) * 10000) (shNow (elapse s dt)) ∧ t.shStamp = s.clk.now + dt ∧
      RegsKept [CMT_EBKT_BURST_burst.off] s t ∧
      t = { elapse s dt with regs := t.regs, hwSet := t.hwSet, msix := t.msix, msixDue := t.msixDue, shLevel := t.shLevel, shStamp := t.shStamp } := by
  refine completes_run rfl hpor ?_
  rw [regCmd_gov (o := CMT_EBKT_BURST_burst.off) dt hm _ h20, setBurst]
  obtain ⟨hburst, hlevel⟩ := setBurst_leaves (b := v) (s := elapse s dt) rfl
  have hregs : RegsKept [CMT_EBKT_BURST_burst.off] s (settle s (setBurst v (elapse s dt))) :=
    regsKept_settle s (regsKept_congr (regsKept_setF _ (regsKept_congr (regsKept_elapse _ s dt) rfl) (by decide)) rfl)
  refine ⟨(f_settle _ _ (by decide)).trans hburst, (settle_shLevel _ _).trans hlevel, settle_shStamp _ _, hregs, ?_⟩
  obtain ⟨r, m, d, x, e⟩ := settle_eq s (setBurst v (elapse s dt))
  rw [setBurst] at e
  rw [e]
  rfl
end Sys2Proof.Machine

open Sys2Proof Sys2Proof.Machine Sys2Proof.Config

/-- Settles O20: what the late check finds is judged on the state in which the conversions of both windows are carried out, and those
leave the maps and the sources' settings; the failed circuit's output is then darkened as `lateDark` says. -/
theorem unseenCircuitsAreCheckedLate : Obligations.UnseenCircuitsAreCheckedLate := by
  unfold Obligations.UnseenCircuitsAreCheckedLate
  refine ⟨?_, fun s dt v hpor hm h20 => burstWrite_writes dt v hpor hm h20⟩
  intro s dt o c hpor h20 ho hc hun u cfg p q hq
  refine ⟨fun hv => ?_, fun hv hsev => ?_⟩
  · exact unseenLateVerify_passes dt hpor h20 hc hun rfl hq hv
  · exact unseenLateVerify_fails dt hpor h20 hc hun rfl hq ho hv hsev
end

section
/-! The close of a membership (R123, R126, R127). -/
namespace Sys2Proof.Machine
open Sys2Proof.Config

/-! ### The pre-check -/

/-- A circuit fails the pre-check of R126. -/
def FailsPreCheck (s : State) (m : MapSt) (c : Circuit) : Prop :=
  reaches m c.inp ≠ c.out ∨ ownsIn s c.holder c.inp = false ∨ ownsOut s c.holder c.out = false

theorem failsPreCheck_iff (s : State) (m : MapSt) (c : Circuit) : FailsPreCheck s m c ↔
    (reaches m c.inp != c.out || !ownsIn s c.holder c.inp || !ownsOut s c.holder c.out) = true := by
  simp [FailsPreCheck, or_assoc]
theorem preCheckFail_eq_none {s : State} {m : MapSt} (h : ∀ c ∈ m.circs, ¬ FailsPreCheck s m c) : preCheckFail s m = none := by
  unfold preCheckFail
  rw [List.find?_eq_none.2 fun c hc => mt (failsPreCheck_iff s m c).2 (h c hc)]
  rfl
theorem preCheckFail_eq_some {s : State} {m : MapSt} (h : ∃ c ∈ m.circs, FailsPreCheck s m c) : ∃ o, preCheckFail s m = some o := by
  obtain ⟨c, hc, hbad⟩ := h
  refine Option.isSome_iff_exists.1 ?_
  unfold preCheckFail
  rw [Option.isSome_map, List.find?_isSome]
  exact ⟨c, hc, (failsPreCheck_iff s m c).1 hbad⟩

/-! ### A closed plan, and a refused one -/

theorem closeMarks_commitsKept (p : CommitPlan) (s : State) : CommitsKept s (closeMarks p s) :=
  .forEach (.refl s) fun _ _ v h => h.trans (.of_lowKept (abandonMark_lowKept _ _ v))
theorem abandonMark_memKept (w sl : Nat) (s : State) : MemKept s (abandonMark w sl s) := by
  unfold abandonMark; split <;> rfl
theorem closeMarks_memKept (p : CommitPlan) (s : State) : MemKept s (closeMarks p s) := by
  unfold closeMarks
  refine forEach_keeps (MemKept s) _ _ (fun e _ v hv => ?_) s rfl
  exact Eq.trans (abandonMark_memKept e.1 e.2 v) hv

/-- A refused plan leaves no accepted sheaf, and a projected map that is the present one. -/
theorem preCheckRefuse_commits {s : State} (o : Nat) (hk : s.commit = none) (hsev : sevOf s 12 < 4) :
    (preCheckRefuse o s).toCommitPart = { s.toCommitPart with
      solving := (restartSolve s).solving, accepted := [], closed := none, projected := s.present } := by
  have hrefused := CommitsKept.of_lowKept (refuseAccepted_lowKept (reason := 0x0A) (by decide) s)
  have hsevs : sevOf { restartSolve s with accepted := [], closed := none, projected := settledMap s } 12 < 4 := hsev
  have hsettled : settledMap s = s.present := by unfold settledMap; rw [hk]
  rw [← hsettled]
  exact (hrefused.raise (o + 512) (by decide) rfl hsevs).commits

theorem closePlan_closes {p : CommitPlan} {s : State} (h : preCheckFail s p.after = none) : let t := closePlan p s
    t.clk = s.clk ∧ MemKept s t ∧ t.toCommitPart = { s.toCommitPart with closed := some p } := by
  have hmarks := closeMarks_commitsKept p { s with closed := some p }
  have hmem := closeMarks_memKept p { s with closed := some p }
  have hclose : closePlan p s = closeMarks p { s with closed := some p } := by unfold closePlan; rw [h]
  intro t
  replace hclose : t = closeMarks p { s with closed := some p } := hclose
  rw [← hclose] at hmarks hmem
  exact ⟨hmarks.clk, hmem.trans rfl, hmarks.commits⟩
theorem closePlan_refuses {p : CommitPlan} {s : State} (h : ∃ c ∈ p.after.circs, FailsPreCheck s p.after c)
    (hk : s.commit = none) (hsev : sevOf s 12 < 4) : (closePlan p s).toCommitPart = { s.toCommitPart with
      solving := (restartSolve s).solving, accepted := [], closed := none, projected := s.present } := by
  obtain ⟨o, ho⟩ := preCheckFail_eq_some h
  unfold closePlan
  rw [ho]
  exact preCheckRefuse_commits o hk hsev

/-! ### The close -/

theorem elapseTo_now (s : State) (t : Nat) : (elapseTo s t).clk.now = max s.clk.now t := by
  unfold elapseTo
  rw [elapse_now]
  omega

/-- Without coalescing no sheaf joins the head. -/
theorem formCommit_alone {s : State} {a : Accepted} {l : List Accepted} (ha : s.accepted = a :: l) (hco : f s CMT_CTRL_coalesce = 0) :
    formCommit s = some (headTick s.lastT0 a, [a]) := by
  have hcount (b : Int) (t k e : Nat) (m : List Accepted) : joinCount false b t k e m = 0 := by
    cases m
    · rfl
    · simp [joinCount]
  have hfb : fb s CMT_CTRL_coalesce = false := by unfold fb; rw [hco]; rfl
  unfold formCommit
  rw [ha, hfb]
  simp only [hcount, List.take_zero]

section
variable {s : State} {a : Accepted} {l : List Accepted} (h20 : domOn s 20 = true) (hsafe : inSafe s = false)
  (hclosed : s.closed = none) (hk : s.commit = none) (ha : s.accepted = a :: l) (hco : f s CMT_CTRL_coalesce = 0)
include h20 hsafe hclosed hk ha hco

theorem membershipClose_eq : let u := elapseTo s (closeAt (headTick s.lastT0 a))
    membershipClose s = closePlan (sheafPlan u (headTick s.lastT0 a) [a]) u := by
  intro u
  unfold membershipClose
  rw [formCommit_alone ha hco]
  dsimp only
  rw [hclosed, hk, hsafe, h20]
  rfl

variable (dt : Nat) (hpor : s.porOn = false)
include hpor

/-- The membership of a head whose circuits all pass the pre-check. -/
theorem membershipClose_closes (hok : ∀ c ∈ (applyAll s.present [a]).circs, ¬ FailsPreCheck s (applyAll s.present [a]) c) :
    Completes (.membershipClose dt) s fun t =>
      t.clk.now = max (s.clk.now + dt) (headTick s.lastT0 a * 200 - 2000) ∧ t.present = s.present ∧ t.projected = s.projected ∧
      t.accepted = s.accepted ∧ t.commit = none ∧ MemKept s t ∧
      ∃ p, t.closed = some p ∧ p.tick = headTick s.lastT0 a ∧ p.members = [a] ∧ p.before = s.present ∧
        p.after = applyAll s.present [a] ∧ p.rot = none ∧ p.dark = false := by
  refine completes_run rfl hpor ?_
  rw [membershipClose_eq (s := elapse s dt) h20 hsafe hclosed hk ha hco]
  have hnow : (elapseTo (elapse s dt) (closeAt (headTick s.lastT0 a))).clk.now = max (s.clk.now + dt) (headTick s.lastT0 a * 200 - 2000) :=
    elapseTo_now (elapse s dt) _
  have hmem : MemKept s (elapseTo (elapse s dt) (closeAt (headTick s.lastT0 a))) := rfl
  have hcommits : (elapseTo (elapse s dt) (closeAt (headTick s.lastT0 a))).toCommitPart = s.toCommitPart := rfl
  have hpass : preCheckFail (elapseTo (elapse s dt) (closeAt (headTick s.lastT0 a))) (applyAll s.present [a]) = none :=
    preCheckFail_eq_none hok
  have hplan : ∃ p, sheafPlan (elapseTo (elapse s dt) (closeAt (headTick s.lastT0 a))) (headTick s.lastT0 a) [a] = p ∧
      p.tick = headTick s.lastT0 a ∧ p.members = [a] ∧ p.before = s.present ∧
      p.after = applyAll s.present [a] ∧ p.rot = none ∧ p.dark = false := ⟨_, rfl, rfl, rfl, rfl, rfl, rfl, rfl⟩
  obtain ⟨p, hp, htick, hmembers, hbefore, hafter, hrot, hdark⟩ := hplan
  rw [show (elapse s dt).lastT0 = s.lastT0 from rfl, hp]
  rw [← hafter] at hpass
  generalize elapseTo (elapse s dt) (closeAt (headTick s.lastT0 a)) = u at hnow hmem hcommits hpass
  obtain ⟨hclk, hmem', hc⟩ := closePlan_closes hpass
  rw [hcommits] at hc
  generalize closePlan p u = v at hclk hmem' hc
  refine ⟨?_, ?_, ?_, ?_, ?_, ?_, p, ?_, htick, hmembers, hbefore, hafter, hrot, hdark⟩
  · rw [settle_clk, hclk, hnow]
  · rw [settle_present, congrArg CommitPart.present hc]
  · rw [settle_projected, congrArg CommitPart.projected hc]
  · rw [settle_accepted, congrArg CommitPart.accepted hc]
  · rw [settle_commit, congrArg CommitPart.commit hc]; exact hk
  · exact (settle_toMemPart _ _).trans (hmem'.trans hmem)
  · rw [settle_closed, congrArg CommitPart.closed hc]

/-- The membership of a head one of whose circuits fails the pre-check. -/
theorem membershipClose_refuses (hbad : ∃ c ∈ (applyAll s.present [a]).circs, FailsPreCheck s (applyAll s.present [a]) c)
    (hsev : sevOf s 12 < 4) :
    Completes (.membershipClose dt) s fun t =>
      t.closed = none ∧ t.commit = none ∧ t.accepted = [] ∧ t.projected = s.present ∧ t.present = s.present := by
  refine completes_run rfl hpor ?_
  rw [membershipClose_eq (s := elapse s dt) h20 hsafe hclosed hk ha hco]
  have hc := closePlan_refuses (p := sheafPlan (elapseTo (elapse s dt) (closeAt (headTick s.lastT0 a))) (headTick s.lastT0 a) [a])
    (s := elapseTo (elapse s dt) (closeAt (headTick s.lastT0 a))) hbad hk hsev
  rw [show (elapse s dt).lastT0 = s.lastT0 from rfl]
  generalize closePlan _ _ = v at hc
  refine ⟨?_, ?_, ?_, ?_, ?_⟩
  · rw [settle_closed, congrArg CommitPart.closed hc]
  · rw [settle_commit, congrArg CommitPart.commit hc]; exact hk
  · rw [settle_accepted, congrArg CommitPart.accepted hc]
  · rw [settle_projected, congrArg CommitPart.projected hc]; rfl
  · rw [settle_present, congrArg CommitPart.present hc]; rfl

end
end Sys2Proof.Machine

open Sys2Proof Sys2Proof.Machine Sys2Proof.Config

/-- Settles O17: the plan closed is the one of the head alone, and letting time pass up to the close changes neither the maps and lists
nor the ports' owners, by which the pre-check decides. -/
theorem membershipClosesTwoHundredNanosecondsBefore : Obligations.MembershipClosesTwoHundredNanosecondsBefore := by
  unfold Obligations.MembershipClosesTwoHundredNanosecondsBefore
  intro s dt a l hpor h20 hsafe hclosed hk ha hco tick after bad
  refine ⟨fun hok => ?_, fun hbad hsev => ?_⟩
  · exact membershipClose_closes h20 hsafe hclosed hk ha hco dt hpor hok
  · exact membershipClose_refuses h20 hsafe hclosed hk ha hco dt hpor hbad hsev
end

section
/-! A closed commit at its tick (R111, R124, R139): its charge, its gates, and the triggers it gives to the gleaning channels and the
traces, which leave the commits as they are. -/
namespace Sys2Proof.Machine
open Sys2Proof.Config

/-! ### Gleaning -/

section
variable {s t : State} (h : CommitsKept s t)
include h

theorem glnGo_commitsKept (n st : Nat) : CommitsKept s (glnGo n st t) := by
  unfold glnGo setB
  exact (h.setF _ (by simp only [GLN_STAT_armed]; decide)).setF _ (by simp only [GLN_CH_STAT_state]; omega)
theorem glnAnchor_commitsKept (x : GlnX) : CommitsKept s (glnAnchor x t) := by
  unfold glnAnchor urgentOne convAdd convPut
  exact .ite (h.trans (.of_regs rfl rfl rfl)) h
theorem trigOutPulse_commitsKept (k a b : Nat) : CommitsKept s (trigOutPulse k a b t) := h.trans (.of_regs rfl rfl rfl)
theorem trigBusPulse_commitsKept (k e : Nat) : CommitsKept s (trigBusPulse k e t) := h.trans (.of_regs rfl rfl rfl)
theorem glnDrive_commitsKept (n e : Nat) : CommitsKept s (glnDrive n e t) :=
  .forEach (.forEach h fun _ _ _ hv => trigOutPulse_commitsKept hv _ _ _) fun _ _ _ hv => trigBusPulse_commitsKept hv _ _

section
variable (hsev : sevOf s 46 < 4)
include hsev

theorem glnOvf_commitsKept (n c : Nat) : CommitsKept s (glnOvf n c t) := by
  have hcount : CommitsKept s (inc GLN_CNT_OVF_count (setF ⟨GLN_STAT_ovf.off, 8 + n, 1⟩ 1 t)) :=
    (h.setF _ (by simp only [GLN_STAT_ovf]; decide)).setF _ (by decide)
  exact hcount.raise _ (by decide) rfl hsev
theorem glnExtra_commitsKept (n : Nat) : CommitsKept s (glnExtra n t) := by
  have hcount (x : GlnX) : CommitsKept s (inc (GLN_CH_CNT_EXTRA_count n) (glnPut n x t)) :=
    .setF _ (h.trans (.of_regs rfl rfl rfl)) (by simp only [GLN_CH_CNT_EXTRA_count]; omega)
  unfold glnExtra
  exact .ite (glnOvf_commitsKept (hcount _) hsev n 2) (hcount _)
theorem glnTake_commitsKept (n : Nat) (g : GlnTrig) : CommitsKept s (glnTake n g t).2 := by
  have htaken (x y : GlnX) : CommitsKept s (glnDrive n g.edge (glnAnchor x (glnGo n 3 (glnPut n y t)))) :=
    have hput : CommitsKept s (glnPut n y t) := h.trans (.of_regs rfl rfl rfl)
    glnDrive_commitsKept (glnAnchor_commitsKept (glnGo_commitsKept hput n 3) x) n _
  unfold glnTake
  dsimp only
  split
  · exact h
  · exact htaken _ _
  · exact htaken _ _
  · split
    · exact h
    · exact glnExtra_commitsKept h hsev n
end
end

theorem glnTrigger_commitsKept {s : State} (hsev : sevOf s 46 < 4) (u n : Nat) (g : GlnTrig) {t : State} (h : CommitsKept s t) :
    CommitsKept s (glnTrigger u n g t) := by
  induction u generalizing n t with
  | zero => exact h
  | succ u ih =>
    unfold glnTrigger
    exact .ite (.forEach (glnTake_commitsKept h hsev n g) fun k _ _ hv => ih k hv) (glnTake_commitsKept h hsev n g)
theorem glnCommit_commitsKept {s t : State} (h : CommitsKept s t) (hsev : sevOf s 46 < 4) (affected times : List Nat) :
    CommitsKept s (glnCommit affected times t) := by
  unfold glnCommit
  exact .ite (.forEach (.forEach h fun _ _ _ hv => trigOutPulse_commitsKept hv _ _ _)
    fun n _ _ hv => glnTrigger_commitsKept hsev 9 n _ hv) h

/-! ### Traces and deferrals -/

theorem trcTrigger_commitsKept {s t : State} (h : CommitsKept s t) (hsev : sevOf s 47 < 4) (w : Nat) :
    CommitsKept s (trcTrigger w t) := by
  have hstat (x : Fld) (v : Nat) {u : State} (hu : CommitsKept s u) (hx : x.off = winBase w + trcBase w + 0x4) :
      CommitsKept s (setF x v u) := hu.setF v (by have := winBase_above w; omega)
  unfold trcTrigger
  refine .ite h (.ite ?_ (.ite h ?_))
  · exact .raise _ (hstat _ _ h rfl) (by decide) rfl hsev
  · exact hstat _ _ (hstat _ _ (h.trans (.of_regs rfl rfl rfl)) rfl) rfl
theorem trcEvents_commitsKept {s t : State} (h : CommitsKept s t) (hsev : sevOf s 47 < 4) (src : Nat) (l : List Nat) :
    CommitsKept s (forEach l (trcEvent src) t) :=
  .forEach h fun w _ _ hv => .ite (trcTrigger_commitsKept hv hsev w) hv
theorem noteDeferral_commitsKept {s t : State} (h : CommitsKept s t) (hsev : sevOf s 15 < 4) (tick : Nat) (a : Accepted) :
    CommitsKept s (noteDeferral tick a t) := by
  have hmax : CommitsKept s (setMax CMT_EBKT_DEFMAX_defer_ns (deferral a tick) t) := h.setF _ (by decide)
  exact .ite (.raise 0 (hmax.setF (x := CMT_EBKT_LATE_count) _ (by decide)) (by decide) rfl hsev) hmax

/-! ### The gates -/

theorem forEach_setGate (l : List Nat) (s : State) :
    forEach l (fun o => setGate o false) s = { s with gateOpen := l.foldl (fun g o => putBit g o false) s.gateOpen } := by
  induction l generalizing s with
  | nil => rfl
  | cons o l ih => exact ih (setGate o false s)
theorem CommitsKept.withGates {s t : State} (h : CommitsKept s t) (g : BitVec 256) :
    CommitsKept { s with gateOpen := g } { t with gateOpen := g } :=
  ⟨h.clk, congrArg (fun p : CommitPart => { p with gateOpen := g }) h.commits, h.cfg⟩
/-- Darkening the open ones of a set of outputs darkens the set. -/
theorem getLsbD_darkOpen (l : List Nat) (v : BitVec 256) {o : Nat} (ho : o < 256) :
    ((l.filter (fun x => v.getLsbD x)).foldl (fun g x => putBit g x false) v).getLsbD o = (v.getLsbD o && !l.contains o) := by
  rw [getLsbD_darkBits _ _ ho]
  cases h : v.getLsbD o
  · rfl
  · simp [h]

/-! ### The tick -/

/-- The state charged with a plan's cost, once the conversions of the input window are carried out. -/
def charged (p : CommitPlan) (s : State) : State :=
  setF CMT_EBKT_LAST_cost (openDiv p.cost 10000) (shCharge p.cost (captureNow (runConv 16 s)))
/-- The waveforms of a plan, their ends fixed on the codes held. -/
def fixedWaves (p : CommitPlan) (s : State) : List WaveRead :=
  p.waves.map (fun r => ({ r with cEnd := some (r.cEnd.getD (heldCode s r.win r.slot r.st)) } : WaveRead))
/-- The affected outputs that are open. -/
def openedOuts (p : CommitPlan) (s : State) : List Nat := p.affected.filter (fun o => s.gateOpen.getLsbD o)
/-- The computed times of a tick on the bases. -/
def tickTimes (tick : Nat) (s : State) : List Nat := (List.range 4).map (fun b => tickTime s b tick)
/-- The commit in progress that a plan becomes at its tick. -/
def firedCommit (p : CommitPlan) (tick : Nat) (s : State) : Commit :=
  { plan := { p with waves := fixedWaves p s }, t0 := tick, phase := .fired, wasOpen := openedOuts p s, times := tickTimes tick s,
    vers := [], inPow := p.changed.map (inReadings s) }
/-- The charged state with the plan in progress in place of closed. -/
def inProgress (p : CommitPlan) (tick : Nat) (s : State) : State :=
  { s with commit := some (firedCommit p tick s), closed := none, lastT0 := some tick, accepted := s.accepted.drop p.members.length
           unseen := s.unseen.filter (fun o => !p.affected.contains o) }
/-- The dark waveforms have started. -/
def darkPlaying (p : CommitPlan) (tick : Nat) (s : State) : State :=
  forEach ((fixedWaves p s).filter (fun r => r.win == 17 && !r.st && (openedOuts p s).contains (slotPort 17 r.slot))) playWave
    (inProgress p tick s)
/-- What a tick does once the plan is charged. -/
def fired (p : CommitPlan) (tick : Nat) (s : State) : State :=
  forEach (onWindows (darkPlaying p tick s)) (trcEvent 1) (glnCommit p.affected (tickTimes tick s)
    (forEach (openedOuts p s) (fun o => setGate o false) (darkPlaying p tick s)))
theorem fireCommit_eq (p : CommitPlan) (tick : Nat) (s : State) : fireCommit p tick s = fired p tick (charged p s) := rfl

/-- A charge brings the level up to now and lowers it by the cost. -/
theorem shCharge_commitsKept {s t : State} (h : CommitsKept s t) (hn : shNow t = shNow s) (cost : Nat) :
    CommitsKept { s with shLevel := max (-(2147483648 * 10000)) (shNow s - cost), shStamp := s.clk.now } (shCharge cost t) := by
  have hlevel : (shCharge cost t).toCommitPart = { t.toCommitPart with
      shLevel := max (-(2147483648 * 10000)) (shNow t - cost), shStamp := t.clk.now } := rfl
  refine ⟨h.clk, ?_, h.cfg⟩
  rw [hlevel, hn, h.clk, h.commits]
theorem charged_commitsKept {s : State} (p : CommitPlan) (hcap : s.captureWait = none) :
    CommitsKept { s with shLevel := max (-(2147483648 * 10000)) (shNow s - p.cost), shStamp := s.clk.now } (charged p s) := by
  have hconv := runConv_commitsKept 16 s
  have hsense := runConv_senseKept 16 s
  have hcapture : captureNow (runConv 16 s) = runConv 16 s := by
    unfold captureNow; rw [congrArg CommitPart.captureWait hconv.commits, hcap]
  have hnow : shNow (runConv 16 s) = shNow s := by
    unfold shNow burstE
    rw [hsense.f_eq (by decide), hsense.f_eq (by decide), hconv.clk, congrArg CommitPart.shLevel hconv.commits,
      congrArg CommitPart.shStamp hconv.commits]
  unfold charged
  rw [hcapture]
  exact (shCharge_commitsKept hconv hnow p.cost).setF _ (by decide)

/-- The plan is in progress, its open outputs dark; what the tick triggers leaves that as it is. -/
theorem fired_leaves {s : State} (p : CommitPlan) (tick : Nat) (h46 : sevOf s 46 < 4) (h47 : sevOf s 47 < 4) :
    CommitsKept { inProgress p tick s with gateOpen := (openedOuts p s).foldl (fun g o => putBit g o false) s.gateOpen }
      (fired p tick s) := by
  have hplay : CommitsKept (inProgress p tick s) (darkPlaying p tick s) :=
    .forEach (.refl _) fun r _ v hv => hv.trans (.of_lowKept (playWave_lowKept r v))
  have hgate := congrArg CommitPart.gateOpen hplay.commits
  have hdark := hplay.withGates ((openedOuts p s).foldl (fun g o => putBit g o false) s.gateOpen)
  unfold fired
  rw [forEach_setGate, show (darkPlaying p tick s).gateOpen = s.gateOpen from hgate]
  exact trcEvents_commitsKept (glnCommit_commitsKept hdark h46 _ _) h47 1 _

/-- From the charge to the count of the members' deferrals: `x` is the charged state. -/
theorem fireCommit_leaves {s : State} (p : CommitPlan) (tick : Nat) (hcap : s.captureWait = none)
    (h15 : sevOf s 15 < 4) (h46 : sevOf s 46 < 4) (h47 : sevOf s 47 < 4) : ∃ x : State,
      CommitsKept { s with shLevel := max (-(2147483648 * 10000)) (shNow s - p.cost), shStamp := s.clk.now } x ∧
      CommitsKept { inProgress p tick x with gateOpen := (openedOuts p x).foldl (fun g o => putBit g o false) x.gateOpen }
        (forEach p.members (noteDeferral tick) (fireCommit p tick s)) := by
  have hcharged := charged_commitsKept p hcap
  rw [fireCommit_eq]
  generalize charged p s = x at hcharged
  have hsev {n : Nat} (hn : n < 48) (h : sevOf s n < 4) : sevOf x n < 4 := by rw [hcharged.sev hn]; exact h
  have h15' : sevOf { inProgress p tick x with gateOpen := (openedOuts p x).foldl (fun g o => putBit g o false) x.gateOpen } 15 < 4 :=
    hsev (by decide) h15
  have hfired := fired_leaves p tick (hsev (by decide) h46) (hsev (by decide) h47)
  exact ⟨x, hcharged, .forEach hfired fun a _ _ hv => noteDeferral_commitsKept hv h15' tick a⟩

theorem shNow_nonneg {s : State} (hlevel : 0 ≤ s.shLevel) (hstamp : s.shStamp ≤ s.clk.now) : 0 ≤ shNow s := by
  have hrefill : 0 ≤ (f s CMT_EBKT_RATE_rate : Int) * ((s.clk.now : Int) - s.shStamp) :=
    Int.mul_nonneg (Int.natCast_nonneg _) (by omega)
  unfold shNow burstE
  exact le_min (by omega) (by omega)

/-- A plan that stands for the present map and whose circuits pass the pre-check, with the level at or above zero: it fires. -/
structure Fireable (p : CommitPlan) (s : State) : Prop where
  on : domOn s 20 = true
  notSafe : inSafe s = false
  idle : s.commit = none
  uncaptured : s.captureWait = none
  closed : s.closed = some p
  fresh : p.before = s.present
  lit : p.dark = false
  checked : ∀ c ∈ p.after.circs, reaches p.after c.inp = c.out ∧ ownsIn s c.holder c.inp = true ∧ ownsOut s c.holder c.out = true
  level : 0 ≤ s.shLevel
  stamp : s.shStamp ≤ s.clk.now
  sev15 : sevOf s 15 < 4
  sev46 : sevOf s 46 < 4
  sev47 : sevOf s 47 < 4
/-- Letting time pass leaves a plan fit to fire. -/
theorem Fireable.elapse {p : CommitPlan} {s : State} (h : Fireable p s) (dt : Nat) : Fireable p (elapse s dt) where
  on := h.on
  notSafe := h.notSafe
  idle := h.idle
  uncaptured := h.uncaptured
  closed := h.closed
  fresh := h.fresh
  lit := h.lit
  checked := h.checked
  level := h.level
  stamp := Nat.le_trans h.stamp (Nat.le_add_right _ _)
  sev15 := h.sev15
  sev46 := h.sev46
  sev47 := h.sev47

/-- The tick at which it fires: the first at or after both the planned one and now. -/
def fireTick (p : CommitPlan) (s : State) : Nat := max p.tick ((s.clk.now + 199) / 200)
/-- The state at that tick. -/
def atFireTick (p : CommitPlan) (s : State) : State := elapseTo (elapseTo s (p.tick * tickPeriod)) (fireTick p s * tickPeriod)
theorem atFireTick_now (p : CommitPlan) (s : State) : (atFireTick p s).clk.now = fireTick p s * 200 := by
  unfold atFireTick fireTick
  rw [elapseTo_now, elapseTo_now, tickPeriod]
  omega

theorem commitTick_fires {p : CommitPlan} {s : State} (h : Fireable p s) :
    commitTick s = forEach p.members (noteDeferral (fireTick p s)) (fireCommit p (fireTick p s) (atFireTick p s)) := by
  have hu : Fireable p (elapseTo s (p.tick * tickPeriod)) := h.elapse _
  have hv : Fireable p (atFireTick p s) := hu.elapse _
  have hready : readyTick (elapseTo s (p.tick * tickPeriod)) (if p.dark then 0 else shNow (elapseTo s (p.tick * tickPeriod))) =
      some (fireTick p s) := by
    have htick : tickAtOrAfter (elapseTo s (p.tick * tickPeriod)).clk.now = fireTick p s := by
      unfold tickAtOrAfter fireTick
      rw [elapseTo_now, tickPeriod]
      omega
    rw [h.lit, if_neg (by decide), readyTick, if_pos (shNow_nonneg hu.level hu.stamp), htick]
  have hpass : preCheckFail (atFireTick p s) p.after = none := by
    refine preCheckFail_eq_none fun c hc hbad => ?_
    obtain ⟨hreach, hin, hout⟩ := hv.checked c hc
    simp [FailsPreCheck, hreach, hin, hout] at hbad
  have hfresh : freshPlan (atFireTick p s) p = p := if_pos hv.fresh
  unfold commitTick
  rw [h.closed]
  dsimp only
  rw [h.idle, h.notSafe, h.on, if_neg (by decide), hready]
  dsimp only
  rw [show elapseTo (elapseTo s (p.tick * tickPeriod)) (fireTick p s * tickPeriod) = atFireTick p s from rfl, hfresh, hpass]

theorem commitTick_completes {p : CommitPlan} {s : State} (dt : Nat) (hpor : s.porOn = false) (h : Fireable p s) :
    Completes (.commitTick dt) s fun t =>
      let k := max p.tick ((s.clk.now + dt + 199) / 200)
      t.clk.now = k * 200 ∧ t.closed = none ∧ t.lastT0 = some k ∧ t.present = s.present ∧
      t.accepted = s.accepted.drop p.members.length ∧
      t.shLevel = max (-21474836480000) (min ((f s CMT_EBKT_BURST_burst : Int) * 10000)
        (s.shLevel + (f s CMT_EBKT_RATE_rate : Int) * ((k * 200 : Nat) - (s.shStamp : Int))) - p.cost) ∧
      (∀ o < 256, t.gateOpen.getLsbD o = (s.gateOpen.getLsbD o && !p.affected.contains o)) ∧
      ∃ c, t.commit = some c ∧ c.t0 = k ∧ c.phase = .fired ∧ c.plan.after = p.after ∧ c.plan.members = p.members ∧
        c.wasOpen = p.affected.filter (fun o => s.gateOpen.getLsbD o) := by
  have he := h.elapse dt
  have hv : Fireable p (atFireTick p (elapse s dt)) := (he.elapse _).elapse _
  have hnow := atFireTick_now p (elapse s dt)
  have hsame : (atFireTick p (elapse s dt)).toCommitPart = s.toCommitPart := rfl
  have hburst : f (atFireTick p (elapse s dt)) CMT_EBKT_BURST_burst = f s CMT_EBKT_BURST_burst := rfl
  have hrate : f (atFireTick p (elapse s dt)) CMT_EBKT_RATE_rate = f s CMT_EBKT_RATE_rate := rfl
  refine completes_run rfl hpor ?_
  rw [commitTick_fires he]
  intro k
  replace hnow : (atFireTick p (elapse s dt)).clk.now = k * 200 := hnow
  rw [show fireTick p (elapse s dt) = k from rfl]
  generalize atFireTick p (elapse s dt) = v at hv hnow hsame hburst hrate
  have hpresent : v.present = s.present := congrArg CommitPart.present hsame
  have haccepted : v.accepted = s.accepted := congrArg CommitPart.accepted hsame
  have hgate : v.gateOpen = s.gateOpen := congrArg CommitPart.gateOpen hsame
  have hshNow : shNow v = min ((f s CMT_EBKT_BURST_burst : Int) * 10000)
      (s.shLevel + (f s CMT_EBKT_RATE_rate : Int) * ((k * 200 : Nat) - (s.shStamp : Int))) := by
    unfold shNow burstE
    rw [hburst, hrate, hnow, congrArg CommitPart.shLevel hsame, congrArg CommitPart.shStamp hsame]
  obtain ⟨x, hx, ht⟩ := fireCommit_leaves p k hv.uncaptured hv.sev15 hv.sev46 hv.sev47
  have hxc := hx.commits
  have hcommits := ht.commits
  have hclk := ht.clk
  generalize forEach p.members (noteDeferral k) (fireCommit p k v) = t at hcommits hclk
  have hgates : x.gateOpen = s.gateOpen := (congrArg CommitPart.gateOpen hxc).trans hgate
  have hopened : openedOuts p x = p.affected.filter (fun o => s.gateOpen.getLsbD o) := by unfold openedOuts; rw [hgates]
  refine ⟨?_, ?_, ?_, ?_, ?_, ?_, fun o ho => ?_, firedCommit p k x, ?_, rfl, rfl, rfl, rfl, hopened⟩
  · rw [settle_clk, hclk]
    exact (congrArg Clock.now hx.clk).trans hnow
  · rw [settle_closed, congrArg CommitPart.closed hcommits]; rfl
  · rw [settle_lastT0, congrArg CommitPart.lastT0 hcommits]; rfl
  · rw [settle_present, congrArg CommitPart.present hcommits]
    exact (congrArg CommitPart.present hxc).trans hpresent
  · rw [settle_accepted, congrArg CommitPart.accepted hcommits]
    exact congrArg (List.drop p.members.length) ((congrArg CommitPart.accepted hxc).trans haccepted)
  · rw [settle_shLevel, congrArg CommitPart.shLevel hcommits, ← hshNow]
    exact congrArg CommitPart.shLevel hxc
  · rw [settle_gateOpen, congrArg CommitPart.gateOpen hcommits, hopened, hgates]
    exact getLsbD_darkOpen _ _ ho
  · rw [settle_commit, congrArg CommitPart.commit hcommits]; rfl

end Sys2Proof.Machine

open Sys2Proof Sys2Proof.Machine Sys2Proof.Config

/-- Settles O18: the tick is the first at or after the planned one and now, as the level stands at or above zero; the charge, the gates
and the lists are written there, and the triggers the tick gives leave them. -/
theorem commitTickFiresWhenTheShaperPermits : Obligations.CommitTickFiresWhenTheShaperPermits := by
  unfold Obligations.CommitTickFiresWhenTheShaperPermits
  intro s dt p hpor h20 hsafe hk hcap hclosed hbefore hdark hok hlevel hstamp h15 h46 h47
  exact commitTick_completes dt hpor ⟨h20, hsafe, hk, hcap, hclosed, hbefore, hdark, hok, hlevel, hstamp, h15, h46, h47⟩
end

section
/-! The timeline's strobe (R113, R132, R208) in a module whose source 7 acts at SAFE: the quick grid's first dither step is cut by
the loop's limits, the raise of the cut enters the safe state, and the rotation that it stops passes its circuits to their tenants (R143, R186, R187, R200). -/
namespace Sys2Proof.Machine
open Sys2Proof.Config

/-- The map of a rotation's slot: one circuit that the rotation placed. -/
def slotOneMap : MapSt := { circs := [{ inp := 0, out := 0, mid := 0, holder := 0, byRot := true }] }
/-- A commit between its routing waveforms and its strobe, that releases the circuit of output 0. -/
def releasingCommit : Commit :=
  { plan := { members := [], rot := none, dark := false, tick := 0, cost := 0, before := slotOneMap, after := { slotOneMap with circs := [] },
              changed := [], affected := [0] }
    t0 := 0, phase := .routed, wasOpen := [0], times := [], vers := [] }
/-- A lit gate loop of output 0 stands at its upper limit and dithers by one step (Walsh pattern 1, amplitude 1 of region 0); source 7
is configured at SAFE; a rotation runs. -/
def cutDitherState : State :=
  setF (FLT_SRC_CFG_severity 7) 4 (setF (PLOT_LOOP_STAT_lit 17 0) 1 (setF GOV_DOM_STAT_on (2 ^ 17) { State.reset with
    present := slotOneMap, projected := slotOneMap, commit := some releasingCommit
    rot := some { table := 0, st := .running, base := 0, slot := 0, next := 0, nextSlot := 0 }
    loops := [(wKey 17 0, { c := 32767, cfgF := 8 })], sram := [(sramAddr 17 0x404, 1)] }))
/-- The present map that an outcome leaves. -/
def presentAfter : Host.Outcome State Fault Refusal → Option MapSt
  | .next t => some t.present
  | _ => none

/-- The strobe leaves the circuit with its tenant, no longer with the rotation. -/
theorem strobe_passes_circuits :
    presentAfter (exec (.verifyStrobe 0 [] []) cutDitherState) = some (clearByRot slotOneMap) := by decide +kernel

end Sys2Proof.Machine
end

section
open Sys2Proof Sys2Proof.Machine

/-- Refutes O19: the statement lets the severity of source 7 be SAFE. A dither step that the strobe's quick grid pushes and the limits
cut then enters the safe state, and the circuits that a running rotation placed pass to their tenants: the present map changes
before the commit completes. -/
theorem not_commitTimelineFromRoutingToCompletion : ¬ Obligations.CommitTimelineFromRoutingToCompletion := by
  unfold Obligations.CommitTimelineFromRoutingToCompletion
  intro h
  obtain ⟨-, hstrobe, -⟩ := h cutDitherState 0 releasingCommit rfl rfl
  obtain ⟨t, ht, -, hpresent, -⟩ := hstrobe rfl [] []
  have hpassed : some t.present = some (clearByRot slotOneMap) := by
    have := strobe_passes_circuits
    rwa [ht] at this
  rw [hpresent] at hpassed
  exact absurd hpassed (by decide)
end

section
/-! The time bases as the clock holds them (R147, R148): what a base reads after another one is replaced and after time has passed,
the registers that show a time (R152), and updates that touch registers and the clock alone. -/
namespace Sys2Proof.Machine
open Sys2Proof.Config

/-! ### One base of a clock -/

@[simp] theorem tbGet_tbPut_same (c : Clock) (b : Nat) (t : TBase) : tbGet (tbPut c b t) b = t := by
  match b with
  | 0 | 1 | 2 | _ + 3 => rfl
theorem tbGet_tbPut_other (c : Clock) {b k : Nat} (t : TBase) (hk : k < 4) (hb : b < 4) (h : k ≠ b) :
    tbGet (tbPut c b t) k = tbGet c k := by
  interval_cases k <;> interval_cases b <;> simp_all [tbGet, tbPut]
@[simp] theorem tbPut_now (c : Clock) (b : Nat) (t : TBase) : (tbPut c b t).now = c.now := by
  match b with
  | 0 | 1 | 2 | _ + 3 => rfl
@[simp] theorem setTb_clk (b : Nat) (t : TBase) (s : State) : (setTb b t s).clk = tbPut s.clk b t := rfl
@[simp] theorem rd_setTb (b : Nat) (t : TBase) (s : State) (o : Nat) : rd (setTb b t s) o = rd s o := rfl
@[simp] theorem f_setTb (b : Nat) (t : TBase) (s : State) (x : Fld) : f (setTb b t s) x = f s x := rfl
@[simp] theorem tbEnabled_setTb (k : Nat) (t : TBase) (s : State) (b : Nat) : tbEnabled (setTb k t s) b = tbEnabled s b := rfl
@[simp] theorem tbEnabled_elapse (s : State) (dt b : Nat) : tbEnabled (elapse s dt) b = tbEnabled s b := rfl

theorem tbGet_elapse (s : State) (dt : Nat) {b : Nat} (hb : b < 4) :
    tbGet (elapse s dt).clk b = tbAfter s (tbEdges s.clk.now dt) b := by
  interval_cases b <;> rfl
/-- What the passing of time leaves of a base: all but its value and the offset still to be absorbed. -/
theorem tbAfter_eq (s : State) (n b : Nat) :
    tbAfter s n b = { tbGet s.clk b with val := (tbAfter s n b).val, slewRem := (tbAfter s n b).slewRem } := by
  unfold tbAfter; split <;> rfl
theorem tbGet_elapse_eq (s : State) (dt : Nat) {b : Nat} (hb : b < 4) : tbGet (elapse s dt).clk b =
    { tbGet s.clk b with val := (tbGet (elapse s dt).clk b).val, slewRem := (tbGet (elapse s dt).clk b).slewRem } := by
  rw [tbGet_elapse s dt hb]; exact tbAfter_eq s _ b
@[simp] theorem elapseTo_regs (s : State) (t : Nat) : (elapseTo s t).regs = s.regs := rfl
@[simp] theorem toTbEdge_regs (s : State) : (toTbEdge s).regs = s.regs := rfl

/-- Whether a base is enabled stands in its own control register. -/
theorem tbEnabled_rd {s t : State} {b : Nat} (h : rd t (0x40100 + 64 * b) = rd s (0x40100 + 64 * b)) : tbEnabled t b = tbEnabled s b := by
  unfold tbEnabled fb; rw [f_rd (x := TIME_TB_CTRL_enable b) h]
theorem tbNow_congr {s t : State} {b : Nat} (h : rd t (0x40100 + 64 * b) = rd s (0x40100 + 64 * b)) (hv : (tbGet t.clk b).val = (tbGet s.clk b).val) :
    tbNow t b = tbNow s b := by
  unfold tbNow; rw [tbEnabled_rd h, hv]
theorem tbEnabled_pos {s : State} {b : Nat} (h : 1 ≤ b) (hb : b < 4) : tbEnabled s b = fb s (TIME_TB_CTRL_enable b) := by
  unfold tbEnabled
  rw [beq_eq_false_iff_ne.2 (by omega), decide_eq_true hb, Bool.false_or, Bool.true_and]

/-! ### Registers that show a time -/

/-- Four registers hold a time: its fraction of a nanosecond, nanoseconds, and seconds low and high. -/
def TimeFlds (a b c d : Fld) : Prop :=
  (a.lsb = 0 ∧ a.wid = 16) ∧ (b.lsb = 0 ∧ b.wid = 32) ∧ (c.lsb = 0 ∧ c.wid = 32) ∧ (d.lsb = 0 ∧ d.wid = 16) ∧
    [a.off, b.off, c.off, d.off].Nodup
/-- They show a base value. -/
structure ShowsTime (a b c d : Fld) (v : Nat) (t : State) : Prop where
  frac : f t a = tFrac v
  ns : f t b = tNs v
  low : f t c = tSec v % 2 ^ 32
  high : f t d = tSec v / 2 ^ 32
theorem ShowsTime.sec {a b c d : Fld} {v : Nat} {t : State} (h : ShowsTime a b c d v t) : f t c + 2 ^ 32 * f t d = tSec v := by
  rw [h.low, h.high]; exact Nat.mod_add_div _ _
theorem ShowsTime.of_rd {a b c d : Fld} {v : Nat} {s t : State} (h : ShowsTime a b c d v s)
    (hr : ∀ o ∈ [a.off, b.off, c.off, d.off], rd t o = rd s o) : ShowsTime a b c d v t :=
  ⟨(f_rd (hr _ (by simp))).trans h.frac, (f_rd (hr _ (by simp))).trans h.ns, (f_rd (hr _ (by simp))).trans h.low,
    (f_rd (hr _ (by simp))).trans h.high⟩

theorem putTime_shows {a b c d : Fld} (h : TimeFlds a b c d) (v : Nat) (s : State) : ShowsTime a b c d v (putTime a b c d v s) := by
  obtain ⟨⟨ha, wa⟩, ⟨hb, wb⟩, ⟨hc, wc⟩, ⟨hd, wd⟩, hn⟩ := h
  simp only [List.nodup_cons, List.mem_cons, List.not_mem_nil, or_false, not_or, List.nodup_nil] at hn
  obtain ⟨⟨hab, hac, had⟩, ⟨hbc, hbd⟩, hcd, -⟩ := hn
  have hsec : tSec v < 2 ^ 48 := Nat.mod_lt _ (by decide)
  have hns : tNs v < 2 ^ 32 := Nat.lt_trans (Nat.mod_lt _ (by decide)) (by decide : 1000000000 < 2 ^ 32)
  have hfrac : tFrac v < 2 ^ 16 := Nat.mod_lt _ (by decide)
  unfold putTime
  constructor
  · rw [f_setF_off _ _ _ _ had, f_setF_off _ _ _ _ hac, f_setF_off _ _ _ _ hab, f_setF_same _ _ _ (by omega), wa]
    exact Nat.mod_eq_of_lt hfrac
  · rw [f_setF_off _ _ _ _ hbd, f_setF_off _ _ _ _ hbc, f_setF_same _ _ _ (by omega), wb]
    exact Nat.mod_eq_of_lt hns
  · rw [f_setF_off _ _ _ _ hcd, f_setF_same _ _ _ (by omega), wc]
  · rw [f_setF_same _ _ _ (by omega), wd]
    exact Nat.mod_eq_of_lt (by omega)
theorem rd_putTime (a b c d : Fld) (v : Nat) (s : State) {o : Nat} (h : o ∉ [a.off, b.off, c.off, d.off]) :
    rd (putTime a b c d v s) o = rd s o := by
  simp only [List.mem_cons, List.not_mem_nil, or_false, not_or] at h
  obtain ⟨ha, hb, hc, hd⟩ := h
  unfold putTime
  rw [rd_setF_other _ _ _ hd, rd_setF_other _ _ _ hc, rd_setF_other _ _ _ hb, rd_setF_other _ _ _ ha]
theorem putTime_onlyMsix (a b c d : Fld) (v : Nat) (s : State) : OnlyMsix s (putTime a b c d v s) :=
  onlyMsix_setF _ _ (onlyMsix_setF _ _ (onlyMsix_setF _ _ (onlyMsix_setF _ _ (onlyMsix_refl s))))

/-! ### Updates of registers and the clock -/

/-- Registers, the clock and the messages of the vectors alone differ. -/
def OnlyTime (s t : State) : Prop := ∃ r m d h c, t = { s with regs := r, msix := m, msixDue := d, hwSet := h, clk := c }

namespace OnlyTime
variable {s t u : State}
protected theorem refl (s : State) : OnlyTime s s := ⟨_, _, _, _, _, rfl⟩
protected theorem trans (h : OnlyTime s t) (k : OnlyTime t u) : OnlyTime s u := by
  obtain ⟨r, m, d, x, c, rfl⟩ := h
  obtain ⟨r', m', d', x', c', rfl⟩ := k
  exact ⟨r', m', d', x', c', rfl⟩
theorem of_onlyMsix (h : OnlyMsix s t) : OnlyTime s t := by
  obtain ⟨r, m, d, x, rfl⟩ := h; exact ⟨r, m, d, x, _, rfl⟩
theorem elapse (h : OnlyTime s t) (n : Nat) : OnlyTime s (elapse t n) := h.trans ⟨_, _, _, _, _, rfl⟩
theorem toTbEdge (h : OnlyTime s t) : OnlyTime s (toTbEdge t) := h.elapse _
theorem setF (x : Fld) (v : Nat) (h : OnlyTime s t) : OnlyTime s (setF x v t) := h.trans ⟨_, _, _, _, _, rfl⟩
theorem setRaw (o : Nat) (w : Word) (h : OnlyTime s t) : OnlyTime s (setRaw t o w) := h.trans ⟨_, _, _, _, _, rfl⟩
theorem setTb (b : Nat) (x : TBase) (h : OnlyTime s t) : OnlyTime s (setTb b x t) := h.trans ⟨_, _, _, _, _, rfl⟩
theorem putTime (a b c d : Fld) (v : Nat) (h : OnlyTime s t) : OnlyTime s (putTime a b c d v t) :=
  h.trans (of_onlyMsix (putTime_onlyMsix a b c d v t))
theorem settle (s0 : State) (h : OnlyTime s t) : OnlyTime s (settle s0 t) := h.trans (of_onlyMsix (settle_eq s0 t))
theorem ite {p : Prop} [Decidable p] (h : OnlyTime s t) (k : OnlyTime s u) : OnlyTime s (if p then t else u) := by
  split
  · exact h
  · exact k
theorem mem (h : OnlyTime s t) : MemKept s t := by obtain ⟨r, m, d, x, c, rfl⟩ := h; rfl
theorem eq (h : OnlyTime s t) : t = { s with regs := t.regs, hwSet := t.hwSet, msix := t.msix, msixDue := t.msixDue, clk := t.clk } := by
  obtain ⟨r, m, d, x, c, rfl⟩ := h; rfl
end OnlyTime

/-- The registers of TIME stand in the always-on domain (Table 1-10). -/
theorem blockOn_time (s : State) {o : Nat} (h : 0x40000 ≤ o ∧ o < 0x50000) : blockOn s o = true := by
  have hw : offWin o = none := by unfold offWin; exact if_neg (by omega)
  have hd : o / 0x10000 = 4 := by omega
  simp only [blockOn, blockDomain, hw, hd]

section
variable {c : Instr} {s : State} {dt o : Nat} {g : State → State} {P : State → Prop}
/-- A command of SUP on a register of TIME. -/
theorem completes_time (he : exec c s = run s dt (regCmd 0 o g)) (hpor : s.porOn = false) (hm : masterLive s 0 = true)
    (ho : 0x40000 ≤ o ∧ o < 0x50000) (h : P (settle s (g (elapse s dt)))) : Completes c s P := by
  refine completes_run he hpor ?_
  rw [regCmd_gov dt hm g (blockOn_time s ho)]
  exact h
end

end Sys2Proof.Machine
end

section
/-! Enabling and disabling a base, its snapshot and its frequency (R148 to R152, R157, R160). -/
namespace Sys2Proof.Machine
open Sys2Proof.Config

/-! ### TIME_TB_CTRL -/

/-- The end of a write of TIME_TB_CTRL: the base is watched anew where its source changed, and is FREE without one. -/
def sourced (b old : Nat) (s : State) : State :=
  let s3 := if tbSource s b = old then s else setTb b { tbGet s.clk b with servoAt := s.clk.now, ppsAt := s.clk.now } s
  if tbSource s3 b = 0 then tbFree b s3 else s3
/-- A write of TIME_TB_CTRL stores the value and enables or disables the base. -/
def ctrlStored (b v : Nat) (s : State) : State :=
  let s1 := setRaw s (TIME_TB_CTRL_enable b).off (BitVec.ofNat 32 (v % 2 ^ 24))
  if v % 2 = 1 then (if tbEnabled s b then s1 else tbEnable b s1) else if tbEnabled s b then tbDisable b s1 else s1
theorem tbCtrlApply_eq (b v : Nat) (s : State) : tbCtrlApply b v s = sourced b (tbSource s b) (ctrlStored b v s) := rfl

theorem leaveHold_onlyTime (b : Nat) (s : State) : OnlyTime s (leaveHold b s) := .ite (.setTb b _ (.refl s)) (.refl s)
theorem leaveHold_regs (b : Nat) (s : State) : (leaveHold b s).regs = s.regs := by unfold leaveHold; simp only; split <;> rfl
/-- Leaving HOLDOVER changes nothing of the base but the instant noted. -/
theorem tbGet_leaveHold (b : Nat) (s : State) : tbGet (leaveHold b s).clk b = { tbGet s.clk b with holdEnd := (tbGet (leaveHold b s).clk b).holdEnd } := by
  unfold leaveHold; simp only; split
  · rw [setTb_clk, tbGet_tbPut_same]
  · rfl
theorem tbFree_onlyTime (b : Nat) (s : State) : OnlyTime s (tbFree b s) := .setTb b _ (leaveHold_onlyTime b s)
theorem tbFree_regs (b : Nat) (s : State) : (tbFree b s).regs = s.regs := leaveHold_regs b s
theorem tbGet_tbFree (b : Nat) (s : State) : tbGet (tbFree b s).clk b =
    { tbGet s.clk b with st := .free, holdEnd := (tbGet (leaveHold b s).clk b).holdEnd } := by
  unfold tbFree; rw [setTb_clk, tbGet_tbPut_same, tbGet_leaveHold]

theorem sourced_onlyTime (b old : Nat) (s : State) : OnlyTime s (sourced b old s) := by
  unfold sourced
  have h : OnlyTime s (if tbSource s b = old then s else setTb b { tbGet s.clk b with servoAt := s.clk.now, ppsAt := s.clk.now } s) :=
    .ite (.refl s) (.setTb b _ (.refl s))
  exact .ite (h.trans (tbFree_onlyTime b _)) h
theorem sourced_regs (b old : Nat) (s : State) : (sourced b old s).regs = s.regs := by
  unfold sourced; simp only
  generalize hs : (if tbSource s b = old then s else setTb b { tbGet s.clk b with servoAt := s.clk.now, ppsAt := s.clk.now } s) = s3
  have h : s3.regs = s.regs := by rw [← hs]; split <;> rfl
  split
  · exact (tbFree_regs b s3).trans h
  · exact h
/-- It keeps the base's value, and a FREE base FREE. -/
theorem sourced_base (b old : Nat) (s : State) : (tbGet (sourced b old s).clk b).val = (tbGet s.clk b).val ∧
    ((tbGet s.clk b).st = .free → (tbGet (sourced b old s).clk b).st = .free) := by
  unfold sourced; simp only
  generalize hs : (if tbSource s b = old then s else setTb b { tbGet s.clk b with servoAt := s.clk.now, ppsAt := s.clk.now } s) = s3
  have h : (tbGet s3.clk b).val = (tbGet s.clk b).val ∧ (tbGet s3.clk b).st = (tbGet s.clk b).st := by
    rw [← hs]; split
    · exact ⟨rfl, rfl⟩
    · rw [setTb_clk, tbGet_tbPut_same]; exact ⟨rfl, rfl⟩
  split
  · rw [tbGet_tbFree]; exact ⟨h.1, fun _ => rfl⟩
  · exact ⟨h.1, fun e => h.2.trans e⟩

theorem tbEnable_onlyTime (b : Nat) (s : State) : OnlyTime s (tbEnable b s) :=
  .setF _ _ (.setF _ _ (.setTb b _ (leaveHold_onlyTime b s)))
theorem tbDisable_onlyTime (b : Nat) (s : State) : OnlyTime s (tbDisable b s) :=
  .setF _ _ (.putTime _ _ _ _ _ (.setTb b _ (.refl s)))
theorem ctrlStored_onlyTime (b v : Nat) (s : State) : OnlyTime s (ctrlStored b v s) := by
  have h : OnlyTime s (setRaw s (TIME_TB_CTRL_enable b).off (BitVec.ofNat 32 (v % 2 ^ 24))) := .setRaw _ _ (.refl s)
  exact .ite (.ite h (h.trans (tbEnable_onlyTime b _))) (.ite (h.trans (tbDisable_onlyTime b _)) h)
theorem tbCtrlApply_onlyTime (b v : Nat) (s : State) : OnlyTime s (tbCtrlApply b v s) := by
  rw [tbCtrlApply_eq]; exact (ctrlStored_onlyTime b v s).trans (sourced_onlyTime b _ _)

section
variable {b : Nat} (hb : 1 ≤ b) (hb4 : b < 4)

theorem snapFlds (b : Nat) : TimeFlds (TIME_TB_SNAP_F_frac_ns b) (TIME_TB_SNAP_NS_ns b) (TIME_TB_SNAP_SL_sec_low b) (TIME_TB_SNAP_SH_sec_high b) := by
  refine ⟨⟨rfl, rfl⟩, ⟨rfl, rfl⟩, ⟨rfl, rfl⟩, ⟨rfl, rfl⟩, ?_⟩
  simp only [TIME_TB_SNAP_F_frac_ns, TIME_TB_SNAP_NS_ns, TIME_TB_SNAP_SL_sec_low, TIME_TB_SNAP_SH_sec_high, List.nodup_cons,
    List.mem_cons, List.not_mem_nil, or_false, not_or, not_false_eq_true, List.nodup_nil, and_true]
  omega

theorem rd_tbEnable {o : Nat} (h1 : o ≠ (CMT_TICK_PHASE_valid b).off) (h2 : o ≠ (TIME_TB_FREQ_freq b).off) (s : State) :
    rd (tbEnable b s) o = rd s o := by
  unfold tbEnable
  rw [rd_setF_other _ _ _ h1, rd_setF_other _ _ _ h2, rd_setTb, rd_congr (leaveHold_regs b s)]
theorem rd_tbDisable {o : Nat} (h1 : o ≠ (CMT_TICK_PHASE_valid b).off)
    (h2 : o ∉ [(TIME_TB_SNAP_F_frac_ns b).off, (TIME_TB_SNAP_NS_ns b).off, (TIME_TB_SNAP_SL_sec_low b).off, (TIME_TB_SNAP_SH_sec_high b).off])
    (s : State) : rd (tbDisable b s) o = rd s o := by
  unfold tbDisable
  rw [rd_setF_other _ _ _ h1, rd_putTime _ _ _ _ _ _ h2, rd_setTb]
theorem rd_ctrlStored (b v : Nat) (s : State) : rd (ctrlStored b v s) (0x40100 + 64 * b) = BitVec.ofNat 32 (v % 2 ^ 24) := by
  have h1 : 0x40100 + 64 * b ≠ (CMT_TICK_PHASE_valid b).off := by simp only [CMT_TICK_PHASE_valid]; omega
  have h2 : 0x40100 + 64 * b ≠ (TIME_TB_FREQ_freq b).off := by simp only [TIME_TB_FREQ_freq]; omega
  have h3 : 0x40100 + 64 * b ∉ [(TIME_TB_SNAP_F_frac_ns b).off, (TIME_TB_SNAP_NS_ns b).off, (TIME_TB_SNAP_SL_sec_low b).off,
      (TIME_TB_SNAP_SH_sec_high b).off] := by
    simp only [TIME_TB_SNAP_F_frac_ns, TIME_TB_SNAP_NS_ns, TIME_TB_SNAP_SL_sec_low, TIME_TB_SNAP_SH_sec_high, List.mem_cons,
      List.not_mem_nil, or_false]
    omega
  have hs : rd (setRaw s (TIME_TB_CTRL_enable b).off (BitVec.ofNat 32 (v % 2 ^ 24))) (0x40100 + 64 * b) = BitVec.ofNat 32 (v % 2 ^ 24) :=
    rd_setRaw_same s _ _
  unfold ctrlStored; simp only
  repeat' split
  · exact hs
  · rw [rd_tbEnable h1 h2]; exact hs
  · rw [rd_tbDisable h1 h3]; exact hs
  · exact hs

/-- After a write of TIME_TB_CTRL that is carried out the register holds the value written. -/
theorem tbCtrlApply_fields (v : Nat) (s : State) : f (tbCtrlApply b v s) (TIME_TB_CTRL_enable b) = v % 2 ∧
    f (tbCtrlApply b v s) (TIME_TB_CTRL_source b) = v / 2 % 4 := by
  have hrd : rd (tbCtrlApply b v s) (0x40100 + 64 * b) = BitVec.ofNat 32 (v % 2 ^ 24) :=
    (rd_congr (sourced_regs b _ _) _).trans (rd_ctrlStored b v s)
  have hv : (BitVec.ofNat 32 (v % 2 ^ 24)).toNat = v % 2 ^ 24 := by rw [BitVec.toNat_ofNat]; omega
  constructor
  · change fldOf (rd (tbCtrlApply b v s) (0x40100 + 64 * b)) _ = _
    rw [hrd]; simp only [fldOf, hv, TIME_TB_CTRL_enable]; omega
  · change fldOf (rd (tbCtrlApply b v s) (0x40100 + 64 * b)) _ = _
    rw [hrd]; simp only [fldOf, hv, TIME_TB_CTRL_source]; omega
/-- A base that is disabled shows zero (R150). -/
theorem tbCtrlApply_disables {v : Nat} {s : State} (hon : tbEnabled s b = true) (hv : v % 2 = 0) :
    ShowsTime (TIME_TB_SNAP_F_frac_ns b) (TIME_TB_SNAP_NS_ns b) (TIME_TB_SNAP_SL_sec_low b) (TIME_TB_SNAP_SH_sec_high b) 0 (tbCtrlApply b v s) := by
  have hstored : ctrlStored b v s = tbDisable b (setRaw s (TIME_TB_CTRL_enable b).off (BitVec.ofNat 32 (v % 2 ^ 24))) := by
    unfold ctrlStored; rw [hv, hon]; rfl
  rw [tbCtrlApply_eq, hstored]
  generalize setRaw s (TIME_TB_CTRL_enable b).off (BitVec.ofNat 32 (v % 2 ^ 24)) = s1
  refine (putTime_shows (snapFlds b) 0 (setTb b { tbGet s1.clk b with slewRem := 0 } s1)).of_rd fun o ho => ?_
  rw [rd_congr (sourced_regs b _ _), tbDisable, rd_setF_other]
  simp only [TIME_TB_SNAP_F_frac_ns, TIME_TB_SNAP_NS_ns, TIME_TB_SNAP_SL_sec_low, TIME_TB_SNAP_SH_sec_high, List.mem_cons,
    List.not_mem_nil, or_false] at ho
  simp only [CMT_TICK_PHASE_valid]
  omega

include hb hb4
theorem tbCtrlApply_enabled (v : Nat) (s : State) : tbEnabled (tbCtrlApply b v s) b = decide (v % 2 = 1) := by
  rw [tbEnabled_pos hb hb4]
  unfold fb
  rw [(tbCtrlApply_fields v s).1]
  exact decide_eq_decide.2 (by omega)

/-- A base that is enabled shows TB0's value, counts at frequency 0 and is FREE (R150). -/
theorem tbCtrlApply_enables {v : Nat} {s : State} (hoff : tbEnabled s b = false) (hv : v % 2 = 1) :
    (tbGet (tbCtrlApply b v s).clk b).val = (tbGet s.clk 0).val ∧ (tbGet (tbCtrlApply b v s).clk b).st = .free ∧
      f (tbCtrlApply b v s) (TIME_TB_FREQ_freq b) = 0 := by
  have hstored : ctrlStored b v s = tbEnable b (setRaw s (TIME_TB_CTRL_enable b).off (BitVec.ofNat 32 (v % 2 ^ 24))) := by
    unfold ctrlStored; rw [hv, hoff]; rfl
  rw [tbCtrlApply_eq, hstored]
  generalize hs1 : setRaw s (TIME_TB_CTRL_enable b).off (BitVec.ofNat 32 (v % 2 ^ 24)) = s1
  have hclk : s1.clk = s.clk := by rw [← hs1]; rfl
  obtain ⟨hval, hst⟩ := sourced_base b (tbSource s b) (tbEnable b s1)
  have hbase : (tbGet (tbEnable b s1).clk b).val = (tbGet s.clk 0).val ∧ (tbGet (tbEnable b s1).clk b).st = .free := by
    unfold tbEnable
    simp only [setF_clk, setTb_clk, tbGet_tbPut_same, hclk]
    exact ⟨trivial, trivial⟩
  refine ⟨hval.trans hbase.1, hst hbase.2, ?_⟩
  rw [f_congr (sourced_regs b _ _)]
  unfold tbEnable
  rw [f_setF_off _ _ _ _ (by simp only [TIME_TB_FREQ_freq, CMT_TICK_PHASE_valid]; omega)]
  exact f_setF_same _ (TIME_TB_FREQ_freq b) _ (Nat.le_of_ble_eq_true rfl)

/-! ### The commands -/

variable {s : State} (dt : Nat) (hpor : s.porOn = false) (hm : masterLive s 0 = true)
include hpor hm

theorem tbCtrlWrite_enables {v : Nat} (hoff : tbEnabled s b = false) (hv : v % 2 = 1) (hclash : ctrlClash s b v = false) :
    Completes (.tbCtrlWrite dt 0 b v) s fun t =>
      tbEnabled t b = true ∧ tbNow t b = tbNow (toTbEdge (elapse s dt)) 0 ∧ (tbGet t.clk b).st = .free ∧
      f t (TIME_TB_FREQ_freq b) = 0 ∧ f t (TIME_TB_CTRL_source b) = v / 2 % 4 ∧ MemKept s t := by
  refine completes_time rfl hpor hm (by simp only [TIME_TB_CTRL_enable]; omega) ?_
  have hwrite : tbCtrlWrite b v (elapse s dt) = tbCtrlApply b v (toTbEdge (elapse s dt)) := by
    have hoff' : tbEnabled (toTbEdge (elapse s dt)) b = false := hoff
    have hclash' : ctrlClash (toTbEdge (elapse s dt)) b v = false := hclash
    unfold tbCtrlWrite
    rw [if_neg (by omega)]
    simp only [hoff', hclash', Bool.false_and, Bool.or_self, Bool.false_eq_true, if_false]
  rw [hwrite]
  have hoff' : tbEnabled (toTbEdge (elapse s dt)) b = false := hoff
  have hmem : MemKept s (toTbEdge (elapse s dt)) := rfl
  generalize toTbEdge (elapse s dt) = u at hoff' hmem ⊢
  obtain ⟨hval, hst, hfreq⟩ := tbCtrlApply_enables hb hb4 hoff' hv
  have hen : tbEnabled (settle s (tbCtrlApply b v u)) b = true := by
    rw [tbEnabled_rd (rd_settle s _ (by simp only [DMA_MSIX_PEND_pending]; omega)), tbCtrlApply_enabled hb hb4, hv]; rfl
  refine ⟨hen, ?_, ?_, ?_, ?_, ((tbCtrlApply_onlyTime b v u).settle s).mem.trans hmem⟩
  · unfold tbNow
    rw [hen, if_pos rfl, if_pos (show tbEnabled u 0 = true from rfl), settle_clk, hval]
  · rw [settle_clk, hst]
  · rw [f_settle _ _ (by simp only [TIME_TB_FREQ_freq, DMA_MSIX_PEND_pending]; omega), hfreq]
  · rw [f_settle _ _ (by simp only [TIME_TB_CTRL_source, DMA_MSIX_PEND_pending]; omega), (tbCtrlApply_fields v u).2]

theorem tbCtrlWrite_disables {v : Nat} (hon : tbEnabled s b = true) (hv : v % 2 = 0) :
    Completes (.tbCtrlWrite dt 0 b v) s fun t =>
      tbEnabled t b = baseNamed s b ∧
      (baseNamed s b = false → f t (TIME_TB_SNAP_NS_ns b) = 0 ∧ f t (TIME_TB_SNAP_SL_sec_low b) = 0) := by
  refine completes_time rfl hpor hm (by simp only [TIME_TB_CTRL_enable]; omega) ?_
  have hclash : ctrlClash (toTbEdge (elapse s dt)) b v = false := by unfold ctrlClash; rw [hv]; rfl
  have hon' : tbEnabled (toTbEdge (elapse s dt)) b = true := hon
  have hwrite : tbCtrlWrite b v (elapse s dt) =
      if baseNamed s b then toTbEdge (elapse s dt) else tbCtrlApply b v (toTbEdge (elapse s dt)) := by
    unfold tbCtrlWrite
    rw [if_neg (by omega)]
    simp only [hon', hclash, hv, Bool.true_and, beq_self_eq_true, Bool.or_false]
    rfl
  have hoff : 0x40100 + 64 * b ≠ DMA_MSIX_PEND_pending.off := by simp only [DMA_MSIX_PEND_pending]; omega
  rw [hwrite]
  cases hnamed : baseNamed s b with
  | true => exact ⟨(tbEnabled_rd (rd_settle s _ hoff)).trans hon', fun e => Bool.noConfusion e⟩
  | false =>
    have hshow := tbCtrlApply_disables hon' hv
    refine ⟨?_, fun _ => ⟨?_, ?_⟩⟩
    · refine (tbEnabled_rd (rd_settle s _ hoff)).trans ?_
      rw [if_neg (by decide), tbCtrlApply_enabled hb hb4, hv]; rfl
    · rw [f_settle _ _ (by simp only [TIME_TB_SNAP_NS_ns, DMA_MSIX_PEND_pending]; omega), if_neg (by decide), hshow.ns]; rfl
    · rw [f_settle _ _ (by simp only [TIME_TB_SNAP_SL_sec_low, DMA_MSIX_PEND_pending]; omega), if_neg (by decide), hshow.low]; rfl

theorem tbFreqWrite_writes {v : Nat} (hv : v < 2 ^ 32) : Completes (.tbFreqWrite dt 0 b v) s fun t =>
    if (tbGet s.clk b).st = .holdover then OnlyRegs s dt t ∧ RegsKept [] s t
    else f t (TIME_TB_FREQ_freq b) = v ∧ RegsKept [(TIME_TB_FREQ_freq b).off] s t ∧
      t = { elapse s dt with regs := t.regs, hwSet := t.hwSet, msix := t.msix, msixDue := t.msixDue, clk := t.clk } ∧
      (tbGet t.clk b).servoAt = s.clk.now + dt := by
  refine completes_time rfl hpor hm (by simp only [TIME_TB_FREQ_freq]; omega) ?_
  have hst : (tbGet (elapse s dt).clk b).st = (tbGet s.clk b).st := by rw [tbGet_elapse_eq s dt hb4]
  unfold tbFreqWrite inHold
  rw [hst]
  split
  next h =>
    rw [if_pos (.inr (by rw [h]; rfl))]
    exact ⟨onlyRegs_settle s (onlyRegs_elapse s dt), regsKept_settle s (regsKept_elapse [] s dt)⟩
  next h =>
    rw [if_neg (by simp only [beq_iff_eq, h, or_false]; omega)]
    refine ⟨?_, ?_, ?_, ?_⟩
    · rw [f_settle _ _ (by simp only [TIME_TB_FREQ_freq, DMA_MSIX_PEND_pending]; omega), f_setTb,
        f_setF_same _ _ _ (Nat.le_of_ble_eq_true rfl)]
      exact Nat.mod_eq_of_lt hv
    · exact regsKept_settle s (regsKept_congr (regsKept_setF v (regsKept_elapse [(TIME_TB_FREQ_freq b).off] s dt) (List.mem_singleton.2 rfl)) rfl)
    · exact (((OnlyTime.refl _).setF _ _).setTb b _ |>.settle s).eq
    · rw [settle_clk, setTb_clk, tbGet_tbPut_same]; rfl
end

/-! ### The snapshot -/

/-- One base's value in its snapshot registers. -/
def snapOne (b : Nat) (s : State) : State :=
  putTime (TIME_TB_SNAP_F_frac_ns b) (TIME_TB_SNAP_NS_ns b) (TIME_TB_SNAP_SL_sec_low b) (TIME_TB_SNAP_SH_sec_high b) (tbNow s b) s
theorem tbSnap_eq (s : State) : tbSnap s = forEach [0, 1, 2, 3] snapOne (toTbEdge s) := rfl
theorem mem_snapOffs {b o : Nat} (h : o ∈ [(TIME_TB_SNAP_F_frac_ns b).off, (TIME_TB_SNAP_NS_ns b).off, (TIME_TB_SNAP_SL_sec_low b).off,
    (TIME_TB_SNAP_SH_sec_high b).off]) : 0x40124 + 64 * b ≤ o ∧ o ≤ 0x40130 + 64 * b := by
  simp only [TIME_TB_SNAP_F_frac_ns, TIME_TB_SNAP_NS_ns, TIME_TB_SNAP_SL_sec_low, TIME_TB_SNAP_SH_sec_high, List.mem_cons,
    List.not_mem_nil, or_false] at h
  omega
theorem rd_snapOne {b o : Nat} (h : o < 0x40124 + 64 * b ∨ 0x40130 + 64 * b < o) (s : State) : rd (snapOne b s) o = rd s o :=
  rd_putTime _ _ _ _ _ _ fun ho => by have := mem_snapOffs ho; omega
theorem tbNow_snapOne (b k : Nat) (s : State) : tbNow (snapOne b s) k = tbNow s k :=
  tbNow_congr (rd_snapOne (by omega) s) rfl

theorem snaps_onlyMsix (l : List Nat) (s : State) : OnlyMsix s (forEach l snapOne s) :=
  onlyMsix_forEach _ (fun _ _ => putTime_onlyMsix _ _ _ _ _ _) l s
/-- Each base of a list shows what it stood at before the list was copied. -/
theorem snaps_show {k : Nat} {l : List Nat} (h : k ∈ l) (s : State) :
    ShowsTime (TIME_TB_SNAP_F_frac_ns k) (TIME_TB_SNAP_NS_ns k) (TIME_TB_SNAP_SL_sec_low k) (TIME_TB_SNAP_SH_sec_high k) (tbNow s k)
      (forEach l snapOne s) := by
  induction l generalizing s with
  | nil => exact absurd h List.not_mem_nil
  | cons a l ih =>
    rw [forEach_cons]
    by_cases hl : k ∈ l
    · rw [← tbNow_snapOne a k s]; exact ih hl _
    · obtain rfl : k = a := (List.mem_cons.1 h).resolve_right hl
      refine (putTime_shows (snapFlds k) (tbNow s k) s).of_rd fun o ho => ?_
      have hrange := mem_snapOffs ho
      refine forEach_same (fun t => rd t o) snapOne l (fun c hc t => rd_snapOne ?_ t) (snapOne k s)
      have hne : c ≠ k := fun e => hl (e ▸ hc)
      omega

section
variable {s : State} (dt : Nat) (hpor : s.porOn = false) (hm : masterLive s 0 = true)
include hpor hm

/-- TB0 is always enabled: writes of its control register are ignored (R149). -/
theorem tbCtrlWrite_tb0 (v : Nat) : Completes (.tbCtrlWrite dt 0 0 v) s fun t => OnlyRegs s dt t ∧ RegsKept [] s t := by
  refine completes_time rfl hpor hm (by decide) ?_
  rw [tbCtrlWrite, if_pos (.inl rfl)]
  exact ⟨onlyRegs_settle s (onlyRegs_elapse s dt), regsKept_settle s (regsKept_elapse [] s dt)⟩

theorem tbSnap_copies : Completes (.tbSnap dt 0) s fun t =>
    let u := toTbEdge (elapse s dt)
    t = { u with regs := t.regs, hwSet := t.hwSet, msix := t.msix, msixDue := t.msixDue } ∧
    ∀ k < 4, f t (TIME_TB_SNAP_F_frac_ns k) = tFrac (tbNow u k) ∧ f t (TIME_TB_SNAP_NS_ns k) = tNs (tbNow u k) ∧
      f t (TIME_TB_SNAP_SL_sec_low k) + 2 ^ 32 * f t (TIME_TB_SNAP_SH_sec_high k) = tSec (tbNow u k) := by
  refine completes_time rfl hpor hm (by decide) ?_
  rw [tbSnap_eq]
  intro u
  refine ⟨?_, fun k hk => ?_⟩
  · obtain ⟨r, m, d, x, e⟩ := onlyMsix_settle s (snaps_onlyMsix [0, 1, 2, 3] u)
    rw [e]
  · have hshow := (snaps_show (k := k) (l := [0, 1, 2, 3]) (by simp only [List.mem_cons, List.not_mem_nil, or_false]; omega) u).of_rd
      (t := settle s (forEach [0, 1, 2, 3] snapOne u)) fun o ho => rd_settle s _ (by
        have := mem_snapOffs ho; simp only [DMA_MSIX_PEND_pending]; omega)
    exact ⟨hshow.frac, hshow.ns, hshow.sec⟩
end

end Sys2Proof.Machine

open Sys2Proof Sys2Proof.Machine Sys2Proof.Config

/-- Settles O21: a write of TIME_TB_CTRL that is carried out stores its value and then enables or disables the base, and each snapshot
leaves the bases and the registers of the others alone. -/
theorem timeBasesEnableSnapAndFrequency : Obligations.TimeBasesEnableSnapAndFrequency := by
  unfold Obligations.TimeBasesEnableSnapAndFrequency
  intro s dt b hpor hm hb hb4 u
  refine ⟨fun v hoff hv hclash => ?_, fun v hon hv => ?_, fun v => ?_, ?_, fun v hv => ?_⟩
  · exact tbCtrlWrite_enables hb hb4 dt hpor hm hoff hv hclash
  · exact tbCtrlWrite_disables hb hb4 dt hpor hm hon hv
  · exact tbCtrlWrite_tb0 dt hpor hm v
  · exact tbSnap_copies dt hpor hm
  · exact tbFreqWrite_writes hb hb4 dt hpor hm hv
end

section
/-! Offsets: a step of a base, a slew, and the end of a slew (R153, R157, R159). -/
namespace Sys2Proof.Machine
open Sys2Proof.Config

/-! ### Bases that count alike -/

theorem tbAdvance_congr (fw : Int) (ppm n : Nat) {x y : TBase} (hv : x.val = y.val) (hr : x.slewRem = y.slewRem) :
    (tbAdvance fw ppm n x).val = (tbAdvance fw ppm n y).val := by
  unfold tbAdvance; simp only [hv, hr]
/-- Where a base's value, its offset to be absorbed and its registers agree, it shows the same after the same time. -/
theorem elapse_val_congr {s t : State} {b : Nat} (hb : b < 4) (hnow : t.clk.now = s.clk.now)
    (hregs : ∀ o ∈ [0x40100 + 64 * b, 0x40108 + 64 * b, 0x40114 + 64 * b], rd t o = rd s o)
    (hv : (tbGet t.clk b).val = (tbGet s.clk b).val) (hr : (tbGet t.clk b).slewRem = (tbGet s.clk b).slewRem) (dt : Nat) :
    (tbGet (elapse t dt).clk b).val = (tbGet (elapse s dt).clk b).val := by
  have hen : tbEnabled t b = tbEnabled s b := tbEnabled_rd (hregs _ (by simp))
  have hfreq : fInt t (TIME_TB_FREQ_freq b) = fInt s (TIME_TB_FREQ_freq b) := by
    unfold fInt; rw [f_rd (x := TIME_TB_FREQ_freq b) (hregs _ (by simp [TIME_TB_FREQ_freq]))]
  have hslew : f t (TIME_TB_SLEW_slew_ppm b) = f s (TIME_TB_SLEW_slew_ppm b) := f_rd (hregs _ (by simp [TIME_TB_SLEW_slew_ppm]))
  rw [tbGet_elapse t dt hb, tbGet_elapse s dt hb, hnow]
  unfold tbAfter tbFreq
  rw [hen, hfreq, hslew]
  split
  · exact tbAdvance_congr _ _ _ hv hr
  · exact hv
theorem toTbEdge_val_congr {s t : State} {b : Nat} (hb : b < 4) (hnow : t.clk.now = s.clk.now)
    (hregs : ∀ o ∈ [0x40100 + 64 * b, 0x40108 + 64 * b, 0x40114 + 64 * b], rd t o = rd s o)
    (hv : (tbGet t.clk b).val = (tbGet s.clk b).val) (hr : (tbGet t.clk b).slewRem = (tbGet s.clk b).slewRem) :
    (tbGet (toTbEdge t).clk b).val = (tbGet (toTbEdge s).clk b).val := by
  unfold toTbEdge elapseTo
  rw [hnow]
  exact elapse_val_congr hb hnow hregs hv hr _

/-! ### A write of TIME_TB_ADJ_CMD -/

/-- The offset written stands in the register, and the write counts for the servo watchdog (R155). -/
def adjNoted (b v : Nat) (s : State) : State :=
  setF (TIME_TB_ADJ_CMD_mode b) (v / 65536) (setF (TIME_TB_ADJ_CMD_offset_frac b) v (setTb b { tbGet s.clk b with servoAt := s.clk.now } s))
theorem rd_adjNoted (b v : Nat) {o : Nat} (h : o ≠ 0x40110 + 64 * b) (s : State) : rd (adjNoted b v s) o = rd s o :=
  (rd_setF_other _ (TIME_TB_ADJ_CMD_mode b) _ h).trans ((rd_setF_other _ (TIME_TB_ADJ_CMD_offset_frac b) _ h).trans (rd_setTb _ _ _ _))
theorem adjNoted_onlyTime (b v : Nat) (s : State) : OnlyTime s (adjNoted b v s) := .setF _ _ (.setF _ _ (.setTb b _ (.refl s)))
theorem adjNoted_clk (b v : Nat) (s : State) : (adjNoted b v s).clk = tbPut s.clk b { tbGet s.clk b with servoAt := s.clk.now } := rfl
theorem adjNoted_kept (b v : Nat) (s : State) : RegsKept [(TIME_TB_ADJ_CMD_go b).off] s (adjNoted b v s) :=
  fun _ ho _ => rd_adjNoted b v (fun e => ho (List.mem_singleton.2 e)) s
/-- The bases count on as they would have without the write. -/
theorem toTbEdge_adjNoted_val {b k : Nat} (hb : b < 4) (hk : k < 4) (v : Nat) (s : State) :
    (tbGet (toTbEdge (adjNoted b v s)).clk k).val = (tbGet (toTbEdge s).clk k).val := by
  have hbase : (tbGet (adjNoted b v s).clk k).val = (tbGet s.clk k).val ∧ (tbGet (adjNoted b v s).clk k).slewRem = (tbGet s.clk k).slewRem := by
    rw [adjNoted_clk]
    by_cases h : k = b
    · subst h; rw [tbGet_tbPut_same]; exact ⟨rfl, rfl⟩
    · rw [tbGet_tbPut_other _ _ hk hb h]; exact ⟨rfl, rfl⟩
  refine toTbEdge_val_congr hk (by rw [adjNoted_clk, tbPut_now]) (fun o ho => rd_adjNoted b v ?_ s) hbase.1 hbase.2
  simp only [List.mem_cons, List.not_mem_nil, or_false] at ho
  omega

theorem fInt_elapse (s : State) (dt : Nat) (x : Fld) : fInt (elapse s dt) x = fInt s x := rfl
theorem adjOffset_rd {s t : State} {b : Nat} (h : rd t (0x4010c + 64 * b) = rd s (0x4010c + 64 * b)) (frac : Nat) :
    adjOffset t b frac = adjOffset s b frac := by
  unfold adjOffset fInt; rw [f_rd (x := TIME_TB_ADJ_offset_ns b) h]
theorem adjOffset_mod (s : State) (b : Nat) {v frac : Nat} (h : v % 65536 = frac % 65536) : adjOffset s b v = adjOffset s b frac := by
  unfold adjOffset; rw [h]
theorem adjOffset_of_lt (s : State) (b : Nat) {frac : Nat} (h : frac < 65536) :
    adjOffset s b frac = fInt s (TIME_TB_ADJ_offset_ns b) * 2 ^ 40 + (frac : Int) * 2 ^ 24 := by
  unfold adjOffset nsUnit
  rw [Nat.mod_eq_of_lt h]
  push_cast; rfl

section
variable {s : State} {b v frac : Nat} (hb : 1 ≤ b) (hb4 : b < 4) (hon : tbEnabled s b = true) (hhold : (tbGet s.clk b).st ≠ .holdover)
  (hgo : v / 2 ^ 31 % 2 = 1) (hfrac : v % 65536 = frac % 65536)
include hb hhold

theorem not_adjIgnored : ¬ (b = 0 ∨ inHold s b = true) := by
  unfold inHold; simp only [beq_iff_eq, hhold, or_false]; omega
include hon hgo hfrac
/-- A step request where steps are allowed moves the base at the next CK_TB edge. -/
theorem tbAdjCmd_steps (hmode : v / 65536 % 2 = 1) (hstep : fb s (TIME_TB_CTRL_allow_step b) = true) :
    tbAdjCmd b v s = tbStep b (adjOffset s b frac) (toTbEdge (adjNoted b v s)) := by
  have hoff : adjOffset (adjNoted b v s) b v = adjOffset s b frac :=
    (adjOffset_rd (rd_adjNoted b v (by omega) s) v).trans (adjOffset_mod s b hfrac)
  have hon' : tbEnabled (adjNoted b v s) b = true := (tbEnabled_rd (rd_adjNoted b v (by omega) s)).trans hon
  unfold tbAdjCmd
  rw [if_neg (not_adjIgnored hb hhold)]
  change (if v / 2 ^ 31 % 2 = 0 then adjNoted b v s
    else if v / 65536 % 2 = 1 ∧ fb s (TIME_TB_CTRL_allow_step b) = true then
      (if tbEnabled (adjNoted b v s) b = true then tbStep b (adjOffset (adjNoted b v s) b v) (toTbEdge (adjNoted b v s)) else adjNoted b v s)
    else _) = _
  rw [if_neg (by omega), if_pos ⟨hmode, hstep⟩, if_pos hon', hoff]
/-- Any other request leaves the whole offset to be absorbed. -/
theorem tbAdjCmd_slews (hmode : ¬ (v / 65536 % 2 = 1 ∧ fb s (TIME_TB_CTRL_allow_step b) = true)) :
    tbAdjCmd b v s = setTb b { tbGet (adjNoted b v s).clk b with slewRem := adjOffset s b frac } (adjNoted b v s) := by
  have hoff : adjOffset (adjNoted b v s) b v = adjOffset s b frac :=
    (adjOffset_rd (rd_adjNoted b v (by omega) s) v).trans (adjOffset_mod s b hfrac)
  have hon' : tbEnabled (adjNoted b v s) b = true := (tbEnabled_rd (rd_adjNoted b v (by omega) s)).trans hon
  unfold tbAdjCmd
  rw [if_neg (not_adjIgnored hb hhold)]
  change (if v / 2 ^ 31 % 2 = 0 then adjNoted b v s
    else if v / 65536 % 2 = 1 ∧ fb s (TIME_TB_CTRL_allow_step b) = true then _
    else setTb b { tbGet (adjNoted b v s).clk b with
      slewRem := if tbEnabled (adjNoted b v s) b = true then adjOffset (adjNoted b v s) b v else 0 } (adjNoted b v s)) = _
  rw [if_neg (by omega), if_neg hmode, if_pos hon', hoff]
end

/-- A step of a base that no rotation names re-phases nothing. -/
theorem rotResync_unnamed {s : State} {b : Nat} (h : rotNames s b = false) : rotResync b s = s := by
  unfold rotNames at h
  rw [Bool.or_eq_false_iff] at h
  unfold rotResync
  cases hr : s.rot with
  | none => rfl
  | some r =>
    rw [hr] at h
    exact if_pos (beq_eq_false_iff_ne.1 h.1)
theorem tbStep_unnamed {s : State} {b : Nat} (h : rotNames s b = false) (d : Int) :
    tbStep b d s = setTb b { tbGet s.clk b with val := (((tbGet s.clk b).val : Int) + d).toNat % tbWrap, slewRem := 0 } s :=
  rotResync_unnamed (s := setTb b _ s) h
/-- Which bases the rotations name stands in the banks and the tables' marks. -/
theorem rotNames_congr {s t : State} (hrot : t.rot = s.rot) (harmed : t.rotArmed = s.rotArmed) (hmarked : t.rotMarked = s.rotMarked)
    (hrd : ∀ o, 0x71000 ≤ o → rd t o = rd s o) (b : Nat) : rotNames t b = rotNames s b := by
  have hbank (k n : Nat) : bankTb t k n = bankTb s k n := by unfold bankTb bankWord; rw [hrd _ (by omega)]
  unfold rotNames armedOf markedOf
  simp only [hrot, harmed, hmarked, hbank]

/-! ### The end of a slew -/

theorem slewPart_all {rem : Int} {m : Nat} (h : rem.natAbs ≤ m) : slewPart rem m = rem := by
  unfold slewPart; split <;> omega
/-- The cycles counted until the offset is absorbed absorb it. -/
theorem slewCycles_enough {a st : Nat} (hst : st ≠ 0) : a ≤ (a + (st - 1)) / st * st := by
  have h := Nat.div_add_mod (a + (st - 1)) st
  have hlt := Nat.mod_lt (a + (st - 1)) (Nat.pos_of_ne_zero hst)
  rw [Nat.mul_comm] at h
  omega
theorem elapse_absorbs {s : State} {b n : Nat} (hb : b < 4) (hon : tbEnabled s b = true) {dt : Nat} (hn : tbEdges s.clk.now dt = n)
    (h : (tbGet s.clk b).slewRem.natAbs ≤ n * slewStep (tbFreq s b) (f s (TIME_TB_SLEW_slew_ppm b)) (tbGet s.clk b).slewRem) :
    (tbGet (elapse s dt).clk b).slewRem = 0 := by
  rw [tbGet_elapse s dt hb, hn]
  unfold tbAfter tbAdvance
  rw [if_pos hon]
  dsimp only
  rw [slewPart_all h]
  omega
theorem tbEdges_to (now n : Nat) : tbEdges now ((now / tbPeriod + n) * tbPeriod - now) = n := by
  unfold tbEdges tbPeriod; omega

section
variable {s : State} {b : Nat} (hb4 : b < 4) (hon : tbEnabled s b = true) (hrem : (tbGet s.clk b).slewRem ≠ 0)
  (hst : slewStep (tbFreq s b) (f s (TIME_TB_SLEW_slew_ppm b)) (tbGet s.clk b).slewRem ≠ 0)
include hb4 hon hrem hst

theorem slewEnd_absorbs : (tbGet (slewEnd b s).clk b).slewRem = 0 ∧ ∃ dt, slewEnd b s = elapse s dt := by
  generalize hk : slewStep (tbFreq s b) (f s (TIME_TB_SLEW_slew_ppm b)) (tbGet s.clk b).slewRem = k at hst
  have hcycles : slewCycles s b = some (((tbGet s.clk b).slewRem.natAbs + (k - 1)) / k) := by
    unfold slewCycles; simp only [hk]; exact if_neg (by tauto)
  have henough := slewCycles_enough (a := (tbGet s.clk b).slewRem.natAbs) hst
  have hpos : ((tbGet s.clk b).slewRem.natAbs + (k - 1)) / k ≠ 0 := by
    intro h
    rw [h] at henough
    omega
  generalize ((tbGet s.clk b).slewRem.natAbs + (k - 1)) / k = n at hcycles henough hpos
  have hend : slewEnd b s = elapse s ((s.clk.now / tbPeriod + n) * tbPeriod - s.clk.now) := by
    unfold slewEnd; rw [hcycles]; exact if_pos hon
  refine ⟨?_, _, hend⟩
  rw [hend]
  exact elapse_absorbs hb4 hon (tbEdges_to _ n) (by rw [hk]; exact henough)
end

/-! ### The commands -/

section
variable {s : State} {b frac : Nat} (dt : Nat) (hpor : s.porOn = false) (hm : masterLive s 0 = true) (hb : 1 ≤ b) (hb4 : b < 4)
  (hfrac : frac < 65536) (hon : tbEnabled s b = true) (hhold : (tbGet s.clk b).st ≠ .holdover)
include hpor hb4 hon

theorem slewEnd_completes (hrem : (tbGet (elapse s dt).clk b).slewRem ≠ 0)
    (hst : slewStep (tbFreq s b) (f s (TIME_TB_SLEW_slew_ppm b)) (tbGet (elapse s dt).clk b).slewRem ≠ 0) :
    Completes (.slewEnd dt b) s fun t =>
      (tbGet t.clk b).slewRem = 0 ∧ s.clk.now + dt ≤ t.clk.now ∧ RegsKept [] s t ∧
      t = { elapse s dt with regs := t.regs, hwSet := t.hwSet, msix := t.msix, msixDue := t.msixDue, clk := t.clk } := by
  refine completes_run rfl hpor ?_
  obtain ⟨habsorbed, n, hend⟩ := slewEnd_absorbs (s := elapse s dt) hb4 hon hrem hst
  rw [hend] at habsorbed ⊢
  refine ⟨?_, ?_, regsKept_settle s (regsKept_congr (regsKept_elapse [] s dt) rfl), (((OnlyTime.refl _).elapse n).settle s).eq⟩
  · rw [settle_clk]; exact habsorbed
  · rw [settle_clk]; exact Nat.le_add_right _ _

include hm hb hfrac hhold
/-- A request that slews. -/
theorem tbAdj_slews {c : Instr} {v : Nat} (hc : exec c s = run s dt (regCmd 0 (TIME_TB_ADJ_CMD_go b).off (tbAdjCmd b v)))
    (hgo : v / 2 ^ 31 % 2 = 1) (hv : v % 65536 = frac % 65536)
    (hmode : ¬ (v / 65536 % 2 = 1 ∧ fb s (TIME_TB_CTRL_allow_step b) = true)) :
    Completes c s fun t =>
      (tbGet t.clk b).val = (tbGet (elapse s dt).clk b).val ∧
      (tbGet t.clk b).slewRem = fInt s (TIME_TB_ADJ_offset_ns b) * 2 ^ 40 + (frac : Int) * 2 ^ 24 ∧
      RegsKept [(TIME_TB_ADJ_CMD_go b).off] s t ∧
      t = { elapse s dt with regs := t.regs, hwSet := t.hwSet, msix := t.msix, msixDue := t.msixDue, clk := t.clk } := by
  refine completes_time hc hpor hm (by simp only [TIME_TB_ADJ_CMD_go]; omega) ?_
  have hhold' : (tbGet (elapse s dt).clk b).st ≠ .holdover := by rwa [tbGet_elapse_eq s dt hb4]
  rw [tbAdjCmd_slews (s := elapse s dt) hb hon hhold' hgo hv hmode, adjOffset_of_lt _ b hfrac]
  refine ⟨?_, ?_, ?_, ?_⟩
  · rw [settle_clk, setTb_clk, tbGet_tbPut_same, adjNoted_clk, tbGet_tbPut_same]
  · rw [settle_clk, setTb_clk, tbGet_tbPut_same]; rfl
  · exact regsKept_settle s (regsKept_congr (adjNoted_kept b v (elapse s dt)) rfl)
  · exact (((adjNoted_onlyTime b v _).setTb b _).settle s).eq

/-- A request that steps. -/
theorem tbAdj_steps {c : Instr} {v : Nat} (hc : exec c s = run s dt (regCmd 0 (TIME_TB_ADJ_CMD_go b).off (tbAdjCmd b v)))
    (hgo : v / 2 ^ 31 % 2 = 1) (hv : v % 65536 = frac % 65536) (hmode : v / 65536 % 2 = 1)
    (hstep : f s (TIME_TB_CTRL_allow_step b) = 1) (hnames : rotNames s b = false) :
    Completes c s fun t =>
      let u := toTbEdge (elapse s dt)
      (tbGet t.clk b).val = ((tbGet u.clk b).val + (fInt s (TIME_TB_ADJ_offset_ns b) * 2 ^ 40 + (frac : Int) * 2 ^ 24)).toNat % tbWrap ∧
      (tbGet t.clk b).slewRem = 0 ∧
      (∀ k < 4, k ≠ b → tbNow t k = tbNow u k) ∧ RegsKept [(TIME_TB_ADJ_CMD_go b).off] s t ∧ MemKept s t := by
  refine completes_time hc hpor hm (by simp only [TIME_TB_ADJ_CMD_go]; omega) ?_
  have hhold' : (tbGet (elapse s dt).clk b).st ≠ .holdover := by rwa [tbGet_elapse_eq s dt hb4]
  have hstep' : fb (elapse s dt) (TIME_TB_CTRL_allow_step b) = true := by rw [fb_elapse]; unfold fb; rw [hstep]; rfl
  rw [tbAdjCmd_steps (s := elapse s dt) (frac := frac) hb hon hhold' hgo hv hmode hstep', adjOffset_of_lt _ b hfrac]
  intro u
  have hval {k : Nat} (hk : k < 4) : (tbGet (toTbEdge (adjNoted b v (elapse s dt))).clk k).val = (tbGet u.clk k).val :=
    toTbEdge_adjNoted_val hb4 hk v (elapse s dt)
  have hkept : RegsKept [(TIME_TB_ADJ_CMD_go b).off] s (toTbEdge (adjNoted b v (elapse s dt))) :=
    regsKept_congr (adjNoted_kept b v (elapse s dt)) rfl
  have hmem : OnlyTime (elapse s dt) (toTbEdge (adjNoted b v (elapse s dt))) := (adjNoted_onlyTime b v (elapse s dt)).toTbEdge
  have hrd (k : Nat) : rd (toTbEdge (adjNoted b v (elapse s dt))) (0x40100 + 64 * k) = rd s (0x40100 + 64 * k) :=
    rd_adjNoted b v (by omega) (elapse s dt)
  have hsame : rotNames (toTbEdge (adjNoted b v (elapse s dt))) b = false :=
    (rotNames_congr (s := s) (t := toTbEdge (adjNoted b v (elapse s dt))) rfl rfl rfl (fun o ho => rd_adjNoted b v (by omega) (elapse s dt)) b).trans hnames
  generalize toTbEdge (adjNoted b v (elapse s dt)) = w at hval hkept hmem hrd hsame ⊢
  rw [tbStep_unnamed hsame]
  refine ⟨?_, ?_, fun k hk hne => ?_, ?_, ?_⟩
  · rw [settle_clk, setTb_clk, tbGet_tbPut_same, hval hb4, fInt_elapse]
  · rw [settle_clk, setTb_clk, tbGet_tbPut_same]
  · refine tbNow_congr ((rd_settle s _ (by simp only [DMA_MSIX_PEND_pending]; omega)).trans (hrd k)) ?_
    rw [settle_clk, setTb_clk, tbGet_tbPut_other _ _ hk hb4 hne, hval hk]
  · exact regsKept_settle s (regsKept_congr hkept rfl)
  · exact ((hmem.setTb b _).settle s).mem
end

end Sys2Proof.Machine
end

section
open Sys2Proof Sys2Proof.Machine Sys2Proof.Config

/-- Settles O22: the request's note leaves the values of the bases, so that a step adds the offset at the next edge and a slew keeps it
all; the cycles counted for a slew absorb what remains. -/
theorem offsetsStepOrSlewABase : Obligations.OffsetsStepOrSlewABase := by
  unfold Obligations.OffsetsStepOrSlewABase
  intro s dt b frac hpor hm hb hb4 hfrac hon hhold hnames u off
  refine ⟨fun hstep => ?_, fun c hc => ?_, fun hrem hst => ?_⟩
  · exact tbAdj_steps (v := frac % 65536 + 65536 + 2 ^ 31) dt hpor hm hb hb4 hfrac hon hhold rfl (by omega) (by omega) (by omega) hstep hnames
  · have hslew := @tbAdj_slews s b frac dt hpor hm hb hb4 hfrac hon hhold
    rcases List.mem_append.1 hc with h | h
    · obtain rfl := List.mem_singleton.1 h
      exact hslew (v := frac % 65536 + 2 ^ 31) rfl (by omega) (by omega) (by omega)
    · split at h
      next hno =>
        obtain rfl := List.mem_singleton.1 h
        refine hslew (v := frac % 65536 + 65536 + 2 ^ 31) rfl (by omega) (by omega) ?_
        simp [fb, hno]
      next => exact absurd h List.not_mem_nil
  · exact slewEnd_completes dt hpor hb4 hon hrem hst
end

section
/-! The states of a base: requests, the servo watchdog, missing 1PPS and the limit of HOLDOVER (R154 to R158, Table 5-1). -/
namespace Sys2Proof.Machine
open Sys2Proof.Config

/-! ### The frame -/

/-- No register outside the collector's block, no state of another base, and nothing but the clock and the collector differs. -/
structure BaseFrame (b : Nat) (s t : State) : Prop where
  regs : RegsKeptFlt [] s t
  same : ∃ r m d h c p, t = { s with regs := r, hwSet := h, msix := m, msixDue := d, clk := c, toFaultPart := p }
  others : ∀ k < 4, k ≠ b → (tbGet t.clk k).st = (tbGet s.clk k).st

namespace BaseFrame
variable {b : Nat} {s t u : State}
protected theorem refl (b : Nat) (s : State) : BaseFrame b s s := ⟨fun _ _ _ _ => rfl, ⟨_, _, _, _, _, _, rfl⟩, fun _ _ _ => rfl⟩
protected theorem trans (h : BaseFrame b s t) (k : BaseFrame b t u) : BaseFrame b s u := by
  refine ⟨fun o h1 h2 h3 => (k.regs o h1 h2 h3).trans (h.regs o h1 h2 h3), ?_, fun j hj hne => (k.others j hj hne).trans (h.others j hj hne)⟩
  obtain ⟨r, m, d, x, c, p, rfl⟩ := h.same
  obtain ⟨r', m', d', x', c', p', e⟩ := k.same
  exact ⟨r', m', d', x', c', p', e⟩
theorem elapse (h : BaseFrame b s t) (n : Nat) : BaseFrame b s (elapse t n) :=
  h.trans ⟨fun _ _ _ _ => rfl, ⟨_, _, _, _, _, _, rfl⟩, fun _ hk _ => by rw [tbGet_elapse_eq t n hk]⟩
theorem setTb (hb : b < 4) (x : TBase) (h : BaseFrame b s t) : BaseFrame b s (setTb b x t) :=
  h.trans ⟨fun _ _ _ _ => rfl, ⟨_, _, _, _, _, _, rfl⟩, fun _ hk hne => by rw [setTb_clk, tbGet_tbPut_other _ _ hk hb hne]⟩
theorem onlyFlt (h : BaseFrame b s t) (k : OnlyFlt t u) : BaseFrame b s u := by
  refine h.trans ⟨fun o _ _ ho => k.2 o ho, ?_, ?_⟩ <;> obtain ⟨⟨r, x, p, rfl⟩, -⟩ := k
  · exact ⟨_, _, _, _, _, _, rfl⟩
  · exact fun _ _ _ => rfl
theorem settle (s0 : State) (h : BaseFrame b s t) : BaseFrame b s (settle s0 t) := by
  refine h.trans ⟨fun o _ ho _ => rd_settle s0 t ho, ?_, fun _ _ _ => by rw [settle_clk]⟩
  obtain ⟨r, m, d, x, e⟩ := settle_eq s0 t
  exact ⟨r, m, d, x, _, _, e⟩
theorem eq (h : BaseFrame b s t) : t = { s with regs := t.regs, hwSet := t.hwSet, msix := t.msix, msixDue := t.msixDue, clk := t.clk, toFaultPart := t.toFaultPart } := by
  obtain ⟨r, m, d, x, c, p, rfl⟩ := h.same; rfl
theorem of_base (hb : b < 4) (x : TBase) (s : State) : BaseFrame b s (Machine.setTb b x s) := (BaseFrame.refl b s).setTb hb x
end BaseFrame

/-! ### Entering a state -/

section
variable {b : Nat} (hb4 : b < 4) (s : State)
include hb4

theorem leaveHold_frame : BaseFrame b s (leaveHold b s) := by
  unfold leaveHold; simp only; split
  · exact .of_base hb4 _ s
  · exact .refl b s
theorem tbFree_frees : (tbGet (tbFree b s).clk b).st = .free ∧ BaseFrame b s (tbFree b s) :=
  ⟨by rw [tbGet_tbFree], (leaveHold_frame hb4 s).setTb hb4 _⟩
theorem enterWatch_enters (x : TbState) : (tbGet (enterWatch b x s).clk b).st = x ∧ BaseFrame b s (enterWatch b x s) :=
  ⟨by unfold enterWatch; rw [setTb_clk, tbGet_tbPut_same], (leaveHold_frame hb4 s).setTb hb4 _⟩
/-- Entering HOLDOVER raises FS_PTP_LOSS at most. -/
theorem enterHold_enters (hsev : sevOf s 26 < 4) (cause : Nat) : let t := enterHold b cause s
    (tbGet t.clk b).st = .holdover ∧ (tbGet t.clk b).cause = cause ∧ t.clk.now = s.clk.now ∧ BaseFrame b s t := by
  unfold enterHold; simp only
  generalize hs1 : setTb b { tbGet s.clk b with st := .holdover, cause := cause, holdStart := s.clk.now, longDone := false } s = s1
  have hframe : BaseFrame b s s1 := by rw [← hs1]; exact .of_base hb4 _ s
  have hbase : (tbGet s1.clk b).st = .holdover ∧ (tbGet s1.clk b).cause = cause ∧ s1.clk.now = s.clk.now := by
    rw [← hs1, setTb_clk, tbGet_tbPut_same, tbPut_now]; exact ⟨rfl, rfl, rfl⟩
  have hsev1 : sevOf s1 26 < 4 := by rw [← hs1]; exact hsev
  obtain ⟨hst, hcause, hnow⟩ := hbase
  split
  · have hraise : OnlyFlt s1 (raise 26 b s1) := raise_onlyFlt (by decide) hsev1 rfl
    refine ⟨?_, ?_, ?_, hframe.onlyFlt hraise⟩ <;> obtain ⟨⟨r, x, p, e⟩, -⟩ := hraise <;> rw [e]
    · exact hst
    · exact hcause
    · exact hnow
  · exact ⟨hst, hcause, hnow, hframe⟩
end

/-! ### Requests -/

/-- What a claim about base `b` speaks of beside the base itself. -/
def TbFrame (b : Nat) (s t : State) : Prop :=
  RegsKeptFlt [] s t ∧
    t = { s with regs := t.regs, hwSet := t.hwSet, msix := t.msix, msixDue := t.msixDue, clk := t.clk, toFaultPart := t.toFaultPart } ∧
    ∀ k < 4, k ≠ b → (tbGet t.clk k).st = (tbGet s.clk k).st
theorem BaseFrame.claim {b dt : Nat} {s s0 u : State} (h : BaseFrame b (Machine.elapse s dt) u) : TbFrame b s (Machine.settle s0 u) := by
  have hframe : BaseFrame b s (Machine.settle s0 u) := (((BaseFrame.refl b s).elapse dt).trans h).settle s0
  exact ⟨hframe.regs, hframe.eq, hframe.others⟩
theorem tbGet_elapse_st (s : State) (dt : Nat) {b : Nat} (hb : b < 4) : (tbGet (elapse s dt).clk b).st = (tbGet s.clk b).st := by
  rw [tbGet_elapse_eq s dt hb]

section
variable {b : Nat} (hb : 1 ≤ b) (hb4 : b < 4) (s : State)
include hb hb4

/-- The requests of Table 5-1: 1 asks for ACQUIRE, 2 for LOCKED, 3 for HOLDOVER, 4 (the bit `free`) for FREE. -/
theorem tbCmdWrite_acquire : tbCmdWrite b 1 s =
    if ((tbGet s.clk b).st = .free ∨ (tbGet s.clk b).st = .holdover) ∧ tbSource s b ≠ 0 then enterWatch b .acquire s else s := by
  unfold tbCmdWrite; rw [if_neg (by omega), if_neg (by decide)]; rfl
theorem tbCmdWrite_locked : tbCmdWrite b 2 s =
    if (tbGet s.clk b).st = .acquire ∨ (tbGet s.clk b).st = .holdover then enterWatch b .locked s else s := by
  unfold tbCmdWrite; rw [if_neg (by omega), if_neg (by decide)]; rfl
theorem tbCmdWrite_holdover : tbCmdWrite b 3 s =
    if (tbGet s.clk b).st = .acquire ∨ (tbGet s.clk b).st = .locked then enterHold b 1 s else s := by
  unfold tbCmdWrite; rw [if_neg (by omega), if_neg (by decide)]; rfl
theorem tbCmdWrite_free : tbCmdWrite b 4 s = tbFree b s := by
  unfold tbCmdWrite; rw [if_neg (by omega), if_pos (by decide)]
end

section
variable {s : State} {b : Nat} (dt : Nat) (hpor : s.porOn = false) (hm : masterLive s 0 = true) (hb : 1 ≤ b) (hb4 : b < 4)
include hpor hm hb4

/-- A request of SUP. -/
theorem tbRequest_completes {c : Instr} {v : Nat} {Q : TBase → Prop}
    (hc : exec c s = run s dt (regCmd 0 (TIME_TB_CMD_request b).off (tbCmdWrite b v)))
    (h : Q (tbGet (tbCmdWrite b v (elapse s dt)).clk b) ∧ BaseFrame b (elapse s dt) (tbCmdWrite b v (elapse s dt))) :
    Completes c s fun t => Q (tbGet t.clk b) ∧ TbFrame b s t := by
  refine completes_time hc hpor hm (by simp only [TIME_TB_CMD_request]; omega) ?_
  rw [settle_clk]
  exact ⟨h.1, h.2.claim⟩

include hb
theorem tbCmdAcquire_completes {x : TbState} (hx : (if ((tbGet s.clk b).st = .free ∨ (tbGet s.clk b).st = .holdover) ∧ tbSource s b ≠ 0
    then .acquire else (tbGet s.clk b).st) = x) :
    Completes (.tbCmdAcquire dt 0 b) s fun t => (tbGet t.clk b).st = x ∧ TbFrame b s t := by
  rw [← hx]
  refine tbRequest_completes dt hpor hm hb4 (v := 1) (Q := fun x => x.st = _) rfl ?_
  rw [tbCmdWrite_acquire hb hb4, tbGet_elapse_st s dt hb4, show tbSource (elapse s dt) b = tbSource s b from rfl]
  split
  · exact enterWatch_enters hb4 _ .acquire
  · exact ⟨tbGet_elapse_st s dt hb4, .refl b _⟩
theorem tbCmdLocked_completes {x : TbState}
    (hx : (if (tbGet s.clk b).st = .acquire ∨ (tbGet s.clk b).st = .holdover then .locked else (tbGet s.clk b).st) = x) :
    Completes (.tbCmdLocked dt 0 b) s fun t => (tbGet t.clk b).st = x ∧ TbFrame b s t := by
  rw [← hx]
  refine tbRequest_completes dt hpor hm hb4 (v := 2) (Q := fun x => x.st = _) rfl ?_
  rw [tbCmdWrite_locked hb hb4, tbGet_elapse_st s dt hb4]
  split
  · exact enterWatch_enters hb4 _ .locked
  · exact ⟨tbGet_elapse_st s dt hb4, .refl b _⟩
theorem tbCmdFree_completes : Completes (.tbCmdFree dt 0 b) s fun t => (tbGet t.clk b).st = .free ∧ TbFrame b s t := by
  refine tbRequest_completes dt hpor hm hb4 (v := 4) (Q := fun x => x.st = _) rfl ?_
  rw [tbCmdWrite_free hb hb4]
  exact tbFree_frees hb4 _
/-- A request for HOLDOVER of a base that is not watched. -/
theorem tbCmdHoldover_ignored (h : (tbGet s.clk b).st = .free) :
    Completes (.tbCmdHoldover dt 0 b) s fun t => (tbGet t.clk b).st = .free ∧ TbFrame b s t := by
  refine tbRequest_completes dt hpor hm hb4 (v := 3) (Q := fun x => x.st = _) rfl ?_
  rw [tbCmdWrite_holdover hb hb4, tbGet_elapse_st s dt hb4, if_neg (by rw [h]; decide)]
  exact ⟨(tbGet_elapse_st s dt hb4).trans h, .refl b _⟩
theorem tbCmdHoldover_enters (hsev : sevOf s 26 < 4) (h : (tbGet s.clk b).st = .acquire ∨ (tbGet s.clk b).st = .locked) :
    Completes (.tbCmdHoldover dt 0 b) s fun t => (tbGet t.clk b).st = .holdover ∧ (tbGet t.clk b).cause = 1 ∧ TbFrame b s t := by
  obtain ⟨t, ht, ⟨hst, hcause⟩, hframe⟩ := tbRequest_completes (c := .tbCmdHoldover dt 0 b) dt hpor hm hb4 (v := 3)
      (Q := fun x => x.st = .holdover ∧ x.cause = 1) rfl (by
    rw [tbCmdWrite_holdover hb hb4, tbGet_elapse_st s dt hb4, if_pos h]
    obtain ⟨hst, hcause, -, hframe⟩ := enterHold_enters hb4 (elapse s dt) hsev 1
    exact ⟨⟨hst, hcause⟩, hframe⟩)
  exact ⟨t, ht, hst, hcause, hframe⟩
end

/-! ### The limits -/

section
variable {s : State} {b : Nat} (dt : Nat) (hpor : s.porOn = false) (hb : 1 ≤ b) (hb4 : b < 4)
include hpor hb4

/-- HOLDOVER entered at a limit, to which the command lets time pass. -/
theorem holdover_at {c : Instr} {g : State → State} {cause limit : Nat} (hc : exec c s = run s dt g) (hsev : sevOf s 26 < 4)
    (hg : g (elapse s dt) = enterHold b cause (elapseTo (elapse s dt) limit)) :
    Completes c s fun t => (tbGet t.clk b).st = .holdover ∧ (tbGet t.clk b).cause = cause ∧ TbFrame b s t ∧
      t.clk.now = max (s.clk.now + dt) limit := by
  refine completes_run hc hpor ?_
  rw [hg]
  obtain ⟨hst, hcause, hnow, hframe⟩ := enterHold_enters hb4 (elapseTo (elapse s dt) limit) hsev cause
  have hpassed : BaseFrame b (elapse s dt) (elapseTo (elapse s dt) limit) := (BaseFrame.refl b _).elapse _
  refine ⟨?_, ?_, (hpassed.trans hframe).claim, ?_⟩ <;> rw [settle_clk]
  · exact hst
  · exact hcause
  · rw [hnow, elapseTo_now, elapse_now]

/-- FS_HOLDOVER_LONG raised at a limit, to which the command lets time pass. -/
theorem longNoted_at {c : Instr} {g : State → State} {limit : Nat} (hc : exec c s = run s dt g) (hsev : sevOf s 27 < 4)
    (hst : (tbGet s.clk b).st = .holdover)
    (hg : g (elapse s dt) = raise 27 b (setTb b { tbGet (elapseTo (elapse s dt) limit).clk b with longDone := true } (elapseTo (elapse s dt) limit))) :
    Completes c s fun t => (tbGet t.clk b).st = .holdover ∧ (tbGet t.clk b).longDone = true ∧ TbFrame b s t ∧
      t.clk.now = max (s.clk.now + dt) limit := by
  refine completes_run hc hpor ?_
  rw [hg]
  have hst' : (tbGet (elapseTo (elapse s dt) limit).clk b).st = .holdover :=
    (tbGet_elapse_st _ _ hb4).trans ((tbGet_elapse_st s dt hb4).trans hst)
  have hnow := elapseTo_now (elapse s dt) limit
  have hframe : BaseFrame b (elapse s dt) (elapseTo (elapse s dt) limit) := (BaseFrame.refl b _).elapse _
  have hsev' : sevOf (elapseTo (elapse s dt) limit) 27 < 4 := hsev
  generalize elapseTo (elapse s dt) limit = u at hst' hnow hframe hsev' ⊢
  have hraise := raise_onlyFlt (n := 27) (d := b) (s := setTb b { tbGet u.clk b with longDone := true } u) (by decide) hsev' rfl
  have hclk : (raise 27 b (setTb b { tbGet u.clk b with longDone := true } u)).clk = tbPut u.clk b { tbGet u.clk b with longDone := true } := by
    obtain ⟨⟨r, x, p, e⟩, -⟩ := hraise; rw [e]; rfl
  refine ⟨?_, ?_, ((hframe.setTb hb4 _).onlyFlt hraise).claim, ?_⟩ <;> rw [settle_clk, hclk]
  · rw [tbGet_tbPut_same]; exact hst'
  · rw [tbGet_tbPut_same]
  · rw [tbPut_now, hnow, elapse_now]

include hb
theorem tbServoWatchdog_enters (hsev : sevOf s 26 < 4) (hst : (tbGet s.clk b).st = .acquire ∨ (tbGet s.clk b).st = .locked)
    (hsrc : tbSource s b = 1) (hms : f s (TIME_TB_WDOG_wdog_ms b) ≠ 0) :
    Completes (.tbServoWatchdog dt b) s fun t => (tbGet t.clk b).st = .holdover ∧ (tbGet t.clk b).cause = 2 ∧ TbFrame b s t ∧
      t.clk.now = max (s.clk.now + dt) ((tbGet s.clk b).servoAt + f s (TIME_TB_WDOG_wdog_ms b) * 10000000) := by
  refine holdover_at dt hpor hb4 (g := servoWatchdog b) rfl hsev ?_
  have hservo : (tbGet (elapse s dt).clk b).servoAt = (tbGet s.clk b).servoAt := by rw [tbGet_elapse_eq s dt hb4]
  unfold servoWatchdog
  simp only
  rw [tbGet_elapse_st s dt hb4, hservo]
  exact if_pos ⟨by omega, hst.symm, hsrc, hms⟩
theorem ppsMissing_enters (hsev : sevOf s 26 < 4) (hst : (tbGet s.clk b).st = .locked) (hsrc : tbSource s b = 2) :
    Completes (.ppsMissing dt b) s fun t => (tbGet t.clk b).st = .holdover ∧ (tbGet t.clk b).cause = 3 ∧ TbFrame b s t ∧
      t.clk.now = max (s.clk.now + dt) ((tbGet s.clk b).ppsAt + 15000000000) := by
  refine holdover_at dt hpor hb4 (g := ppsMissing b) rfl hsev ?_
  have hpps : (tbGet (elapse s dt).clk b).ppsAt = (tbGet s.clk b).ppsAt := by rw [tbGet_elapse_eq s dt hb4]
  unfold ppsMissing
  simp only
  rw [tbGet_elapse_st s dt hb4, hpps]
  exact if_pos ⟨by omega, hst, hsrc⟩
theorem holdoverLimit_notes (hsev : sevOf s 27 < 4) (hst : (tbGet s.clk b).st = .holdover) (hlong : (tbGet s.clk b).longDone = false) :
    Completes (.holdoverLimit dt b) s fun t => (tbGet t.clk b).st = .holdover ∧ (tbGet t.clk b).longDone = true ∧ TbFrame b s t ∧
      t.clk.now = max (s.clk.now + dt) ((tbGet s.clk b).holdStart + f s (TIME_TB_HOLD_limit_s b) * 10000000000) := by
  refine longNoted_at dt hpor hb4 (g := holdoverLimit b) rfl hsev hst ?_
  have hstart : (tbGet (elapse s dt).clk b).holdStart = (tbGet s.clk b).holdStart ∧
      (tbGet (elapse s dt).clk b).longDone = (tbGet s.clk b).longDone := by rw [tbGet_elapse_eq s dt hb4]; exact ⟨rfl, rfl⟩
  have hsecond : 1000 * ms = 10000000000 := rfl
  unfold holdoverLimit
  simp only
  rw [tbGet_elapse_st s dt hb4, hstart.1, hstart.2, hsecond]
  exact if_pos ⟨by omega, hst, hlong⟩
end

end Sys2Proof.Machine

open Sys2Proof Sys2Proof.Machine Sys2Proof.Config

/-- Settles O23: each request is the row of Table 5-1 for the state it meets, which the passing of time leaves; FS_PTP_LOSS and
FS_HOLDOVER_LONG below SAFE write the collector's block alone. -/
theorem baseStatesFollowRequestsAndWatchdogs : Obligations.BaseStatesFollowRequestsAndWatchdogs := by
  unfold Obligations.BaseStatesFollowRequestsAndWatchdogs
  intro s dt b hpor hm hb hb4 h26 h27 st frame goes
  refine ⟨fun hsrc hst => ?_, fun hst => ?_, fun hst => ?_, ?_, fun hst => ⟨?_, ?_⟩, fun hst => ⟨?_, ?_⟩, fun hst hsrc hms => ?_,
    fun hst hsrc => ?_, fun hst hlong => ?_⟩
  · exact tbCmdAcquire_completes dt hpor hm hb hb4 (if_pos ⟨hst, hsrc⟩)
  · exact tbCmdLocked_completes dt hpor hm hb hb4 (if_pos hst)
  · exact tbCmdHoldover_enters dt hpor hm hb hb4 h26 hst
  · exact tbCmdFree_completes dt hpor hm hb hb4
  · exact tbCmdAcquire_completes dt hpor hm hb hb4 (by rw [show (tbGet s.clk b).st = .locked from hst]; rfl)
  · exact tbCmdLocked_completes dt hpor hm hb hb4 (by rw [show (tbGet s.clk b).st = .locked from hst]; rfl)
  · exact tbCmdLocked_completes dt hpor hm hb hb4 (by rw [show (tbGet s.clk b).st = .free from hst]; rfl)
  · exact tbCmdHoldover_ignored dt hpor hm hb hb4 hst
  · exact tbServoWatchdog_enters dt hpor hb hb4 h26 hst hsrc hms
  · exact ppsMissing_enters dt hpor hb hb4 h26 hst hsrc
  · exact holdoverLimit_notes dt hpor hb hb4 h27 hst hlong
end

section
/-! 1PPS and the transmit timestamp queues (R156, R164, R166, R168, Table 5-3). -/
namespace Sys2Proof.Machine
open Sys2Proof.Config

/-! ### Distances from a whole second -/

/-- Times that lie close together lie about as far from a whole second. -/
theorem secDist_near {x y d : Nat} (h1 : x ≤ y + d) (h2 : y ≤ x + d) : secDist x ≤ secDist y + d := by
  unfold secDist secUnit
  omega

/-! ### A rising edge of 1PPS_IN -/

theorem ppsBase_lt (s : State) : ppsBase s < 4 := by
  unfold ppsBase
  cases h : [1, 2, 3].find? fun b => tbEnabled s b && tbSource s b == 2 with
  | none => decide
  | some b =>
    have hmem := List.mem_of_find?_eq_some h
    simp only [List.mem_cons, List.not_mem_nil, or_false] at hmem
    exact (by omega : b < 4)
/-- The stamp of an edge on base `b`, with the error that the draw `n` gives (Table 5-3). -/
def edgeStamp (b n : Nat) (s : State) : Nat :=
  ((tbFine s b : Int) + n - nsUnit - fInt s TIME_PPS_IN_DELAY_delay_ps * nsUnit / 1000).toNat % tbWrap
/-- The edge is accepted with a stamp. -/
def edgeAccepted (b v : Nat) (s : State) : State :=
  putTime TIME_PPS_TS_F_frac_ns TIME_PPS_TS_NS_ns TIME_PPS_TS_SL_sec_low TIME_PPS_TS_SH_sec_high v
    (inc TIME_PPS_CNT_accepted (setTb b { tbGet s.clk b with ppsAt := s.clk.now } s))
/-- The state after a free value is drawn. -/
def drawn (s : State) : State := { s with freeCtr := s.freeCtr + 1 }
/-- The error drawn for an edge. -/
def edgeDraw (s : State) : Nat := freeValue s.freeCtr % (2 * nsUnit + 1)
/-- The edge lies outside the window of a LOCKED base. -/
def EdgeOutside (b v : Nat) (s : State) : Prop :=
  (tbGet s.clk b).st = .locked ∧ b ≠ 0 ∧ f s TIME_PPS_CTRL_in_window_us * (1000 * nsUnit) < secDist v
theorem ppsInEdge_in {s : State} {b : Nat} (hbase : ppsBase s = b) (h : ¬ EdgeOutside b (edgeStamp b (edgeDraw s) s) s) :
    ppsInEdge s = edgeAccepted b (edgeStamp b (edgeDraw s) s) (drawn s) := by
  subst hbase; exact if_neg h
theorem ppsInEdge_out {s : State} {b : Nat} (hbase : ppsBase s = b) (h : EdgeOutside b (edgeStamp b (edgeDraw s) s) s) :
    ppsInEdge s = inc TIME_PPS_CNT_rejected (drawn s) := by
  subst hbase; exact if_pos h

theorem edgeDraw_le (s : State) : edgeDraw s ≤ 2 * nsUnit := Nat.le_of_lt_succ (Nat.mod_lt _ (Nat.succ_pos _))
theorem nsUnit_int : (nsUnit : Int) = 2 ^ 40 := by unfold nsUnit; norm_num
/-- The stamp is the base's value less the delay, within one nanosecond. -/
theorem edgeStamp_error (b : Nat) (s : State) : ∃ e : Int, -(2 ^ 40) ≤ e ∧ e ≤ 2 ^ 40 ∧ edgeStamp b (edgeDraw s) s =
    ((tbFine s b : Int) + e - fInt s TIME_PPS_IN_DELAY_delay_ps * 2 ^ 40 / 1000).toNat % tbWrap := by
  have hle : (edgeDraw s : Int) ≤ 2 * 2 ^ 40 := by
    rw [← nsUnit_int]; exact_mod_cast edgeDraw_le s
  refine ⟨(edgeDraw s : Int) - 2 ^ 40, by omega, by omega, ?_⟩
  unfold edgeStamp
  rw [nsUnit_int, add_sub_assoc (tbFine s b : Int)]
/-- Without a delay and away from the wrap it lies within one nanosecond of the base's value. -/
theorem edgeStamp_near {b : Nat} {s : State} (hdelay : fInt s TIME_PPS_IN_DELAY_delay_ps = 0) (hlow : 2 ^ 40 ≤ tbFine s b)
    (hhigh : tbFine s b + 2 ^ 40 < tbWrap) :
    edgeStamp b (edgeDraw s) s ≤ tbFine s b + 2 ^ 40 ∧ tbFine s b ≤ edgeStamp b (edgeDraw s) s + 2 ^ 40 := by
  obtain ⟨e, h1, h2, he⟩ := edgeStamp_error b s
  rw [he, hdelay, Int.zero_mul, Int.zero_ediv, Int.sub_zero, Nat.mod_eq_of_lt (by omega)]
  omega

theorem ppsFlds : TimeFlds TIME_PPS_TS_F_frac_ns TIME_PPS_TS_NS_ns TIME_PPS_TS_SL_sec_low TIME_PPS_TS_SH_sec_high :=
  ⟨⟨rfl, rfl⟩, ⟨rfl, rfl⟩, ⟨rfl, rfl⟩, ⟨rfl, rfl⟩, by decide⟩
theorem edgeAccepted_counts (b v : Nat) (s : State) : let t := edgeAccepted b v s
    f t TIME_PPS_CNT_accepted = (f s TIME_PPS_CNT_accepted + 1) % 2 ^ TIME_PPS_CNT_accepted.wid ∧
      f t TIME_PPS_CNT_rejected = f s TIME_PPS_CNT_rejected := by
  have hrd : ∀ x : Fld, x.off = 0x40220 → f (edgeAccepted b v s) x =
      f (inc TIME_PPS_CNT_accepted (setTb b { tbGet s.clk b with ppsAt := s.clk.now } s)) x := fun x hx =>
    f_rd (by rw [hx]; exact rd_putTime _ _ _ _ _ _ (by decide))
  intro t
  rw [hrd _ rfl, hrd _ rfl]
  exact ⟨f_setF_same _ _ _ (by decide), f_setF_disj _ _ _ _ rfl (by decide) (by decide)⟩

section
variable {s : State} (dt : Nat) (hpor : s.porOn = false)
include hpor

theorem ppsInEdge_accepts (hbase : ppsBase s = 0) : Completes (.ppsInEdge dt) s fun t =>
    f t TIME_PPS_CNT_accepted = (f s TIME_PPS_CNT_accepted + 1) % 2 ^ TIME_PPS_CNT_accepted.wid ∧
    f t TIME_PPS_CNT_rejected = f s TIME_PPS_CNT_rejected ∧ MemKept s t ∧
    ∃ e : Int, -(2 ^ 40) ≤ e ∧ e ≤ 2 ^ 40 ∧
      let v := ((tbFine (elapse s dt) 0 : Int) + e - fInt s TIME_PPS_IN_DELAY_delay_ps * 2 ^ 40 / 1000).toNat % tbWrap
      f t TIME_PPS_TS_NS_ns = tNs v ∧ f t TIME_PPS_TS_F_frac_ns = tFrac v ∧
      f t TIME_PPS_TS_SL_sec_low + 2 ^ 32 * f t TIME_PPS_TS_SH_sec_high = tSec v := by
  refine completes_run rfl hpor ?_
  rw [ppsInEdge_in (s := elapse s dt) hbase (fun h => h.2.1 rfl)]
  obtain ⟨e, h1, h2, he⟩ := edgeStamp_error 0 (elapse s dt)
  rw [fInt_elapse] at he
  have hmem0 : MemKept s (drawn (elapse s dt)) := rfl
  have hcount0 : ∀ x, f (drawn (elapse s dt)) x = f s x := fun _ => rfl
  generalize edgeStamp 0 (edgeDraw (elapse s dt)) (elapse s dt) = v at he
  generalize drawn (elapse s dt) = u at hmem0 hcount0
  obtain ⟨haccepted, hrejected⟩ := edgeAccepted_counts 0 v u
  have hmem : OnlyTime u (edgeAccepted 0 v u) := .putTime _ _ _ _ _ (.setF _ _ (.setTb 0 _ (.refl u)))
  have hshow := (putTime_shows ppsFlds v (inc TIME_PPS_CNT_accepted (setTb 0 { tbGet u.clk 0 with ppsAt := u.clk.now } u))).of_rd
    (t := settle s (edgeAccepted 0 v u)) fun o ho => rd_settle s _ (fun h => by subst h; exact absurd ho (by decide))
  rw [hcount0] at haccepted hrejected
  refine ⟨(f_settle _ _ (by decide)).trans haccepted, (f_settle _ _ (by decide)).trans hrejected, (hmem.settle s).mem.trans hmem0, e, h1, h2, ?_⟩
  rw [← he]
  exact ⟨hshow.ns, hshow.frac, hshow.sec⟩

theorem ppsInEdge_rejects {b : Nat} (hbase : ppsBase s = b) (hb : b ≠ 0) (hst : (tbGet (elapse s dt).clk b).st = .locked)
    (hdelay : fInt s TIME_PPS_IN_DELAY_delay_ps = 0) (hlow : 2 ^ 40 ≤ tbFine (elapse s dt) b) (hhigh : tbFine (elapse s dt) b + 2 ^ 40 < tbWrap)
    (hwin : f s TIME_PPS_CTRL_in_window_us * (1000 * 2 ^ 40) + 2 ^ 40 < secDist (tbFine (elapse s dt) b)) :
    Completes (.ppsInEdge dt) s fun t =>
      f t TIME_PPS_CNT_rejected = (f s TIME_PPS_CNT_rejected + 1) % 2 ^ TIME_PPS_CNT_rejected.wid ∧
      RegsKept [TIME_PPS_CNT_rejected.off] s t ∧
      t = { elapse s dt with regs := t.regs, hwSet := t.hwSet, msix := t.msix, msixDue := t.msixDue, freeCtr := s.freeCtr + 1 } := by
  refine completes_run rfl hpor ?_
  obtain ⟨h1, h2⟩ := edgeStamp_near (s := elapse s dt) hdelay hlow hhigh
  have hdist := secDist_near h2 h1
  have hout : EdgeOutside b (edgeStamp b (edgeDraw (elapse s dt)) (elapse s dt)) (elapse s dt) := by
    exact ⟨hst, hb, Nat.lt_of_add_lt_add_right (Nat.lt_of_lt_of_le hwin hdist)⟩
  rw [ppsInEdge_out (s := elapse s dt) hbase hout]
  refine ⟨?_, ?_, ?_⟩
  · rw [f_settle _ _ (by decide)]
    exact f_setF_same (drawn (elapse s dt)) _ _ (by decide)
  · exact regsKept_settle s (regsKept_setF _ (regsKept_congr (regsKept_elapse _ s dt) rfl) (List.mem_singleton.2 rfl))
  · obtain ⟨r, m, d, x, e⟩ := onlyMsix_settle s (onlyMsix_setF TIME_PPS_CNT_rejected
      (f (drawn (elapse s dt)) TIME_PPS_CNT_rejected + 1) (onlyMsix_refl (drawn (elapse s dt))))
    unfold inc
    rw [e]; rfl

/-! ### 1PPS_OUT -/

/-- The pulse rises when its base next stands at a whole second less the advance. -/
def pulsed (s : State) : State :=
  let u := elapseTo s (ppsDue s s.ppsTb)
  { u with freeCtr := u.freeCtr + 1, ppsHighUntil := u.clk.now + f s TIME_PPS_CTRL_out_width_us * us + freeValue u.freeCtr % 41 - 20 }
omit hpor in
theorem pulsed_high (s : State) : (pulsed s).clk.now + f s TIME_PPS_CTRL_out_width_us * 10000 ≤ (pulsed s).ppsHighUntil + 20 ∧
    (pulsed s).ppsHighUntil ≤ (pulsed s).clk.now + f s TIME_PPS_CTRL_out_width_us * 10000 + 20 := by
  unfold pulsed us
  dsimp only
  generalize elapseTo s (ppsDue s s.ppsTb) = u
  have hdraw : freeValue u.freeCtr % 41 < 41 := Nat.mod_lt _ (by decide)
  omega
omit hpor in
theorem pulsed_eq (s : State) : pulsed s = { s with clk := (pulsed s).clk, hwSet := (pulsed s).hwSet, freeCtr := (pulsed s).freeCtr, ppsHighUntil := (pulsed s).ppsHighUntil } := rfl
omit hpor in
theorem ppsOutPulse_eq (hen : f s TIME_PPS_CTRL_out_en = 1) (hsel : s.ppsTb = f s TIME_PPS_CTRL_out_tb) (hon : tbEnabled s s.ppsTb = true) :
    ppsOutPulse s = pulsed s := by
  have hfb : fb s TIME_PPS_CTRL_out_en = true := by unfold fb; rw [hen]; rfl
  unfold ppsOutPulse
  simp only
  rw [← hsel, hfb, hon, if_pos rfl, if_neg (not_not.2 rfl)]
  rfl
theorem ppsOutPulse_rises (hen : f s TIME_PPS_CTRL_out_en = 1) (hsel : s.ppsTb = f s TIME_PPS_CTRL_out_tb) (hon : tbEnabled s s.ppsTb = true) :
    Completes (.ppsOutPulse dt) s fun t =>
      t.ppsTb = s.ppsTb ∧ s.clk.now + dt ≤ t.clk.now ∧
      t.clk.now + f s TIME_PPS_CTRL_out_width_us * 10000 ≤ t.ppsHighUntil + 20 ∧
      t.ppsHighUntil ≤ t.clk.now + f s TIME_PPS_CTRL_out_width_us * 10000 + 20 ∧ RegsKept [] s t ∧
      t = { s with regs := t.regs, hwSet := t.hwSet, msix := t.msix, msixDue := t.msixDue, clk := t.clk, freeCtr := t.freeCtr, ppsHighUntil := t.ppsHighUntil } := by
  refine completes_run rfl hpor ?_
  rw [ppsOutPulse_eq (s := elapse s dt) hen hsel hon]
  obtain ⟨hlow, hhigh⟩ := pulsed_high (elapse s dt)
  rw [f_elapse] at hlow hhigh
  have hnow : s.clk.now + dt ≤ (pulsed (elapse s dt)).clk.now := Nat.le_add_right _ _
  refine ⟨settle_ppsTb _ _, ?_, ?_, ?_, regsKept_settle s (regsKept_congr (regsKept_elapse [] s dt) rfl), ?_⟩
  · rw [settle_clk]; exact hnow
  · rw [settle_clk, settle_ppsHighUntil]; exact hlow
  · rw [settle_clk, settle_ppsHighUntil]; exact hhigh
  · obtain ⟨r, m, d, x, e⟩ := settle_eq s (pulsed (elapse s dt))
    rw [e, pulsed_eq]; rfl

/-! ### The transmit timestamp queues -/

/-- The oldest entry leaves a queue: its id and base are answered and its time is latched. -/
def tsqTaken (n : Nat) (e : TsEntry) (q : List TsEntry) (s : State) : State :=
  putTime (TIME_TSQ_F_frac_ns n) (TIME_TSQ_NS_ns n) (TIME_TSQ_SL_sec_low n) (TIME_TSQ_SH_sec_high n) e.val
    { tsqPut n q s with resp := ⟨e.id % 65536 + 65536 * (e.tb % 4) + 2 ^ 31, 0⟩ }
omit hpor in
theorem tsqPop_cons {n : Nat} {e : TsEntry} {q : List TsEntry} {s : State} (h : tsqOf s n = e :: q) : tsqPop 0 n s = tsqTaken n e q s := by
  unfold tsqPop; rw [h]; rfl
omit hpor in
theorem tsqPop_nil {n : Nat} {s : State} (h : tsqOf s n = []) : tsqPop 0 n s = { s with resp := ⟨0, 0⟩ } := by
  unfold tsqPop; rw [h]
omit hpor in
theorem tsqFlds (n : Nat) : TimeFlds (TIME_TSQ_F_frac_ns n) (TIME_TSQ_NS_ns n) (TIME_TSQ_SL_sec_low n) (TIME_TSQ_SH_sec_high n) := by
  refine ⟨⟨rfl, rfl⟩, ⟨rfl, rfl⟩, ⟨rfl, rfl⟩, ⟨rfl, rfl⟩, ?_⟩
  simp only [TIME_TSQ_F_frac_ns, TIME_TSQ_NS_ns, TIME_TSQ_SL_sec_low, TIME_TSQ_SH_sec_high, List.nodup_cons, List.mem_cons,
    List.not_mem_nil, or_false, not_or, not_false_eq_true, List.nodup_nil, and_true]
  omega
/-- What differs after a pop: registers, the answer and the queue. -/
def OnlyTsq (n : Nat) (e : TsEntry) (q : List TsEntry) (s t : State) : Prop := ∃ r m d h,
  t = { s with regs := r, hwSet := h, msix := m, msixDue := d, resp := ⟨e.id % 65536 + 65536 * (e.tb % 4) + 2 ^ 31, 0⟩,
               tsq := amSet (fun _ => []) s.tsq n q }
omit hpor in
theorem tsqTaken_only (n : Nat) (e : TsEntry) (q : List TsEntry) (s0 s : State) : OnlyTsq n e q s (settle s0 (tsqTaken n e q s)) := by
  obtain ⟨r, m, d, h, x⟩ := onlyMsix_settle s0 (putTime_onlyMsix (TIME_TSQ_F_frac_ns n) (TIME_TSQ_NS_ns n) (TIME_TSQ_SL_sec_low n)
    (TIME_TSQ_SH_sec_high n) e.val { tsqPut n q s with resp := ⟨e.id % 65536 + 65536 * (e.tb % 4) + 2 ^ 31, 0⟩ })
  exact ⟨r, m, d, h, x⟩

variable (hm : masterLive s 0 = true) {n : Nat} (hn : n < 2)
include hm hn

/-- A read of TIME_TSQ_HEAD by SUP. -/
theorem completes_tsqPop {P : State → Prop} (h : P (settle s (tsqPop 0 n (elapse s dt)))) : Completes (.tsqPop dt 0 n) s P := by
  refine completes_run rfl hpor ?_
  have hopen : regOpen (elapse s dt) 0 (TIME_TSQ_HEAD_id n).off false = true :=
    regOpen_sup (blockOn_time (elapse s dt) (by simp only [TIME_TSQ_HEAD_id]; omega))
  rw [onIssue_live ((masterLive_elapse s dt 0).trans hm), if_pos hopen]
  exact h
theorem tsqPop_pops {e : TsEntry} {q : List TsEntry} (hq : tsqOf s n = e :: q) (hlen : q.length < 64) :
    Completes (.tsqPop dt 0 n) s fun t =>
      t.resp = ⟨e.id % 65536 + 65536 * (e.tb % 4) + 2 ^ 31, 0⟩ ∧ tsqOf t n = q ∧
      f t (TIME_TSQ_STAT_depth n) = q.length ∧ f t (TIME_TSQ_NS_ns n) = tNs e.val ∧ tsqOf t (1 - n) = tsqOf s (1 - n) ∧
      t = { elapse s dt with regs := t.regs, hwSet := t.hwSet, msix := t.msix, msixDue := t.msixDue, resp := t.resp, tsq := t.tsq } := by
  refine completes_tsqPop dt hpor hm hn ?_
  rw [tsqPop_cons (s := elapse s dt) hq]
  have hdepth : f (settle s (tsqTaken n e q (elapse s dt))) (TIME_TSQ_STAT_depth n) = q.length := by
    rw [f_settle _ _ (by simp only [TIME_TSQ_STAT_depth, DMA_MSIX_PEND_pending]; omega)]
    refine (f_rd (rd_putTime _ _ _ _ _ _ ?_)).trans ?_
    · simp only [TIME_TSQ_STAT_depth, TIME_TSQ_F_frac_ns, TIME_TSQ_NS_ns, TIME_TSQ_SL_sec_low, TIME_TSQ_SH_sec_high, List.mem_cons,
        List.not_mem_nil, or_false]
      omega
    · refine (f_setF_same _ (TIME_TSQ_STAT_depth n) _ (Nat.le_of_ble_eq_true rfl)).trans (Nat.mod_eq_of_lt ?_)
      exact Nat.lt_trans hlen (by decide : 64 < 2 ^ 7)
  have hns : f (settle s (tsqTaken n e q (elapse s dt))) (TIME_TSQ_NS_ns n) = tNs e.val := by
    rw [f_settle _ _ (by simp only [TIME_TSQ_NS_ns, DMA_MSIX_PEND_pending]; omega)]
    exact (putTime_shows (tsqFlds n) e.val _).ns
  have honly := tsqTaken_only n e q s (elapse s dt)
  generalize settle s (tsqTaken n e q (elapse s dt)) = t at hdepth hns honly ⊢
  obtain ⟨r, m, d, x, rfl⟩ := honly
  exact ⟨rfl, amGet_amSet_same _ _ _ _, hdepth, hns, amGet_amSet_other _ _ (by omega) _, rfl⟩
theorem tsqPop_empty (hq : tsqOf s n = []) :
    Completes (.tsqPop dt 0 n) s fun t => t.resp = ⟨0, 0⟩ ∧ OnlyRegsResp s dt t ∧ RegsKept [] s t := by
  refine completes_tsqPop dt hpor hm hn ?_
  rw [tsqPop_nil (s := elapse s dt) hq]
  exact ⟨settle_resp _ _, onlyRegsResp_settle s (onlyRegsResp_resp _ (onlyRegsResp_of (onlyRegs_elapse s dt))),
    regsKept_settle s (regsKept_resp _ (regsKept_elapse [] s dt))⟩
end
end Sys2Proof.Machine

open Sys2Proof Sys2Proof.Machine Sys2Proof.Config

/-- Settles O24: the stamp of an edge differs from its base by the drawn error, which moves its distance from a whole second by no more
than 1 ns; the pulse and the queues write their own fields. -/
theorem pulsesAndTimestampsOfThePins : Obligations.PulsesAndTimestampsOfThePins := by
  unfold Obligations.PulsesAndTimestampsOfThePins
  intro s dt hpor
  refine ⟨fun hbase => ?_, fun b hbase hb hst hdelay hlow hhigh hwin => ?_, fun hen hsel hon => ?_,
    fun n hn hm => ⟨fun e q hq hlen => ?_, fun hq => ?_⟩⟩
  · exact ppsInEdge_accepts dt hpor hbase
  · refine ppsInEdge_rejects dt hpor hbase hb ?_ hdelay hlow hhigh hwin
    exact (tbGet_elapse_st s dt (hbase ▸ ppsBase_lt s)).trans hst
  · exact ppsOutPulse_rises dt hpor hen hsel hon
  · exact tsqPop_pops dt hpor hm hn hq hlen
  · exact tsqPop_empty dt hpor hm hn hq
end

section
/-! What the operations around a rotation leave of it: the rotation and its banks' masks, the time, the registers of ROT, the banks'
loaders, the messages that wait, the ports' owners, and the sources' settings, by which later raises are judged. -/
namespace Sys2Proof.Machine
open Sys2Proof.Config

/-! ### The frame -/

/-- The registers of ROT, and the settings of the sources. -/
def RotOwn (o : Nat) : Prop := (0x70000 ≤ o ∧ o < 0x80000) ∨ SrcCfg o
/-- They stand, and so do the time and the rotation, the banks' loaders, the messages that wait and the light. -/
structure RotKept (s t : State) : Prop where
  time : t.toTimePart = s.toTimePart
  light : t.toLightPart = s.toLightPart
  loader : t.rotLoader = s.rotLoader
  msgs : t.urpIn = s.urpIn
  regs : ∀ o, RotOwn o → rd t o = rd s o
/-- The parts of the state that the frame speaks of. -/
def rotView (s : State) := (s.regs, s.toTimePart, s.toLightPart, s.rotLoader, s.urpIn)

theorem rotOwn_rot {o : Nat} (h : 0x70000 ≤ o ∧ o < 0x80000) : RotOwn o := .inl h
theorem rotOwn_severity {n : Nat} (h : n < 48) : RotOwn (FLT_SRC_CFG_severity n).off :=
  .inr (by unfold SrcCfg; simp only [FLT_SRC_CFG_severity]; omega)

namespace RotKept
variable {s t u : State}
protected theorem refl (s : State) : RotKept s s := ⟨rfl, rfl, rfl, rfl, fun _ _ => rfl⟩
protected theorem trans (h : RotKept s t) (k : RotKept t u) : RotKept s u :=
  ⟨k.time.trans h.time, k.light.trans h.light, k.loader.trans h.loader, k.msgs.trans h.msgs,
    fun o ho => (k.regs o ho).trans (h.regs o ho)⟩
/-- What changes none of those parts. -/
theorem of_view (h : rotView t = rotView s) : RotKept s t := by
  simp only [rotView, Prod.mk.injEq] at h
  obtain ⟨hr, ht, hl, hd, hm⟩ := h
  exact ⟨ht, hl, hd, hm, fun o _ => rd_congr hr o⟩
theorem of_onlyTelem (h : OnlyTelem s t) : RotKept s t := by rw [h]; exact .of_view rfl
theorem of_onlyMsix (h : OnlyMsix s t) (hr : ∀ o, RotOwn o → rd t o = rd s o) : RotKept s t := by
  obtain ⟨r, m, d, x, e⟩ := h
  refine ⟨?_, ?_, ?_, ?_, hr⟩ <;> rw [e]
theorem setF {x : Fld} (v : Nat) (h : RotKept s t) (hx : (0x30000 ≤ x.off ∧ x.off < 0x70000) ∨ 0x80000 ≤ x.off) :
    RotKept s (setF x v t) :=
  h.trans ⟨rfl, rfl, rfl, rfl, fun o ho => rd_setF_other t x v (by unfold RotOwn SrcCfg at ho; omega)⟩
theorem ite {c : Prop} [Decidable c] (h : RotKept s t) (k : RotKept s u) : RotKept s (if c then t else u) := by
  split
  · exact h
  · exact k
/-- A list of updates, each of which may rely on what the ones before it kept. -/
theorem forEach {α : Type} {g : α → State → State} {l : List α} (h : RotKept s t)
    (hg : ∀ a ∈ l, ∀ v, RotKept s v → RotKept s (g a v)) : RotKept s (forEach l g t) :=
  forEach_keeps (RotKept s) g l hg t h
theorem onlyIf {c : Bool} {g : State → State} (h : RotKept s t) (hg : ∀ v, RotKept v (g v)) : RotKept s (onlyIf c g t) :=
  ite (h.trans (hg t)) h
theorem f_eq (h : RotKept s t) {x : Fld} (hx : RotOwn x.off) : f t x = f s x := f_rd (h.regs _ hx)
theorem sev (h : RotKept s t) {n : Nat} (hn : n < 48) : sevOf t n = sevOf s n := by
  unfold sevOf; rw [h.f_eq (rotOwn_severity hn)]
theorem mild (h : RotKept s t) (k : Mild s) : Mild t := fun n hn => by
  rw [h.sev (by simp only [List.mem_cons, List.not_mem_nil, or_false] at hn; omega)]
  exact k n hn
/-- A raise below SAFE of a source without a remedy. -/
theorem raise {n : Nat} (d : Nat) (h : RotKept s t) (hn : n < 48) (hr : hasRemedy n = false) (hs : sevOf s n < 4) :
    RotKept s (raise n d t) := by
  have hs' : sevOf t n < 4 := by rwa [h.sev hn]
  obtain ⟨⟨r, x, p, e⟩, hreg⟩ := raise_onlyFlt (d := d) hn hs' hr
  refine h.trans ⟨by rw [e], by rw [e], by rw [e], by rw [e], fun o ho => ?_⟩
  rcases ho with ho | ho
  · exact hreg o (by omega)
  · exact rd_raise hn ho d hs' hr
end RotKept

/-! ### Messages and buffers -/

theorem poolNote_rotKept (p : Nat) (s : State) : RotKept s (poolNote p s) := by
  have hoff : (0x30000 ≤ 0xA0100 + 16 * p ∧ 0xA0100 + 16 * p < 0x70000) ∨ 0x80000 ≤ 0xA0100 + 16 * p := by omega
  exact .onlyIf (.setF (x := BPM_POOL_FREE_low_water p) _ (.setF (x := BPM_POOL_FREE_free p) _ (.refl s) hoff) hoff)
    fun v => .setF (x := BPM_STAT_low) _ (.refl v) (by decide)
theorem spillOne_rotKept (p : Nat) (s : State) : RotKept s (spillOne p s) := by
  unfold spillOne; split <;> exact .of_view rfl
theorem giveBack_rotKept (p i : Nat) (s : State) : RotKept s (giveBack p i s) := by
  have hsync : RotKept s (bpmSync s) := by unfold bpmSync; split <;> exact .of_view rfl
  have hmarked : RotKept s (bufPut p i { bufGet s p i with alloc := false }
      { bpmSync s with bpmFreed := bufKey p i :: (bpmSync s).bpmFreed }) := hsync.trans (.of_view rfl)
  unfold giveBack
  simp only
  generalize bufPut p i _ _ = s1 at hmarked ⊢
  have hspilt : RotKept s (if (cacheGet s1 p).length < 64 then s1 else forEach (List.range 16) (fun _ => spillOne p) s1) :=
    .ite hmarked (hmarked.forEach fun _ _ v hv => hv.trans (spillOne_rotKept p v))
  exact .ite hmarked (.trans (t := cachePut p _ _) (hspilt.trans (.of_view rfl)) (poolNote_rotKept p _))
theorem deliver_rotKept (m : Msg) (s : State) : RotKept s (deliver m s) := by
  have hcounted : RotKept s (unsent s) := .ite (.setF _ (.setF _ (.refl s) (by decide)) (by decide)) (.refl s)
  have hreleased : RotKept s (releaseHandle m.handle (unsent s)) := by
    unfold releaseHandle
    split
    · exact .ite (hcounted.trans (giveBack_rotKept _ _ _)) hcounted
    · exact hcounted
  exact .ite (.of_view rfl) hreleased
theorem answer_rotKept (u : Urp) (b : MsgBody) (s : State) : RotKept s (answer u b s) := deliver_rotKept _ s
theorem refuseSheaf_rotKept {reason : Nat} (h : reason ≠ 0x08) (index : Nat) (fw : Bool) (sh : Sheaf) (s : State) :
    RotKept s (refuseSheaf reason index fw sh s) := by
  unfold refuseSheaf sheafRsp
  simp only [if_neg h]
  exact .forEach (.refl s) fun _ _ v hv => hv.trans (deliver_rotKept _ v)
theorem rotEvent_rotKept (table a : Nat) (s : State) : RotKept s (rotEvent table a s) := by
  unfold rotEvent
  split
  · exact .of_onlyTelem (telem_onlyTelem _ _ _ _ _ s)
  · exact .refl s

/-! ### Marks and waveforms -/

theorem abandonMark_rotKept (w sl : Nat) (s : State) : RotKept s (abandonMark w sl s) := by
  have hended : RotKept s (endMark w sl s) :=
    .trans (.setF (x := PLOT_LOOP_STAT_stale w sl) 0 (.of_view rfl)
      (.inr (by have := winBase_above w; simp only [PLOT_LOOP_STAT_stale]; omega))) (.of_view rfl)
  unfold abandonMark
  exact .ite (hended.setF _ (by decide)) (.refl s)
theorem closeMarks_rotKept (p : CommitPlan) (s : State) : RotKept s (closeMarks p s) :=
  .forEach (.refl s) fun _ _ v hv => hv.trans (abandonMark_rotKept _ _ v)
theorem cutHold_rotKept (w ch : Nat) (s : State) : RotKept s (cutHold w ch s) := by
  unfold cutHold
  exact .ite (.setF _ (.of_view rfl) (.inr (by have := winBase_above w; simp only [PLOT_DRL_STAT_dg_cut]; omega))) (.refl s)
theorem startWave_rotKept (w ch : Nat) (codes : List Int) (test : Bool) (s : State) : RotKept s (startWave w ch codes test s) := by
  have hw := winBase_above w
  have hflush : RotKept s (incBy (PLOT_DRL_CNT_FLUSH_count w) (chanOf s w ch).queue.length s) :=
    .setF _ (.refl s) (.inr (by simp only [PLOT_DRL_CNT_FLUSH_count]; omega))
  have hcut := (hflush.trans (cutHold_rotKept w ch _)).onlyIf (c := chRt w ch) (cutHold_rotKept w (seg1Of ch))
  have hclip := hcut.onlyIf (c := codes.any fun v => satInt 16 v != v) (g := setF (PLOT_DRL_STAT_clip w ch) 1)
    fun v => .setF _ (.refl v) (.inr (by simp only [PLOT_DRL_STAT_clip]; omega))
  unfold startWave
  simp only
  refine hclip.trans (.trans ?_ (.of_view rfl))
  split <;> exact .of_view rfl
theorem playWave_rotKept (r : WaveRead) (s : State) : RotKept s (playWave r s) := by
  unfold playWave
  exact .ite ((startWave_rotKept r.win r.slot _ false s).trans (.of_view rfl)) (.refl s)
theorem runConv_rotKept (w : Nat) (s : State) : RotKept s (runConv w s) := by
  obtain ⟨r, x, p, e⟩ := runConv_onlySense w s
  exact ⟨by rw [e], by rw [e], by rw [e], by rw [e], fun o ho => (runConv_senseKept w s).regs o (by unfold RotOwn SrcCfg at ho; omega)⟩

/-! ### Triggers -/

section
variable {s t : State} (h : RotKept s t)
include h

theorem glnGo_rotKept (n st : Nat) : RotKept s (glnGo n st t) := by
  unfold glnGo setB
  exact (h.setF _ (.inr (by simp only [GLN_STAT_armed]; decide))).setF _ (.inr (by simp only [GLN_CH_STAT_state]; omega))
theorem glnDrive_rotKept (n e : Nat) : RotKept s (glnDrive n e t) :=
  .forEach (.forEach h fun _ _ _ hv => hv.trans (.of_view rfl)) fun _ _ _ hv => hv.trans (.of_view rfl)

section
variable (hsev : sevOf s 46 < 4)
include hsev

theorem glnOvf_rotKept (n c : Nat) : RotKept s (glnOvf n c t) := by
  have hcount : RotKept s (inc GLN_CNT_OVF_count (setF ⟨GLN_STAT_ovf.off, 8 + n, 1⟩ 1 t)) :=
    (h.setF _ (.inr (by simp only [GLN_STAT_ovf]; decide))).setF _ (by decide)
  exact hcount.raise _ (by decide) rfl hsev
theorem glnTake_rotKept (n : Nat) (g : GlnTrig) : RotKept s (glnTake n g t).2 := by
  have hanchor (x : GlnX) {v : State} (hv : RotKept s v) : RotKept s (glnAnchor x v) := by
    unfold glnAnchor urgentOne convAdd convPut
    exact .ite (hv.trans (.of_view rfl)) hv
  have htaken (x y : GlnX) : RotKept s (glnDrive n g.edge (glnAnchor x (glnGo n 3 (glnPut n y t)))) :=
    have hput : RotKept s (glnPut n y t) := h.trans (.of_view rfl)
    glnDrive_rotKept (hanchor x (glnGo_rotKept hput n 3)) n _
  have hextra : RotKept s (glnExtra n t) := by
    have hcount (x : GlnX) : RotKept s (inc (GLN_CH_CNT_EXTRA_count n) (glnPut n x t)) :=
      .setF _ (h.trans (.of_view rfl)) (.inr (by simp only [GLN_CH_CNT_EXTRA_count]; omega))
    unfold glnExtra
    exact .ite (glnOvf_rotKept (hcount _) hsev n 2) (hcount _)
  unfold glnTake
  dsimp only
  split
  · exact h
  · exact htaken _ _
  · exact htaken _ _
  · split
    · exact h
    · exact hextra
end
end

theorem glnTrigger_rotKept {s : State} (hsev : sevOf s 46 < 4) (u n : Nat) (g : GlnTrig) {t : State} (h : RotKept s t) :
    RotKept s (glnTrigger u n g t) := by
  induction u generalizing n t with
  | zero => exact h
  | succ u ih =>
    unfold glnTrigger
    exact .ite (.forEach (glnTake_rotKept h hsev n g) fun k _ _ hv => ih k hv) (glnTake_rotKept h hsev n g)
theorem glnCommit_rotKept {s t : State} (h : RotKept s t) (hsev : sevOf s 46 < 4) (affected times : List Nat) :
    RotKept s (glnCommit affected times t) := by
  unfold glnCommit
  exact .ite (.forEach (.forEach h fun _ _ _ hv => hv.trans (.of_view rfl)) fun n _ _ hv => glnTrigger_rotKept hsev 9 n _ hv) h
theorem trcEvents_rotKept {s t : State} (h : RotKept s t) (hsev : sevOf s 47 < 4) (src : Nat) (l : List Nat) :
    RotKept s (forEach l (trcEvent src) t) := by
  have hstat (w : Nat) (x : Fld) (v : Nat) {u : State} (hu : RotKept s u) (hx : x.off = winBase w + trcBase w + 0x4) :
      RotKept s (setF x v u) := hu.setF v (.inr (by have := winBase_above w; omega))
  have htrigger (w : Nat) {u : State} (hu : RotKept s u) : RotKept s (trcTrigger w u) := by
    unfold trcTrigger
    refine .ite hu (.ite ?_ (.ite hu ?_))
    · exact .raise _ (hstat w _ _ hu rfl) (by decide) rfl hsev
    · exact hstat w _ _ (hstat w _ _ (hu.trans (.of_view rfl)) rfl) rfl
  exact .forEach h fun w _ _ hv => .ite (htrigger w hv) hv

/-! ### A commit's tick -/

theorem charged_rotKept {s : State} (p : CommitPlan) (hcap : s.captureWait = none) : RotKept s (charged p s) := by
  have hcapture : captureNow (runConv 16 s) = runConv 16 s := by
    unfold captureNow; rw [congrArg CommitPart.captureWait (runConv_commitsKept 16 s).commits, hcap]
  have hlowered (t : State) : RotKept t (shCharge p.cost t) := .of_view rfl
  unfold charged
  rw [hcapture]
  exact .setF _ ((runConv_rotKept 16 s).trans (hlowered _)) (by decide)
theorem fired_rotKept {s : State} (p : CommitPlan) (tick : Nat) (h46 : sevOf s 46 < 4) (h47 : sevOf s 47 < 4) :
    RotKept s (fired p tick s) := by
  have hplay : RotKept s (darkPlaying p tick s) :=
    .forEach (.of_view rfl) fun r _ v hv => hv.trans (playWave_rotKept r v)
  have hdark : RotKept s (forEach (openedOuts p s) (fun o => setGate o false) (darkPlaying p tick s)) :=
    hplay.forEach fun _ _ _ hv => hv.trans (.of_view rfl)
  exact trcEvents_rotKept (glnCommit_rotKept hdark h46 _ _) h47 1 _
theorem fireCommit_rotKept {s : State} (p : CommitPlan) (tick : Nat) (hcap : s.captureWait = none)
    (h46 : sevOf s 46 < 4) (h47 : sevOf s 47 < 4) : RotKept s (fireCommit p tick s) := by
  have hcharged := charged_rotKept p hcap
  rw [fireCommit_eq]
  exact hcharged.trans (fired_rotKept p tick (by rwa [hcharged.sev (by decide)]) (by rwa [hcharged.sev (by decide)]))
theorem preCheckRefuse_rotKept (o : Nat) {s : State} (hsev : sevOf s 12 < 4) : RotKept s (preCheckRefuse o s) := by
  have hrefused : RotKept s (refuseAccepted 0x0A s) :=
    .forEach (.of_view rfl) fun _ _ v hv => hv.trans (refuseSheaf_rotKept (by decide) 0 _ _ v)
  exact hrefused.raise _ (by decide) rfl hsev

/-! ### A checked read -/

section
variable {s : State} (hm : Mild s)
include hm

theorem raiseTile_rotKept {n : Nat} (hn : n ∈ [16, 17, 25]) (w : Nat) {t : State} (h : RotKept s t) : RotKept s (raiseTile n w t) := by
  have hr : hasRemedy n = false ∧ n < 48 := by
    simp only [List.mem_cons, List.not_mem_nil, or_false] at hn
    rcases hn with rfl | rfl | rfl <;> decide
  exact .ite (h.raise w hr.2 hr.1 (hm n hn)) h
theorem dieFail_rotKept (d : Nat) {t : State} (h : RotKept s t) : RotKept s (dieFail d t) := by
  have hmarked : RotKept s (setF (if d = 0 then BPM_STAT_d0_off else BPM_STAT_d1_off) 1
      (setF (if d = 0 then DRC_STAT_d0_off else DRC_STAT_d1_off) 1 t)) :=
    .setF _ (.setF _ h (by split <;> decide)) (by split <;> decide)
  have hlost (p : Nat) (v : State) : RotKept v (poolLost d p v) :=
    .trans (t := ringPut p d [] (cachePut p _ v)) (.of_view rfl) (poolNote_rotKept p _)
  exact .ite h (.raise _ (hmarked.forEach fun p _ v hv => hv.trans (hlost p v)) (by decide) rfl (hm 25 (by decide)))
theorem noteCrc_rotKept {d : Nat} (hd : d < 2) (a : Nat) (o : Bool) {t : State} (h : RotKept s t) : RotKept s (noteCrc d a o t) := by
  have hcount : RotKept s (inc (DRC_CNT_CRC_count d) t) := .setF _ h (.inr (by simp only [DRC_CNT_CRC_count]; omega))
  unfold noteCrc
  simp only
  generalize inc (DRC_CNT_CRC_count d) t = t0 at hcount ⊢
  exact .ite (.ite (dieFail_rotKept hm d (hcount.trans (.of_view rfl))) (hcount.trans (.of_view rfl))) hcount
theorem checkedNote_rotKept (a : Nat) {t : State} (h : RotKept s t) : RotKept s (checkedNote a t) := by
  have hcount : RotKept s (inc DRC_CNT_CHECKED_count t) := h.setF _ (by decide)
  unfold checkedNote
  simp only
  generalize inc DRC_CNT_CHECKED_count t = s0 at hcount ⊢
  have hbad : RotKept s (setF DRC_LAST_TILE_addr a s0) := hcount.setF _ (by decide)
  have hnone : RotKept s (inc DRC_CNT_NOCOPY_count (setF DRC_LAST_TILE_addr a s0)) := hbad.setF _ (by decide)
  generalize setF DRC_LAST_TILE_addr a s0 = s1 at hbad hnone ⊢
  have hput (m : List Host.Cell) : RotKept s1 { s1 with dram := m } := .of_view rfl
  have hrepair (c : Nat) : RotKept s (repairTile a c s1) := .ite (.setF _ (hbad.trans (hput _)) (by decide)) hbad
  split
  · exact hnone
  · exact .ite hbad (raiseTile_rotKept hm (by decide) _ (noteCrc_rotKept hm (by decide) a _ hnone))
  · exact .ite hbad (raiseTile_rotKept hm (by decide) _ (noteCrc_rotKept hm (by decide) a _ hnone))
  · split
    · split
      · exact raiseTile_rotKept hm (by decide) _ (hbad.setF _ (by decide))
      · exact .ite hcount (hbad.setF _ (by decide))
    · exact raiseTile_rotKept hm (by decide) _ (noteCrc_rotKept hm (by decide) a _ (hrepair 0))
    · exact raiseTile_rotKept hm (by decide) _ (noteCrc_rotKept hm (by decide) a _ (hrepair 1))
    · exact raiseTile_rotKept hm (by decide) _
        (noteCrc_rotKept hm (by decide) a _ (noteCrc_rotKept hm (by decide) a _ hnone))
theorem validateNote_rotKept (n : Nat) {t : State} (h : RotKept s t) : RotKept s (validateNote n t) :=
  checkedNote_rotKept hm _ (checkedNote_rotKept hm _ h)
end

end Sys2Proof.Machine
end

section
/-! The commands of a rotation as SUP and a tenant's message issue them (R171, R340): the state in which the command acts, and what
its answer leaves. -/
namespace Sys2Proof.Machine
open Sys2Proof.Config

/-! ### The frames -/

/-- The time and the rotation, the maps and lists, the banks' loaders, the messages that wait and the words of the banks stand. -/
structure BankKept (s t : State) : Prop where
  time : t.toTimePart = s.toTimePart
  commits : t.toCommitPart = s.toCommitPart
  loader : t.rotLoader = s.rotLoader
  msgs : t.urpIn = s.urpIn
  banks : ∀ o, 0x71000 ≤ o → o < 0x80000 → rd t o = rd s o
/-- What the answer to a command leaves. -/
structure Answered (s t : State) : Prop where
  rot : RotKept s t
  commits : t.toCommitPart = s.toCommitPart

namespace BankKept
variable {s t u : State}
protected theorem refl (s : State) : BankKept s s := ⟨rfl, rfl, rfl, rfl, fun _ _ _ => rfl⟩
protected theorem trans (h : BankKept s t) (k : BankKept t u) : BankKept s u :=
  ⟨k.time.trans h.time, k.commits.trans h.commits, k.loader.trans h.loader, k.msgs.trans h.msgs,
    fun o h1 h2 => (k.banks o h1 h2).trans (h.banks o h1 h2)⟩
theorem of_answered (h : Answered s t) : BankKept s t :=
  ⟨h.rot.time, h.commits, h.rot.loader, h.rot.msgs, fun o h1 h2 => h.rot.regs o (.inl ⟨by omega, h2⟩)⟩
theorem setF {x : Fld} (v : Nat) (h : BankKept s t) (hx : x.off < 0x71000) : BankKept s (setF x v t) :=
  h.trans ⟨rfl, rfl, rfl, rfl, fun o h1 _ => rd_setF_other t x v (by omega)⟩
theorem ite {c : Prop} [Decidable c] (h : BankKept s t) (k : BankKept s u) : BankKept s (if c then t else u) := by
  split
  · exact h
  · exact k
end BankKept

namespace Answered
variable {s t u : State}
protected theorem refl (s : State) : Answered s s := ⟨.refl s, rfl⟩
protected theorem trans (h : Answered s t) (k : Answered t u) : Answered s u := ⟨h.rot.trans k.rot, k.commits.trans h.commits⟩
theorem settle (s0 : State) (h : Answered s t) : Answered s (settle s0 t) :=
  h.trans ⟨.of_onlyMsix (settle_eq s0 t) fun _ ho => rd_settle s0 t (by rintro rfl; unfold RotOwn SrcCfg at ho; revert ho; decide),
    settle_toCommitPart s0 t⟩
theorem answer (w : Urp) (b : MsgBody) (h : Answered s t) : Answered s (answer w b t) :=
  h.trans ⟨answer_rotKept w b t, (deliver_lowKept _ t).commits⟩
theorem f_eq (h : Answered s t) {x : Fld} (hx : 0x70000 ≤ x.off ∧ x.off < 0x80000) : f t x = f s x := h.rot.f_eq (.inl hx)
end Answered

/-! ### The state in which a command acts -/

/-- The state `w` in which a command acts is `s` with `dt` elapsed but for the command register. -/
structure CommandAt (s : State) (dt : Nat) (w : State) : Prop where
  time : w.toTimePart = (elapse s dt).toTimePart
  commits : w.toCommitPart = s.toCommitPart
  loader : w.rotLoader = s.rotLoader
  regs : ∀ o, o ≠ ROT_CMD_op.off → rd w o = rd s o

namespace CommandAt
variable {s w : State} {dt : Nat} (h : CommandAt s dt w)
include h

theorem f_eq {x : Fld} (hx : x.off ≠ ROT_CMD_op.off) : f w x = f s x := f_rd (h.regs _ hx)
theorem rot : w.rot = s.rot := (congrArg TimePart.rot h.time).trans rfl
theorem armed (k : Nat) : armedOf w k = armedOf s k := by unfold armedOf; rw [congrArg TimePart.rotArmed h.time]; rfl
theorem marked (k : Nat) : markedOf w k = markedOf s k := by unfold markedOf; rw [congrArg TimePart.rotMarked h.time]; rfl
theorem ready : w.rotReady = s.rotReady := (congrArg TimePart.rotReady h.time).trans rfl
theorem word (k b off : Nat) : bankWord w k b off = bankWord s k b off := by
  unfold bankWord; rw [h.regs _ (by simp only [ROT_CMD_op]; omega)]
theorem base (k b : Nat) : bankTb w k b = bankTb s k b := by unfold bankTb; rw [h.word]
theorem baseT (k b : Nat) : bankBaseT w k b = bankBaseT s k b := by unfold bankBaseT; simp only [h.word]
theorem cycle (k b : Nat) : cycleOf w k b = cycleOf s k b := by
  have hdur : slotDur w k b = slotDur s k b := funext fun i => by unfold slotDur; rw [h.word]
  unfold cycleOf slotStart bankSlots
  rw [hdur, h.word]
theorem lead : admitT w = admitT s := by unfold admitT; rw [h.f_eq (by decide)]
theorem now (b : Nat) : tbNow w b = tbNow (elapse s dt) b := by
  refine tbNow_congr (h.regs _ (by simp only [ROT_CMD_op]; omega)) ?_
  rw [congrArg TimePart.clk h.time]
theorem enabled (b : Nat) : tbEnabled w b = tbEnabled s b := tbEnabled_rd (h.regs _ (by simp only [ROT_CMD_op]; omega))
theorem mild (hm : Mild s) : Mild w := fun n hn => by
  have hoff : (FLT_SRC_CFG_severity n).off ≠ ROT_CMD_op.off := by
    simp only [List.mem_cons, List.not_mem_nil, or_false] at hn
    rcases hn with rfl | rfl | rfl <;> decide
  unfold sevOf
  rw [h.f_eq hoff]
  exact hm n hn
end CommandAt

/-- By `c` command `op` of table `k` acts on `w`, and is answered. -/
structure Commands (s : State) (dt : Nat) (c : Instr) (op k : Nat) (w : State) : Prop where
  start : CommandAt s dt w
  completes : ∀ P : State → Prop, (∀ t, Answered (rotRun k op w) t → P t) → Completes c s P

/-- A field takes the value's low bits alone. -/
theorem setF_mod (x : Fld) (v : Nat) (s : State) : setF x v s = setF x (v % 2 ^ x.wid) s := by
  unfold setF setMask fldPut; simp only [Nat.mod_mod]

section
variable {s : State} {k op : Nat}

theorem rotCmd_runs {v : Nat} (hgo : v / 2 ^ 31 % 2 = 1) (hop : v / 16 % 16 = op) (hk : v % 16 = k) (w : State) :
    rotCmd v w = rotRun k op (setF ROT_CMD_op op (setF ROT_CMD_table k w)) := by
  have htable : setF ROT_CMD_table v w = setF ROT_CMD_table k w := (setF_mod _ v w).trans (congrArg (setF ROT_CMD_table · w) hk)
  have hstored (u : State) : setF ROT_CMD_op (v / 16) u = setF ROT_CMD_op op u :=
    (setF_mod _ (v / 16) u).trans (congrArg (setF ROT_CMD_op · u) hop)
  unfold rotCmd
  simp only
  rw [hgo, if_pos rfl, htable, hstored, hop, hk]
theorem rotMaster_runs (h : SupMayRotate s k) (hop : op < 16) (dt : Nat) :
    rotMaster 0 op k (elapse s dt) = rotRun k op (supRot s dt op k) := by
  obtain ⟨-, hk, hm, h20⟩ := h
  have hv : (2 ^ 31 + 16 * op + k % 16) / 2 ^ 31 % 2 = 1 ∧ (2 ^ 31 + 16 * op + k % 16) / 16 % 16 = op ∧
      (2 ^ 31 + 16 * op + k % 16) % 16 = k := by omega
  unfold rotMaster
  generalize 2 ^ 31 + 16 * op + k % 16 = v at hv
  obtain ⟨hgo, hopv, hkv⟩ := hv
  rw [regCmd_gov (o := ROT_CMD_op.off) dt hm _ h20, rotCmd_runs hgo hopv hkv]
  rfl

theorem supRot_commandAt (s : State) (dt op k : Nat) : CommandAt s dt (supRot s dt op k) where
  time := rfl
  commits := rfl
  loader := rfl
  regs _ ho := (rd_setF_other _ ROT_CMD_op _ ho).trans (rd_setF_other _ ROT_CMD_table _ ho)
theorem msgRot_commandAt (s : State) (dt : Nat) (l : List Urp) : CommandAt s dt (msgRot s dt l) where
  time := rfl
  commits := rfl
  loader := rfl
  regs _ _ := rfl

/-- SUP's command. -/
theorem sup_commands {c : Instr} {dt : Nat} (hc : exec c s = run s dt (rotMaster 0 op k)) (hop : op < 16) (h : SupMayRotate s k) :
    Commands s dt c op k (supRot s dt op k) where
  start := supRot_commandAt s dt op k
  completes P hP := by
    refine completes_run hc h.1 ?_
    rw [rotMaster_runs h hop]
    exact hP _ (.settle s (.refl _))

/-- The message that is taken. -/
theorem takeUrp_takes {mine : Urp → Bool} {g : Urp → State → State} {u : Urp} {l : List Urp} {dt : Nat} (hq : s.urpIn = u :: l)
    (hmine : mine u = true) (h21 : domOn s 21 = true) : takeUrp mine g (elapse s dt) = g u (msgRot s dt l) := by
  have htakes : (mine u && domOn (elapse s dt) 21) = true := by rw [hmine, Bool.true_and]; exact h21
  unfold takeUrp
  rw [show (elapse s dt).urpIn = u :: l from hq]
  exact if_pos htakes
theorem isRotLoad_of {u : Urp} (ht : u.type = 6) (hop : byteAt u.body 1 = op) : isRotLoad op u = true := by
  unfold isRotLoad; rw [ht, hop]; simp
/-- A message's command. -/
theorem msg_commands {c : Instr} {dt : Nat} {u : Urp} {l : List Urp} {r : State → Nat → RotRes}
    (hc : exec c s = run s dt (takeUrp (isRotLoad op) (rotAct (if op = 1 ∨ op = 5 then 1 else 0) r op)))
    (h : MsgMayRotate s op k u l) : Commands s dt c op k (msgRot s dt l) where
  start := msgRot_commandAt s dt l
  completes P hP := by
    obtain ⟨hpor, -, hq, htype, htable, hop, h21, hmine⟩ := h
    have hmine' : rotMine (msgRot s dt l) u (if op = 1 ∨ op = 5 then 1 else 0) = true := hmine
    refine completes_run hc hpor ?_
    rw [takeUrp_takes hq (isRotLoad_of htype hop) h21]
    unfold rotAct
    simp only
    rw [hmine', if_pos rfl, htable]
    exact hP _ (.settle s (.answer _ _ (.refl _)))
end

/-! ### The registers of a command -/

/-- The registers that show the rotation (Table 5-14) are brought up to date, and nothing else. -/
theorem rotNote_bankKept (s : State) : BankKept s (rotNote s) := by
  unfold rotNote setB
  split
  · exact .setF _ (.setF _ (.refl s) (by decide)) (by decide)
  · refine .setF _ (.setF _ ?_ (by decide)) (by decide)
    split
    · exact .setF _ (.refl s) (by decide)
    · exact .setF _ (.setF _ (.refl s) (by decide)) (by decide)
theorem rd_rotNote (s : State) {o : Nat} (ho : o ≠ ROT_STAT_state.off) : rd (rotNote s) o = rd s o := by
  have hput (x : Fld) (hx : x.off = ROT_STAT_state.off) (v : Nat) (u : State) : rd (setF x v u) o = rd u o :=
    rd_setF_other u x v (hx ▸ ho)
  unfold rotNote setB
  split
  · rw [hput ROT_STAT_armed rfl, hput ROT_STAT_state rfl]
  · simp only
    rw [hput ROT_STAT_armed rfl, hput ROT_STAT_state rfl]
    split
    · exact hput ROT_STAT_table rfl _ _
    · exact (hput ROT_STAT_slot rfl _ _).trans (hput ROT_STAT_table rfl _ _)
theorem f_rotNote (s : State) {x : Fld} (hx : x.off ≠ ROT_STAT_state.off) : f (rotNote s) x = f s x := f_rd (rd_rotNote s hx)
/-- ROT_STAT.state with a rotation. -/
def statOf (r : RotRun) : Nat :=
  match r.stopAt, r.st with
  | some _, _ => 4 | none, .admitted => 1 | none, .running => 2 | none, .suspended => 3 | none, .stopping => 4
theorem statOf_lt (r : RotRun) : statOf r < 8 := by unfold statOf; split <;> decide
theorem f_rotNote_idle {s : State} (h : s.rot = none) : f (rotNote s) ROT_STAT_state = 0 := by
  unfold rotNote
  rw [h]
  exact (f_setF_ne _ _ _ _ (by decide) (by decide)).trans (f_setF_same _ _ _ (by decide))
theorem f_rotNote_state {s : State} {r : RotRun} (h : s.rot = some r) : f (rotNote s) ROT_STAT_state = statOf r := by
  unfold rotNote setB
  rw [h]
  refine (f_setF_ne _ _ _ _ (by decide) (by decide)).trans ((f_setF_same _ _ _ (by decide)).trans ?_)
  exact Nat.mod_eq_of_lt (statOf_lt r)
theorem f_rotNote_table {s : State} {r : RotRun} (h : s.rot = some r) (hlt : r.table < 16) :
    f (rotNote s) ROT_STAT_table = r.table := by
  have hput : f (setF ROT_STAT_table r.table s) ROT_STAT_table = r.table :=
    (f_setF_same _ _ _ (by decide)).trans (Nat.mod_eq_of_lt hlt)
  unfold rotNote setB
  rw [h]
  refine (f_setF_ne _ _ _ _ (by decide) (by decide)).trans ((f_setF_ne _ _ _ _ (by decide) (by decide)).trans ?_)
  split
  · exact hput
  · exact (f_setF_ne _ _ _ _ (by decide) (by decide)).trans hput
theorem f_rotNote_slot {s : State} {r : RotRun} (h : s.rot = some r) (hst : r.st ≠ .admitted) (hlt : r.slot < 64) :
    f (rotNote s) ROT_STAT_slot = r.slot := by
  unfold rotNote setB
  rw [h]
  refine (f_setF_ne _ _ _ _ (by decide) (by decide)).trans ((f_setF_ne _ _ _ _ (by decide) (by decide)).trans ?_)
  rw [if_neg hst]
  exact (f_setF_same _ _ _ (by decide)).trans (Nat.mod_eq_of_lt hlt)

theorem rotResult_bankKept (r : RotRes) (s : State) : BankKept s (rotResult r s) :=
  .setF _ (.setF _ (.setF _ (.refl s) (by decide)) (by decide)) (by decide)
theorem f_rotResult_code {r : RotRes} (hr : r.code = 0) (s : State) : f (rotResult r s) ROT_RESULT_code = 0 := by
  unfold rotResult
  rw [f_setF_ne _ ROT_RESULT_map_result _ _ (by decide) (by decide), f_setF_ne _ ROT_RESULT_slot _ _ (by decide) (by decide), hr]
  exact f_setF_same _ _ _ (by decide)
theorem f_rotResult (r : RotRes) (s : State) {x : Fld} (hx : x.off ≠ ROT_RESULT_code.off) : f (rotResult r s) x = f s x := by
  unfold rotResult
  rw [f_setF_off _ ROT_RESULT_map_result _ _ hx, f_setF_off _ ROT_RESULT_slot _ _ hx, f_setF_off _ ROT_RESULT_code _ _ hx]

/-! ### Masks of tables -/

theorem getLsbD_putT_same (v : BitVec 16) {k : Nat} (hk : k < 16) (x : Bool) : (putT v k x).getLsbD k = x := by
  unfold putT
  split
  · next h => exact h
  · next h =>
    rw [BitVec.getLsbD_xor, BitVec.getLsbD_ofNat, Nat.testBit_two_pow_self, decide_eq_true hk]
    revert h
    cases v.getLsbD k <;> cases x <;> simp
theorem getLsbD_putT_other (v : BitVec 16) {k j : Nat} (h : j ≠ k) (x : Bool) : (putT v k x).getLsbD j = v.getLsbD j := by
  unfold putT
  split
  · rfl
  · rw [BitVec.getLsbD_xor, BitVec.getLsbD_ofNat, Nat.testBit_two_pow_of_ne h.symm]
    simp

end Sys2Proof.Machine
end

section
/-! Stops and discards of a rotation (R174, R182, R186), however they are issued. -/
namespace Sys2Proof.Machine
open Sys2Proof.Config

theorem stopCode_unstopped {w : State} {r : RotRun} (hr : w.rot = some r) (hstop : r.stopAt = none) (k : Nat) : stopCode w k = 0 := by
  unfold stopCode; rw [hr]; exact if_neg (by rw [hstop]; rintro ⟨-, h⟩; cases h)
theorem not_stopped {k : Nat} {r : RotRun} (hk : r.table = k) (hstop : r.stopAt = none) :
    ¬ (r.table ≠ k ∨ r.stopAt.isSome = true) := by
  rw [hstop]
  rintro (h | h)
  · exact h hk
  · cases h

section
variable {w : State} {k : Nat} {r : RotRun} (hr : w.rot = some r) (hk : r.table = k) (hstop : r.stopAt = none)
include hr hk hstop

/-- A stop of a running table is planned. -/
theorem stopTable_running (hst : r.st = .running) (dark : Bool) : stopTable k dark w =
    rotNote { w with rot := some { r with
      stopAt := some (boundaryFrom r.base (cycleOf w k 0) (tbNow w (bankTb w k 0) + admitT w), dark) } } := by
  unfold stopTable
  rw [hr]
  simp only
  rw [if_neg (not_stopped hk hstop), hst]
  rfl
/-- A stop of a suspended table takes effect at once. -/
theorem stopTable_suspended (hst : r.st = .suspended) (dark : Bool) : stopTable k dark w = stopNow dark w := by
  unfold stopTable
  rw [hr]
  simp only
  rw [if_neg (not_stopped hk hstop), if_pos hst]
end

/-- The state without the rotation's own commit, should one be closed. -/
def reopened (s : State) : State :=
  match s.closed with
  | some p => if p.rot.isSome then { s with closed := none } else s
  | none => s
theorem reopened_eq (s : State) : ∃ p, reopened s = { s with closed := p } := by
  unfold reopened
  split
  · split
    · exact ⟨none, rfl⟩
    · exact ⟨s.closed, rfl⟩
  · exact ⟨s.closed, rfl⟩
theorem stopHold_eq {w : State} {r : RotRun} (hr : w.rot = some r) :
    stopHold w = rotEvent r.table 3 (rotIdle (passCircuits (reopened w))) := by
  unfold stopHold reopened
  rw [hr] <;> rfl
/-- The state without an operating table, its pending bank unarmed. -/
def unrotated (r : RotRun) (s : State) : State :=
  { s with rot := none, rotArmed := s.rotArmed &&& ~~~(BitVec.ofNat 16 (2 ^ r.table)) }
theorem rotIdle_eq {w : State} {r : RotRun} (hr : w.rot = some r) : rotIdle w = rotNote (unrotated r w) := by
  unfold rotIdle unrotated; rw [hr]
/-- After a stop with hold no table operates, and no circuit is the rotation's. -/
theorem stopHold_ends {w : State} {r : RotRun} (hr : w.rot = some r) : let t := stopHold w
    t.rot = none ∧ f t ROT_STAT_state = 0 ∧ t.present = clearByRot w.present ∧ t.projected = clearByRot w.projected := by
  have hpass : ∃ p, LowKept { w with closed := p, present := clearByRot w.present, projected := clearByRot w.projected }
      (passCircuits (reopened w)) := by
    obtain ⟨p, hp⟩ := reopened_eq w
    rw [hp]
    exact ⟨p, passCircuits_lowKept { w with closed := p }⟩
  obtain ⟨p, hpass⟩ := hpass
  rw [stopHold_eq hr]
  generalize passCircuits (reopened w) = v at hpass
  rw [rotIdle_eq (hpass.rot.trans hr)]
  have hnote := rotNote_bankKept (unrotated r v)
  have hstat : f (rotNote (unrotated r v)) ROT_STAT_state = 0 := f_rotNote_idle rfl
  have hevent := rotEvent_rotKept r.table 3 (rotNote (unrotated r v))
  have hcommits := (rotEvent_lowKept r.table 3 (rotNote (unrotated r v))).commits.trans (hnote.commits.trans hpass.commits)
  exact ⟨(congrArg TimePart.rot hevent.time).trans (congrArg TimePart.rot hnote.time),
    (hevent.f_eq (rotOwn_rot (by decide))).trans hstat,
    congrArg CommitPart.present hcommits, congrArg CommitPart.projected hcommits⟩

section
variable {s w : State} {dt op k : Nat} {c : Instr} (hc : Commands s dt c op k w)

section
variable {dark : Bool} (hrun : rotRun k op w = rotResult { code := stopCode w k } (stopTable k dark w)) {r : RotRun}
  (hr : s.rot = some r) (hk : r.table = k) (hstop : r.stopAt = none)
include hc hrun hr hk hstop

theorem stop_plans (hst : r.st = .running) : Completes c s fun t =>
    f t ROT_RESULT_code = 0 ∧ f t ROT_STAT_state = 4 ∧ t.present = s.present ∧
    t.rot = some { r with
      stopAt := some (boundaryFrom r.base (cycleOf s k 0) (tbNow (elapse s dt) (bankTb s k 0) + admitT s), dark) } := by
  have hr' : w.rot = some r := hc.start.rot.trans hr
  refine hc.completes _ fun t ht => ?_
  rw [hrun, stopTable_running hr' hk hstop hst, hc.start.cycle, hc.start.now, hc.start.base, hc.start.lead] at ht
  generalize boundaryFrom r.base (cycleOf s k 0) (tbNow (elapse s dt) (bankTb s k 0) + admitT s) = x at ht ⊢
  have hkept := (rotNote_bankKept { w with rot := some { r with stopAt := some (x, dark) } }).trans
    ((rotResult_bankKept _ _).trans (.of_answered ht))
  have hstat := f_rotNote_state (s := { w with rot := some { r with stopAt := some (x, dark) } }) rfl
  refine ⟨?_, ?_, ?_, congrArg TimePart.rot hkept.time⟩
  · exact (ht.f_eq (by decide)).trans (f_rotResult_code (stopCode_unstopped hr' hstop k) _)
  · exact (ht.f_eq (by decide)).trans ((f_rotResult _ _ (by decide)).trans hstat)
  · exact (congrArg CommitPart.present hkept.commits).trans (congrArg CommitPart.present hc.start.commits)
theorem stop_endsSuspended (hst : r.st = .suspended) (hdark : dark = false) : Completes c s fun t =>
    f t ROT_RESULT_code = 0 ∧ f t ROT_STAT_state = 0 ∧ t.rot = none ∧ t.present = clearByRot s.present ∧
    t.projected = clearByRot s.projected := by
  have hr' : w.rot = some r := hc.start.rot.trans hr
  have hhold : stopNow false w = stopHold w := by unfold stopNow; rw [hr']; rfl
  subst hdark
  refine hc.completes _ fun t ht => ?_
  rw [hrun, stopTable_suspended hr' hk hstop hst, hhold] at ht
  obtain ⟨hrot, hstat, hpres, hproj⟩ := stopHold_ends hr'
  have hkept := (rotResult_bankKept { code := stopCode w k } (stopHold w)).trans (.of_answered ht)
  rw [congrArg CommitPart.present hc.start.commits] at hpres
  rw [congrArg CommitPart.projected hc.start.commits] at hproj
  refine ⟨?_, ?_, ?_, ?_, ?_⟩
  · exact (ht.f_eq (by decide)).trans (f_rotResult_code (stopCode_unstopped hr' hstop k) _)
  · exact (ht.f_eq (by decide)).trans ((f_rotResult _ _ (by decide)).trans hstat)
  · exact (congrArg TimePart.rot hkept.time).trans hrot
  · exact (congrArg CommitPart.present hkept.commits).trans hpres
  · exact (congrArg CommitPart.projected hkept.commits).trans hproj
end

include hc in
theorem discard_unarms (hop : op = 5) (hk : k < 16) (hidle : s.rot = none) : Completes c s fun t =>
    f t ROT_RESULT_code = 0 ∧ armedOf t k = false ∧ markedOf t k = false ∧
    ∀ j < 16, j ≠ k → armedOf t j = armedOf s j ∧ markedOf t j = markedOf s j := by
  have hidle' : w.rot = none := hc.start.rot.trans hidle
  have hcode : discardCode w k = 0 := by unfold discardCode; rw [hidle']
  have htable : discardTable k w =
      rotNote { w with rotArmed := putT w.rotArmed k false, rotMarked := putT w.rotMarked k false, rot := none } := by
    unfold discardTable; rw [hcode, hidle']; rfl
  subst hop
  refine hc.completes _ fun t ht => ?_
  replace ht : Answered (rotResult { code := discardCode w k } (discardTable k w)) t := ht
  rw [htable] at ht
  have hkept := (rotNote_bankKept _).trans ((rotResult_bankKept _ _).trans (.of_answered ht))
  have harmed (j : Nat) : armedOf t j = (putT w.rotArmed k false).getLsbD j := by
    unfold armedOf; rw [congrArg TimePart.rotArmed hkept.time]
  have hmarked (j : Nat) : markedOf t j = (putT w.rotMarked k false).getLsbD j := by
    unfold markedOf; rw [congrArg TimePart.rotMarked hkept.time]
  refine ⟨?_, ?_, ?_, fun j _ hj => ⟨?_, ?_⟩⟩
  · exact (ht.f_eq (by decide)).trans (f_rotResult_code hcode _)
  · rw [harmed, getLsbD_putT_same _ hk]
  · rw [hmarked, getLsbD_putT_same _ hk]
  · rw [harmed, getLsbD_putT_other _ hj]; exact hc.start.armed j
  · rw [hmarked, getLsbD_putT_other _ hj]; exact hc.start.marked j
end

end Sys2Proof.Machine
end

section
/-! Arming a table and starting it (R171 to R177, R340). -/
namespace Sys2Proof.Machine
open Sys2Proof.Config

/-! ### What the arming check leaves -/

theorem mild_of {s : State} (h16 : sevOf s 16 < 4) (h17 : sevOf s 17 < 4) (h25 : sevOf s 25 < 4) : Mild s := by
  intro n hn
  simp only [List.mem_cons, List.not_mem_nil, or_false] at hn
  rcases hn with rfl | rfl | rfl
  · exact h16
  · exact h17
  · exact h25

theorem validateNote_answered {s t : State} (hm : Mild s) (h : Answered s t) (n : Nat) : Answered s (validateNote n t) :=
  ⟨validateNote_rotKept hm n h.rot, (validateNote_noteKept (h.rot.mild hm)).switch.trans h.commits⟩
theorem armNote_bankKept {w : State} (hm : Mild w) (k : Nat) (r : RotRes) : BankKept w (armNote k r w) := by
  have hread : BankKept w (forEach (List.range (bankSlots w k 1)) (fun i => validateNote (slotMap w k 1 i)) w) :=
    .of_answered (forEach_keeps (Answered w) _ _ (fun i _ t ht => validateNote_answered hm ht _) w (.refl w))
  unfold armNote
  simp only
  generalize forEach _ _ w = t at hread ⊢
  exact .ite (.refl w) (.ite (.setF _ (.setF _ hread (by decide)) (by decide)) hread)

/-! ### The copy of a bank -/

/-- The words of the list copied from the bank at `b` to the bank at `a`. -/
def copyWords (a b : Nat) (l : List Nat) (s : State) : State := forEach l (fun i u => setRaw u (a + 4 * i) (rd u (b + 4 * i))) s

theorem copyWords_cons (a b j : Nat) (l : List Nat) (s : State) :
    copyWords a b (j :: l) s = copyWords a b l (setRaw s (a + 4 * j) (rd s (b + 4 * j))) := rfl
theorem copyWords_eq (a b : Nat) (l : List Nat) (s : State) : ∃ r, copyWords a b l s = { s with regs := r } :=
  forEach_keeps (fun t => ∃ r, t = { s with regs := r }) _ l (fun _ _ _ ⟨_, e⟩ => by subst e; exact ⟨_, rfl⟩) s ⟨s.regs, rfl⟩
theorem rd_copyWords_out {a b o : Nat} {l : List Nat} (h : ∀ i ∈ l, o ≠ a + 4 * i) (s : State) : rd (copyWords a b l s) o = rd s o :=
  forEach_same (fun t => rd t o) _ l (fun i hi t => rd_setRaw_other t (h i hi) _) s
theorem rd_copyWords {a b : Nat} (hab : a + 512 ≤ b) {l : List Nat} (hl : ∀ i ∈ l, i < 128) {i : Nat} (hi : i ∈ l) (s : State) :
    rd (copyWords a b l s) (a + 4 * i) = rd s (b + 4 * i) := by
  induction l generalizing s with
  | nil => exact absurd hi List.not_mem_nil
  | cons j l ih =>
    have hj : j < 128 := hl j List.mem_cons_self
    rw [copyWords_cons]
    by_cases hmem : i ∈ l
    · rw [ih (fun i hi => hl i (List.mem_cons_of_mem j hi)) hmem, rd_setRaw_other _ (by omega)]
    · obtain rfl : i = j := (List.mem_cons.1 hi).resolve_right hmem
      have hout : ∀ m ∈ l, a + 4 * i ≠ a + 4 * m := fun m hm e => hmem ((by omega : m = i) ▸ hm)
      rw [rd_copyWords_out hout, rd_setRaw_same]

/-- The pending bank is copied with its loader. -/
theorem copyBank_copies (k : Nat) (s : State) : let t := copyBank k s
    (∀ i < 128, rd t (0x71000 + 0x400 * k + 4 * i) = rd s (0x71200 + 0x400 * k + 4 * i)) ∧ loaderOf t k 0 = loaderOf s k 1 ∧
      t.toTimePart = s.toTimePart ∧ t.toCommitPart = s.toCommitPart ∧ t.urpIn = s.urpIn := by
  have hcopy : copyBank k s = { copyWords (0x71000 + 0x400 * k) (0x71200 + 0x400 * k) (List.range 128) s with
      rotLoader := amSet (fun _ => none) s.rotLoader (2 * k) (loaderOf s k 1) } := by unfold copyBank copyWords; rfl
  have hwords (i : Nat) (hi : i < 128) := rd_copyWords (a := 0x71000 + 0x400 * k) (b := 0x71200 + 0x400 * k) (by omega)
    (l := List.range 128) (fun _ h => List.mem_range.1 h) (List.mem_range.2 hi) s
  obtain ⟨r, e⟩ := copyWords_eq (0x71000 + 0x400 * k) (0x71200 + 0x400 * k) (List.range 128) s
  rw [e] at hcopy hwords
  rw [hcopy]
  exact ⟨hwords, amGet_amSet_same _ _ _ _, rfl, rfl, rfl⟩

/-! ### Arming -/

/-- An accepted arm of a table while no rotation operates. -/
structure ArmedIdle (w t : State) (k : Nat) : Prop where
  code : f t ROT_RESULT_code = 0
  words : ∀ i < 128, rd t (0x71000 + 0x400 * k + 4 * i) = rd w (0x71200 + 0x400 * k + 4 * i)
  ready : t.rotReady.getLsbD k = true
  unarmed : armedOf t k = false
  idle : t.rot = none
  present : t.present = w.present
  loader : loaderOf t k 0 = loaderOf w k 1
  msgs : t.urpIn = w.urpIn

section
variable {w t : State} {k : Nat} (hm : Mild w) (hcheck : armCheck w k (loaderOf w k 1) = {}) (ht : Answered (rotRun k 1 w) t)
include hm hcheck ht

theorem arm_copies (hk : k < 16) (hidle : w.rot = none) : ArmedIdle w t k := by
  have hnote := armNote_bankKept hm k ({} : RotRes)
  have harm : armTable k (loaderOf w k 1) w = { copyBank k (armNote k {} w) with
      rotArmed := putT (armNote k {} w).rotArmed k false, rotReady := putT (armNote k {} w).rotReady k true } := by
    have hoff : rotOn w k = false := by unfold rotOn; rw [hidle]
    unfold armTable
    rw [hcheck, hoff]
    exact (if_pos rfl).trans (if_neg Bool.false_ne_true)
  replace ht : Answered (rotResult (armCheck w k (loaderOf w k 1)) (armTable k (loaderOf w k 1) w)) t := ht
  rw [hcheck, harm] at ht
  obtain ⟨hwords, hloader, htime, hcommits, hmsgs⟩ := copyBank_copies k (armNote k {} w)
  have hloaderOf : loaderOf (armNote k {} w) k 1 = loaderOf w k 1 := by unfold loaderOf; rw [hnote.loader]
  generalize armNote k {} w = n at ht hnote hwords hloader htime hcommits hmsgs hloaderOf
  generalize copyBank k n = v at ht hwords hloader htime hcommits hmsgs
  have hkept := (rotResult_bankKept {} _).trans (.of_answered ht)
  refine ⟨(ht.f_eq (by decide)).trans (f_rotResult_code rfl _), fun i hi => ?_, ?_, ?_, ?_, ?_, ?_, ?_⟩
  · have hlast := (hkept.banks (0x71000 + 0x400 * k + 4 * i) (by omega) (by omega)).trans (rd_congr (s := v) (by rfl) _)
    exact hlast.trans ((hwords i hi).trans (hnote.banks _ (by omega) (by omega)))
  · rw [congrArg TimePart.rotReady hkept.time]; exact getLsbD_putT_same _ hk true
  · unfold armedOf
    rw [congrArg TimePart.rotArmed hkept.time]; exact getLsbD_putT_same _ hk false
  · exact (congrArg TimePart.rot hkept.time).trans ((congrArg TimePart.rot (htime.trans hnote.time)).trans hidle)
  · exact (congrArg CommitPart.present hkept.commits).trans (congrArg CommitPart.present (hcommits.trans hnote.commits))
  · have hlast : loaderOf t k 0 = loaderOf v k 0 := by unfold loaderOf; rw [hkept.loader]
    rw [hlast, hloader, hloaderOf]
  · exact hkept.msgs.trans (hmsgs.trans hnote.msgs)

/-- An accepted arm of the operating table plans its swap. -/
theorem arm_planned {r : RotRun} (hk : k < 16) (hr : w.rot = some r) (htable : r.table = k) :
    f t ROT_RESULT_code = 0 ∧ (∀ o, 0x71000 ≤ o → o < 0x80000 → rd t o = rd w o) ∧ armedOf t k = true ∧
      t.rot = some { r with swapAt := some (boundaryFrom r.base (cycleOf w k 0) (tbNow w (bankTb w k 0) + admitT w)) } := by
  have hnote := armNote_bankKept hm k ({} : RotRes)
  have hrot : (armNote k {} w).rot = some r := (congrArg TimePart.rot hnote.time).trans hr
  have harm : armTable k (loaderOf w k 1) w = rotNote { armNote k {} w with
      rotArmed := putT (armNote k {} w).rotArmed k true
      rot := some { r with swapAt := some (boundaryFrom r.base (cycleOf w k 0) (tbNow w (bankTb w k 0) + admitT w)) } } := by
    have hon : rotOn w k = true := by unfold rotOn; rw [hr]; exact beq_iff_eq.2 htable
    unfold armTable
    simp only
    rw [hcheck, hon, hr, hrot]
    exact (if_pos rfl).trans (if_pos rfl)
  replace ht : Answered (rotResult (armCheck w k (loaderOf w k 1)) (armTable k (loaderOf w k 1) w)) t := ht
  rw [hcheck, harm] at ht
  generalize boundaryFrom r.base (cycleOf w k 0) (tbNow w (bankTb w k 0) + admitT w) = x at ht ⊢
  generalize armNote k {} w = n at ht hnote
  have hkept := (rotNote_bankKept _).trans ((rotResult_bankKept {} _).trans (.of_answered ht))
  refine ⟨(ht.f_eq (by decide)).trans (f_rotResult_code rfl _), fun o h1 h2 => ?_, ?_, congrArg TimePart.rot hkept.time⟩
  · exact (hkept.banks o h1 h2).trans ((rd_congr (s := n) (by rfl) o).trans (hnote.banks o h1 h2))
  · unfold armedOf
    rw [congrArg TimePart.rotArmed hkept.time]; exact getLsbD_putT_same _ hk true
end

section
variable {s w : State} {dt k : Nat} {c : Instr} (hc : Commands s dt c 1 k w) (hm : Mild s) (hk : k < 16)
  (hcheck : armCheck w k (loaderOf w k 1) = {})
include hc hm hk hcheck

theorem arm_idle (hidle : s.rot = none) : Completes c s fun t =>
    f t ROT_RESULT_code = 0 ∧ (∀ i < 128, rd t (0x71000 + 0x400 * k + 4 * i) = rd s (0x71200 + 0x400 * k + 4 * i)) ∧
    t.rotReady.getLsbD k = true ∧ armedOf t k = false ∧ t.rot = none ∧ t.present = s.present :=
  hc.completes _ fun t ht => by
    have h := arm_copies (hc.start.mild hm) hcheck ht hk (hc.start.rot.trans hidle)
    refine ⟨h.code, fun i hi => (h.words i hi).trans (hc.start.regs _ ?_), h.ready, h.unarmed, h.idle,
      h.present.trans (congrArg CommitPart.present hc.start.commits)⟩
    simp only [ROT_CMD_op]; omega
theorem arm_operating {r : RotRun} (hr : s.rot = some r) (htable : r.table = k) : Completes c s fun t =>
    f t ROT_RESULT_code = 0 ∧ (∀ i < 128, rd t (0x71000 + 0x400 * k + 4 * i) = rd s (0x71000 + 0x400 * k + 4 * i)) ∧
    armedOf t k = true ∧
    t.rot = some { r with swapAt := some (boundaryFrom r.base (cycleOf s k 0) (tbNow (elapse s dt) (bankTb s k 0) + admitT s)) } :=
  hc.completes _ fun t ht => by
    obtain ⟨hcode, hbanks, harmed, hrot⟩ := arm_planned (hc.start.mild hm) hcheck ht hk (hc.start.rot.trans hr) htable
    rw [hc.start.cycle, hc.start.now, hc.start.base, hc.start.lead] at hrot
    refine ⟨hcode, fun i hi => (hbanks _ (by omega) (by omega)).trans (hc.start.regs _ ?_), harmed, hrot⟩
    simp only [ROT_CMD_op]; omega
end

/-! ### A bank that a tenant writes -/

/-- Registers from the banks on alone differ, and the bits noted as set. -/
structure BanksWritten (s t : State) : Prop where
  frame : ∃ r h, t = { s with regs := r, hwSet := h }
  low : ∀ o < 0x71000, rd t o = rd s o
namespace BanksWritten
variable {s t : State}
protected theorem refl (s : State) : BanksWritten s s := ⟨⟨_, _, rfl⟩, fun _ _ => rfl⟩
theorem setF (h : BanksWritten s t) {x : Fld} (hx : 0x71000 ≤ x.off) (v : Nat) : BanksWritten s (setF x v t) where
  frame := by obtain ⟨r, y, e⟩ := h.frame; subst e; exact ⟨_, _, rfl⟩
  low o ho := (rd_setF_other t x v (Nat.ne_of_lt (Nat.lt_of_lt_of_le ho hx))).trans (h.low o ho)
theorem putRw (h : BanksWritten s t) {o : Nat} (ho : 0x71000 ≤ o) (v : Nat) : BanksWritten s (putRw o v t) := by
  unfold Machine.putRw
  split
  · exact forEach_keeps (BanksWritten s) _ _ (fun _ _ _ hv => hv.setF ho _) t h
  · exact h
end BanksWritten
/-- The words of an image written into the bank at `a`. -/
def imageWritten (a : Nat) (img : List Nat) (s : State) : State :=
  forEach (List.range 128) (fun i => putRw (a + 4 * i) (ofBytes ((img.drop (4 * i)).take 4))) s
theorem imageWritten_written {a : Nat} (ha : 0x71000 ≤ a) (img : List Nat) (s : State) : BanksWritten s (imageWritten a img s) :=
  forEach_keeps (BanksWritten s) _ _ (fun _ _ _ hv => hv.putRw (Nat.le_trans ha (Nat.le_add_right _ _)) _) s (.refl s)
theorem writeBank_eq (k : Nat) (who : Option Nat) (img : List Nat) (s : State) : writeBank k who img s =
    { imageWritten (0x71200 + 0x400 * k) img s with rotLoader := amSet (fun _ => none) s.rotLoader (2 * k + 1) who } := by
  unfold writeBank imageWritten; rfl
/-- A write of a pending bank writes the words of the banks and the bank's loader. -/
theorem writeBank_leaves (k : Nat) (who : Option Nat) (img : List Nat) (s : State) : let t := writeBank k who img s
    t.toTimePart = s.toTimePart ∧ t.urpIn = s.urpIn ∧ loaderOf t k 1 = who ∧ ∀ o < 0x71000, rd t o = rd s o := by
  have hwritten := imageWritten_written (a := 0x71200 + 0x400 * k) (by omega) img s
  rw [writeBank_eq]
  generalize imageWritten (0x71200 + 0x400 * k) img s = t at hwritten
  obtain ⟨⟨r, h, rfl⟩, hp⟩ := hwritten
  exact ⟨rfl, rfl, amGet_amSet_same _ _ _ _, hp⟩

theorem rotLoadWriteArm_arms {s : State} {dt k : Nat} {u : Urp} {l : List Urp} (hpor : s.porOn = false) (hk : k < 16)
    (hq : s.urpIn = u :: l) (htype : u.type = 6) (htable : byteAt u.body 0 = k) (hop : byteAt u.body 1 = 6)
    (h21 : domOn s 21 = true) (hctl : fb s (REQ_T_CFG_rot_ctl u.tenant) = true) (harmed : armedOf s k = false)
    (hmarked : markedOf s k = false) (hidle : s.rot = none) (hm : Mild s) {w : State}
    (hw : w = writeBank k (some u.tenant) (u.body.drop 4) (msgRot s dt l)) (hcheck : armCheck w k (some u.tenant) = {}) :
    Completes (.rotLoadWriteArm dt) s fun t =>
      f t ROT_RESULT_code = 0 ∧ t.urpIn = l ∧ t.rotReady.getLsbD k = true ∧ loaderOf t k 0 = some u.tenant ∧
      ∀ i < 128, rd t (0x71000 + 0x400 * k + 4 * i) = rd w (0x71200 + 0x400 * k + 4 * i) := by
  obtain ⟨htime, hmsgs, hloader, hlow⟩ := writeBank_leaves k (some u.tenant) (u.body.drop 4) (msgRot s dt l)
  rw [← hw] at htime hmsgs hloader hlow
  have hm' : Mild w := fun n hn => by
    have hoff : (FLT_SRC_CFG_severity n).off < 0x71000 := by
      simp only [List.mem_cons, List.not_mem_nil, or_false] at hn
      rcases hn with rfl | rfl | rfl <;> decide
    unfold sevOf
    rw [f_rd (hlow _ hoff)]
    exact hm n hn
  have hrun : rotLoadWrite u (msgRot s dt l) = rotAnswer u (armCheck w k (some u.tenant)) 0 false (rotRun k 1 w) := by
    have hctl' : fb (msgRot s dt l) (REQ_T_CFG_rot_ctl u.tenant) = true := hctl
    have hunarmed : armedOf (msgRot s dt l) k = false := harmed
    have hunmarked : markedOf (msgRot s dt l) k = false := hmarked
    unfold rotLoadWrite
    simp only
    rw [htable, hctl', hunarmed, hunmarked, ← hw]
    exact (if_neg (by decide)).trans (if_neg (by decide))
  refine completes_run rfl hpor ?_
  rw [takeUrp_takes hq (isRotLoad_of htype hop) h21, hrun]
  have hans : Answered (rotRun k 1 w) (settle s (rotAnswer u (armCheck w k (some u.tenant)) 0 false (rotRun k 1 w))) :=
    .settle s (.answer u _ (.refl _))
  have h := arm_copies hm' (by rw [hloader]; exact hcheck) hans hk ((congrArg TimePart.rot htime).trans hidle)
  exact ⟨h.code, h.msgs.trans hmsgs, h.ready, h.loader.trans hloader, h.words⟩

/-! ### Starting -/

/-- Settling the accepted list at a start refuses sheaves. -/
theorem settleAccepted_kept (b inst : Nat) (s : State) :
    RotKept s (settleAccepted b inst s) ∧ (settleAccepted b inst s).present = s.present := by
  unfold settleAccepted
  simp only
  refine forEach_keeps (fun t => RotKept s t ∧ t.present = s.present) _ _ (fun a _ t ⟨h, hp⟩ => ⟨?_, ?_⟩) _ ⟨.of_view rfl, rfl⟩
  · exact h.trans (refuseSheaf_rotKept (by decide) 0 _ _ t)
  · exact (congrArg CommitPart.present (refuseSheaf_lowKept (by decide) 0 _ _ t).commits).trans hp

/-- The start instant shown, and the accepted list settled at it. -/
def startNoted (k inst : Nat) (late : Bool) (w : State) : State :=
  settleAccepted (bankTb w k 0) inst (setB ROT_STAT_late_start late (putStart inst w))
/-- The rotation that a start admits. -/
def admittedRun (k inst : Nat) (w : State) : RotRun :=
  { table := k, st := .admitted, base := bankBaseT w k 0, slot := 0, next := inst, nextSlot := 0 }
theorem startTable_of {w : State} {k inst : Nat} {late : Bool} (hcode : startCode w k = 0) (hinst : startInst w k = some (inst, late)) :
    startTable k w = rotNote { startNoted k inst late w with rot := some (admittedRun k inst w) } := by
  unfold startTable startNoted admittedRun
  rw [hcode, hinst]
  simp only
theorem startNoted_leaves (k inst : Nat) (late : Bool) (w : State) : let t := startNoted k inst late w
    t.present = w.present ∧ f t ROT_START_NS_ns = tNs inst ∧ f t ROT_START_SL_sec_low = tSec inst % 2 ^ 32 := by
  have hflds : TimeFlds ROT_START_F_frac_ns ROT_START_NS_ns ROT_START_SL_sec_low ROT_START_SH_sec_high :=
    ⟨⟨rfl, rfl⟩, ⟨rfl, rfl⟩, ⟨rfl, rfl⟩, ⟨rfl, rfl⟩, by decide⟩
  have hshown := putTime_shows hflds inst w
  have hput : putStart inst w = putTime ROT_START_F_frac_ns ROT_START_NS_ns ROT_START_SL_sec_low ROT_START_SH_sec_high inst w := rfl
  have hpresent : (putStart inst w).present = w.present := by
    obtain ⟨r, m, d, h, e⟩ := putTime_onlyMsix ROT_START_F_frac_ns ROT_START_NS_ns ROT_START_SL_sec_low ROT_START_SH_sec_high inst w
    rw [hput, e]
  rw [← hput] at hshown
  unfold startNoted setB
  generalize putStart inst w = u at hshown hpresent ⊢
  obtain ⟨hkept, hpres⟩ := settleAccepted_kept (bankTb w k 0) inst (setF ROT_STAT_late_start late.toNat u)
  refine ⟨hpres.trans ((setF_present _ _ u).trans hpresent), ?_, ?_⟩
  · exact (hkept.f_eq (rotOwn_rot (by decide))).trans ((f_setF_off _ _ _ _ (by decide)).trans hshown.ns)
  · exact (hkept.f_eq (rotOwn_rot (by decide))).trans ((f_setF_off _ _ _ _ (by decide)).trans hshown.low)

theorem start_admits {s w : State} {dt k : Nat} {c : Instr} (hc : Commands s dt c 2 k w) (hk : k < 16)
    (hready : s.rotReady.getLsbD k = true) (hon : tbEnabled s (bankTb s k 0) = true) (hidle : s.rot = none) (hsafe : inSafe s = false)
    (hpark : devState s ≠ 2) (hahead : tbNow (elapse s dt) (bankTb s k 0) + admitT s ≤ bankBaseT s k 0) :
    Completes c s fun t =>
      f t ROT_RESULT_code = 0 ∧ f t ROT_STAT_state = 1 ∧ f t ROT_STAT_table = k ∧ t.present = s.present ∧
      f t ROT_START_NS_ns = tNs (bankBaseT s k 0) ∧ f t ROT_START_SL_sec_low = tSec (bankBaseT s k 0) % 2 ^ 32 ∧
      t.rot = some { table := k, st := .admitted, base := bankBaseT s k 0, slot := 0, next := bankBaseT s k 0, nextSlot := 0 } := by
  have hinst : startInst w k = some (bankBaseT s k 0, false) := by
    unfold startInst
    simp only
    rw [hc.start.base, hc.start.now, hc.start.lead, hc.start.baseT]
    exact if_pos hahead
  have hcode : startCode w k = 0 := by
    have hsafe' : inSafe w = false := by unfold inSafe fb; rw [hc.start.f_eq (by decide)]; exact hsafe
    have hpark' : devState w ≠ 2 := by unfold devState; rw [hc.start.f_eq (by decide)]; exact hpark
    unfold startCode
    rw [hc.start.ready, hready, hc.start.base, hc.start.enabled, hon, hc.start.rot, hidle, hsafe', hinst]
    simp [hpark']
  have hadmitted : admittedRun k (bankBaseT s k 0) w =
      { table := k, st := .admitted, base := bankBaseT s k 0, slot := 0, next := bankBaseT s k 0, nextSlot := 0 } := by
    unfold admittedRun; rw [hc.start.baseT]
  rw [← hadmitted]
  refine hc.completes _ fun t ht => ?_
  replace ht : Answered (rotResult { code := startCode w k } (startTable k w)) t := ht
  rw [startTable_of hcode hinst] at ht
  obtain ⟨hpres, hns, hlow⟩ := startNoted_leaves k (bankBaseT s k 0) false w
  have htable : (admittedRun k (bankBaseT s k 0) w).table = k := rfl
  have hstat : statOf (admittedRun k (bankBaseT s k 0) w) = 1 := rfl
  generalize admittedRun k (bankBaseT s k 0) w = r at ht htable hstat ⊢
  generalize startNoted k (bankBaseT s k 0) false w = v at ht hpres hns hlow
  have hput (x : Fld) : f { v with rot := some r } x = f v x := f_rd (rd_congr (by rfl) _)
  have hkept := (rotNote_bankKept { v with rot := some r }).trans ((rotResult_bankKept _ _).trans (.of_answered ht))
  refine ⟨(ht.f_eq (by decide)).trans (f_rotResult_code hcode _), ?_, ?_, ?_, ?_, ?_, congrArg TimePart.rot hkept.time⟩
  · rw [ht.f_eq (by decide), f_rotResult _ _ (by decide), f_rotNote_state rfl, hstat]
  · rw [ht.f_eq (by decide), f_rotResult _ _ (by decide), f_rotNote_table rfl (by rw [htable]; exact hk), htable]
  · exact (congrArg CommitPart.present hkept.commits).trans (hpres.trans (congrArg CommitPart.present hc.start.commits))
  · rw [ht.f_eq (by decide), f_rotResult _ _ (by decide), f_rotNote _ (by decide), hput]; exact hns
  · rw [ht.f_eq (by decide), f_rotResult _ _ (by decide), f_rotNote _ (by decide), hput]; exact hlow

end Sys2Proof.Machine

open Sys2Proof Sys2Proof.Machine Sys2Proof.Config

/-- Settles O25: SUP's command and a tenant's message run the same command on a state whose banks are those of the statement, and what
the arming check and the answer do touches neither the banks nor the rotation. -/
theorem rotationArmsAndStarts : Obligations.RotationArmsAndStarts := by
  unfold Obligations.RotationArmsAndStarts
  intro s dt k arms starts
  have harms {c : Instr} {w : State} (hk : k < 16) (hm : Mild s) (hc : Commands s dt c 1 k w) : arms c w := fun hcheck =>
    ⟨fun hidle => arm_idle hc hm hk hcheck hidle, fun r hr htable => arm_operating hc hm hk hcheck hr htable⟩
  have hstarts {c : Instr} {w : State} (hk : k < 16) (hc : Commands s dt c 2 k w) : starts c :=
    fun hready hon hidle hsafe hpark hahead => start_admits hc hk hready hon hidle hsafe hpark hahead
  refine ⟨fun h16 h17 h25 => ?_, fun h => hstarts h.2.1 (sup_commands rfl (by decide) h),
    fun u l h => hstarts h.2.1 (msg_commands rfl h)⟩
  have hm := mild_of h16 h17 h25
  exact ⟨fun h => harms h.2.1 hm (sup_commands rfl (by decide) h), fun u l h => harms h.2.1 hm (msg_commands rfl h)⟩

/-- Settles O26: a planned stop, an ended rotation and a cleared mark are what the command itself writes, and its answer leaves them; the
bank that a tenant writes is copied by the arm that follows. -/
theorem rotationStopsAndDiscards : Obligations.RotationStopsAndDiscards := by
  unfold Obligations.RotationStopsAndDiscards
  constructor
  · intro s dt k stops discards
    have hstops {c : Instr} {op : Nat} {w : State} {dark : Bool} (hc : Commands s dt c op k w)
        (hrun : rotRun k op w = rotResult { code := stopCode w k } (stopTable k dark w)) : stops c dark := fun r hr htable hstop =>
      ⟨fun hst => stop_plans hc hrun hr htable hstop hst, fun hst hdark => stop_endsSuspended hc hrun hr htable hstop hst hdark⟩
    refine ⟨fun h => ⟨?_, ?_, ?_⟩, fun u l => ⟨fun h => ?_, fun h => ?_, fun h => ?_⟩⟩
    · exact hstops (sup_commands (op := 3) rfl (by decide) h) rfl
    · exact hstops (sup_commands (op := 4) rfl (by decide) h) rfl
    · exact fun hidle => discard_unarms (sup_commands rfl (by decide) h) rfl h.2.1 hidle
    · exact hstops (msg_commands (op := 3) rfl h) rfl
    · exact hstops (msg_commands (op := 4) rfl h) rfl
    · exact fun hidle => discard_unarms (msg_commands rfl h) rfl h.2.1 hidle
  · intro s dt k u l hpor hk hq htype htable hop h21 hctl harmed hmarked hidle h16 h17 h25 w hcheck
    exact rotLoadWriteArm_arms hpor hk hq htype htable hop h21 hctl harmed hmarked hidle (mild_of h16 h17 h25) rfl hcheck
end

section
/-! The boundaries of a rotation (R178 to R185): the slot that is entered, its commit, and a suspension. -/
namespace Sys2Proof.Machine
open Sys2Proof.Config

/-! ### The state at a boundary -/

/-- A state at a boundary: in all that a slot's commit reads it is `s`. -/
structure AtSlot (s x : State) : Prop where
  regs : ∀ o, o ≠ ROT_CNT_CYCLES_count.off → rd x o = rd s o
  light : x.toLightPart = s.toLightPart
  commits : x.toCommitPart = s.toCommitPart
  mem : x.toMemPart = s.toMemPart

namespace AtSlot
variable {s x : State} (h : AtSlot s x)
include h

theorem f_eq {y : Fld} (hy : y.off ≠ ROT_CNT_CYCLES_count.off) : f x y = f s y := f_rd (h.regs _ hy)
theorem sev {n : Nat} (hn : n < 48) : sevOf x n = sevOf s n := by
  unfold sevOf
  rw [h.f_eq (y := FLT_SRC_CFG_severity n) (by simp only [FLT_SRC_CFG_severity, ROT_CNT_CYCLES_count]; omega)]
theorem word (k b off : Nat) : bankWord x k b off = bankWord s k b off := by
  unfold bankWord; rw [h.regs _ (by simp only [ROT_CNT_CYCLES_count]; omega)]
theorem map (k b i : Nat) : slotMap x k b i = slotMap s k b i := by unfold slotMap; rw [h.word]
theorem dur (k b i : Nat) : slotDur x k b i = slotDur s k b i := by unfold slotDur; rw [h.word]
theorem slots (k b : Nat) : bankSlots x k b = bankSlots s k b := by unfold bankSlots; rw [h.word]
theorem step (r : RotRun) : overStep x r = decide (bankMax s r.table 0 < f s GOV_STEP_step) := by
  unfold overStep bankMax; rw [h.word, h.f_eq (by decide)]
theorem dev : devState x = devState s := h.f_eq (by decide)
theorem validate (n : Nat) : validateMap x n = validateMap s n := by
  refine validateMap_congr ?_ (fun d => dieOff_congr (h.regs _ (by decide)) d) ?_ (congrArg MemPart.dram h.mem)
    (congrArg MemPart.bpmRing h.mem) (congrArg LightPart.ownIn h.light) (congrArg LightPart.ownOut h.light)
    (congrArg LightPart.popMode h.light) n
  · unfold domOn; rw [h.f_eq (by decide)]
  · unfold variantH fb; rw [h.f_eq (by decide)]
theorem target (v : MapCheck) : slotTarget x v = slotTarget s v := by
  unfold slotTarget; rw [congrArg CommitPart.present h.commits]
end AtSlot

theorem preCheckFail_congr {s t : State} (h : t.toLightPart = s.toLightPart) (m : MapSt) : preCheckFail t m = preCheckFail s m := by
  unfold preCheckFail ownsIn ownsOut inOwners outOwners
  rw [congrArg LightPart.ownIn h, congrArg LightPart.ownOut h]

/-! ### The commit of a slot -/

section
variable {x : State} {k i tick : Nat} {v : MapCheck} (hv : validateMap x (slotMap x k 0 i) = v)
include hv

theorem commitSlot_skips (hcode : v.code ≠ 0) :
    commitSlot k i tick x = inc ROT_CNT_SKIP_count (validateNote (slotMap x k 0 i) x) := by
  unfold commitSlot
  simp only
  rw [hv]
  exact if_pos hcode

variable {u : State} (hu : validateNote (slotMap x k 0 i) x = u) (hcode : v.code = 0) (hrot : u.rot.isNone = false)
include hu hcode hrot

theorem commitSlot_unchanged (hout : (affectedOuts u.present (slotTarget u v) []).isEmpty = true) :
    commitSlot k i tick x = { u with present := slotTarget u v, projected := slotTarget u v } := by
  unfold commitSlot
  simp only
  rw [hv, hu, if_neg (by rw [hcode]; decide), hrot]
  exact (if_neg (by decide)).trans (if_pos hout)
theorem commitSlot_refuses (hout : (affectedOuts u.present (slotTarget u v) []).isEmpty = false) {o : Nat}
    (hcheck : preCheckFail u (slotTarget u v) = some o) : commitSlot k i tick x = preCheckRefuse o u := by
  unfold commitSlot
  simp only
  rw [hv, hu, if_neg (by rw [hcode]; decide), hrot, hout, hcheck]
  exact (if_neg (by decide)).trans (if_neg (by decide))
/-- The plan of a slot's commit. -/
def slotPlan (i tick : Nat) (v : MapCheck) (u : State) : CommitPlan := mkPlan u [] (some i) false tick (slotTarget u v)
/-- The state in which it fires. -/
def slotReady (i tick : Nat) (v : MapCheck) (u : State) : State :=
  closeMarks (slotPlan i tick v u) (restartSolve { u with projected := slotTarget u v })
theorem commitSlot_commits (hout : (affectedOuts u.present (slotTarget u v) []).isEmpty = false)
    (hcheck : preCheckFail u (slotTarget u v) = none) :
    commitSlot k i tick x = fireCommit (slotPlan i tick v u) tick (slotReady i tick v u) := by
  unfold commitSlot slotReady slotPlan
  simp only
  rw [hv, hu, if_neg (by rw [hcode]; decide), hrot, hout, hcheck]
  exact (if_neg (by decide)).trans (if_neg (by decide))
end

/-- A commit that fires is in progress with its plan, and leaves the present map. -/
theorem fireCommit_commits {y : State} (p : CommitPlan) (tick : Nat) (hcap : y.captureWait = none) (h46 : sevOf y 46 < 4)
    (h47 : sevOf y 47 < 4) : (fireCommit p tick y).present = y.present ∧ ∃ c, (fireCommit p tick y).commit = some c ∧
      c.t0 = tick ∧ c.plan.rot = p.rot ∧ c.plan.members = p.members ∧ c.plan.after = p.after := by
  have hcharged := charged_commitsKept p hcap
  have hcharge : (charged p y).present = y.present := (congrArg CommitPart.present hcharged.commits).trans rfl
  have hsev {n : Nat} (hn : n < 48) : sevOf (charged p y) n = sevOf y n := hcharged.sev hn
  rw [fireCommit_eq]
  rw [← hsev (by decide)] at h46 h47
  generalize charged p y = z at hcharge h46 h47 ⊢
  have hfired := fired_leaves p tick h46 h47
  have hcommit : (fired p tick z).commit = some (firedCommit p tick z) := (congrArg CommitPart.commit hfired.commits).trans rfl
  have hdone : (fired p tick z).present = z.present := (congrArg CommitPart.present hfired.commits).trans rfl
  exact ⟨hdone.trans hcharge, firedCommit p tick z, hcommit, rfl, rfl, rfl, rfl⟩

/-- What entering a slot leaves: the time and the rotation, and the registers of ROT but the count of skipped maps. -/
structure SlotKept (s t : State) : Prop where
  time : t.toTimePart = s.toTimePart
  regs : ∀ o, 0x70000 ≤ o → o < 0x80000 → o ≠ ROT_CNT_SKIP_count.off → rd t o = rd s o
theorem SlotKept.of_rotKept {s t : State} (h : RotKept s t) : SlotKept s t := ⟨h.time, fun o h1 h2 _ => h.regs o (.inl ⟨h1, h2⟩)⟩

/-- The severities below SAFE and the capture that does not wait. -/
structure SlotMild (x : State) : Prop where
  mild : Mild x
  sev12 : sevOf x 12 < 4
  sev46 : sevOf x 46 < 4
  sev47 : sevOf x 47 < 4
  uncaptured : x.captureWait = none
theorem SlotMild.after {x u : State} (h : SlotMild x) (hr : RotKept x u) (hc : u.captureWait = none) : SlotMild u :=
  ⟨hr.mild h.mild, by rw [hr.sev (by decide)]; exact h.sev12, by rw [hr.sev (by decide)]; exact h.sev46,
    by rw [hr.sev (by decide)]; exact h.sev47, hc⟩

theorem slotReady_rotKept (i tick : Nat) (v : MapCheck) (u : State) : RotKept u (slotReady i tick v u) := by
  have hprojected : RotKept u (restartSolve { u with projected := slotTarget u v }) := .of_view rfl
  exact hprojected.trans (closeMarks_rotKept _ _)
theorem slotReady_commits (i tick : Nat) (v : MapCheck) (u : State) : CommitsKept (restartSolve { u with projected := slotTarget u v })
    (slotReady i tick v u) := closeMarks_commitsKept _ _

/-- An invalid map is counted. -/
theorem commitSlot_counts {x : State} {k i tick : Nat} {v : MapCheck} (hv : validateMap x (slotMap x k 0 i) = v) (hm : SlotMild x)
    (hcode : v.code ≠ 0) : let t := commitSlot k i tick x
    t.toCommitPart = x.toCommitPart ∧ f t ROT_CNT_SKIP_count = (f x ROT_CNT_SKIP_count + 1) % 2 ^ 32 := by
  have hnote := validateNote_answered hm.mild (.refl x) (slotMap x k 0 i)
  rw [commitSlot_skips hv hcode]
  refine ⟨hnote.commits, (f_setF_same _ _ _ (by decide)).trans ?_⟩
  rw [hnote.f_eq (by decide)]
  rfl

section
variable {x : State} {k i tick : Nat} {v : MapCheck} {r : RotRun} (hv : validateMap x (slotMap x k 0 i) = v) (hm : SlotMild x)
  (hr : x.rot = some r)
include hv hm hr

theorem commitSlot_kept : SlotKept x (commitSlot k i tick x) := by
  have hnote := validateNote_answered hm.mild (.refl x) (slotMap x k 0 i)
  by_cases hcode : v.code = 0
  · generalize hu : validateNote (slotMap x k 0 i) x = u at hnote
    have hrot : u.rot.isNone = false := by rw [congrArg TimePart.rot hnote.rot.time, hr]; rfl
    have hm' := hm.after hnote.rot ((congrArg CommitPart.captureWait hnote.commits).trans hm.uncaptured)
    refine .of_rotKept (hnote.rot.trans ?_)
    cases hout : (affectedOuts u.present (slotTarget u v) []).isEmpty with
    | true => rw [commitSlot_unchanged hv hu hcode hrot hout]; exact .of_view rfl
    | false =>
      cases hcheck : preCheckFail u (slotTarget u v) with
      | some o => rw [commitSlot_refuses hv hu hcode hrot hout hcheck]; exact preCheckRefuse_rotKept o hm'.sev12
      | none =>
        rw [commitSlot_commits hv hu hcode hrot hout hcheck]
        have hready := slotReady_rotKept i tick v u
        have hcap := (congrArg CommitPart.captureWait (slotReady_commits i tick v u).commits).trans hm'.uncaptured
        have hm'' := hm'.after hready hcap
        exact hready.trans (fireCommit_rotKept _ tick hcap hm''.sev46 hm''.sev47)
  · rw [commitSlot_skips hv hcode]
    exact ⟨hnote.rot.time, fun o h1 h2 ho => (rd_setF_other _ _ _ ho).trans (hnote.rot.regs o (.inl ⟨h1, h2⟩))⟩

/-- A map that changes an output and passes the pre-check is committed at the tick. -/
theorem commitSlot_fires (hcode : v.code = 0) (hout : affectedOuts x.present (slotTarget x v) [] ≠ [])
    (hcheck : preCheckFail x (slotTarget x v) = none) : let t := commitSlot k i tick x
    t.present = x.present ∧ ∃ c, t.commit = some c ∧ c.t0 = tick ∧ c.plan.rot = some i ∧ c.plan.members = [] ∧
      c.plan.after = slotTarget x v := by
  have hnote := validateNote_answered hm.mild (.refl x) (slotMap x k 0 i)
  generalize hu : validateNote (slotMap x k 0 i) x = u at hnote
  have hpresent : u.present = x.present := congrArg CommitPart.present hnote.commits
  have htarget : slotTarget u v = slotTarget x v := by unfold slotTarget; rw [hpresent]
  have hrot : u.rot.isNone = false := by rw [congrArg TimePart.rot hnote.rot.time, hr]; rfl
  have hm' := hm.after hnote.rot ((congrArg CommitPart.captureWait hnote.commits).trans hm.uncaptured)
  rw [← preCheckFail_congr hnote.rot.light, ← htarget] at hcheck
  rw [← htarget, ← hpresent] at hout
  rw [commitSlot_commits hv hu hcode hrot (by simpa using hout) hcheck, ← htarget]
  have hready := slotReady_rotKept i tick v u
  have hcommits := (slotReady_commits i tick v u).commits
  have hcap : (slotReady i tick v u).captureWait = none := (congrArg CommitPart.captureWait hcommits).trans hm'.uncaptured
  have hm'' := hm'.after hready hcap
  obtain ⟨hfired, c, hc, ht0, hslot, hmembers, hafter⟩ := fireCommit_commits (slotPlan i tick v u) tick hcap hm''.sev46 hm''.sev47
  refine ⟨?_, c, hc, ht0, hslot, hmembers, hafter⟩
  exact hfired.trans ((congrArg CommitPart.present hcommits).trans hpresent)
end

end Sys2Proof.Machine
end

section
/-! What a boundary of a rotation leaves (R178 to R185): the slot entered, the rotation suspended. -/
namespace Sys2Proof.Machine
open Sys2Proof.Config

theorem rotNote_lowKept (s : State) : LowKept s (rotNote s) := by
  unfold rotNote setB
  split
  · exact lowKept_setF' _ _ (lowKept_setF _ _ s (by decide)) (by decide)
  · refine lowKept_setF' _ _ (lowKept_setF' _ _ ?_ (by decide)) (by decide)
    split
    · exact lowKept_setF _ _ s (by decide)
    · exact lowKept_setF' _ _ (lowKept_setF _ _ s (by decide)) (by decide)

/-- The state with the rotation that operates. -/
def rotating (r : RotRun) (w : State) : State := { w with rot := some r }
theorem rotating_regs (r : RotRun) (w : State) : (rotating r w).regs = w.regs := rfl
theorem AtSlot.rotating {s w : State} (h : AtSlot s w) (r : RotRun) : AtSlot s (rotating r w) :=
  ⟨fun o ho => (rd_congr (rotating_regs r w) o).trans (h.regs o ho), h.light, h.commits, h.mem⟩

/-! ### Entering a slot -/

/-- The rotation in slot `i` from boundary `b`. -/
def enteredRun (r : RotRun) (i b : Nat) (s : State) : RotRun :=
  { r with st := .running, slot := i, next := b + slotDur s r.table 0 i, nextSlot := (if i + 1 < bankSlots s r.table 0 then i + 1 else 0),
           fellAt := none, cut := false }
theorem enterSlot_eq (r : RotRun) (i b tick : Nat) (w : State) :
    enterSlot r i b tick w = rotNote (commitSlot r.table i tick (rotating (enteredRun r i b w) w)) := rfl
theorem enteredRun_atSlot {s w : State} (h : AtSlot s w) (r : RotRun) (i b : Nat) : enteredRun r i b w = enteredRun r i b s := by
  unfold enteredRun; rw [h.dur, h.slots]

section
variable {s w : State} (h : AtSlot s w) (hm : SlotMild w) (r : RotRun) (i b tick : Nat)
include h hm

theorem enterSlot_leaves (hi : i < 64) : let t := enterSlot r i b tick w
    t.clk = w.clk ∧ t.rot = some (enteredRun r i b s) ∧ f t ROT_STAT_slot = i ∧ f t ROT_CNT_CYCLES_count = f w ROT_CNT_CYCLES_count := by
  have hkept := commitSlot_kept (k := r.table) (i := i) (tick := tick) (x := rotating (enteredRun r i b s) w) rfl
    ⟨hm.mild, hm.sev12, hm.sev46, hm.sev47, hm.uncaptured⟩ rfl
  rw [enterSlot_eq, enteredRun_atSlot h]
  have hslot : (enteredRun r i b s).slot = i ∧ (enteredRun r i b s).st ≠ .admitted := ⟨rfl, by unfold enteredRun; simp⟩
  generalize enteredRun r i b s = q at hkept hslot ⊢
  have hcount : f (rotating q w) ROT_CNT_CYCLES_count = f w ROT_CNT_CYCLES_count := f_rd (rd_congr (rotating_regs q w) _)
  have htime : (rotating q w).clk = w.clk ∧ (rotating q w).rot = some q := ⟨rfl, rfl⟩
  generalize commitSlot r.table i tick (rotating q w) = y at hkept ⊢
  generalize rotating q w = x at hkept hcount htime
  obtain ⟨hclk, hrot⟩ := htime
  obtain ⟨hq, hst⟩ := hslot
  have hnote := rotNote_bankKept y
  have hy : y.rot = some q := (congrArg TimePart.rot hkept.time).trans hrot
  refine ⟨?_, ?_, ?_, ?_⟩
  · exact (congrArg TimePart.clk hnote.time).trans ((congrArg TimePart.clk hkept.time).trans hclk)
  · exact (congrArg TimePart.rot hnote.time).trans hy
  · rw [f_rotNote_slot hy hst (by rw [hq]; exact hi), hq]
  · rw [f_rotNote _ (by decide), f_rd (hkept.regs _ (by decide) (by decide) (by decide)), hcount]

/-- An invalid map makes no commit and is counted. -/
theorem enterSlot_skips (hcode : (validateMap s (slotMap s r.table 0 i)).code ≠ 0) : let t := enterSlot r i b tick w
    t.commit = s.commit ∧ t.present = s.present ∧ f t ROT_CNT_SKIP_count = (f s ROT_CNT_SKIP_count + 1) % 2 ^ 32 := by
  rw [enterSlot_eq]
  have hx := h.rotating (enteredRun r i b w)
  have hm' : SlotMild (rotating (enteredRun r i b w) w) := ⟨hm.mild, hm.sev12, hm.sev46, hm.sev47, hm.uncaptured⟩
  generalize rotating (enteredRun r i b w) w = x at hx hm' ⊢
  have hv : validateMap x (slotMap x r.table 0 i) = validateMap s (slotMap s r.table 0 i) := by rw [hx.map, hx.validate]
  obtain ⟨hcommits, hskip⟩ := commitSlot_counts (tick := tick) hv hm' hcode
  have hnote := (rotNote_bankKept (commitSlot r.table i tick x)).commits.trans (hcommits.trans hx.commits)
  refine ⟨congrArg CommitPart.commit hnote, congrArg CommitPart.present hnote, ?_⟩
  rw [f_rotNote _ (by decide), hskip, hx.f_eq (by decide)]
/-- A map that changes an output and passes the pre-check makes a commit. -/
theorem enterSlot_commits (hcode : (validateMap s (slotMap s r.table 0 i)).code = 0)
    (hout : affectedOuts s.present (slotTarget s (validateMap s (slotMap s r.table 0 i))) [] ≠ [])
    (hcheck : preCheckFail s (slotTarget s (validateMap s (slotMap s r.table 0 i))) = none) : let t := enterSlot r i b tick w
    t.present = s.present ∧ ∃ c, t.commit = some c ∧ c.t0 = tick ∧ c.plan.rot = some i ∧ c.plan.members = [] ∧
      c.plan.after = slotTarget s (validateMap s (slotMap s r.table 0 i)) := by
  rw [enterSlot_eq]
  have hx := h.rotating (enteredRun r i b w)
  have hm' : SlotMild (rotating (enteredRun r i b w) w) := ⟨hm.mild, hm.sev12, hm.sev46, hm.sev47, hm.uncaptured⟩
  have hrot : (rotating (enteredRun r i b w) w).rot = some (enteredRun r i b w) := rfl
  generalize rotating (enteredRun r i b w) w = x at hx hm' hrot ⊢
  have hv : validateMap x (slotMap x r.table 0 i) = validateMap s (slotMap s r.table 0 i) := by rw [hx.map, hx.validate]
  have hpresent := congrArg CommitPart.present hx.commits
  rw [← hpresent, ← hx.target] at hout
  rw [← preCheckFail_congr hx.light, ← hx.target] at hcheck
  obtain ⟨hsame, c, hc, ht0, hslot, hmembers, hafter⟩ := commitSlot_fires (tick := tick) hv hm' hrot hcode hout hcheck
  have hnote := (rotNote_bankKept (commitSlot r.table i tick x)).commits
  exact ⟨(congrArg CommitPart.present hnote).trans (hsame.trans hpresent), c, (congrArg CommitPart.commit hnote).trans hc, ht0, hslot,
    hmembers, hafter.trans (hx.target _)⟩
end

/-! ### Suspension -/

/-- The rotation suspended. -/
def suspendedRun (r : RotRun) : RotRun := { r with st := .suspended, fellAt := none }
/-- Its state shown and its loader told. -/
def suspendNoted (r : RotRun) (w : State) : State := rotEvent r.table 0 (rotNote (rotating (suspendedRun r) w))
theorem suspend_eq (r : RotRun) (w : State) :
    suspend r w = if overStep w r then raise 14 0 (inc ROT_CNT_SUSPEND_count (suspendNoted r w)) else suspendNoted r w := rfl

section
variable {s w : State} (h : AtSlot s w) (r : RotRun)
include h

theorem suspendNoted_leaves (hstop : r.stopAt = none) : let t := suspendNoted r w
    t.rot = some (suspendedRun r) ∧ t.toCommitPart = s.toCommitPart ∧ t.toFaultPart = w.toFaultPart ∧ f t ROT_STAT_state = 3 ∧
      f t ROT_CNT_SUSPEND_count = f s ROT_CNT_SUSPEND_count ∧ sevOf t 14 = sevOf s 14 := by
  have hx := h.rotating (suspendedRun r)
  have hstat : statOf (suspendedRun r) = 3 := by unfold statOf suspendedRun; rw [hstop]
  have hstart : (rotating (suspendedRun r) w).rot = some (suspendedRun r) ∧ (rotating (suspendedRun r) w).toFaultPart = w.toFaultPart :=
    ⟨rfl, rfl⟩
  unfold suspendNoted
  generalize rotating (suspendedRun r) w = x at hx hstart ⊢
  obtain ⟨hrot, hflt⟩ := hstart
  have hevent := rotEvent_rotKept r.table 0 (rotNote x)
  have hlow := lowKept_trans (rotNote_lowKept x) (rotEvent_lowKept r.table 0 (rotNote x))
  refine ⟨hlow.rot.trans hrot, hlow.commits.trans hx.commits, hlow.flt.trans hflt, ?_, ?_, ?_⟩
  · rw [hevent.f_eq (rotOwn_rot (by decide)), f_rotNote_state hrot, hstat]
  · rw [hevent.f_eq (rotOwn_rot (by decide)), f_rotNote _ (by decide), hx.f_eq (by decide)]
  · rw [(CommitsKept.of_lowKept hlow).sev (by decide), hx.sev (by decide)]

/-- A suspension by the throttle counts and raises source 14. -/
theorem suspend_throttled (hstop : r.stopAt = none) (hover : overStep w r = true) (hsev : sevOf s 14 < 4) : let t := suspend r w
    t.rot = some (suspendedRun r) ∧ t.toCommitPart = s.toCommitPart ∧ f t ROT_STAT_state = 3 ∧
      f t ROT_CNT_SUSPEND_count = (f s ROT_CNT_SUSPEND_count + 1) % 2 ^ 32 := by
  rw [suspend_eq, if_pos hover]
  obtain ⟨hrot, hcommits, -, hstat, hcount, hsame⟩ := suspendNoted_leaves h r hstop
  generalize suspendNoted r w = y at hrot hcommits hstat hcount hsame ⊢
  have hstat' : f (inc ROT_CNT_SUSPEND_count y) ROT_STAT_state = 3 := (f_setF_off _ _ _ _ (by decide)).trans hstat
  have hcount' : f (inc ROT_CNT_SUSPEND_count y) ROT_CNT_SUSPEND_count = (f s ROT_CNT_SUSPEND_count + 1) % 2 ^ 32 := by
    rw [← hcount]; exact f_setF_same _ _ _ (by decide)
  have hsev' : sevOf (inc ROT_CNT_SUSPEND_count y) 14 < 4 := by
    unfold sevOf at hsame hsev ⊢
    rw [inc, f_setF_off _ _ _ _ (by decide), hsame]
    exact hsev
  have hstart : (inc ROT_CNT_SUSPEND_count y).rot = some (suspendedRun r) ∧
      (inc ROT_CNT_SUSPEND_count y).toCommitPart = s.toCommitPart := ⟨hrot, hcommits⟩
  generalize inc ROT_CNT_SUSPEND_count y = z at hstat' hcount' hsev' hstart ⊢
  obtain ⟨hrot', hcommits'⟩ := hstart
  have hraise := RotKept.raise (n := 14) 0 (.refl z) (by decide) rfl hsev'
  have hsw := CommitsKept.raise (n := 14) 0 (.refl z) (by decide) rfl hsev'
  exact ⟨(congrArg TimePart.rot hraise.time).trans hrot', hsw.commits.trans hcommits',
    (hraise.f_eq (rotOwn_rot (by decide))).trans hstat', (hraise.f_eq (rotOwn_rot (by decide))).trans hcount'⟩
end

/-! ### Boundaries -/

/-- The tick of the boundary of the operating rotation. -/
def boundaryTick (r : RotRun) (s : State) : Nat := rotTick s (bankTb s r.table 0) r.next
/-- The state at that tick. -/
def atBoundaryTick (r : RotRun) (s : State) : State := elapseTo s (boundaryTick r s * tickPeriod)
/-- A whole cycle that ends is counted. -/
def cycleCounted (r : RotRun) (s : State) : State := if r.st = .running ∧ r.cut = false then inc ROT_CNT_CYCLES_count s else s

section
variable {s : State} {r : RotRun}

theorem atBoundary_runs {first : Bool} (hr : s.rot = some r) (hk : s.commit = none) (hclosed : s.closed = none)
    (h20 : domOn s 20 = true) (hfirst : (r.st == .admitted) = first) : atBoundary first s = rotBoundary r s := by
  unfold atBoundary
  rw [hr]
  simp only
  rw [hk, hclosed, h20, hfirst]
  exact if_neg (by cases first <;> decide)
theorem rotBoundary_slot (hst : r.st ≠ .suspended) (hn : r.nextSlot ≠ 0) :
    rotBoundary r s = enterSlot r r.nextSlot r.next (boundaryTick r s) (atBoundaryTick r s) := by
  unfold rotBoundary; exact (if_neg hst).trans (if_neg hn)
theorem rotBoundary_zero (hst : r.st ≠ .suspended) (hn : r.nextSlot = 0) :
    rotBoundary r s = boundaryZero r (boundaryTick r s) (atBoundaryTick r s) := by
  unfold rotBoundary; exact (if_neg hst).trans (if_pos hn)
theorem boundaryZero_suspends (hstop : r.stopAt = none) {tick : Nat}
    (hover : (overStep (cycleCounted r s) r || devState (cycleCounted r s) == 2) = true) :
    boundaryZero r tick s = suspend r (cycleCounted r s) := by
  unfold boundaryZero stopDue; rw [hstop]; exact if_pos hover
theorem boundaryZero_enters (hstop : r.stopAt = none) {tick : Nat} (hover : overStep (cycleCounted r s) r = false)
    (hpark : devState (cycleCounted r s) ≠ 2) (hunarmed : armedOf (cycleCounted r s) r.table = false) :
    boundaryZero r tick s = enterSlot r 0 r.next tick (cycleCounted r s) := by
  have hrun : ¬ (overStep (cycleCounted r s) r || devState (cycleCounted r s) == 2) = true := by
    rw [hover, Bool.false_or]; exact fun e => hpark (eq_of_beq e)
  have hswap : ¬ swapDue (cycleCounted r s) r = true := by
    unfold swapDue; rw [hunarmed, Bool.false_and]; exact Bool.false_ne_true
  unfold boundaryZero stopDue
  rw [hstop]
  exact (if_neg hrun).trans (if_neg hswap)

theorem atSlot_atTick (s : State) (dt : Nat) (r : RotRun) : AtSlot s (atBoundaryTick r (elapse s dt)) := ⟨fun _ _ => rfl, rfl, rfl, rfl⟩
theorem AtSlot.counted {x : State} (h : AtSlot s x) (r : RotRun) : AtSlot s (cycleCounted r x) := by
  unfold cycleCounted
  split
  · exact ⟨fun o ho => (rd_setF_other _ _ _ ho).trans (h.regs o ho), h.light, h.commits, h.mem⟩
  · exact h
theorem cycleCounted_same (r : RotRun) (x : State) : (cycleCounted r x).toTimePart = x.toTimePart ∧
    (cycleCounted r x).toFaultPart = x.toFaultPart := by
  unfold cycleCounted
  split
  · exact ⟨rfl, rfl⟩
  · exact ⟨rfl, rfl⟩
theorem f_cycleCounted (hrun : r.st = .running) (x : State) : f (cycleCounted r x) ROT_CNT_CYCLES_count =
    (f x ROT_CNT_CYCLES_count + if r.cut then 0 else 1) % 2 ^ 32 := by
  unfold cycleCounted
  rw [hrun]
  cases hcut : r.cut with
  | true => exact (Nat.mod_eq_of_lt (f_lt x ROT_CNT_CYCLES_count)).symm
  | false => exact f_setF_same _ _ _ (by decide)
end

/-! ### The commands of the boundaries -/

theorem atBoundaryTick_now (s : State) (dt : Nat) (r : RotRun) :
    (atBoundaryTick r (elapse s dt)).clk.now = max (s.clk.now + dt) (boundaryTick r (elapse s dt) * 200) := by
  unfold atBoundaryTick
  rw [elapseTo_now, elapse_now, tickPeriod]

/-- The rotation's boundary in `s`: its severities lie below SAFE, and no commit stands in its way. -/
structure Boundary (s : State) (r : RotRun) : Prop where
  on : domOn s 20 = true
  rot : s.rot = some r
  idle : s.commit = none
  open_ : s.closed = none
  uncaptured : s.captureWait = none
  sevs : ∀ n ∈ [12, 14, 16, 17, 25, 46, 47], sevOf s n < 4
  slot : r.nextSlot < 64
  moves : r.st ≠ .suspended

theorem AtSlot.mild {s w : State} {r : RotRun} (h : AtSlot s w) (hb : Boundary s r) : SlotMild w := by
  have hsev {n : Nat} (hn : n ∈ [12, 14, 16, 17, 25, 46, 47]) (hlt : n < 48) : sevOf w n < 4 := by rw [h.sev hlt]; exact hb.sevs n hn
  exact ⟨mild_of (hsev (by decide) (by decide)) (hsev (by decide) (by decide)) (hsev (by decide) (by decide)),
    hsev (by decide) (by decide), hsev (by decide) (by decide), hsev (by decide) (by decide),
    (congrArg CommitPart.captureWait h.commits).trans hb.uncaptured⟩

section
variable {s : State} {r : RotRun} {c : Instr} {dt : Nat} (hb : Boundary s r)

/-- A command of the rotation's boundary carries it out. -/
theorem boundary_completes (hpor : s.porOn = false)
    (hc : (r.st = .admitted ∧ r.nextSlot = 0 ∧ c = .rotFirstCommit dt) ∨ (r.st = .running ∧ c = .rotSlotBoundary dt))
    (hb : Boundary s r) {P : State → Prop} (h : P (settle s (rotBoundary r (elapse s dt)))) : Completes c s P := by
  have hruns {first : Bool} (hfirst : (r.st == .admitted) = first) : atBoundary first (elapse s dt) = rotBoundary r (elapse s dt) :=
    atBoundary_runs (s := elapse s dt) hb.rot hb.idle hb.open_ hb.on hfirst
  rcases hc with ⟨hst, -, rfl⟩ | ⟨hst, rfl⟩
  · exact completes_run rfl hpor (by rw [hruns (by rw [hst]; rfl)]; exact h)
  · exact completes_run rfl hpor (by rw [hruns (by rw [hst]; rfl)]; exact h)

include hb
/-- With nothing in its way the boundary enters its slot. -/
theorem rotBoundary_enters (hgo : r.nextSlot ≠ 0 ∨ (r.stopAt = none ∧ armedOf s r.table = false ∧
      decide (bankMax s r.table 0 < f s GOV_STEP_step) = false ∧ devState s ≠ 2)) :
    ∃ w, AtSlot s w ∧ w.clk.now = max (s.clk.now + dt) (boundaryTick r (elapse s dt) * 200) ∧
      rotBoundary r (elapse s dt) = enterSlot r r.nextSlot r.next (boundaryTick r (elapse s dt)) w ∧
      (r.nextSlot = 0 → f w ROT_CNT_CYCLES_count = f (cycleCounted r (atBoundaryTick r (elapse s dt))) ROT_CNT_CYCLES_count) := by
  have hnow := atBoundaryTick_now s dt r
  have hat := atSlot_atTick s dt r
  by_cases hn : r.nextSlot = 0
  · obtain ⟨hstop, harmed, hstep, hpark⟩ := hgo.resolve_left fun e => e hn
    have hw := hat.counted r
    have hsame := (cycleCounted_same r (atBoundaryTick r (elapse s dt))).1
    have hclk := congrArg TimePart.clk hsame
    have hunarmed : armedOf (cycleCounted r (atBoundaryTick r (elapse s dt))) r.table = false := by
      unfold armedOf; rw [congrArg TimePart.rotArmed hsame]; exact harmed
    refine ⟨_, hw, (congrArg Clock.now hclk).trans hnow, ?_, fun _ => rfl⟩
    rw [rotBoundary_zero hb.moves hn, boundaryZero_enters hstop ((hw.step r).trans hstep) (by rw [hw.dev]; exact hpark) hunarmed, hn]
  · exact ⟨_, hat, hnow, rotBoundary_slot hb.moves hn, fun e => absurd e hn⟩
/-- With the step above the bank's, or PARK in force, a slot-0 boundary suspends. -/
theorem rotBoundary_suspends (hn : r.nextSlot = 0) (hstop : r.stopAt = none)
    (hover : decide (bankMax s r.table 0 < f s GOV_STEP_step) = true ∨ devState s = 2) :
    ∃ w, AtSlot s w ∧ w.toFaultPart = s.toFaultPart ∧ overStep w r = decide (bankMax s r.table 0 < f s GOV_STEP_step) ∧
      rotBoundary r (elapse s dt) = suspend r w := by
  have hw := (atSlot_atTick s dt r).counted r
  have hflt := (cycleCounted_same r (atBoundaryTick r (elapse s dt))).2
  refine ⟨_, hw, hflt.trans rfl, hw.step r, ?_⟩
  rw [rotBoundary_zero hb.moves hn, boundaryZero_suspends hstop]
  rw [hw.step, hw.dev]
  rcases hover with h | h
  · rw [h]; rfl
  · rw [h]; exact Bool.or_true _
end

end Sys2Proof.Machine

open Sys2Proof Sys2Proof.Machine Sys2Proof.Config

/-- Settles O27: letting time pass to the boundary's tick, counting the cycle and reading the map leave all that the slot's commit is
planned from, so the plan, the skip and the suspension are those of the statement. -/
theorem rotationCommitsItsSlots : Obligations.RotationCommitsItsSlots := by
  unfold Obligations.RotationCommitsItsSlots
  intro s dt r c hpor h20 hr hk hclosed hcap hsev _ hslot hc b tick sl v bigger
  have hmoves : r.st ≠ .suspended := by
    rcases hc with ⟨hst, -⟩ | ⟨hst, -⟩ <;> rw [hst] <;> decide
  have hb : Boundary s r := ⟨h20, hr, hk, hclosed, hcap, hsev, hslot, hmoves⟩
  refine ⟨fun hgo => ?_, fun hn hstop hbig => ?_, fun hn hstop hsmall hpark => ?_, fun hn hsmall hpark hstop hrun harmed => ?_⟩
  · obtain ⟨w, hw, hnow, henters, -⟩ := rotBoundary_enters (dt := dt) hb hgo
    have hm := hw.mild hb
    obtain ⟨hclk, hrot, hstat, -⟩ := enterSlot_leaves hw hm r r.nextSlot r.next (boundaryTick r (elapse s dt)) hslot
    refine boundary_completes hpor hc hb ?_
    rw [henters]
    refine ⟨?_, ?_, ?_, fun hcode => ?_, fun hcode hout hcheck => ?_⟩
    · rw [settle_clk, hclk]; exact hnow
    · rw [settle_rot]; exact hrot
    · rw [f_settle _ _ (by decide)]; exact hstat
    · obtain ⟨hcommit, hpresent, hskip⟩ := enterSlot_skips hw hm r r.nextSlot r.next (boundaryTick r (elapse s dt)) hcode
      rw [settle_commit, settle_present, f_settle _ _ (by decide)]
      exact ⟨hcommit.trans hk, hpresent, hskip⟩
    · rw [settle_commit, settle_present]
      exact enterSlot_commits hw hm r r.nextSlot r.next (boundaryTick r (elapse s dt)) hcode hout hcheck
  · obtain ⟨w, hw, -, hover, hsusp⟩ := rotBoundary_suspends (dt := dt) hb hn hstop (.inl hbig)
    obtain ⟨hrot, hcommits, hstat, hcount⟩ := suspend_throttled hw r hstop (hover.trans hbig) (hsev 14 (by decide))
    refine boundary_completes hpor hc hb ?_
    rw [hsusp, settle_rot, settle_commit, settle_present, f_settle _ _ (by decide), f_settle _ _ (by decide)]
    exact ⟨hrot, (congrArg CommitPart.commit hcommits).trans hk, congrArg CommitPart.present hcommits, hstat, hcount⟩
  · obtain ⟨w, hw, hflt, hover, hsusp⟩ := rotBoundary_suspends (dt := dt) hb hn hstop (.inr hpark)
    obtain ⟨hrot, hcommits, hkept, hstat, hcount, -⟩ := suspendNoted_leaves hw r hstop
    refine boundary_completes hpor hc hb ?_
    rw [hsusp, suspend_eq, if_neg (by rw [hover]; exact Bool.eq_false_iff.1 hsmall), settle_rot, settle_commit, settle_present,
      f_settle _ _ (by decide), f_settle _ _ (by decide), settle_toFaultPart]
    exact ⟨hrot, (congrArg CommitPart.commit hcommits).trans hk, congrArg CommitPart.present hcommits, hstat, hcount, hkept.trans hflt⟩
  · obtain ⟨w, hw, -, henters, hcycles⟩ := rotBoundary_enters (dt := dt) hb (.inr ⟨hstop, harmed, hsmall, hpark⟩)
    obtain ⟨-, -, -, hcount⟩ := enterSlot_leaves hw (hw.mild hb) r r.nextSlot r.next (boundaryTick r (elapse s dt)) hslot
    refine boundary_completes hpor hc hb ?_
    rw [henters, f_settle _ _ (by decide), hcount, hcycles hn, f_cycleCounted hrun]
    rfl
end
